-- ==== Sys2Proof/Word.lean ====
section
/-!
DEFINITION. The plain types of the block: 32-bit register words, bytes, master identities, and the
fixed sets of names that commands and state share (module states of R19, host paths of R361, reply
statuses of R367, fault classes of R444).
-/
namespace Sys2Proof

/-- A register word (R6). -/
abbrev Word := BitVec 32

/-- A byte of a packet, frame or memory. -/
abbrev Byte := BitVec 8

/-- A master identity, 0-15 (R372). -/
abbrev Master := BitVec 4

/-- Module states of R19. -/
inductive Mode where
  | off | init | standbyCold | armed | precharge | run | stopping | tripped | service | factoryTest
deriving DecidableEq, Repr

/-- RUN sub-modes of R19. -/
inductive Sub where
  | gf | island | blackstart | frt
deriving DecidableEq, Repr

/-- Variants of R2. -/
inductive Variant where
  | f | l | n
deriving DecidableEq, Repr

/-- Host paths of R361, in index order. -/
inductive Path where
  | pcie | portA | portB | service
deriving DecidableEq, Repr

/-- Reply statuses of R367. -/
inductive Status where
  | ok | busy | badOpcode | badParam | unitAbsent | accessDenied | state | check | memUe
  | timeout | aborted | sheafConflict | sheafLimit | notAwnHolder | factoryOnly
deriving DecidableEq, Repr

/-- Fault levels of R445. -/
inductive Level where
  | l0 | l1 | l2 | l3
deriving DecidableEq, Repr

/-- Power input legs (R463). -/
inductive Leg where
  | a | b
deriving DecidableEq, Repr

end Sys2Proof
end

