-- ==== Sys2Proof/Config.lean ====
section
/-!
DEFINITION. What one built module fixes and the manual does not give, and the free values. Every
constant here is opaque: no proof can see its value (notes/assumptions/2.md lists them).
-/
namespace Sys2Proof

/-- Factory data of R376 (SYS_IDENT) and R390 (MAC addresses); free values. -/
opaque Config.serial : BitVec 64
opaque Config.fwVersion : Word
opaque Config.hwIssue : Byte
opaque Config.mac : Nat → BitVec 48

/-- Factory calibration of a link's optical port, 1/16 tick (A_port of R195). -/
opaque Config.aPort : Nat → Int

/-- Factory calibration of a station port's PTP stamps, 2^-16 ns (R296). -/
opaque Config.ptpCal : Nat → Int

/-- The band table of the factory record in flash (R310): the word of CLK_BANDk. -/
opaque Config.bandRecord : Nat → Word

/-- Reference signatures of BIST in ROM, BST_REFu (R462). -/
opaque Config.bistRef : Nat → Word

/-- The SRAM range the firmware opens to hosts during INIT (R421): the word of MEM_HOSTWIN. -/
opaque Config.hostWin : Word

/-- Binding words of the firmware's own mailbox channels 0-23 (R383). -/
opaque Config.fwBinding : Nat → Word

/-- What entry k of the sine table of R74 differs by from the value the model computes, in 2^-62: R74 bounds the error of
the sine and does not give the entries. -/
opaque Config.sinEntry : Nat → Int

/-- Binary angle of the vector with the given mantissas and exponents; the manual names the angle
(R37, R51) and gives no arithmetic for it. -/
opaque Config.angleOf : Int → Nat → Int → Nat → Word

/-- Check bits and data that a DRAM word holds before its first write (R423): data bits and the mask
of bits that disagree with the stored check bits. -/
opaque Config.dramInit : Nat → BitVec 64 × BitVec 72

/-- Syndrome byte logged for a mask of bad bits (R429): the SECDED code itself is not given. -/
opaque Config.syndrome : BitVec 72 → Byte

/-- Syndrome byte of a poisoned word (R425). -/
opaque Config.poisonSyndrome : Byte

/-- Whether an image's ECDSA signature verifies with the keys in the fuses (R469, R471). -/
opaque Config.signatureOk : List Byte → Bool

/-- What a trained PCIe link reports (R362, R390): generation less 1 and width code, each modulo 3. -/
opaque Config.pcieTrained : Nat × Nat

/-- Fresh values, one per index: nonces of R202, readouts the manual leaves open. -/
opaque Config.freeWord : Nat → Word
opaque Config.freeNonce : Nat → BitVec 128
opaque Config.freeInt : Nat → Int

end Sys2Proof
end

