-- ==== Sys2Proof/Machine/Bits.lean ====
section
/-!
DEFINITION. Bit-field, sign and byte-order helpers (R10, R180, R293).
-/
namespace Sys2Proof.Machine

/-- Field [lo + n - 1 : lo] of a word, as a number. -/
def field (w : Word) (lo n : Nat) : Nat := (w.toNat >>> lo) % 2 ^ n

/-- Bit `i` of a word. -/
def bit (w : Word) (i : Nat) : Bool := w.getLsbD i

/-- `w` with field [lo + n - 1 : lo] replaced by the low bits of `v`. -/
def setField (w : Word) (lo n v : Nat) : Word :=
  let mask : Word := BitVec.ofNat 32 ((2 ^ n - 1) <<< lo)
  (w &&& ~~~ mask) ||| (BitVec.ofNat 32 ((v % 2 ^ n) <<< lo))

/-- One bit as a word at position `i`. -/
def bitAt (i : Nat) (b : Bool) : Word := if b then BitVec.ofNat 32 (1 <<< i) else 0

/-- Number `v` placed at bit `lo`. -/
def fld (lo v : Nat) : Word := BitVec.ofNat 32 (v <<< lo)

/-- A word made of bits given least significant first. -/
def packBits (bs : List Bool) : Word :=
  BitVec.ofNat 32 (bs.foldr (fun b acc => 2 * acc + (if b then 1 else 0)) 0)

/-- Saturating count up to `top`. -/
def satAdd (top a b : Nat) : Nat := min top (a + b)

/-- Little-endian bytes of a number. -/
def leBytes : Nat → Nat → List Byte
  | 0, _ => []
  | n + 1, v => BitVec.ofNat 8 v :: leBytes n (v / 256)

/-- The number whose little-endian bytes are given. -/
def ofLe : List Byte → Nat
  | [] => 0
  | b :: r => b.toNat + 256 * ofLe r

/-- Bytes [i, i + n) of a list, missing bytes reading 0. -/
def bytesAt (l : List Byte) (i n : Nat) : List Byte :=
  (List.range n).map (fun k => l.getD (i + k) 0)

/-- Little-endian number in bytes [i, i + n). -/
def leAt (l : List Byte) (i n : Nat) : Nat := ofLe (bytesAt l i n)

/-- Signed reading of the low `n` bits. -/
def signed (n v : Nat) : Int :=
  let r := v % 2 ^ n
  if 2 * r < 2 ^ n then (r : Int) else (r : Int) - (2 ^ n : Nat)

/-- The low `n` bits of an integer. -/
def lowBits (n : Nat) (v : Int) : Nat := (v % ((2 ^ n : Nat) : Int)).toNat

/-- Word of an integer, modulo 2^32. -/
def wordOf (v : Int) : Word := BitVec.ofInt 32 v

/-- Integer division rounded to nearest, ties to even (R293). -/
def divNearest (a : Int) (b : Nat) : Int :=
  if b = 0 then 0 else
    let q := a.fdiv b
    let r := 2 * (a - q * b)
    if r < b then q else if r > b then q + 1 else if q % 2 = 0 then q else q + 1

/-- Signed difference of two short times (R294): later when positive. -/
def shortDiff (a b : Word) : Int := (a - b).toInt

/-- Population count of a number's low `n` bits. -/
def popCount (n v : Nat) : Nat := ((List.range n).filter (fun i => v.testBit i)).length

/-- Reply status code of R367. -/
def statusCode : Status → Nat
  | .ok => 0 | .busy => 1 | .badOpcode => 2 | .badParam => 3 | .unitAbsent => 4
  | .accessDenied => 5 | .state => 6 | .check => 7 | .memUe => 8 | .timeout => 9
  | .aborted => 10 | .sheafConflict => 11 | .sheafLimit => 12 | .notAwnHolder => 13
  | .factoryOnly => 14

/-- State code of R19. -/
def modeCode : Mode → Nat
  | .off => 0 | .init => 1 | .standbyCold => 2 | .armed => 3 | .precharge => 4 | .run => 5
  | .stopping => 6 | .tripped => 7 | .service => 8 | .factoryTest => 9

/-- State named by a code of R19. -/
def modeOfCode : Nat → Option Mode
  | 0 => some .off | 1 => some .init | 2 => some .standbyCold | 3 => some .armed
  | 4 => some .precharge | 5 => some .run | 6 => some .stopping | 7 => some .tripped
  | 8 => some .service | 9 => some .factoryTest | _ => none

/-- Sub-mode code of R19. -/
def subCode : Sub → Nat
  | .gf => 0 | .island => 1 | .blackstart => 2 | .frt => 3

/-- Sub-mode named by a code of R19. -/
def subOfCode : Nat → Option Sub
  | 0 => some .gf | 1 => some .island | 2 => some .blackstart | 3 => some .frt | _ => none

/-- Level number of R445. -/
def levelCode : Level → Nat
  | .l0 => 0 | .l1 => 1 | .l2 => 2 | .l3 => 3

/-- The level one above, capped at L3 (R449). -/
def levelUp : Level → Level
  | .l0 => .l1 | .l1 => .l2 | .l2 => .l3 | .l3 => .l3

/-- Path index q of R361. -/
def pathIndex : Path → Nat
  | .pcie => 0 | .portA => 1 | .portB => 2 | .service => 3

/-- Path with index q. -/
def pathOfIndex : Nat → Path
  | 0 => .pcie | 1 => .portA | 2 => .portB | _ => .service

end Sys2Proof.Machine
end

