-- ==== Sys2Proof/Machine/Num.lean ====
section
/-!
DEFINITION. The loop engine's numbers: the 40-bit format of R67 (with a sticky mark for saturation, which
sets LEN_EVT.NUM_SAT), binary32 of R68, and the sine table of R74.
-/
namespace Sys2Proof.Machine

/-- A number of R67: the value is `m` * 2^(`e` - 158). `sat` marks that the computation saturated. -/
structure Num where
  m : Int
  e : Nat
  sat : Bool
deriving DecidableEq, Repr

/-- Zero of R67. -/
def Num.zero : Num := ⟨0, 0, false⟩

/-- Number of bits of a natural number. -/
def bitLen (n : Nat) : Nat := if n = 0 then 0 else Nat.log2 n + 1

/-- `m / 2^k` rounded to nearest, ties to even. -/
def roundShift (m : Int) (k : Nat) : Int := divNearest m (2 ^ k)

/-- The normalised number of the exact value `m` * 2^`x` (R67: nearest even, saturation, flush). -/
def Num.norm (m x : Int) (sat : Bool) : Num :=
  if m = 0 then ⟨0, 0, sat⟩ else
    let len := bitLen m.natAbs
    let (m1, x1) :=
      if 31 < len then (roundShift m (len - 31), x + ((len - 31 : Nat) : Int))
      else (m * ((2 ^ (31 - len) : Nat) : Int), x - ((31 - len : Nat) : Int))
    let (m2, x2) := if m1.natAbs = 2 ^ 31 then (m1 / 2, x1 + 1) else (m1, x1)
    let ex := x2 + 158
    if 255 < ex then
      if ex = 256 ∧ m2 = -(2 ^ 30 : Nat) then ⟨-(2 ^ 31 : Nat), 255, sat⟩
      else ⟨if m < 0 then -(2 ^ 31 : Nat) else (2 ^ 31 - 1 : Nat), 255, true⟩
    else if ex < 0 then ⟨0, 0, sat⟩
    else ⟨m2, ex.toNat, sat⟩

/-- Whole number. -/
def Num.ofInt (i : Int) : Num := Num.norm i 0 false

/-- `a / b` of whole numbers, rounded to nearest even: the form in which constants are held. -/
def Num.ofRatio (a : Int) (b : Nat) : Num :=
  if b = 0 ∨ a = 0 then Num.zero else
    let k := bitLen b + 64
    let n := a * ((2 ^ k : Nat) : Int)
    let q := n.fdiv b
    let q := if n % (b : Int) = 0 then 2 * q else 2 * q + 1
    Num.norm q (-((k + 1 : Nat) : Int)) false

def Num.neg (a : Num) : Num := Num.norm (-a.m) ((a.e : Int) - 158) a.sat

def Num.abs (a : Num) : Num := if a.m < 0 then a.neg else a

def Num.add (a b : Num) : Num :=
  let s := a.sat || b.sat
  if a.e ≤ b.e then
    Num.norm (a.m + b.m * ((2 ^ (b.e - a.e) : Nat) : Int)) ((a.e : Int) - 158) s
  else
    Num.norm (a.m * ((2 ^ (a.e - b.e) : Nat) : Int) + b.m) ((b.e : Int) - 158) s

def Num.sub (a b : Num) : Num := a.add ⟨-b.m, b.e, b.sat⟩

def Num.mul (a b : Num) : Num :=
  Num.norm (a.m * b.m) ((a.e : Int) + (b.e : Int) - 316) (a.sat || b.sat)

/-- Division; by zero as R67 states. -/
def Num.div (a b : Num) : Num :=
  let s := a.sat || b.sat
  if b.m = 0 then
    if a.m = 0 then ⟨0, 0, true⟩
    else ⟨if a.m < 0 then -(2 ^ 31 : Nat) else (2 ^ 31 - 1 : Nat), 255, true⟩
  else
    let n := a.m * ((2 ^ 64 : Nat) : Int) * (if b.m < 0 then -1 else 1)
    let d := b.m.natAbs
    let q := n.fdiv d
    let q := if n % (d : Int) = 0 then 2 * q else 2 * q + 1
    Num.norm q ((a.e : Int) - (b.e : Int) - 65) s

/-- Square root; of a negative value as R67 states. -/
def Num.sqrt (a : Num) : Num :=
  if a.m < 0 then ⟨0, 0, true⟩
  else if a.m = 0 then ⟨0, 0, a.sat⟩
  else
    let x : Int := (a.e : Int) - 158
    let (m, x) := if x % 2 = 0 then (a.m.toNat, x) else (2 * a.m.toNat, x - 1)
    let n := m * 2 ^ 80
    let r := Nat.sqrt n
    let q := if r * r = n then 2 * r else 2 * r + 1
    Num.norm (q : Int) (x / 2 - 41) a.sat

/-- Strict comparison of values. -/
def Num.lt (a b : Num) : Bool :=
  if a.e ≤ b.e then decide (a.m < b.m * ((2 ^ (b.e - a.e) : Nat) : Int))
  else decide (a.m * ((2 ^ (a.e - b.e) : Nat) : Int) < b.m)

def Num.le (a b : Num) : Bool := !(b.lt a)

/-- The number, marked as saturated when `b` holds. -/
def Num.note (a : Num) (b : Bool) : Num := ⟨a.m, a.e, a.sat || b⟩

/-- The larger and the smaller of two numbers, with the saturation marks of both. -/
def Num.max (a b : Num) : Num := (if a.lt b then b else a).note (a.sat || b.sat)
def Num.min (a b : Num) : Num := (if b.lt a then b else a).note (a.sat || b.sat)
def Num.clamp (lo hi v : Num) : Num := Num.max lo (Num.min hi v)

/-- The number without its saturation mark. -/
def Num.clear (a : Num) : Num := ⟨a.m, a.e, false⟩

/-- Greatest whole number not above the value. -/
def Num.floor (a : Num) : Int :=
  if 158 ≤ a.e then a.m * ((2 ^ (a.e - 158) : Nat) : Int)
  else a.m.fdiv ((2 ^ (158 - a.e) : Nat) : Int)

/-- Whole number nearest to the value, ties to even. -/
def Num.round (a : Num) : Int :=
  if 158 ≤ a.e then a.m * ((2 ^ (a.e - 158) : Nat) : Int)
  else roundShift a.m (158 - a.e)

/-- A written binary32 word is a NaN or an infinity (R68). -/
def b32Bad (w : Word) : Bool := field w 23 8 = 255

/-- The word stored for a written binary32: a subnormal is taken as +0.0 (R68). -/
def b32Flush (w : Word) : Word := if field w 23 8 = 0 then 0 else w

/-- Exact conversion of a stored binary32 (R68). -/
def Num.ofB32 (w : Word) : Num :=
  if field w 23 8 = 0 then Num.zero else
    let mag : Int := ((2 ^ 23 + field w 0 23 : Nat) : Int)
    Num.norm (if bit w 31 then -mag else mag) ((field w 23 8 : Int) - 150) false

/-- Readout as binary32: nearest even, saturating, never subnormal (R68). -/
def Num.toB32 (a : Num) : Word :=
  if a.m = 0 then 0 else
    let s : Nat := if a.m < 0 then 2 ^ 31 else 0
    let len := bitLen a.m.natAbs
    let (q, x) :=
      if 24 < len then (roundShift (a.m.natAbs : Int) (len - 24), (a.e : Int) - 158 + ((len - 24 : Nat) : Int))
      else ((a.m.natAbs : Int) * ((2 ^ (24 - len) : Nat) : Int), (a.e : Int) - 158 - ((24 - len : Nat) : Int))
    let (q, x) := if q = (2 ^ 24 : Nat) then (((2 ^ 23 : Nat) : Int), x + 1) else (q, x)
    let ex := x + 150
    if ex < 1 then 0
    else if 254 < ex then BitVec.ofNat 32 (s + 0x7F7FFFFF)
    else BitVec.ofNat 32 (s + ex.toNat * 2 ^ 23 + (q.toNat - 2 ^ 23))

/-- Exact order of two stored binary32 words. -/
def b32Le (a b : Word) : Bool := (Num.ofB32 a).le (Num.ofB32 b)
def b32Lt (a b : Word) : Bool := (Num.ofB32 a).lt (Num.ofB32 b)

/-- The number as a readout or a publication carries it (R68, R98). -/
def Num.asB32 (a : Num) : Num := Num.ofB32 a.toB32

/-- The sine of k / 4096 of a quarter turn, in 2^-62, by its power series. -/
def sinFix (k : Nat) : Int :=
  let one : Int := ((2 ^ 62 : Nat) : Int)
  let x : Int := 14488038916154245685 * (k : Int) / 8192
  let x2 := x * x / one
  ((List.range 12).foldl (fun (p : Int × Int) i =>
    (p.1 + p.2, -(p.2 * x2 / one) / (((2 * i + 2) * (2 * i + 3) : Nat) : Int))) ((0 : Int), x)).1

/-- Entry k of the sine table: 2^12 steps over a quarter turn, raised by half of what a chord lies below the sine, and off
by a free amount of at most 2^-28, which keeps the interpolated sine within the 2^-26 of R74 (DESIGN CHOICE, log 62). -/
def sinEntry (k : Nat) : Num :=
  let v := sinFix k
  let lift := v * 42389628127 / ((2 ^ 62 : Nat) : Int)
  let free := Max.max (-(2 ^ 34 : Nat) : Int) (Min.min ((2 ^ 34 : Nat) : Int) (Config.sinEntry k))
  Num.norm (v + lift + free) (-62) false

/-- Sine of a binary angle by the table and linear interpolation (R74); the quadrants mirror the table. -/
def sinA (th : Word) : Num :=
  let r := field th 0 30
  let r := if bit th 30 then 2 ^ 30 - r else r
  let k := r / 2 ^ 18
  let a := sinEntry k
  let v := if r % 2 ^ 18 = 0 then a
    else a.add (((sinEntry (k + 1)).sub a).mul (Num.norm ((r % 2 ^ 18 : Nat) : Int) (-18) false))
  if bit th 31 then v.neg else v

/-- Cosine of a binary angle. -/
def cosA (th : Word) : Num := sinA (th + 0x40000000)

/-- Two pi, rounded to the format. -/
def numTwoPi : Num := Num.ofRatio 6283185307179586476925286766559 1000000000000000000000000000000

/-- The square root of three, rounded to the format. -/
def numSqrt3 : Num := Num.sqrt (Num.ofInt 3)

/-- The binary32 word nearest to `a / b`: how a decimal limit of the manual is held. -/
def b32Of (a : Int) (b : Nat) : Word := Num.toB32 (Num.ofRatio a b)

/-- A written binary32 is a number and lies within [lo, hi] (R68: a subnormal counts as +0.0). -/
def b32In (w lo hi : Word) : Bool := !(b32Bad w) && b32Le lo (b32Flush w) && b32Le (b32Flush w) hi

end Sys2Proof.Machine
end

