-- ==== Sys2Proof/Machine/Tab.lean ====
section
/-!
DEFINITION. Sparse tables: a list of (key, value) pairs, keys strictly rising, no entry equal to what
an unlisted key reads as. Registers, cells, links and memory are held in this one form.
-/
namespace Sys2Proof.Machine

/-- A sparse table over the default function the reader supplies. -/
abbrev Tab (α : Type) := List (Nat × α)

/-- The value at key `k`; `d k` where nothing is listed. -/
def Tab.get {α : Type} (d : Nat → α) : Tab α → Nat → α
  | [], k => d k
  | (k', v) :: r, k => if k' = k then v else Tab.get d r k

/-- The table without key `k`. -/
def Tab.erase {α : Type} : Tab α → Nat → Tab α
  | [], _ => []
  | (k', v) :: r, k => if k' = k then Tab.erase r k else (k', v) :: Tab.erase r k

/-- The table with value `v` listed at key `k`, in key order. -/
def Tab.put {α : Type} : Tab α → Nat → α → Tab α
  | [], k, v => [(k, v)]
  | (k', v') :: r, k, v =>
    if k < k' then (k, v) :: (k', v') :: r
    else if k' = k then (k, v) :: r
    else (k', v') :: Tab.put r k v

/-- The table with `v` at `k`: the entry is removed where `v` is the default. -/
def Tab.set {α : Type} [DecidableEq α] (d : Nat → α) (t : Tab α) (k : Nat) (v : α) : Tab α :=
  if v = d k then Tab.erase t k else Tab.put t k v

/-- The table with every listed value changed; values that become the default are dropped. -/
def Tab.mapv {α : Type} [DecidableEq α] (d : Nat → α) (f : Nat → α → α) (t : Tab α) : Tab α :=
  (t.map (fun p => (p.1, f p.1 p.2))).filter (fun p => decide (p.2 ≠ d p.1))

/-- Insert by an order. -/
def insertBy {α : Type} (lt : α → α → Bool) (x : α) : List α → List α
  | [] => [x]
  | y :: r => if lt y x then y :: insertBy lt x r else x :: y :: r

/-- Sort by an order; equal elements keep their order. -/
def sortBy {α : Type} (lt : α → α → Bool) (l : List α) : List α := l.foldr (insertBy lt) []

/-- Keys strictly rise. -/
def Tab.sorted {α : Type} : Tab α → Bool
  | [] => true
  | [_] => true
  | (a, _) :: (b, v) :: r => decide (a < b) && Tab.sorted ((b, v) :: r)

/-- The canonical form: keys strictly rise and no entry equals the default. -/
def Tab.wf {α : Type} [DecidableEq α] (d : Nat → α) (t : Tab α) : Bool :=
  Tab.sorted t && t.all (fun p => decide (p.2 ≠ d p.1))

end Sys2Proof.Machine
end

