-- ==== Sys2Proof/Machine/UnitState.lean ====
section
/-!
DEFINITION. The state of each unit of the block beyond what its registers hold: queues, timers, pending
work, filters. Times are in ticks of 2.5 ns of the model's own clock unless a comment says otherwise.
-/
namespace Sys2Proof

/-- How a command packet reached its path: on the ring or port itself, or in a mailbox message (R383). -/
inductive Via where
  | port
  | mailbox (c : Nat)
deriving DecidableEq, Repr

/-- The header fields of R365 that a host chooses, with the path of R361. -/
structure Hdr where
  path : Path
  via : Via
  tag : BitVec 16
  session : BitVec 16
  seq : Word
deriving DecidableEq, Repr

/-- One sheaf entry of R346: 16 bytes TYPE, ADDR, VALUE, MASK. -/
structure SheafEntry where
  kind : Nat
  addr : Nat
  value : Word
  mask : Word
deriving DecidableEq, Repr

/-- What a BIST run finds in one unit (R458): its signature (after retirement, where the unit can repair) and the
failing rows, pages, blocks or spares. -/
structure BistRes where
  unit : Nat
  sig : Word
  items : List Nat
deriving DecidableEq, Repr

/-- What the two lanes read in one 250 µs cycle (R391-R397): five 50 µs samples of each channel of the
eight inputs (bit n - 1 is SIn), the readback of each output's two terminals, the oscillator
differences in parts per million, and the cross-link's result. -/
structure LaneInputs where
  chA : List (BitVec 8)
  chB : List (BitVec 8)
  deadHi : BitVec 4
  deadLo : BitVec 4
  oscDiff : Nat
  ocxoDev : Nat
  linkErr : Bool
  disagree : Bool
deriving DecidableEq, Repr

/-- A received Sync of one domain (R295-R297): sequence, two-step flag, log interval, receive stamp as
the counter C in 2^-16 tick, origin time in 2^-16 tick, correction included. -/
structure PtpSync where
  seq : Nat
  twoStep : Bool
  logInt : Int
  src : BitVec 64
  rx : Int
  origin : Int
deriving DecidableEq, Repr

/-- A received Announce (R295). -/
structure PtpAnnounce where
  domnum : Nat
  src : BitVec 64
  gm : BitVec 64
  p1 : Nat
  cls : Nat
  accuracy : Nat
  variance : Nat
  p2 : Nat
  steps : Nat
deriving DecidableEq, Repr

end Sys2Proof

namespace Sys2Proof.Machine

/-- A reply of R366. -/
structure Reply where
  path : Path
  via : Via
  opcode : Nat
  tag : BitVec 16
  session : BitVec 16
  seq : Word
  src : Nat
  status : Status
  detail : Nat
  data : List Byte
deriving DecidableEq, Repr

/-- An event record of R375. -/
structure EvRec where
  kind : Nat
  ident : Nat
  data16 : Nat
  stamp : Word
  data64 : Nat
deriving DecidableEq, Repr

/-- What an outstanding command waits for (R369). -/
inductive Wait where
  | ring
  | sheaf (n : Nat)
  | mode (op : Nat)
  | txn (link tid : Nat)
  | fill
  | timeStep
  | bist
  | switchover
deriving DecidableEq, Repr

/-- An outstanding command of R369. -/
structure Outst where
  hdr : Hdr
  opcode : Nat
  wait : Wait
deriving DecidableEq, Repr

/-- A reply cache entry of R370; `stamp` is when its reply was sent. -/
structure CacheEnt where
  reply : Reply
  opcode : Nat
  stamp : Nat
deriving DecidableEq, Repr

/-- One host path: subscription, event queue (R375), outstanding commands and reply cache (R369, R370). -/
structure PathSt where
  sub : Nat
  queue : List EvRec
  oldest : Nat
  lost : Nat
  sent : Nat
  overflow : Bool
  outst : List Outst
  cache : List CacheEnt
deriving DecidableEq, Repr

/-- A path with nothing pending. -/
def PathSt.empty : PathSt := ⟨0, [], 0, 0, 0, false, [], []⟩

/-- A mailbox message, its ORPHAN mark (R386) and the instant at which it was sent (R385). -/
structure Msg where
  bytes : List Byte
  orphan : Bool
  sent : Nat
deriving DecidableEq, Repr

/-- A mailbox channel (R381-R386). `since` is when it last became non-empty. -/
structure Chan where
  msgs : List Msg
  aborted : Nat
  acked : Bool
  cross : Bool
  since : Nat
deriving DecidableEq, Repr

/-- An empty channel. -/
def Chan.empty : Chan := ⟨[], 0, false, false, 0⟩

/-- A pending link injection (R455). -/
structure LinkInj where
  link : Nat
  cause : Nat
  count : Nat
  up : Bool
deriving DecidableEq, Repr

/-- What a raising rule gives: code, base level, access type and address of R446, the master (none:
detected by hardware), the index of R447, and whether injection raised it. -/
structure FaultArg where
  code : Nat
  base : Level
  acc : Nat := 5
  addr : Nat := 0
  master : Option Nat := none
  index : Nat := 0
  inj : Bool := false
deriving DecidableEq, Repr

/-- Fault collector (R446-R453) beyond its registers: faults logged, highest level per unacknowledged
class, times of logged violations, log snapshots, link injections, the 10 µs frame of the last trip (R20), whether a trip
drives TRIG_OUT0 (R228), and, within one step, the faults detected in its clock and not raised yet, each with whether its block
orders are out (R450). -/
structure FltSt where
  logged : Nat
  hi : Tab Nat
  viol : List Nat
  snap : Tab (List Word)
  inj : List LinkInj
  tripFrame : Option Int
  tripTo : Bool
  same : List (FaultArg × Bool)
deriving DecidableEq, Repr

/-- Self-test run in progress (R457); after an abort `mask` keeps the units that were tested and whose results are
still to be recorded. -/
structure BstSt where
  running : Bool
  mask : Nat
  start : Nat
  unit : Nat
  aborted : Bool
deriving DecidableEq, Repr

/-- A foreign master heard on a port (R295). -/
structure Foreign where
  ident : BitVec 64
  gm : BitVec 64
  p1 : Nat
  cls : Nat
  accuracy : Nat
  variance : Nat
  p2 : Nat
  steps : Nat
  heard : Nat
  last : Nat
  domnum : Nat
deriving DecidableEq, Repr

/-- A tracked domain's servo (R297) beyond its registers. Offsets are in 2^-16 tick. -/
structure DomSt where
  st : Nat
  lockCnt : Nat
  lockedAt : Nat
  lastSync : Nat
  interval : Nat
  hoStart : Nat
  hoSecs : Nat
  hoRaised : Bool
  pend : Option (Nat × Int)
  rates : List (Nat × Nat)
  masters : List Foreign
  best : Option Foreign
  mpdKnown : Bool
  lastE : Int
deriving DecidableEq, Repr

/-- A domain after reset. -/
def DomSt.init : DomSt := ⟨0, 0, 0, 0, 400000000, 0, 0, false, none, [], [], none, false, 0⟩

/-- A checked time step waiting for its boundary (R304). -/
inductive Step where
  | abs (v : Int)
  | rel (v : Int)
  | toRef
deriving DecidableEq, Repr

/-- Station time (R290-R307). `delta` is Δ in 2^-16 tick at counter value `slopeAt`, `slope` its rate in parts per 10^9
since then, `base` what steps made before S is set have added to C. `frameAt` and `outAt` are the instants of the last frame
and outer boundary taken, `openAt` that of the last outer boundary begun, `stepAt` that of the last step or setting of S, `pdAt` that of the last
Pdelay_Req sent. -/
structure TimSt where
  d0 : DomSt
  d1 : DomSt
  sel : Nat
  isSet : Bool
  delta : Int
  slope : Int
  slopeAt : Nat
  blend : Bool
  holdover : Bool
  initPend : Bool
  steps : List Step
  follow : Bool
  diffSince : Option Nat
  pairRaised : Bool
  lastPps : Option Nat
  ppsLost : Bool
  ppsHigh : Option Nat
  ppsSec : Nat
  mpd : Tab Int
  base : Int
  frameAt : Option Nat
  openAt : Option Nat
  outAt : Option Nat
  stepAt : Option Nat
  pdAt : Option Nat
  pdSeq : Nat
deriving DecidableEq, Repr

/-- An output of the station PLL (R312): running, the VCO cycle within its division at which it rises, the delay in force, a
new delay with the VCO cycle from which it counts, whether it waits for a PPS_IN edge, and the VCO cycle at which the high
phase under way when it was stopped ends. -/
structure OutClk where
  run : Bool
  phase : Nat
  delay : Nat
  next : Option (Nat × Nat)
  wait : Bool
  stop : Nat
deriving DecidableEq, Repr

/-- An output that does not run. -/
def OutClk.init : OutClk := ⟨false, 0, 0, none, false, 0⟩

/-- Clock synthesis (R308-R312) beyond its registers. Frequencies are in 2^-24 of 10 MHz; `steer` is the correction of
REFSEL 1, `vco` the VCO's phase at `vcoAt` in 1/(40 × 2^24) cycle, `ref` what the last report of REF_IN said. -/
structure ClkSt where
  nApplied : Nat
  locking : Bool
  lockFreq : Nat
  settledFrom : Nat
  released : Bool
  ppsOk : Bool
  ref : Option Bool
  steer : Int
  vco : Nat
  vcoAt : Nat
  outs : Tab OutClk
deriving DecidableEq, Repr

/-- Power, start-up and thermal state (R463-R474, R501). Flash-held data stand here too; `broken` is the bank whose
programming has not ended well (R471). -/
structure PwrSt where
  legA : Nat
  legB : Nat
  good : Bool
  holdup : Bool
  storeFull : Bool
  fillDone : Bool
  boot : Nat
  runBank : Nat
  prefFlash : Nat
  bistFlash : Word
  trialPend : Bool
  trialActive : Bool
  validA : Bool
  validB : Bool
  progBusy : Bool
  broken : Option Nat
  cfgOk : Bool
  cfgFlash : List (Nat × Word)
  retFlash : List Word
  inlet : Int
  junc : Int
  inletBad : Bool
  inletOkSince : Option Nat
  juncHigh : Bool
  juncTrip : Bool
  juncOkSince : Option Nat
  burstStart : Option Nat
  burstEnd : Option Nat
deriving DecidableEq, Repr

/-- One safety input (R394-R398). `latch`: 0 free, 1 latched, 2 latched and both channels seen safe. -/
structure InSt where
  a : Bool
  b : Bool
  cntA : Nat
  cntB : Nat
  disc : Nat
  discF : Bool
  patA : Bool
  patB : Bool
  badA : Nat
  badB : Nat
  seenA : List Bool
  seenB : List Bool
  latch : Nat
  pressed : Option Nat
  rel : Bool
deriving DecidableEq, Repr

/-- An input at power-up: both channels read safe. -/
def InSt.init : InSt := ⟨false, false, 0, 0, 0, false, false, false, 0, 0, [], [], 0, none, false⟩

/-- One safety output (R400-R402). `test`: 0 none, 1 high-side under test, 2 low-side under test. -/
structure OutSt where
  hi : Bool
  lo : Bool
  load : Bool
  faulted : Bool
  test : Nat
  testAt : Nat
  abortHi : Bool
  abortLo : Bool
deriving DecidableEq, Repr

/-- An output at power-up. -/
def OutSt.init : OutSt := ⟨false, false, false, false, 0, 0, false, false⟩

/-- One received copy in a comparison window: none where missing, `some none` where check-failed. -/
abbrev Copy := Option (Option (List Byte))

/-- A comparison window of R410. -/
structure Win where
  alive : Nat
  opened : Nat
  shut : Bool
  a : Copy
  b : Copy
deriving DecidableEq, Repr

/-- The safety unit (R391-R415). -/
structure SafSt where
  image : Option (List Byte)
  pend : Option (List Byte × Nat)
  confA : Bool
  confB : Bool
  adopted : Nat
  sf1 : Bool
  sf2 : Bool
  brk : Bool
  modReq : Bool
  trip4 : Bool
  hostReq : Bool
  mismatch : Bool
  laneFault : Bool
  ocxo : Bool
  ioLost : Bool
  causes : Nat
  ins : Tab InSt
  outs : Tab OutSt
  accessSince : Option Nat
  accessOn : Bool
  tripTx : Bool
  txAlive : Nat
  lastSend : Nat
  wins : List Win
  lastAlive : Nat
  everRx : Bool
  lastRx : Nat
  timedOut : Bool
  single : Bool
  episode : Bool
  held : Bool
  heldNew : Bool
  xerrs : List Nat
  xfails : Nat
  disagrees : Nat
  diag : Bool
  dead : Nat
  cycle : Nat
deriving DecidableEq, Repr

/-- The safety unit at power-up: no image, SF1 in force by cause 8. -/
def SafSt.init : SafSt where
  image := none
  pend := none
  confA := false
  confB := false
  adopted := 0
  sf1 := true
  sf2 := false
  brk := false
  modReq := false
  trip4 := false
  hostReq := false
  mismatch := false
  laneFault := false
  ocxo := false
  ioLost := false
  causes := 256
  ins := []
  outs := []
  accessSince := none
  accessOn := false
  tripTx := false
  txAlive := 0
  lastSend := 0
  wins := []
  lastAlive := 0
  everRx := false
  lastRx := 0
  timedOut := false
  single := false
  episode := false
  held := false
  heldNew := false
  xerrs := []
  xfails := 0
  disagrees := 0
  diag := false
  dead := 0
  cycle := 0

/-- The partner's last accepted beat (R322). -/
structure Beat where
  side : Bool
  awn : Bool
  ready : Bool
  handover : Bool
  resyncReq : Bool
  st : Nat
  sub : Nat
  epoch : Nat
  leaseEnd : Word
  bseq : Nat
  ckseq : Nat
  cfgdig : Word
  txTime : Nat
  at_ : Nat
deriving DecidableEq, Repr

end Sys2Proof.Machine
end

