-- ==== Sys2Proof/Machine/CtrlState.lean ====
section
/-!
DEFINITION. The state of the control path: loop engine and grid-forming control, arms and winnow units,
cells, firing carriers, links, and the checkpoint of the redundant pair.
-/
namespace Sys2Proof.Machine

/-- A two-axis quantity. -/
structure Vec where
  a : Num
  b : Num
deriving DecidableEq, Repr

/-- Zero vector. -/
def Vec.zero : Vec := ⟨Num.zero, Num.zero⟩

/-- Inputs of the loop engine (R69-R73): last settled values per input 0-8 and arm 0-5; the sample sequence numbers used
(the tenth is that of the privileged set), and the misses in a row and the staleness per input 0-8 and per privileged
channel 9-14. -/
structure LenIn where
  val : List Num
  seq : List Nat
  miss : List Nat
  stale : List Bool
  arm : List Num
  tSample : Word
deriving DecidableEq, Repr

/-- Signals of the inner loop (R72-R83). -/
structure LenSig where
  vbus : List Num
  iac : List Num
  icirc : List Num
  vdc : Num
  delay : List (List Num)
  v1 : Vec
  v2 : Vec
  i1 : Vec
  i2 : Vec
deriving DecidableEq, Repr

/-- Controllers of the inner loop (R77-R81): PI integrators, resonator amplitude integrators,
feed-forward filters, biquad states keyed by 8 * section + channel, the errors of the last cycle, and the parts of the arm
references that did not turn with the EMF in it. -/
structure LenCon where
  xd : Num
  xq : Num
  xd2 : Num
  xq2 : Num
  ra : List Vec
  rc : List Vec
  ff : List Num
  biq : Tab Vec
  clamp : List Bool
  err : List Num
  rest : List Num
deriving DecidableEq, Repr

/-- Current limiter (R30-R33). The budget is in tenths of a tick. -/
structure LimSt where
  start : Option Nat
  below : Option Nat
  peak : Bool
  armed : Bool
  budget : Nat
  budgetAt : Nat
  spent : Bool
  sum : Num
  ilim : Num
  active : Bool
  seenPeak : Bool
deriving DecidableEq, Repr

/-- EMF and setpoints of the outer loop (R23-R29). -/
structure EmfSt where
  th : Word
  thAt : Nat
  om : Num
  omLp : Num
  e : Num
  xv : Num
  ev : Num
  pm : Num
  qm : Num
  v1m : Num
  v2m : Num
  vdcPu : Num
  pset : Num
  qset : Num
  fset : Num
  xdc : Num
  clamp : Bool
  blendFrom : Num
  blendAt : Option Nat
  wasLim : Bool
  vset : Num
deriving DecidableEq, Repr

/-- Ride-through (R42-R49). `gPre` is the part of P_pre that the DC guard added; `islPeak` marks that the peak stage has
begun in the limiting episode that runs. -/
structure FrtSt where
  prof : Nat
  entered : Nat
  vPre : Num
  pPre : Num
  recovered : Bool
  hold : Option Nat
  hist : List Num
  isl : Bool
  islPeak : Bool
  gp : Num
  gq : Num
  g2 : Num
  gPre : Num
deriving DecidableEq, Repr

/-- Resynchronisation (R51-R54). -/
structure RsSt where
  on : Bool
  paused : Bool
  started : Nat
  fOff : Num
  vOff : Num
  df : Num
  dth : Num
  dv : Num
  permit : Bool
  ok : Option Nat
  close : Option Nat
  angBus : Word
  angTie : Word
  seen : Bool
deriving DecidableEq, Repr

/-- Black start, stopping, DC guard, start estimate (R37, R55-R61), the stored tie and breaker reports (R38) with their
stamps, the report not yet acted on, and the time of the last sub-mode decision (R39). -/
structure RunSt where
  bsAt : Nat
  bsVal : Num
  bsPaused : Nat
  bsLast : Nat
  bsReached : Bool
  bsOk : Option Nat
  stopAt : Nat
  stopEnd : Nat
  guard : Bool
  guardEdge : Num
  guardBack : Option Nat
  guardAdd : Num
  estAt : Option Nat
  estV : List Vec
  islSince : Option Nat
  stopReq : Bool
  tieReq : Option Bool
  tie : Option (Bool × Word)
  ac : Option (Bool × Word)
  moved : Option Nat
deriving DecidableEq, Repr

/-- Gain scheduling (R86-R92). `scaleFrom` holds K_PI, K_RI and K_RC that the inner controllers still stand for. -/
structure RegSt where
  region : Nat
  bank : Nat
  gdp : Nat
  evaluated : Bool
  dwell : Nat
  none_ : Bool
  defer : Option Nat
  scaleFrom : Option (List Num)
  blendAt : Option Nat
  blendLen : Nat
  rv0 : Num
  xv0 : Num
  kff0 : Num
  override : Bool
deriving DecidableEq, Repr

/-- Burst rate (R66, R473, R474). -/
structure BurSt where
  on : Bool
  req : Bool
  reqAt : Nat
deriving DecidableEq, Repr

/-- A publication of R98. -/
structure Pub where
  seq : Nat
  tSample : Word
  tPub : Word
  v : List Num
  dv : List Num
  region : Nat
  bank : Nat
  gdp : Nat
  flags : Nat
deriving DecidableEq, Repr

/-- Arm energy control (R105-R109). -/
structure EneSt where
  win : List (List Num)
  lp : List Num
  xt : Num
  xh : List Num
  xv : List Num
  idc : List Num
  icf : List Num
  errs : List Num
  dev : List (Option Nat)
  devIn : Option Nat
  devRaised : Bool
deriving DecidableEq, Repr

/-- Outer results that the boundary frame still uses (R65). -/
structure OldRes where
  pre : Bool
  sub : Sub
  emf : EmfSt
  frt : FrtSt
  reg : RegSt
  ene : EneSt
deriving DecidableEq, Repr

/-- The loop engine (R63-R98). `cyc` counts inner cycles, `launch` is the phase in force, `glob` the global parameters
in use since the last outer boundary, `old` what the boundary frame still uses, `rateNew` marks that the inner rate has
changed since the last cycle. -/
structure LenSt where
  cyc : Nat
  launch : Nat
  launched : Option Nat
  inp : LenIn
  sig : LenSig
  con : LenCon
  lim : LimSt
  emf : EmfSt
  frt : FrtSt
  rs : RsSt
  run : RunSt
  reg : RegSt
  bur : BurSt
  ene : EneSt
  pend : Option Pub
  pub : Option Pub
  outerAt : Nat
  sat : Bool
  glob : List Word
  old : Option OldRes
  rateNew : Bool
deriving DecidableEq, Repr

/-- Carrier of a PWM or FIXED target (R164-R169): origin and last load in ticks of S; the origin is the first load. -/
structure Carrier where
  origin : Option Int
  started : Bool
  last : Int
  period : Nat
  n : Nat
  on : Nat
  use : Bool
  wroteP : Bool
  wroteOn : Bool
deriving DecidableEq, Repr

/-- A carrier that has not run. -/
def Carrier.init : Carrier := ⟨none, false, 0, 80000, 1, 0, false, false, false⟩

/-- One change of insertion that a selection makes (R150): the slot, its polarity after it, and the count at which
the extrapolated reference places it (none: the start of the firm window). -/
structure Stepping where
  slot : Nat
  pol : Int
  target : Option Int
deriving DecidableEq, Repr

/-- An arm (R104, R110-R122, R224-R226). `sel` is the selected prefix with its polarity and `rest` the candidates beyond
it, both in the order of R122; `steps` are the changes of the firm window that starts at `selW`. -/
structure Arm where
  sort : List (Nat × Nat)
  sortNext : List (Nat × Nat)
  vAvg : Num
  dir : Int
  n : Int
  m : Num
  sel : List (Nat × Int)
  rest : List Nat
  steps : List Stepping
  selW : Option Int
  duty : Num
  pwm : Option Nat
  dutyProp : Num
  pwmProp : Option Nat
  npc : Nat
  short : Bool
  oc : Bool
  ocFirst : Nat
  ocLast : Nat
  ocFrame : Option Nat
  ocRaised : Bool
  pwmCar : Carrier
  fixCar : Carrier
  deblocked : Bool
deriving DecidableEq, Repr

/-- An arm after reset. -/
def Arm.init : Arm :=
  ⟨[], [], Num.zero, 1, 0, Num.zero, [], [], [], none, Num.zero, none, Num.zero, none, 0, false, false, 0, 0, none, false,
    Carrier.init, Carrier.init, false⟩

/-- A change of insertion as planned for a cell, into or out of the not-inserted state: its first edge, the polarity before
and after it, the count whose crossing places
it (R150), the dead time of its pair (R155), and whether a carrier makes it (R151). -/
structure Chg where
  t : Int
  was : Int
  pol : Int
  target : Option Int
  dt : Nat
  car : Bool
deriving DecidableEq, Repr

/-- An edge sent to a cell: time in ticks of S, action of R137, firm or provisional. -/
structure Edge where
  t : Int
  act : Nat
  firm : Bool
deriving DecidableEq, Repr

/-- Telemetry of a cell and what is counted from it (R191, R216, R218, R204). -/
structure CellTel where
  vcap : Nat
  temp : Nat
  gsv : Nat
  status : Nat
  prev : Nat
  prevNew : Nat
  fresh : Bool
  rxAt : Nat
  due : List (Word × Nat × Nat)
  stale : Nat
  excl : Bool
  rdy : Nat
  low : Nat
  inv : Nat
  uv : Nat
  echoBad : List Nat
  volt : Nat
  trans : Nat
  transFF : Bool
  dead : Option Nat
deriving DecidableEq, Repr

/-- State of a cell in the table (R215-R223) and its rests (R125-R129): the count of R126 runs from `bsFrom`, the cell is
not inserted since `offFrom`, and a rest has a start and an end; times in ticks of S. -/
structure CellSt where
  st : Nat
  cause : Nat
  des : Nat
  unconf : Bool
  ot : Bool
  otClear : Option Nat
  bypAt : Option Nat
  qLeft : Nat
  qAt : Nat
  qTries : List Nat
  bsFrom : Option Int
  offFrom : Option Int
  rest : Option (Int × Int)
  restCheck : Option Int
  restDue : Bool
  restSent : Bool
deriving DecidableEq, Repr

/-- The firing side of a cell (R139, R149-R163): sequence bytes sent, edges pending at the cell, edges withheld, firm edges
that did not fit (R152), the changes planned for the last firm window and those whose second edge runs into it, the polarity they leave, the override
in force; `blk` marks a cell that a block order or BLOCK left blocked, `hit` a block order on its arm since the last frame
boundary, `quar` the quarantine entries still to be sent. -/
structure CellFire where
  sent : List Nat
  queue : List Edge
  held : List Edge
  left : List Edge
  plan : List Chg
  pol : Int
  ovr : Nat
  blk : Bool
  hit : Bool
  quar : Nat
  own : Carrier
deriving DecidableEq, Repr

/-- A cell slot. -/
structure Cell where
  tel : CellTel
  prot : CellSt
  fire : CellFire
deriving DecidableEq, Repr

/-- A slot with no cell. -/
def Cell.init : Cell :=
  ⟨⟨0, 0, 0, 0, 0, 0, false, 0, [], 0, false, 0, 0, 0, 0, [], 0, 0, false, none⟩,
   ⟨0, 0, 0, false, false, none, none, 0, 0, [], none, none, none, none, false, false⟩,
   ⟨[], [], [], [], [], 0, 0, true, false, 0, Carrier.init⟩⟩

/-- Who asked for a transaction (R197, R201, R202, R352, R379). -/
inductive Origin where
  | host (h : Hdr)
  | ident
  | keyx
  | cellId (slot : Nat)
  | enrol (slot : Nat)
  | group (slot : Nat)
  | profiles (slot : Nat)
  | maps (slot : Nat)
  | prepare (n : Nat)
  | gone
deriving DecidableEq, Repr

/-- A transaction request, waiting or in flight; `tid` and `sent` count once it has been sent. -/
structure Txn where
  tid : Nat
  op : Nat
  slot : Nat
  prep : Nat
  addr : Word
  data : List Byte
  len : Nat
  org : Origin
  sent : Nat
deriving DecidableEq, Repr

/-- A link (R178-R207). `watch` is the boundary after the three APPLY_ID frames of a sheaf and the CHAFF count before them
(R356). `eseq` numbers the EDGE frames, which is the entry sequence of R139 in every slot; `eof` is the
end of the last frame sent, in ticks of S. `quarLeft` counts the automatic attempts of the hour before the quarantine
(R206), `idMatch` the slots whose identity and class have been read and match (R201); `rxAt` is when the newest uplink frame was accepted,
as in a cell when its record was. -/
structure Link where
  stage : Nat
  trainAt : Nat
  raisedFail : Bool
  idBad : Option Nat
  idKnown : Bool
  rtts : List Int
  outl : List Int
  waiting : List Txn
  flight : List Txn
  fseq : Nat
  eseq : Nat
  eof : Int
  sofs : List (Nat × Int)
  rxSeq0 : Option Nat
  rxSeq1 : Option Nat
  ackSeq : Nat
  epochCur : Nat
  leaseValid : Bool
  upSof : Word
  awnPort : Bool
  chaff : List (Nat × Bool)
  late : Nat
  downs : List Nat
  quarAt : Nat
  quarLeft : Nat
  tries : List Nat
  key : Option (BitVec 128)
  nonce : BitVec 128
  keyReg : BitVec 128
  present : Nat
  held : Nat
  enrolNext : Nat
  overflow : Bool
  lowSince : Option Nat
  okSince : Option Nat
  marginRaised : Bool
  lastUp : Nat
  apply : List Nat
  cancel : List Nat
  quarFrames : Nat
  watch : Option (Word × Nat)
  idMatch : Nat
  rxAt : Nat
deriving DecidableEq, Repr

/-- A link that is down. -/
def Link.init : Link :=
  ⟨0, 0, false, none, false, [], [], [], [], 0, 0, 0, [], none, none, 0, 0, false, 0, false, [], 0, [], 0, 0, [], none, 0,
    0, 0, 0, 0, false, none, none, false, 0, [], [], 0, none, 0, 0⟩

/-- Winnow units and firing scheduler, across the arms (R111, R128, R135, R226): `ops` lists the comparator operations not
yet closed as arm and frame, `opsShut` those of the frames closed last; `relHigh` the arms a privileged sample of this frame
found at or beyond the release level, `relSeen` whether there was one, `relPrev` the same of the frame before (R225); `occ`, `octh`, `bs`, `rw` are CEL_OCCFG, CEL_OCTHa, WIN_BSCFG and
WIN_RESTWIN in force; `sortAt` is when the sorts that run began. -/
structure WinSt where
  stage : Nat
  ready : Bool
  readySince : Option Nat
  episode : Bool
  lastDef : Nat
  fwinErr : Bool
  ops : List (Nat × Nat)
  opsShut : List (Nat × Nat)
  relHigh : Nat
  relSeen : Bool
  relPrev : Option Nat
  occ : Word
  octh : List Word
  bs : Word
  rw : Word
  sortAt : Option Nat
deriving DecidableEq, Repr

/-- The control state a checkpoint carries (R329): mode, loop engine, arms, cells, the boundary it was
taken at, prepared sets, and configuration writes. `clock` and `cnt` are the holder's own clock and counter C at that
boundary. -/
structure CkBody where
  mode : Mode
  sub : Sub
  len : LenSt
  arms : Tab Arm
  cells : Tab Cell
  win : WinSt
  takenAt : Int
  seq : Nat
  epoch : Nat
  handover : Bool
  prep : List Nat
  cfg : List (Nat × Word)
  full : Bool
  clock : Nat
  cnt : Nat
deriving DecidableEq, Repr

end Sys2Proof.Machine

namespace Sys2Proof

/-- A segment on the pair link (R321, R329): whether it belongs to a full resynchronisation, sequence of its checkpoint,
index, whether it is the last, whether the whole passes its CRC, and, on the last, what the checkpoint carries. -/
structure CkSegment where
  full : Bool
  seq : Nat
  idx : Nat
  last : Bool
  crcOk : Bool
  body : Option Machine.CkBody
deriving DecidableEq, Repr

end Sys2Proof

namespace Sys2Proof.Machine

/-- The pair (R318-R337) beyond its registers. `segSeq` and `segNext` follow the checkpoint being received, `fullSeq` and
`fullNext` the full resynchronisation, and `waitCk` holds the checkpoints completed while it runs; `wasReady` is readiness
when the link went down. -/
structure RedSt where
  awn : Bool
  linkUp : Bool
  acc : Nat
  lastBeat : Nat
  beat : Option Beat
  bseq : Nat
  holderLease : Option Int
  synced : Bool
  resync : Bool
  resyncReq : Bool
  ck : Option CkBody
  ckLate : Bool
  segSeq : Nat
  segNext : Nat
  fullSeq : Nat
  fullNext : Nat
  waitCk : List CkBody
  lostRun : Nat
  takeReq : Bool
  hand : Option Nat
  cfgLog : List (Nat × Word)
  wasReady : Bool
  restoredAt : Option Nat
  firstFrame : Bool
  sideClash : Bool
  cfgBad : Bool
  sendFull : Bool
  sent : Option CkBody
deriving DecidableEq, Repr

/-- Nine or `n` zeros. -/
def zeros (n : Nat) : List Num := List.replicate n Num.zero

/-- The loop engine after reset. -/
def LenSt.init : LenSt where
  cyc := 0
  launch := 1600
  launched := none
  inp := ⟨zeros 9, List.replicate 10 0, List.replicate 15 0, List.replicate 15 false, zeros 6, 0⟩
  sig := ⟨zeros 3, zeros 3, zeros 3, Num.zero, [], Vec.zero, Vec.zero, Vec.zero, Vec.zero⟩
  con := ⟨Num.zero, Num.zero, Num.zero, Num.zero, [], [], zeros 4, [], List.replicate 6 false, zeros 4, []⟩
  lim := ⟨none, none, false, true, 0, 0, false, Num.zero, Num.ofInt 1, false, false⟩
  emf := ⟨0, 0, Num.ofInt 1, Num.ofInt 1, Num.zero, Num.zero, Num.zero, Num.zero, Num.zero, Num.zero, Num.zero, Num.zero,
    Num.zero, Num.zero, Num.ofInt 1, Num.zero, false, Num.zero, none, false, Num.ofInt 1⟩
  frt := ⟨0, 0, Num.zero, Num.zero, false, none, [], false, false, Num.zero, Num.zero, Num.zero, Num.zero⟩
  rs := ⟨false, false, 0, Num.zero, Num.zero, Num.zero, Num.zero, Num.zero, false, none, none, 0, 0, false⟩
  run := ⟨0, Num.zero, 0, 0, false, none, 0, 0, false, Num.zero, none, Num.zero, none, [], none, false, none, none, none, none⟩
  reg := ⟨0, 0, 0, false, 0, false, none, none, none, 0, Num.zero, Num.zero, Num.zero, false⟩
  bur := ⟨false, false, 0⟩
  ene := ⟨[], zeros 6, Num.zero, zeros 3, zeros 3, zeros 3, zeros 3, zeros 7,
    List.replicate 6 none, none, false⟩
  pend := none
  pub := none
  outerAt := 0
  sat := false
  glob := []
  old := none
  rateNew := false

/-- Winnow units and scheduler after reset. -/
def WinSt.init : WinSt := ⟨0, false, none, false, 0, false, [], [], 0, false, none, 0x0050143F, List.replicate 6 0, 0x20C800C8, 0x14, none⟩

/-- The pair after reset. -/
def RedSt.init : RedSt :=
  ⟨false, false, 0, 0, none, 0, none, false, false, false, none, false, 0, 0, 0, 0, [], 0, false, none, [], false,
    none, false, false, false, false, none⟩

/-- One output of the block, in the order made. -/
inductive Out where
  | reply (r : Reply)
  | event (q : Path) (seq lost : Nat) (recs : List EvRec)
  | msix (v : Nat)
  | pcieData (d : List Byte)
  | readData (w : Word)
  | wrote (st : Status)
  | arp (p : Nat) (mac : BitVec 48) (ip : Word)
  | icmp (p : Nat) (ip : Word) (d : List Byte)
  | mailIrq (m c : Nat)
  | blockOrder (l : Nat)
  | frameCut (l : Nat)
  | frame (l : Nat) (bytes : List Byte)
  | dark (l : Nat)
  | telegram (p : Nat) (ip : Word) (udp : Nat) (bytes : List Byte)
  | beat (bytes : List Byte)
  | segment (seg : CkSegment)
  | hostWrite (addr : Nat) (bytes : List Byte)
  | datagram (p : Nat) (ip : Word) (port src : Nat) (bytes : List Byte)
  | trigOut (o : Nat) (active : Bool)
  | pps (high : Bool)
  | pdelayReq (p seq : Nat)
  | pdelayResp (p seq : Nat) (t2 t3 : Int)
  | clkGate (gated : Bool)
  | safOut (n : Nat) (hi lo : Bool)
  | moduleReset
deriving DecidableEq, Repr

end Sys2Proof.Machine
end

