-- ==== Sys2Proof/Syntax.lean ====
section
/-!
DEFINITION. The commands of the block: one constructor per row of spec/opcode_table.json. The first operand of
each is the time, in ticks of 2.5 ns, at which the command or event falls; the last nine, which the manual puts at a
frame or outer boundary, fall at the instant that the clock has reached;
host commands carry their packet header, register rows the master that makes the access, and events the
values the surroundings supply.
-/
namespace Sys2Proof

/-- A command or event of the block. -/
inductive Instr where
  /-- PING (R376): Command that only returns an OK reply. -/
  | ping (t : Nat) (h : Hdr)
  /-- SYS_STATUS (R376): Command returning state, sub-mode, awn, fault summary, SYS_CAP, short time and firmware version. -/
  | sysStatus (t : Nat) (h : Hdr)
  /-- SYS_IDENT (R376): Command returning serial number, firmware version, running bank and hardware issue. -/
  | sysIdent (t : Nat) (h : Hdr)
  /-- EVENT_SUB (R375): Command that sets or clears the requesting path's event subscription by kind mask. -/
  | eventSub (t : Nat) (h : Hdr) (mask : Nat)
  /-- PATH_RESET (R374): Command that replies, then resets the path's master identity, subscription, reply cache and outstanding commands. -/
  | pathReset (t : Nat) (h : Hdr)
  /-- REG_READ (R377): Command reading n consecutive register words; it stops at the first failing word. -/
  | regRead (t : Nat) (h : Hdr) (addr : Nat) (n : Nat)
  /-- REG_WRITE (R377): Command writing n consecutive register words in order; it stops at the first refused word. -/
  | regWrite (t : Nat) (h : Hdr) (addr : Nat) (ws : List Word)
  /-- REG_RMW (R376): Command that atomically read-modify-writes one register under a mask and returns the old value. -/
  | regRmw (t : Nat) (h : Hdr) (addr : Nat) (mask : Word) (value : Word)
  /-- MEM_READ (R428): Command reading bytes from the SRAM or DRAM window; it stops at the first uncorrectable word with MEM_UE. -/
  | memRead (t : Nat) (h : Hdr) (addr : Nat) (len : Nat)
  /-- MEM_WRITE (R428): Command writing bytes to a memory window; it poisons partial words over uncorrectable words. -/
  | memWrite (t : Nat) (h : Hdr) (addr : Nat) (data : List Byte)
  /-- MEM_FILL (R428): Command filling an aligned range with a full-word pattern; the reply follows completion. -/
  | memFill (t : Nat) (h : Hdr) (addr : Nat) (len : Nat) (pat : BitVec 64)
  /-- MEM_FILL_DONE (R428): A running MEM_FILL completes and its reply is sent. -/
  | memFillDone (t : Nat)
  /-- PRECHARGE (R110): Mode request moving ARMED to PRECHARGE after all entry conditions are checked; the passive stage starts. -/
  | precharge (t : Nat) (h : Hdr)
  /-- START (R36): Start request in PRECHARGE that begins the two-cycle angle and magnitude estimate before deblocking into GF. -/
  | start (t : Nat) (h : Hdr)
  /-- BLACK_START (R55): Black-start request in PRECHARGE; BLACKSTART is entered at the next outer boundary. -/
  | blackStart (t : Nat) (h : Hdr)
  /-- ISLAND (R38): Island request accepted in GF; ISLAND is entered at the next outer boundary. -/
  | island (t : Nat) (h : Hdr)
  /-- RESYNC_START (R51): Resynchronise request in ISLAND that starts the resynchronisation controller. -/
  | resyncStart (t : Nat) (h : Hdr)
  /-- RESYNC_CANCEL (R54): Cancel request that stops resynchronisation and ramps the offsets to zero without an event. -/
  | resyncCancel (t : Nat) (h : Hdr)
  /-- STOP (R38): Stop request: STOPPING from a RUN sub-mode, or the end of precharge to ARMED by R59. -/
  | stop (t : Nat) (h : Hdr)
  /-- TIE_STATUS (R378): Report of the tie or AC breaker being open or closed with a past time stamp; stored and possibly acted on. -/
  | tieStatus (t : Nat) (h : Hdr) (closed : Bool) (ac : Bool) (time : Word)
  /-- RESET_TRIP (R20): Command leaving TRIPPED for ARMED, SERVICE or STANDBY_COLD once the breaker is open. -/
  | resetTrip (t : Nat) (h : Hdr) (service : Bool)
  /-- SERVICE_ENTER (R376): Command moving ARMED to SERVICE with PAIR_EN = 0. -/
  | serviceEnter (t : Nat) (h : Hdr)
  /-- SERVICE_LEAVE (R458): Command moving SERVICE to ARMED, refused while a non-redundant BIST result is FAIL. -/
  | serviceLeave (t : Nat) (h : Hdr)
  /-- SHEAF_OPEN (R345): Command that opens a sheaf handle for the requesting master. -/
  | sheafOpen (t : Nat) (h : Hdr)
  /-- SHEAF_ADD (R346): Command appending entries to an open sheaf up to the first refused entry. -/
  | sheafAdd (t : Nat) (h : Hdr) (n : Nat) (es : List SheafEntry)
  /-- SHEAF_COMMIT (R349): Command that validates a sheaf, chooses or checks its apply boundary and may start the prepare phase. -/
  | sheafCommit (t : Nat) (h : Hdr) (n : Nat) (mode : Nat) (time : Word)
  /-- SHEAF_DISCARD (R357): Command removing an open sheaf, or aborting a prepared one before B_T − 40 µs. -/
  | sheafDiscard (t : Nat) (h : Hdr) (n : Nat)
  /-- SHEAF_TIMEOUT (R347): An uncommitted open sheaf reaches OPEN_TO and is discarded. -/
  | sheafTimeout (t : Nat) (n : Nat)
  /-- PREPARE_DEADLINE (R354): At B_T − 40 µs the prepare phase succeeds, or it fails and the sheaf aborts with cancels. -/
  | prepareDeadline (t : Nat) (n : Nat)
  /-- SHEAF_APPLY (R355): At the apply boundary the sheaf is rechecked and all its entries take effect in one core clock. -/
  | sheafApply (t : Nat) (n : Nat)
  /-- BYPASS (R229): Cell command that sets the cell FAULTED with cause COMMAND and commands its bypass. -/
  | bypass (t : Nat) (h : Hdr) (cell : Nat)
  /-- RESTORE (R229): Cell command returning a BYPASSED cell whose bypass is open to ABSENT, followed by re-enrolment. -/
  | restore (t : Nat) (h : Hdr) (cell : Nat)
  /-- RELEASE (R229): Cell command releasing a QUARANTINED cell to ABSENT, re-enrolling it and resetting its attempt count. -/
  | release (t : Nat) (h : Hdr) (cell : Nat)
  /-- CELL_TXN (R379): Command passing one READ, WRITE or DIAG transaction through to a CGT; the reply waits for the response. -/
  | cellTxn (t : Nat) (h : Hdr) (link : Nat) (slot : Nat) (op : Nat) (addr : Word) (data : List Byte)
  /-- LINK_BLOCK (R189): Command or LNK_BLKCMD write that sends a block order on one link or on every UP link. -/
  | linkBlock (t : Nat) (h : Hdr) (link : Nat) (all : Bool)
  /-- REC_STATUS (R376): Command returning recorder status, fill, write offset and gap totals. -/
  | recStatus (t : Nat) (h : Hdr)
  /-- SAF_CONFIG_WRITE (R413): Command delivering a 128-byte safety configuration image to both lanes as the pending image. -/
  | safConfigWrite (t : Nat) (h : Hdr) (img : List Byte)
  /-- SAF_CONFIG_CONFIRM (R413): Command by which one lane confirms the pending image's CRC; the image is adopted when both lanes have confirmed. -/
  | safConfigConfirm (t : Nat) (h : Hdr) (lane : Nat) (crc : Word)
  /-- SAF_STATUS (R414): Command returning the safety status, cause, input, output and CRC registers. -/
  | safStatus (t : Nat) (h : Hdr)
  /-- SAF_RESET (R404): Command releasing SF1 when RESET_OK = 1. -/
  | safReset (t : Nat) (h : Hdr)
  /-- PAIR_CLAIM (R327): Command in STANDBY_COLD that claims the awn, enters ARMED and starts the partner's full resynchronisation. -/
  | pairClaim (t : Nat) (h : Hdr)
  /-- PAIR_SWITCHOVER (R337): Command starting a deliberate handover of the awn to a ready standby. -/
  | pairSwitchover (t : Nat) (h : Hdr)
  /-- PAIR_RESYNC (R330): Command on a standby that sets RESYNC_REQ for a full resynchronisation. -/
  | pairResync (t : Nat) (h : Hdr)
  /-- TIME_GET (R376): Command returning station time in wire form and TIM_STAT. -/
  | timeGet (t : Nat) (h : Hdr)
  /-- TIME_STEP_ABS (R304): TIME_STEP command of form ABS that schedules S to be set to a given time. -/
  | timeStepAbs (t : Nat) (h : Hdr) (sec : Nat) (ns : Nat) (frac : Nat)
  /-- TIME_STEP_REL (R304): TIME_STEP command of form REL that schedules S to move by a signed amount. -/
  | timeStepRel (t : Nat) (h : Hdr) (amount : Int)
  /-- TIME_STEP_TO_REF (R304): TIME_STEP command of form TO_REF that schedules S := T_sel with Δ := 0. -/
  | timeStepToRef (t : Nat) (h : Hdr)
  /-- BIST_RUN (R457): Command or BST_RUN write that starts a self-test run over a unit mask. -/
  | bistRun (t : Nat) (h : Hdr) (mask : Word)
  /-- BIST_COMPLETE (R458): A BIST run ends; the unit results are recorded and the run's reply is sent. -/
  | bistComplete (t : Nat) (res : List BistRes)
  /-- BIST_RESULT (R459): Command returning BST_DONE and each unit's signature, reference and detail. -/
  | bistResult (t : Nat) (h : Hdr) (mask : Word)
  /-- FAULT_ACK (R451): Command or FLT_ACK write that acknowledges the fault classes in a mask. -/
  | faultAck (t : Nat) (h : Hdr) (mask : Nat)
  /-- FAULT_LOG_READ (R459): Command returning fault log entries. -/
  | faultLogRead (t : Nat) (h : Hdr) (first : Nat) (count : Nat)
  /-- FACTORY_ENTER (R454): Factory command from master 13 entering FACTORY_TEST from INIT or SERVICE. -/
  | factoryEnter (t : Nat) (h : Hdr)
  /-- FAULT_INJECT (R455): Factory operation that raises a given fault at its base level. -/
  | faultInject (t : Nat) (h : Hdr) (code : Nat) (addr : Word)
  /-- MEM_INJECT (R455): Factory operation inverting one or two stored bits of a memory word. -/
  | memInject (t : Nat) (h : Hdr) (addr : Nat) (a : Nat) (b : Option Nat)
  /-- LINK_INJECT (R455): Factory operation that corrupts or rejects the next frames of a link under a chosen cause. -/
  | linkInject (t : Nat) (h : Hdr) (link : Nat) (cause : Nat) (count : Nat) (up : Bool)
  /-- INJ_CLEAR (R455): Factory operation cancelling pending link injections. -/
  | injClear (t : Nat) (h : Hdr)
  /-- FACTORY_LEAVE (R455): Factory operation that replies and then resets the whole module. -/
  | factoryLeave (t : Nat) (h : Hdr)
  /-- PCIE_MEM_READ (R362): PCIe memory read through a BAR, made as master 7. -/
  | pcieMemRead (t : Nat) (bar : Nat) (off : Nat) (len : Nat)
  /-- PCIE_MEM_WRITE (R362): PCIe memory write through a BAR, made as master 7. -/
  | pcieMemWrite (t : Nat) (bar : Nat) (off : Nat) (data : List Byte)
  /-- ARP_REQUEST (R364): ARP request on a port, answered for the module's own address. -/
  | arpRequest (t : Nat) (p : Nat) (ip : Word)
  /-- ICMP_ECHO (R364): ICMP echo request answered on the module's own address. -/
  | icmpEcho (t : Nat) (p : Nat) (ip : Word) (data : List Byte)
  /-- REASSEMBLY_TIMEOUT (R364): An IPv4 reassembly still incomplete after 20 ms is discarded. -/
  | reassemblyTimeout (t : Nat) (p : Nat) (ident : Nat)
  /-- CQ_TAIL_WRITE (R363): Host write of NET_CQTAIL that hands new command slots to the module. -/
  | cqTailWrite (t : Nat) (m : Master) (v : Word) (slots : List (List Byte))
  /-- REPLY_RING_ROOM (R363): Host advance of NET_RQHEAD that frees room for a waiting reply or event packet. -/
  | replyRingRoom (t : Nat) (m : Master) (v : Word)
  /-- REPLY_CACHE_EXPIRY (R370): A reply cache entry leaves the cache 60 s after its reply. -/
  | replyCacheExpiry (t : Nat) (q : Path)
  /-- EVENT (R375): An event packet is sent on a subscribed path when 64 records are pending or 1 ms after the oldest one. -/
  | event (t : Nat) (q : Path)
  /-- PCIE_RESET (R374): PCIe hot reset, function-level reset or link down resets master 7. -/
  | pcieReset (t : Nat)
  /-- PORT_LINK_DOWN (R374): A station or service port stays link-down for more than 1 s and its master identity is reset. -/
  | portLinkDown (t : Nat) (p : Nat)
  /-- CORE_RESET (R374): Reset of a core or lane, for example after an uncorrectable instruction fetch; its mailboxes are cleaned up. -/
  | coreReset (t : Nat) (m : Master) (fetch : Option Nat)
  /-- MBX_SEND (R382): Write of MBX_SENDc that queues a message on a channel and sets its doorbell. -/
  | mbxSend (t : Nat) (m : Master) (c : Nat) (v : Word)
  /-- MBX_ACK (R382): Write of MBX_ACKc that removes the oldest message and sets the sender's notice. -/
  | mbxAck (t : Nat) (m : Master) (c : Nat) (v : Word)
  /-- MBX_DBELL_CLEAR (R382): Receiver's W1C write clearing doorbell bits; a write by anyone else is ignored and logged. -/
  | mbxDbellClear (t : Nat) (m : Master) (v : Word)
  /-- MBX_NOTE_CLEAR (R382): Sender's W1C write clearing notice bits, which also clears ACKED and ABORTED. -/
  | mbxNoteClear (t : Nat) (m : Master) (v : Word)
  /-- MBX_LOCK (R381): Setting MBX_CTRL.LOCK makes the binding table read-only until reset. -/
  | mbxLock (t : Nat) (m : Master) (v : Word)
  /-- MB_CROSS (R384): Both channels of a pair have stayed non-empty past CROSS_TO; a crossing episode starts. -/
  | mbCross (t : Nat) (a : Nat) (b : Nat)
  /-- CRC_CFG_WRITE (R435): Write of CRC_CFGu that loads INIT into VAL and clears the alive state. -/
  | crcCfgWrite (t : Nat) (m : Master) (u : Nat) (v : Word)
  /-- CRC_DATAB (R436): Byte write that feeds one byte into the running CRC value. -/
  | crcDatab (t : Nat) (m : Master) (u : Nat) (v : Word)
  /-- CRC_DATAW (R436): Word write that feeds four bytes, low byte first. -/
  | crcDataw (t : Nat) (m : Master) (u : Nat) (v : Word)
  /-- CRC_DATAD (R436): Word write that feeds four bytes, high byte first. -/
  | crcDatad (t : Nat) (m : Master) (u : Nat) (v : Word)
  /-- CRC_VALH_WRITE (R437): Write of CRC_VALHu that stages the high half of VAL. -/
  | crcValhWrite (t : Nat) (m : Master) (u : Nat) (v : Word)
  /-- CRC_VALL_WRITE (R437): Write of CRC_VALLu that loads both halves of VAL. -/
  | crcVallWrite (t : Nat) (m : Master) (u : Nat) (v : Word)
  /-- CRC_VALL_READ (R437): Read of CRC_VALLu that takes a snapshot of VAL for CRC_VALHu. -/
  | crcVallRead (t : Nat) (m : Master) (u : Nat)
  /-- CRC_ALIVE (R438): Write of an alive counter that folds it into VAL and checks it for repeat or skip. -/
  | crcAlive (t : Nat) (m : Master) (u : Nat) (v : Word)
  /-- CRC_CLAIM (R439): Write of HELD = 1 that claims a free check unit for the writer. -/
  | crcClaim (t : Nat) (m : Master) (u : Nat) (v : Word)
  /-- CRC_RELEASE (R439): Write of HELD = 0 by the owner that releases a check unit. -/
  | crcRelease (t : Nat) (m : Master) (u : Nat) (v : Word)
  /-- MEM_RETIRE (R432): Write of MEM_RETIRE that starts moving a DRAM page or SRAM row to a spare. -/
  | memRetire (t : Nat) (m : Master) (v : Word)
  /-- RETIREMENT_COPY_DONE (R432): The retirement copy finishes; accesses switch to the spare and the table entry is made. -/
  | retirementCopyDone (t : Nat)
  /-- GLEAN_WORD (R430): The scrubber checks one word, corrects and writes it back or logs an uncorrectable error. -/
  | gleanWord (t : Nat) (dram : Bool)
  /-- HARDWARE_FILL_DONE (R422): The zero fill of all on-chip memories completes after reset release and the supervisor is released. -/
  | hardwareFillDone (t : Nat)
  /-- SAMPLE_SNAPSHOT (R253): Read of the first word of FIL_NOUTn or FIL_POUTk that snapshots one sample for the other words. -/
  | sampleSnapshot (t : Nat) (m : Master) (priv : Bool) (n : Nat)
  /-- RESULT_SNAPSHOT (R269): Read of word 0 of a metering result record that takes a snapshot. -/
  | resultSnapshot (t : Nat) (m : Master) (inj : Bool) (c : Nat)
  /-- NOW_SNAPSHOT (R316): Read of TIM_NOWTL that snapshots station time for the other time registers. -/
  | nowSnapshot (t : Nat) (m : Master)
  /-- LOG_SNAPSHOT (R461): Read of word 0 of FLT_LOGj that snapshots the entry. -/
  | logSnapshot (t : Nat) (m : Master) (j : Nat)
  /-- REGISTER_WRITE (R9): Write to a register that has no row of its own, checked against access type, range, state and lock rules. -/
  | registerWrite (t : Nat) (m : Master) (addr : Nat) (v : Word)
  /-- LEN_FB_WRITE (R71): Write of LEN_FB that accepts 50 or 60 Hz and also sets F_SET. -/
  | lenFbWrite (t : Nat) (m : Master) (v : Word)
  /-- BANK_OPEN (R93): Write of LEN_BANKCTL with OPEN = 1 that opens a non-active bank for direct writes. -/
  | bankOpen (t : Nat) (m : Master) (v : Word)
  /-- BANK_CLOSE (R93): Write of OPEN = 0 that closes the open bank. -/
  | bankClose (t : Nat) (m : Master) (v : Word)
  /-- TCOMP_CLEAR (R102): Write of LEN_TCCLR.CLR that clears LEN_TCOMP.MAX. -/
  | tcompClear (t : Nat) (m : Master) (v : Word)
  /-- DEF_CLEAR (R132): Write of WIN_CNTCLR.DEF that clears the deficit counters. -/
  | defClear (t : Nat) (m : Master) (v : Word)
  /-- SW_CLEAR (R132): Write of WIN_CNTCLR.SW that clears the switching counters. -/
  | swClear (t : Nat) (m : Master) (v : Word)
  /-- QLIM_CLEAR (R174): Write of FSC_CNTCLR.QLIM that clears FSC_QLIMCNT. -/
  | qlimClear (t : Nat) (m : Master) (v : Word)
  /-- REJ_CLEAR (R174): Write of FSC_CNTCLR.REJ that clears FSC_REJCNT. -/
  | rejClear (t : Nat) (m : Master) (v : Word)
  /-- CHAFF_CLEAR (R210): Write of LNK_CNTCLR.CHAFF that clears the chaff counters of all links. -/
  | chaffClear (t : Nat) (m : Master) (v : Word)
  /-- OTHER_CLEAR (R210): Write of LNK_CNTCLR.OTHER that clears the transaction timeout and gap counters. -/
  | otherClear (t : Nat) (m : Master) (v : Word)
  /-- GAP_CLEAR (R289): Write of REC_CNTCLR.GAP that clears the gap totals. -/
  | gapClear (t : Nat) (m : Master) (v : Word)
  /-- MARK_CLEAR (R289): Write of REC_CNTCLR.MARK that clears REC_MARKLOST and the trigger counts. -/
  | markClear (t : Nat) (m : Master) (v : Word)
  /-- SHF_COUNT_CLEAR (R360): Write of SHF_CNTCLR that clears the sheaf commit and abort counters. -/
  | shfCountClear (t : Nat) (m : Master) (v : Word)
  /-- CKLOST_CLEAR (R340): Write of RED_CNTCLR.CKLOST that clears RED_CKLOST. -/
  | cklostClear (t : Nat) (m : Master) (v : Word)
  /-- TAKE_CLEAR (R340): Write of RED_CNTCLR.TAKE that clears RED_TAKECNT. -/
  | takeClear (t : Nat) (m : Master) (v : Word)
  /-- SIZE_CLEAR (R340): Write of RED_CNTCLR.SIZE that clears RED_CKSIZE.MAX. -/
  | sizeClear (t : Nat) (m : Master) (v : Word)
  /-- MEM_COUNT_CLEAR (R442): Write of MEM_CNTCLR that clears the error counters. -/
  | memCountClear (t : Nat) (m : Master) (v : Word)
  /-- SAF_COUNT_CLEAR (R418): Write of SAF_CNTCLR that clears the telegram error counters. -/
  | safCountClear (t : Nat) (m : Master) (v : Word)
  /-- NET_COUNT_CLEAR (R390): Write of NET_CNTCLR that clears the drop, busy and duplicate counters. -/
  | netCountClear (t : Nat) (m : Master) (v : Word)
  /-- VIOL_CLEAR (R461): Write of FLT_CNTCLR.VIOL that clears FLT_VIOLDROP. -/
  | violClear (t : Nat) (m : Master) (v : Word)
  /-- INJECTION_GO (R455): Write of FLT_INJCTRL.GO that performs the injection held in the injection registers. -/
  | injectionGo (t : Nat) (m : Master) (v : Word)
  /-- SF1_REQ (R403): Write of SAF_CTRL.SF1_REQ that requests SF1 with cause 5. -/
  | sf1Req (t : Nat) (m : Master) (v : Word)
  /-- TRIAL (R470): Write of PWR_FWCTRL.TRIAL that arms a single trial boot of the other bank. -/
  | trial (t : Nat) (m : Master) (v : Word)
  /-- COMMIT (R470): Write of COMMIT during a trial boot that makes the running bank preferred. -/
  | commit (t : Nat) (m : Master) (v : Word)
  /-- PROG (R471): Write of PROG that verifies a source image and starts programming the other bank. -/
  | prog (t : Nat) (m : Master) (v : Word)
  /-- PROGRAMMING_DONE (R471): A programming run ends after read-back verification and records PROG_STATUS. -/
  | programmingDone (t : Nat) (ok : Bool)
  /-- LINK_RELEASE (R206): Write of LNK_LCTRLl.RELEASE that releases a link from quarantine and resets its attempt count. -/
  | linkRelease (t : Nat) (m : Master) (l : Nat) (v : Word)
  /-- RETRAIN (R200): Write of LNK_LCTRLl.RETRAIN that returns a link to TRAIN. -/
  | retrain (t : Nat) (m : Master) (l : Nat) (v : Word)
  /-- LINK_ENABLE_WRITE (R210): Write of LNK_LCTRLl.EN; 0 darkens the transmitter and takes the link DOWN. -/
  | linkEnableWrite (t : Nat) (m : Master) (l : Nat) (v : Word)
  /-- HRD_WRITE (R279): Host write of REC_HRD that frees host ring space. -/
  | hrdWrite (t : Nat) (m : Master) (v : Word)
  /-- SEQUENCE_START (R264): Write of MAD_CTRL.RUN = 1 that starts the regular metering sequence at entry 0. -/
  | sequenceStart (t : Nat) (m : Master) (v : Word)
  /-- SEQUENCE_STOP (R264): Write of RUN = 0 that stops the sequence and discards a regular conversion in progress. -/
  | sequenceStop (t : Nat) (m : Master) (v : Word)
  /-- INJECTED_REQUEST (R265): Write of MAD_INJ.REQ that queues an injected conversion. -/
  | injectedRequest (t : Nat) (m : Master) (v : Word)
  /-- CALIBRATION_REQUEST (R266): Write of MAD_CALREQ.REQ that queues calibration of the gains in GMASK. -/
  | calibrationRequest (t : Nat) (m : Master) (v : Word)
  /-- SYNC_CROSSING (R261): SYNC_AC crossing accepted, stamped, and made a conversion boundary. -/
  | syncCrossing (t : Nat)
  /-- TIMER_MODE (R262): No accepted crossing for 25 ms; timer mode starts and the instant is a boundary. -/
  | timerMode (t : Nat)
  /-- TIMER_TICK (R262): A 20 ms timer tick in timer mode is a conversion boundary. -/
  | timerTick (t : Nat)
  /-- CONVERSION_RESULT (R263): A rundown ends and the metering result or calibration phase result is delivered. -/
  | conversionResult (t : Nat) (raw : Int) (exc : Option Bool)
  /-- CHANNEL_START (R250): Write of a FIL_NRUN bit to 1 that schedules a normal channel start. -/
  | channelStart (t : Nat) (m : Master) (v : Word)
  /-- CHANNEL_STOP (R250): Write of a FIL_NRUN bit to 0 that stops a channel at once or cancels its pending start. -/
  | channelStop (t : Nat) (m : Master) (v : Word)
  /-- PRIV_ENGINE_START (R250): Write of FIL_PCTRL.RUN = 1 that schedules the privileged engine start. -/
  | privEngineStart (t : Nat) (m : Master) (v : Word)
  /-- PRIV_ENGINE_STOP (R250): Write of FIL_PCTRL.RUN = 0 that stops the privileged engine. -/
  | privEngineStop (t : Nat) (m : Master) (v : Word)
  /-- PRIV_SAMPLE_SET (R245): A privileged sinc2 output set P0–P5 is delivered with its stamp and flags. -/
  | privSampleSet (t : Nat) (bits : List (BitVec 16))
  /-- NORMAL_SAMPLE (R248): A normal channel delivers an output sample with its stamp and flags. -/
  | normalSample (t : Nat) (n : Nat) (bits : List Bool)
  /-- INPUT_STUCK (R254): An input shows no transition for STUCK_N clock periods and enters the stuck state. -/
  | inputStuck (t : Nat) (i : Nat)
  /-- INPUT_RECOVERED (R254): A stuck input has shown transitions for 1 ms and its fault may be raised again. -/
  | inputRecovered (t : Nat) (i : Nat)
  /-- FRAME_BOUNDARY (R64): Link frame boundary: sorts start, cell states are evaluated and beats are sent. -/
  | frameBoundary (t : Nat) (ue : List Nat)
  /-- SORT_COMPLETE (R118): One arm's sort completes 2.05 µs after starting and becomes the newest sort. -/
  | sortComplete (t : Nat) (a : Nat)
  /-- INNER_CYCLE (R64): An inner loop cycle launches at PHASE after a frame boundary using the newest privileged sample set. -/
  | innerCycle (t : Nat) (ue : List Nat)
  /-- INPUT_STALE (R73): An input has delivered no settled sample for 10 inner cycles. -/
  | inputStale (t : Nat) (k : Nat)
  /-- PUBLICATION (R97): The inner cycle's computation completes and the arm references are published. -/
  | publication (t : Nat)
  /-- OUTER_BOUNDARY (R89): Outer boundary every 100 µs: apply, sub-mode decision, burst decision, region evaluation and outer control laws. -/
  | outerBoundary (t : Nat) (ue : List Nat)
  /-- RESYNC_PERMIT_ON (R52): The close-permit conditions have held for T_PERM. -/
  | resyncPermitOn (t : Nat)
  /-- CLOSURE_DETECTED (R53): VBUS and VTIE have matched within 0.01 pu for 20 ms under permit and GF is entered. -/
  | closureDetected (t : Nat)
  /-- RESYNC_TIMEOUT (R54): No closure within RS_TIMEOUT; the controller stops and the offsets ramp out. -/
  | resyncTimeout (t : Nat)
  /-- EPISODE_END (R31): The current sum has stayed at or below 1.0 pu for 20 ms and the limiting episode ends. -/
  | episodeEnd (t : Nat)
  /-- PEAK_STAGE_END (R31): T_PK elapses and the limit drops to I_OL. -/
  | peakStageEnd (t : Nat)
  /-- LIMIT_BUDGET_EXHAUSTED (R32): The overload budget reaches zero and the limit drops to 1.0 pu. -/
  | limitBudgetExhausted (t : Nat)
  /-- PEAK_REARM (R33): The sum has stayed at or below 1.0 pu for 200 ms and the peak stage is re-armed. -/
  | peakRearm (t : Nat)
  /-- STOP_TIMEOUT (R58): T_STOP elapses in STOPPING and the module blocks and enters ARMED. -/
  | stopTimeout (t : Nat)
  /-- DC_GUARD_END (R61): V_dc has been back in band for 100 ms and the guard addition is blended out. -/
  | dcGuardEnd (t : Nat)
  /-- DWELL_END (R88): DWELL outer periods have passed since a region change and evaluation resumes. -/
  | dwellEnd (t : Nat)
  /-- BLEND_END (R91): The T_BLEND ramp completes and BLEND clears. -/
  | blendEnd (t : Nat)
  /-- BURST_FORCED_EXIT (R474): Burst elapsed time reaches T_b, or limits are exceeded, forcing a return to the normal rate. -/
  | burstForcedExit (t : Nat)
  /-- BURST_AVAIL (R473): 60 s at the normal rate have passed since the last burst. -/
  | burstAvail (t : Nat)
  /-- ENERGY_DEVIATION (R109): An arm's energy has stayed outside its band for 100 ms in RUN. -/
  | energyDeviation (t : Nat)
  /-- ENERGY_READY (R111): The ready conditions have held for WIN_READY.HOLD ms. -/
  | energyReady (t : Nat)
  /-- STALE_EXCL (R120): A cell's telemetry has been stale for STALE_LIM frames and the cell is excluded. -/
  | staleExcl (t : Nat) (i : Nat)
  /-- REST_DUE (R127): A BS cell's insertion count reaches t_bs_max − REST_WIN. -/
  | restDue (t : Nat) (i : Nat)
  /-- FORCED_REST (R127): A deferred rest reaches its last window and starts whatever the margin. -/
  | forcedRest (t : Nat) (i : Nat)
  /-- REST_END (R127): A rest of t_refresh ends and the cell is eligible again. -/
  | restEnd (t : Nat) (i : Nat)
  /-- DEFICIT_EPISODE_END (R128): No arm has had a deficit rest for 100 ms. -/
  | deficitEpisodeEnd (t : Nat)
  /-- FIXED_REST (R117): A BS cell in FIXED mode reaches t_bs_max and rests. -/
  | fixedRest (t : Nat) (i : Nat)
  /-- DOWNLINK_FRAME (R178): An EDGE or LISTEN frame is built and sent on a link. -/
  | downlinkFrame (t : Nat) (l : Nat) (ue : List Nat)
  /-- LOAD_BOUNDARY (R165): Shadowed period, N, on-time and duty load at a carrier load boundary. -/
  | loadBoundary (t : Nat) (a : Nat)
  /-- UPLINK_FRAME (R203): An uplink frame is received, judged against the chaff tests and its telemetry used. -/
  | uplinkFrame (t : Nat) (l : Nat) (portErr : Bool) (sof : Nat) (bytes : List Byte) (ue : Bool)
  /-- TXN_RESPONSE (R197): A transaction response from a CGT arrives and completes its request. -/
  | txnResponse (t : Nat) (l : Nat) (tid : Nat) (result : Nat) (data : List Byte)
  /-- TXN_TIMEOUT (R197): A transaction request times out. -/
  | txnTimeout (t : Nat) (l : Nat) (tid : Nat)
  /-- LINK_TRAIN (R200): 128 valid characters with enough K28.5 received; the link enters TRAIN. -/
  | linkTrain (t : Nat) (l : Nat)
  /-- TRAIN_FAIL (R200): A link has not reached UP within 50 ms of entering TRAIN. -/
  | trainFail (t : Nat) (l : Nat)
  /-- IDENTITY_RETRY (R200): The identity check is retried every 1 s after a mismatch. -/
  | identityRetry (t : Nat) (l : Nat)
  /-- CODE_ERRORS (R200): Four consecutive code errors outside frames take an UP link DOWN. -/
  | codeErrors (t : Nat) (l : Nat)
  /-- LOSS_OF_LIGHT (R200): No valid character for 1 µs takes the link DOWN. -/
  | lossOfLight (t : Nat) (l : Nat)
  /-- REENROL (R206): REENROL_S after quarantine, an automatic re-enrolment attempt starts. -/
  | reenrol (t : Nat) (l : Nat) (cell : Option Nat)
  /-- LANE_MARGIN (R209): Optical margin has stayed below threshold for 10 s. -/
  | laneMargin (t : Nat) (l : Nat) (pwr : BitVec 8) (margin : Nat)
  /-- ARM_OVERCURRENT (R224): An arm comparator operates and the arm is blocked with block orders. -/
  | armOvercurrent (t : Nat) (a : Nat) (bits : BitVec 32)
  /-- ARM_DEBLOCK (R225): After T_REL, with the current below release level for a frame, the arm deblocks. -/
  | armDeblock (t : Nat) (a : Nat)
  /-- OVERCURRENT_PERSIST (R225): An arm is still blocked 2 ms after its blocking crossing. -/
  | overcurrentPersist (t : Nat) (a : Nat)
  /-- BYPASS_FAIL (R221): No bypass confirmation within T_CONF. -/
  | bypassFail (t : Nat) (i : Nat)
  /-- UNIT_CLOSE (R278): A recorder unit closes when full or 1 ms after its first record. -/
  | unitClose (t : Nat)
  /-- HOST_COPY (R279): A closed unit is copied to the host ring or sent as datagrams and REC_HWR advances. -/
  | hostCopy (t : Nat) (ue : Bool)
  /-- GAP (R281): 4 MiB has become free after loss and a GAP record is written. -/
  | gap (t : Nat)
  /-- TIME_RECORD (R276): A TIME record is written every 400,000 ticks. -/
  | timeRecord (t : Nat)
  /-- TRIG_IN_EDGE (R284): An edge on TRIG_IN fires a trigger unit. -/
  | trigInEdge (t : Nat) (n : Nat) (rising : Bool)
  /-- XTRIG_ASSERT (R284): An assertion of XTRIG fires a trigger unit. -/
  | xtrigAssert (t : Nat)
  /-- HOLD_OFF_END (R283): An AUTO-mode unit's hold-off ends. -/
  | holdOffEnd (t : Nat) (u : Nat)
  /-- PULSE_END (R287): A trigger output pulse of PW µs ends. -/
  | pulseEnd (t : Nat) (o : Nat)
  /-- BEAT_RECEIVED (R322): A beat from the partner is accepted. -/
  | beatReceived (t : Nat) (bytes : List Byte) (rxAt : Nat)
  /-- PAIR_LINK_DOWN (R323): No beat for 32 µs; the pair link is down. -/
  | pairLinkDown (t : Nat)
  /-- CHECKPOINT_SEGMENT (R329): A checkpoint or resync segment arrives; a complete one is applied. -/
  | checkpointSegment (t : Nat) (seg : CkSegment) (ue : Bool)
  /-- TAKEOVER (R333): Conditions met, the standby claims the awn and restores the checkpoint. -/
  | takeover (t : Nat)
  /-- HANDOVER_CLAIM (R337): The standby claims epoch + 1 at B_c + 100 µs. -/
  | handoverClaim (t : Nat)
  /-- HANDOVER_ABORT (R337): No confirmation by B_c + 130 µs; the old holder reclaims. -/
  | handoverAbort (t : Nat)
  /-- LANE_CYCLE (R391): The 250 µs safety lane cycle evaluates inputs and functions. -/
  | laneCycle (t : Nat) (io : LaneInputs)
  /-- RESET_INPUT (R399): Release of a RESET input after 100 ms to 5 s acts as SAF_RESET. -/
  | resetInput (t : Nat) (n : Nat)
  /-- DARK_TEST (R401): A scheduled dark test opens one output switch. -/
  | darkTest (t : Nat) (n : Nat) (low : Bool)
  /-- DARK_TEST_RESULT (R401): The dark test ends and the readback is judged. -/
  | darkTestResult (t : Nat) (n : Nat) (low : Bool) (fell : Bool)
  /-- ACCESS_DELAY (R400): SF1 with breaker open has held for ACCESS_DELAY and ACCESS outputs turn on. -/
  | accessDelay (t : Nat)
  /-- TELEGRAM_SEND (R408): A safety telegram is sent on both ports every SEND_PERIOD or at once on a TRIP change. -/
  | telegramSend (t : Nat)
  /-- TELEGRAM_COPY (R409): A received telegram copy is validated and opens or fills a comparison window. -/
  | telegramCopy (t : Nat) (p : Nat) (ip : Word) (udp : Nat) (bytes : List Byte)
  /-- WINDOW_CLOSE (R410): A comparison window closes and the telegram is accepted or rejected. -/
  | windowClose (t : Nat) (alive : Nat)
  /-- TELEGRAM_TIMEOUT (R411): No telegram accepted for 40 ms. -/
  | telegramTimeout (t : Nat)
  /-- CONFIG_TIMEOUT (R413): A pending safety image is not confirmed within 600 s and is discarded. -/
  | configTimeout (t : Nat)
  /-- IO_SUPPLY_LOSS (R483): 24V_IO falls below 19 V for 1 ms. -/
  | ioSupplyLoss (t : Nat)
  /-- OUTPUT_CURRENT_LIMIT (R485): An output stays in current limit for 5 ms and is switched off. -/
  | outputCurrentLimit (t : Nat) (n : Nat)
  /-- OCXO_FAIL (R392): The lanes detect OCXO failure and execute SF1. -/
  | ocxoFail (t : Nat)
  /-- SYNC_MSG (R297): A PTP Sync (with Follow_Up) yields an offset that steers or corrects a domain. -/
  | syncMsg (t : Nat) (d : Nat) (msg : PtpSync)
  /-- FOLLOW_UP (R295): A PTP Follow_Up message completes a two-step Sync. -/
  | followUp (t : Nat) (d : Nat) (seq : Nat) (origin : Int)
  /-- ANNOUNCE (R295): A PTP Announce message feeds master qualification and the BMCA. -/
  | announce (t : Nat) (p : Nat) (ann : PtpAnnounce)
  /-- PDELAY_REQ (R295): A received Pdelay_Req is answered with a two-step response. -/
  | pdelayReq (t : Nat) (p : Nat) (seq : Nat) (rx : Int)
  /-- PDELAY_RESP (R296): A Pdelay response completes a peer delay measurement. -/
  | pdelayResp (t : Nat) (p : Nat) (t1 : Int) (t2 : Int) (t3 : Int) (t4 : Int)
  /-- SYNC_TIMEOUT (R297): No Sync for three intervals, or announce timeout; the domain enters HOLDOVER. -/
  | syncTimeout (t : Nat) (d : Nat)
  /-- REVERT (R298): D0 has been LOCKED for REVERT_S and selection returns to it. -/
  | revert (t : Nat)
  /-- HOLDOVER_LIMIT (R300): Holdover has lasted HO_MAX. -/
  | holdoverLimit (t : Nat)
  /-- TIME_SET (R303): At first lock, or once the loop engine stops, S is set to T_sel. -/
  | timeSet (t : Nat)
  /-- TIM_OFFSET_WRITE (R301): Host write of a domain offset, absorbed into Δ when selected. -/
  | timOffsetWrite (t : Nat) (m : Master) (addr : Nat) (v : Word)
  /-- PAIR_TIME (R306): The follower's difference exceeds 50 ns for 1 s. -/
  | pairTime (t : Nat)
  /-- PPS_IN_EDGE (R307): A PPS_IN rising edge is stamped. -/
  | ppsInEdge (t : Nat)
  /-- PPSIN_LOSS (R307): No PPS_IN edge within 1.1 s. -/
  | ppsinLoss (t : Nat)
  /-- PPS_OUT (R307): PPS_OUT rises as S passes a whole second. -/
  | ppsOut (t : Nat)
  /-- SYSPLL_LOSS (R308): The system PLL loses lock and logic switches to the OCXO backup. -/
  | syspllLoss (t : Nat)
  /-- N_APPLY (R309): Write of CLK_NFRAC that applies a new VCO multiplier. -/
  | nApply (t : Nat) (m : Master) (v : Word)
  /-- SPLL_ENABLE (R310): Write of CLK_CTRL enabling the station PLL or changing REFSEL, which starts a lock. -/
  | spllEnable (t : Nat) (m : Master) (v : Word)
  /-- STATION_PLL_LOCK (R310): The station PLL locks using a valid band entry. -/
  | stationPllLock (t : Nat)
  /-- OUTPUT_RELEASE (R311): After lock and 64 settled cycles the clock outputs are released. -/
  | outputRelease (t : Nat)
  /-- SPLL_UNLOCK (R311): The station PLL loses lock with a good reference. -/
  | spllUnlock (t : Nat)
  /-- REF_LOSS (R311): The reference is lost and the outputs are gated. -/
  | refLoss (t : Nat)
  /-- LEG_GOOD (R463): A leg has been in range for 20 ms and becomes GOOD. -/
  | legGood (t : Nat) (leg : Leg) (mv : Nat)
  /-- LEG_LOST (R464): A leg has been below 33 V for 1 ms. -/
  | legLost (t : Nat) (leg : Leg) (mv : Nat)
  /-- LEG_OV (R464): A leg has been above 76 V for 1 ms. -/
  | legOv (t : Nat) (leg : Leg) (mv : Nat)
  /-- HOLDUP_LOW (R466): The hold-up store falls to its last 2 ms level. -/
  | holdupLow (t : Nat)
  /-- POWER_GOOD_LOST (R466): Hold-up ends and the module goes OFF. -/
  | powerGoodLost (t : Nat)
  /-- STORE_FULL (R501): The hold-up store becomes fully charged. -/
  | storeFull (t : Nat)
  /-- RESET_RELEASE (R468): 1 ms after power good, reset releases and straps are sampled. -/
  | resetRelease (t : Nat) (slotId : Nat) (factory : Bool)
  /-- BOOT_VERIFIED (R469): The boot ROM verifies a firmware bank and starts it in INIT. -/
  | bootVerified (t : Nat) (okA : Bool) (okB : Bool)
  /-- INIT_END (R468): INIT completes and the module claims the awn into ARMED or enters STANDBY_COLD. -/
  | initEnd (t : Nat)
  /-- TEMP_SAMPLE (R472): Inlet and junction temperatures are measured every 10 ms and judged. -/
  | tempSample (t : Nat) (inlet : Int) (junc : Int)
  /-- UNDEFINED_OPCODE (R368): A command packet arrives whose opcode is not defined, or is module-sent, or that fails its length or CRC check; it is dropped or answered BAD_OPCODE and logged. -/
  | undefinedOpcode (t : Nat) (q : Path) (bytes : List Byte)
  /-- TIME_STEP (R305): A checked step takes effect at the next frame boundary of the old grid; filters restart and TIME and CONTENT records are written. -/
  | timeStep
  /-- FILTER_START (R250): Pending channel starts take effect together at the next frame boundary. -/
  | filterStart
  /-- DEBLOCK (R37): The start estimate over two cycles completes and the module deblocks into GF. -/
  | deblock
  /-- FRT_EXIT (R46): T_HOLD expires after voltage recovery and the module returns to GF. -/
  | frtExit
  /-- FRT_TIMEOUT (R48): T_MAX is reached in FRT and the module stops or trips per TIMEOUT_ACTION. -/
  | frtTimeout
  /-- AUTO_ISLANDING (R50): The frequency deviation has exceeded F_ISL for T_ISL with ISL_AUTO set. -/
  | autoIslanding
  /-- BLACKSTART_DONE (R57): V1 has stayed within ±0.02 pu of BS_VT for 100 ms and GF is entered. -/
  | blackstartDone
  /-- BLACKSTART_FAIL (R56): Paused ramp time exceeds its limit and the module enters STOPPING. -/
  | blackstartFail
  /-- FIRST_EDGE_FRAME (R335): After restore, the new holder sends its first EDGE frame. -/
  | firstEdgeFrame
deriving DecidableEq, Repr

end Sys2Proof
end

