-- ==== Sys2Proof/Decode.lean ====
section
/-!
DEFINITION. Commands as words: spec/opcode_table.json gives no row any bits, so no word spells a command. The packets in which
hosts write their commands (R365) are read in Machine/Operands.lean.
-/
namespace Sys2Proof

/-- The command that the table's bits spell: none, for every word. -/
def decodeTableWord (_nbits _w : Nat) : Option Instr := none

end Sys2Proof
end

