-- ==== Sys2Proof/Machine/Aes.lean ====
section
/-!
DEFINITION. AES-128 and its CMAC (NIST SP 800-38B), as R184 and R202 use it for the tags and session keys of a link.
Blocks are lists of 16 bytes.
-/
namespace Sys2Proof.Machine

/-- Doubling in the field of AES. -/
def xtime (a : Byte) : Byte := if a.getLsbD 7 then (a <<< 1) ^^^ 0x1B else a <<< 1

/-- Product in the field of AES, over the low `n` bits of `b`. -/
def gfMul : Nat → Byte → Byte → Byte
  | 0, _, _ => 0
  | n + 1, a, b => (if b.getLsbD 0 then a else 0) ^^^ gfMul n (xtime a) (b >>> 1)

/-- The inverse of a field element, its 254th power; 0 for 0. -/
def gfInv (a : Byte) : Byte :=
  let m := gfMul 8
  let a2 := m a a
  let a3 := m a2 a
  let a6 := m a3 a3
  let a7 := m a6 a
  let a14 := m a7 a7
  let a15 := m a14 a
  let a30 := m a15 a15
  let a31 := m a30 a
  let a62 := m a31 a31
  let a63 := m a62 a
  let a126 := m a63 a63
  let a127 := m a126 a
  m a127 a127

/-- The substitution box. -/
def sbox (a : Byte) : Byte :=
  let b := gfInv a
  b ^^^ b.rotateLeft 1 ^^^ b.rotateLeft 2 ^^^ b.rotateLeft 3 ^^^ b.rotateLeft 4 ^^^ 0x63

def xorBytes (a b : List Byte) : List Byte := List.zipWith (fun x y => x ^^^ y) a b

/-- The next round key with round constant `rc`. -/
def nextKey (rc : Byte) (k : List Byte) : List Byte :=
  let w (i : Nat) : List Byte := bytesAt k (4 * i) 4
  let l := w 3
  let g := [sbox (l.getD 1 0) ^^^ rc, sbox (l.getD 2 0), sbox (l.getD 3 0), sbox (l.getD 0 0)]
  let w0 := xorBytes (w 0) g
  let w1 := xorBytes (w 1) w0
  let w2 := xorBytes (w 2) w1
  w0 ++ w1 ++ w2 ++ xorBytes l w2

/-- Rows shifted: byte (r, c) comes from column c + r. -/
def shiftRows (b : List Byte) : List Byte :=
  (List.range 16).map (fun i => b.getD ((i + 4 * (i % 4)) % 16) 0)

def mixColumn (c : List Byte) : List Byte :=
  (List.range 4).map (fun r =>
    let x (k : Nat) : Byte := c.getD ((r + k) % 4) 0
    xtime (x 0) ^^^ (xtime (x 1) ^^^ x 1) ^^^ x 2 ^^^ x 3)

/-- The rounds left, over the state and the round key. -/
def aesRounds : Nat → Byte → List Byte → List Byte → List Byte
  | 0, _, b, _ => b
  | n + 1, rc, b, k =>
    let k := nextKey rc k
    let b := shiftRows (b.map sbox)
    let b := if n = 0 then b else (List.range 4).flatMap (fun c => mixColumn (bytesAt b (4 * c) 4))
    aesRounds n (xtime rc) (xorBytes b k) k

/-- AES-128 of one block. -/
def aes128 (k b : List Byte) : List Byte := aesRounds 10 1 (xorBytes b k) k

/-- A block shifted left by one bit, with the reduction of CMAC. -/
def cmacDouble (b : List Byte) : List Byte :=
  let v := b.foldl (fun n x => 256 * n + x.toNat) 0
  let d := 2 * v % 2 ^ 128
  let d := if 2 ^ 127 ≤ v then Nat.xor d 0x87 else d
  (leBytes 16 d).reverse

/-- CMAC over `n` whole blocks and a last one of 0 to 16 bytes. -/
def cmacBlocks (k : List Byte) : Nat → List Byte → List Byte → List Byte
  | 0, x, m =>
    let k1 := cmacDouble (aes128 k (List.replicate 16 0))
    let last := if m.length = 16 then xorBytes m k1 else xorBytes (bytesAt (m ++ [0x80]) 0 16) (cmacDouble k1)
    aes128 k (xorBytes x last)
  | n + 1, x, m => cmacBlocks k n (aes128 k (xorBytes x (m.take 16))) (m.drop 16)

/-- AES-128 CMAC of a message. -/
def cmac (k m : List Byte) : List Byte := cmacBlocks k ((m.length - 1) / 16) (List.replicate 16 0) m

/-- The bytes of a 128-bit value, least significant first, as registers and transactions hold it. -/
def bytes128 (v : BitVec 128) : List Byte := leBytes 16 v.toNat

/-- The tag of R184: the first 32 bits of the CMAC. -/
def frameTag (key : BitVec 128) (m : List Byte) : List Byte := (cmac (bytes128 key) m).take 4

end Sys2Proof.Machine
end

