-- ==== Sys2Proof/Machine/Crc.lean ====
section
/-!
DEFINITION. Check values: the CRC-32C of R180, the safety CRC of R408, and the general algorithm of the
check units (R435-R438).
-/
namespace Sys2Proof.Machine

/-- Bit reversal of the low `n` bits. -/
def reflect : Nat → Nat → Nat
  | 0, _ => 0
  | n + 1, v => (v % 2) * 2 ^ n + reflect n (v / 2)

/-- One bit of the reflected algorithm with reflected generator `p`. -/
def crcBitR (p v : Nat) : Nat := if v % 2 = 1 then (v / 2) ^^^ p else v / 2

/-- One byte of the reflected 32-bit algorithm. -/
def crcByteR (p : Nat) (v : Nat) (b : Byte) : Nat :=
  let v := v ^^^ b.toNat
  crcBitR p (crcBitR p (crcBitR p (crcBitR p (crcBitR p (crcBitR p (crcBitR p (crcBitR p v)))))))

/-- Reflected 32-bit CRC with initial value and final inversion of all ones. -/
def crc32R (p : Nat) (l : List Byte) : Word :=
  BitVec.ofNat 32 ((l.foldl (crcByteR p) 0xFFFFFFFF) ^^^ 0xFFFFFFFF)

/-- CRC-32C of R180: 0x82F63B78 is the reflection of 0x1EDC6F41. -/
def crc32c (l : List Byte) : Word := crc32R 0x82F63B78 l

/-- Safety CRC of R408 over CONN_ID and the bytes: 0xC8DF352F is the reflection of 0xF4ACFB13. -/
def safetyCrc (conn : Word) (l : List Byte) : Word :=
  crc32R 0xC8DF352F (leBytes 4 conn.toNat ++ l)

/-- One message bit into the unreflected register of width `w` (R436). -/
def crcUnitBit (w poly v : Nat) (b : Bool) : Nat :=
  let top := v.testBit (w - 1)
  let sh := (2 * v) % 2 ^ w
  if top != b then sh ^^^ poly else sh

/-- One byte into a check unit, most significant bit first after optional reflection (R436). -/
def crcUnitByte (w poly : Nat) (refin : Bool) (v : Nat) (b : Byte) : Nat :=
  let x := if refin then reflect 8 b.toNat else b.toNat
  [7, 6, 5, 4, 3, 2, 1, 0].foldl (fun v i => crcUnitBit w poly v (x.testBit i)) v

/-- The result of a check unit (R436). -/
def crcUnitResult (w : Nat) (refout xorout : Bool) (v : Nat) : Nat :=
  let r := if refout then reflect w v else v % 2 ^ w
  if xorout then (2 ^ w - 1) - r % 2 ^ w else r

end Sys2Proof.Machine
end

