-- ==== Sys2Proof/Machine/RegNames.lean ====
section
/-!
DEFINITION. The names of every register of R498, and a register with its indices.
-/
namespace Sys2Proof.Machine

/-- One name per register or register array of R498; the indices stand in `Reg`. -/
inductive RName where
  | sysCap
  | fltStat | fltUnack | fltAck | fltLogptr | fltReplace | fltVioldrop | fltCntclr
  | fltInjctrl | fltInjaddr | fltInjarg | fltInjstat
  | fltFecode | fltFeaddr | fltFetimel | fltFetimeh | fltFecnt | fltLog
  | mbxCtrl | mbxDbell | mbxDbmask | mbxNote | mbxNotemask | mbxCross
  | mbxBind | mbxCstat | mbxSend | mbxAck | mbxSdata | mbxRdata
  | clkCtrl | clkStat | clkEvt | clkNint | clkNfrac | clkRefmeas | clkOut | clkBand
  | timCtrl | timStat | timEvt | timSlewcfg | timPpsout | timPpsin | timPairdiff
  | timNowtl | timNowth | timNowsecl | timNowsech | timNowns | timCntl | timCnth
  | timDeltal | timDeltah | timAsym
  | timDCfg | timDStat | timDRatel | timDRateh | timDOfsl | timDOfsh | timDOfsf
  | timDMofs | timDMpd | timDGmidl | timDGmidh
  | crcCfg | crcPolyl | crcPolyh | crcInitl | crcInith | crcVall | crcValh | crcDatab
  | crcDataw | crcDatad | crcResl | crcResh | crcAlive | crcAlivelast | crcStat | crcClaim
  | memCtrl | memStat | memEvt | memHostwin | memCecnt | memUecnt | memGleanpos
  | memGleanposd | memRetire | memRetstat | memDwsel | memElogptr | memCntclr | memRet | memElog
  | pwrStat | pwrEvt | pwrVin | pwrLoad | pwrTemp | pwrThstat | pwrBurstcnt | pwrBootcfg
  | pwrFwctrl | pwrFwstat | pwrFwsrc | pwrFwlen
  | safCtrl | safStat | safEvt | safCause | safInstat | safInflt | safOutstat | safCfgcrc
  | safPendcrca | safPendcrcb | safTxalive | safRxstat | safTgerr | safTgsingle | safLastrx
  | safCntclr | safCfgimg
  | madCtrl | madStat | madEvt | madSync | madSettle | madInj | madCalreq | madLastsync
  | madPeriod | madSeq | madRes | madInjres | madCal
  | filCtrl | filStat | filPctrl | filNrun | filNsettled | filSatstk | filInstat | filInevt
  | filSamp | filNcfg | filNshf | filNgd | filNout | filPout | filCoef
  | lenCtrl | lenStat | lenBlken | lenBankctl | lenEvt | lenTcomp | lenTcclr | lenLaunch
  | lenRegdwell | lenModecfg | lenInsel | lenInscl | lenArmscl | lenBase | lenGlob | lenProf
  | lenRd | lenBiq | lenRegn | lenBank
  | winCtrl | winStat | winEvt | winBscfg | winRestwin | winCcell | winReady | winPccfg
  | winFixen | winArmstat | winVavg | winWarm | winVpos | winVneg | winDefcnt | winDuty
  | winSwcnt | winWtot | winWref | winCntclr
  | fscStat | fscLateinfo | fscFwin | fscDtcfg | fscGlbovr | fscOvrlogptr | fscQlimcnt
  | fscRejcnt | fscCntclr | fscPwmcfg | fscPwmact | fscFxcfg | fscFxon | fscGdp | fscGdmap
  | fscOvrlog | fscOvr | fscDt | fscFxcell
  | celCtrl | celStat | celEvt | celOccfg | celOcth | celCmd | celLastoc | celLastoct
  | celArmcnt | celIdl | celIdh | celCfg | celState
  | lnkCtrl | lnkTxnto | lnkMargin | lnkEvt | lnkUp | lnkQuar | lnkBlkcmd | lnkCntclr
  | lnkLctrl | lnkLstat | lnkDelay | lnkAsym | lnkRtt | lnkOpt | lnkChaff0 | lnkChaff1
  | lnkChaff2 | lnkTxn | lnkGap | lnkCgtidl | lnkCgtidh | lnkExpidl | lnkExpidh | lnkKey | lnkNext
  | redCtrl | redStat | redEvt | redEpoch | redEpochseen | redLease | redCkseq | redCkage
  | redCksize | redCklost | redTakecnt | redLasttake | redCfgdig | redPcfgdig | redCntclr
  | recCtrl | recStat | recEvt | recNmask | recCellcfg | recRing | recFill | recHbasel
  | recHbaseh | recHsize | recHwr | recHrd | recUdpdst | recUdpport | recMarklost | recTrgctl
  | recTrgout | recTucfg | recTulevel | recTuhyst | recTucnt | recGaptot | recCntclr
  | shfCtrl | shfStat | shfEvt | shfCommitcnt | shfAbortcnt | shfCntclr | shfSstat | shfStime
  | shfSres | shfSage
  | bstRun | bstStat | bstDone | bstPass | bstFail | bstRepair | bstSig | bstRef | bstDet
  | netCtrl | netStat | netPcfg | netIp | netMask | netGw | netMacl | netMach | netRingctl
  | netCqbasel | netCqbaseh | netCqsize | netCqhead | netCqtail | netRqbasel | netRqbaseh
  | netRqsize | netRqhead | netRqtail | netDrop | netBusy | netDup | netOut | netCntclr
deriving DecidableEq, Repr

/-- A register of the map: name, first index (channel, arm, link, slot, bank), second index (word). -/
structure Reg where
  name : RName
  i : Nat
  j : Nat
deriving DecidableEq, Repr

/-- What the register tables give each array: offset in the module, array shape, the bits a write
stores (RW, RWS, LCK), the W1C bits, the WO bits and the reset word. -/
structure RSpec where
  off : Nat
  rw : Nat
  reset : Nat
  n : Nat
  st : Nat
  n2 : Nat
  st2 : Nat
  w1c : Nat
  wo : Nat
deriving DecidableEq, Repr

/-- One row of the register map; every field but the offset has a default. -/
def rr (off : Nat) (rw : Nat := 0) (reset : Nat := 0) (n : Nat := 1) (st : Nat := 4)
    (n2 : Nat := 1) (st2 : Nat := 4) (w1c : Nat := 0) (wo : Nat := 0) : RSpec :=
  ⟨off, rw, reset, n, st, n2, st2, w1c, wo⟩

end Sys2Proof.Machine
end

