-- ==== Sys2Proof/Machine/RegMap.lean ====
section
/-!
DEFINITION. The register map: offsets, array shapes, stored bits and reset words of every register
(R6, R498 and the register tables of the unit chapters), and the decoding of an address (R8, R499).
-/
namespace Sys2Proof.Machine

/-- The register tables. `rw` holds the RW, RWS and LCK bits; RO bits that the module latches are kept
in the same word and are changed by the module only. -/
def RName.spec : RName → RSpec
  | .sysCap => rr 0x4
  -- FLT (R461)
  | .fltStat => rr 0x10000 (w1c := 0x10)
  | .fltUnack => rr 0x10004
  | .fltAck => rr 0x10008 (wo := 0x3FFE)
  | .fltLogptr => rr 0x1000C
  | .fltReplace => rr 0x10010
  | .fltVioldrop => rr 0x10014
  | .fltCntclr => rr 0x10018 (wo := 1)
  | .fltInjctrl => rr 0x10040 (rw := 7) (wo := 0x80000000)
  | .fltInjaddr => rr 0x10044 (rw := 0xFFFFFFFF)
  | .fltInjarg => rr 0x10048 (rw := 0xFFFFFFFF)
  | .fltInjstat => rr 0x1004C
  | .fltFecode => rr 0x10100 (n := 14) (st := 0x20)
  | .fltFeaddr => rr 0x10104 (n := 14) (st := 0x20)
  | .fltFetimel => rr 0x10108 (n := 14) (st := 0x20)
  | .fltFetimeh => rr 0x1010C (n := 14) (st := 0x20)
  | .fltFecnt => rr 0x10110 (n := 14) (st := 0x20)
  | .fltLog => rr 0x11000 (n := 256) (st := 0x10) (n2 := 4)
  -- MBX (R389)
  | .mbxCtrl => rr 0x20000 (rw := 0xFF01) (reset := 0x0A00)
  | .mbxDbell => rr 0x20004 (w1c := 0xFFFFFFFF)
  | .mbxDbmask => rr 0x20008 (rw := 0xFFFFFFFF)
  | .mbxNote => rr 0x2000C (w1c := 0xFFFFFFFF)
  | .mbxNotemask => rr 0x20010 (rw := 0xFFFFFFFF)
  | .mbxCross => rr 0x20014
  | .mbxBind => rr 0x20100 (rw := 0x1FF) (n := 32)
  | .mbxCstat => rr 0x20200 (n := 32)
  | .mbxSend => rr 0x20300 (n := 32) (wo := 0x7F)
  | .mbxAck => rr 0x20380 (n := 32) (wo := 1)
  | .mbxSdata => rr 0x21000 (n := 32) (st := 0x40) (n2 := 16) (wo := 0xFFFFFFFF)
  | .mbxRdata => rr 0x22000 (n := 32) (st := 0x40) (n2 := 16)
  -- CLK (R317)
  | .clkCtrl => rr 0x30000 (rw := 0xFF07) (reset := 0x6400)
  | .clkStat => rr 0x30004 (reset := 0x9)
  | .clkEvt => rr 0x30008 (w1c := 0x7F)
  | .clkNint => rr 0x3000C (rw := 0x1FF) (reset := 0xFA)
  | .clkNfrac => rr 0x30010 (rw := 0xFFFFFF)
  | .clkRefmeas => rr 0x30014
  | .clkOut => rr 0x30020 (rw := 0x3FFFF) (reset := 0xF9) (n := 4)
  | .clkBand => rr 0x30040 (rw := 0x803FFFFF) (n := 64)
  -- TIM (R316)
  | .timCtrl => rr 0x40000 (rw := 0xFF0F) (reset := 0x3C02)
  | .timStat => rr 0x40004
  | .timEvt => rr 0x40008 (w1c := 0x3FF)
  | .timSlewcfg => rr 0x4000C (rw := 0xFFFFFFFF) (reset := 0x6464C8)
  | .timPpsout => rr 0x40010 (rw := 0xFF03) (reset := 0x6401)
  | .timPpsin => rr 0x40014
  | .timPairdiff => rr 0x40018
  | .timNowtl => rr 0x40020
  | .timNowth => rr 0x40024
  | .timNowsecl => rr 0x40028
  | .timNowsech => rr 0x4002C
  | .timNowns => rr 0x40030
  | .timCntl => rr 0x40034
  | .timCnth => rr 0x40038
  | .timDeltal => rr 0x4003C
  | .timDeltah => rr 0x40040
  | .timAsym => rr 0x40048 (rw := 0xFFFFFFFF) (n := 2)
  | .timDCfg => rr 0x40080 (rw := 0xFFFFFFF7) (reset := 0x0A3C4005) (n := 2) (st := 0x40)
  | .timDStat => rr 0x40084 (n := 2) (st := 0x40)
  | .timDRatel => rr 0x40088 (rw := 0xFFFFFFFF) (n := 2) (st := 0x40)
  | .timDRateh => rr 0x4008C (rw := 0xFFFF) (reset := 0x100) (n := 2) (st := 0x40)
  | .timDOfsl => rr 0x40090 (rw := 0xFFFFFFFF) (n := 2) (st := 0x40)
  | .timDOfsh => rr 0x40094 (rw := 0xFFFFFFFF) (n := 2) (st := 0x40)
  | .timDOfsf => rr 0x40098 (rw := 0xFFFF) (n := 2) (st := 0x40)
  | .timDMofs => rr 0x4009C (n := 2) (st := 0x40)
  | .timDMpd => rr 0x400A0 (n := 2) (st := 0x40)
  | .timDGmidl => rr 0x400A4 (n := 2) (st := 0x40)
  | .timDGmidh => rr 0x400A8 (n := 2) (st := 0x40)
  -- CRC (R443)
  | .crcCfg => rr 0x50000 (rw := 0x3FF) (reset := 0x3A0) (n := 4) (st := 0x40)
  | .crcPolyl => rr 0x50004 (rw := 0xFFFFFFFF) (reset := 0x1EDC6F41) (n := 4) (st := 0x40)
  | .crcPolyh => rr 0x50008 (rw := 0xFFFFFFFF) (n := 4) (st := 0x40)
  | .crcInitl => rr 0x5000C (rw := 0xFFFFFFFF) (reset := 0xFFFFFFFF) (n := 4) (st := 0x40)
  | .crcInith => rr 0x50010 (rw := 0xFFFFFFFF) (n := 4) (st := 0x40)
  | .crcVall => rr 0x50014 (rw := 0xFFFFFFFF) (reset := 0xFFFFFFFF) (n := 4) (st := 0x40)
  | .crcValh => rr 0x50018 (rw := 0xFFFFFFFF) (n := 4) (st := 0x40)
  | .crcDatab => rr 0x5001C (n := 4) (st := 0x40) (wo := 0xFF)
  | .crcDataw => rr 0x50020 (n := 4) (st := 0x40) (wo := 0xFFFFFFFF)
  | .crcDatad => rr 0x50024 (n := 4) (st := 0x40) (wo := 0xFFFFFFFF)
  | .crcResl => rr 0x50028 (n := 4) (st := 0x40)
  | .crcResh => rr 0x5002C (n := 4) (st := 0x40)
  | .crcAlive => rr 0x50030 (n := 4) (st := 0x40) (wo := 0xFFFF)
  | .crcAlivelast => rr 0x50034 (rw := 0x1FFFF) (n := 4) (st := 0x40)
  | .crcStat => rr 0x50038 (n := 4) (st := 0x40) (w1c := 3)
  | .crcClaim => rr 0x5003C (rw := 0x10) (n := 4) (st := 0x40)
  -- MEM (R442)
  | .memCtrl => rr 0x60000 (rw := 0xFF03) (reset := 0x1000)
  | .memStat => rr 0x60004
  | .memEvt => rr 0x60008 (w1c := 0xFFF)
  | .memHostwin => rr 0x6000C (rw := 0x7FFF7FFF)
  | .memCecnt => rr 0x60010 (n := 4)
  | .memUecnt => rr 0x60020 (n := 4)
  | .memGleanpos => rr 0x60030
  | .memGleanposd => rr 0x60034
  | .memRetire => rr 0x60038 (wo := 0x801FFFFF)
  | .memRetstat => rr 0x6003C
  | .memDwsel => rr 0x60040 (rw := 3) (n := 16)
  | .memElogptr => rr 0x60080
  | .memCntclr => rr 0x60084 (wo := 1)
  | .memRet => rr 0x60100 (n := 64)
  | .memElog => rr 0x60200 (n := 32) (st := 0x10) (n2 := 4)
  -- PWR (R476)
  | .pwrStat => rr 0x70000 (reset := 0x40)
  | .pwrEvt => rr 0x70004 (w1c := 0xFF)
  | .pwrVin => rr 0x70008
  | .pwrLoad => rr 0x7000C
  | .pwrTemp => rr 0x70010
  | .pwrThstat => rr 0x70014 (reset := 0x64000000)
  | .pwrBurstcnt => rr 0x70018
  | .pwrBootcfg => rr 0x7001C (rw := 0x3FFFF)
  | .pwrFwctrl => rr 0x70020 (rw := 1) (wo := 0xE)
  | .pwrFwstat => rr 0x70024
  | .pwrFwsrc => rr 0x70028 (rw := 0xFFFFFFFF) (reset := 0x10000000)
  | .pwrFwlen => rr 0x7002C (rw := 0xFFFFFFFF)
  -- SAF (R418)
  | .safCtrl => rr 0x80000 (wo := 1)
  | .safStat => rr 0x80004 (reset := 2)
  | .safEvt => rr 0x80008 (w1c := 0xFFF)
  | .safCause => rr 0x8000C (reset := 0x100)
  | .safInstat => rr 0x80010
  | .safInflt => rr 0x80014
  | .safOutstat => rr 0x80018
  | .safCfgcrc => rr 0x8001C
  | .safPendcrca => rr 0x80020
  | .safPendcrcb => rr 0x80024
  | .safTxalive => rr 0x80028
  | .safRxstat => rr 0x8002C
  | .safTgerr => rr 0x80030 (n := 2)
  | .safTgsingle => rr 0x80038
  | .safLastrx => rr 0x8003C
  | .safCntclr => rr 0x80040 (wo := 1)
  | .safCfgimg => rr 0x80100 (n := 32)
  -- MAD (R272)
  | .madCtrl => rr 0x90000 (rw := 0xF3)
  | .madStat => rr 0x90004
  | .madEvt => rr 0x90008 (w1c := 0x3F)
  | .madSync => rr 0x9000C (rw := 0xFFFF) (reset := 0x0A14)
  | .madSettle => rr 0x90010 (rw := 0xFFFF)
  | .madInj => rr 0x90014 (rw := 0xF3F) (wo := 0x80000000)
  | .madCalreq => rr 0x90018 (rw := 0xF07) (reset := 7) (wo := 0x80000000)
  | .madLastsync => rr 0x9001C
  | .madPeriod => rr 0x90020
  | .madSeq => rr 0x90040 (rw := 0xF3F) (n := 16)
  | .madRes => rr 0x90100 (n := 16) (st := 0x10) (n2 := 4)
  | .madInjres => rr 0x90200 (n2 := 4)
  | .madCal => rr 0x90240 (rw := 0xFFFFFFFF) (n := 3) (st := 8) (n2 := 2)
  -- FIL (R258)
  | .filCtrl => rr 0xA0000 (rw := 0xFF) (reset := 0x40)
  | .filStat => rr 0xA0004
  | .filPctrl => rr 0xA0008 (rw := 1)
  | .filNrun => rr 0xA000C (rw := 0x3FFFF)
  | .filNsettled => rr 0xA0010
  | .filSatstk => rr 0xA0014 (w1c := 0x3FFFF)
  | .filInstat => rr 0xA0018
  | .filInevt => rr 0xA001C (w1c := 0xFFFFFF)
  | .filSamp => rr 0xA0020 (rw := 0x3FFFFFFF) (reset := 0x14A5294A) (n := 4)
  | .filNcfg => rr 0xA0100 (rw := 0x7FF7FF3F) (reset := 0x33100) (n := 18) (st := 0x10)
  | .filNshf => rr 0xA0104 (rw := 0x03FF1F0F) (reset := 0x1600) (n := 18) (st := 0x10)
  | .filNgd => rr 0xA0108 (reset := 0x030005BE) (n := 18) (st := 0x10)
  | .filNout => rr 0xA0400 (n := 18) (st := 0x10) (n2 := 4)
  | .filPout => rr 0xA0600 (n := 6) (st := 0x10) (n2 := 3)
  | .filCoef => rr 0xA1000 (rw := 0xFFFFFF) (n := 8) (st := 0x100) (n2 := 64)
  -- LEN (R102)
  | .lenCtrl => rr 0xB0000 (rw := 0x3F) (reset := 0x10)
  | .lenStat => rr 0xB0004 (reset := 0x4000)
  | .lenBlken => rr 0xB0008 (rw := 0xF) (reset := 0xE)
  | .lenBankctl => rr 0xB000C (rw := 0x1F)
  | .lenEvt => rr 0xB0010 (w1c := 0x1F)
  | .lenTcomp => rr 0xB0014
  | .lenTcclr => rr 0xB0018 (wo := 1)
  | .lenLaunch => rr 0xB001C (rw := 0xFFF) (reset := 0x640)
  | .lenRegdwell => rr 0xB0020 (rw := 0xFFFF) (reset := 0x64)
  | .lenModecfg => rr 0xB0024 (rw := 0x773)
  | .lenInsel => rr 0xB0040 (rw := 0x11F) (n := 9)
  | .lenInscl => rr 0xB0080 (rw := 0xFFFFFFFF) (reset := 0x3F800000) (n := 9)
  | .lenArmscl => rr 0xB00B0 (rw := 0xFFFFFFFF) (reset := 0x3F800000) (n := 6)
  | .lenBase => rr 0xB00D0 (rw := 0xFFFFFFFF) (n := 5)
  | .lenGlob => rr 0xB0100 (rw := 0xFFFFFFFF) (n := 32)
  | .lenProf => rr 0xB0200 (rw := 0xFFFFFFFF) (n := 8) (st := 0x40) (n2 := 10)
  | .lenRd => rr 0xB0400 (n := 18)
  | .lenBiq => rr 0xB0800 (rw := 0xFFFFFFFF) (n := 24) (st := 0x40) (n2 := 11)
  | .lenRegn => rr 0xB0E00 (rw := 0xFFFFFFFF) (n := 16) (st := 0x40) (n2 := 13)
  | .lenBank => rr 0xB2000 (rw := 0xFFFFFFFF) (n := 16) (st := 0x100) (n2 := 48)
  -- WIN (R132)
  | .winCtrl => rr 0xC0000 (rw := 0xFF) (reset := 0xA)
  | .winStat => rr 0xC0004
  | .winEvt => rr 0xC0008 (w1c := 0x3F)
  | .winBscfg => rr 0xC000C (rw := 0xF1FF03FF) (reset := 0x20C800C8)
  | .winRestwin => rr 0xC0010 (rw := 0x7F) (reset := 0x14)
  | .winCcell => rr 0xC0014 (rw := 0xFFFFFFFF)
  | .winReady => rr 0xC0018 (rw := 0xFFFF) (reset := 0x1400)
  | .winPccfg => rr 0xC001C (rw := 0xFFFF) (reset := 0x0A32)
  | .winFixen => rr 0xC0020 (rw := 0x3F)
  | .winArmstat => rr 0xC0040 (reset := 0x04000000) (n := 6)
  | .winVavg => rr 0xC0060 (n := 6)
  | .winWarm => rr 0xC0080 (n := 6)
  | .winVpos => rr 0xC00A0 (n := 6)
  | .winVneg => rr 0xC00C0 (n := 6)
  | .winDefcnt => rr 0xC00E0 (n := 6)
  | .winDuty => rr 0xC0100 (n := 6)
  | .winWtot => rr 0xC0120
  | .winWref => rr 0xC0124
  | .winSwcnt => rr 0xC0140 (n := 6)
  | .winCntclr => rr 0xC0160 (wo := 3)
  -- FSC (R174)
  | .fscStat => rr 0xD0000 (w1c := 0x47)
  | .fscLateinfo => rr 0xD0004
  | .fscFwin => rr 0xD0008 (rw := 0x3FF) (reset := 0x384)
  | .fscDtcfg => rr 0xD000C (rw := 0x7F073F) (reset := 0x140314)
  | .fscGlbovr => rr 0xD0010 (rw := 3)
  | .fscOvrlogptr => rr 0xD0014
  | .fscQlimcnt => rr 0xD0018
  | .fscRejcnt => rr 0xD001C
  | .fscCntclr => rr 0xD0020 (wo := 3)
  | .fscPwmcfg => rr 0xD0040 (rw := 0xFF07FFFF) (reset := 0x13880) (n := 6)
  | .fscPwmact => rr 0xD0060 (reset := 0x13880) (n := 6)
  | .fscFxcfg => rr 0xD0080 (rw := 0xFF07FFFF) (reset := 0x13880) (n := 6)
  | .fscFxon => rr 0xD00A0 (rw := 0x7FFFF) (n := 6)
  | .fscGdp => rr 0xD0100 (rw := 0xFFFFF) (reset := 0x86488) (n := 16)
  | .fscGdmap => rr 0xD0140 (rw := 0xFFFF) (n := 16)
  | .fscOvrlog => rr 0xD0200 (n := 32) (st := 8) (n2 := 2)
  | .fscOvr => rr 0xD4000 (rw := 3) (n := 3072)
  | .fscDt => rr 0xD7000 (reset := 0x1960) (n := 3072)
  | .fscFxcell => rr 0xDA000 (rw := 0x8007FFFF) (reset := 0x13880) (n := 3072) (st := 8) (n2 := 2)
  -- CEL (R234)
  | .celCtrl => rr 0xE0000 (rw := 0x1FFFF) (reset := 0x1414)
  | .celStat => rr 0xE0004
  | .celEvt => rr 0xE0008 (w1c := 0x3FF)
  | .celOccfg => rr 0xE000C (rw := 0xFFFF3F) (reset := 0x50143F)
  | .celOcth => rr 0xE0010 (rw := 0xFFFFFFFF) (n := 6)
  | .celCmd => rr 0xE0030 (wo := 0xFFFF)
  | .celLastoc => rr 0xE0034
  | .celLastoct => rr 0xE0038
  | .celArmcnt => rr 0xE0040 (n := 6)
  | .celIdl => rr 0xE4000 (rw := 0xFFFFFFFF) (n := 3072) (st := 0x10)
  | .celIdh => rr 0xE4004 (rw := 0xFFFFFFFF) (n := 3072) (st := 0x10)
  | .celCfg => rr 0xE4008 (rw := 0x1FFF7) (reset := 7) (n := 3072) (st := 0x10)
  | .celState => rr 0xE400C (n := 3072) (st := 0x10)
  -- LNK (R210)
  | .lnkCtrl => rr 0xF0000 (rw := 0x7F0FFFFF) (reset := 0x0A030A32)
  | .lnkTxnto => rr 0xF0004 (rw := 0xFFFF) (reset := 0xC8)
  | .lnkMargin => rr 0xF0008 (rw := 0xFF) (reset := 0x1E)
  | .lnkEvt => rr 0xF000C (w1c := 0x7FF)
  | .lnkUp => rr 0xF0010 (n := 4)
  | .lnkQuar => rr 0xF0020 (n := 4)
  | .lnkBlkcmd => rr 0xF0030 (wo := 0xFF)
  | .lnkCntclr => rr 0xF0034 (wo := 3)
  | .lnkLctrl => rr 0xF1000 (rw := 3) (reset := 1) (n := 128) (st := 0x80) (wo := 0xC)
  | .lnkLstat => rr 0xF1004 (reset := 4) (n := 128) (st := 0x80)
  | .lnkDelay => rr 0xF1008 (n := 128) (st := 0x80)
  | .lnkAsym => rr 0xF100C (rw := 0xFFFF) (n := 128) (st := 0x80)
  | .lnkRtt => rr 0xF1010 (n := 128) (st := 0x80)
  | .lnkOpt => rr 0xF1014 (reset := 0x80) (n := 128) (st := 0x80)
  | .lnkChaff0 => rr 0xF1018 (n := 128) (st := 0x80)
  | .lnkChaff1 => rr 0xF101C (n := 128) (st := 0x80)
  | .lnkChaff2 => rr 0xF1020 (n := 128) (st := 0x80)
  | .lnkTxn => rr 0xF1024 (n := 128) (st := 0x80)
  | .lnkGap => rr 0xF1028 (n := 128) (st := 0x80)
  | .lnkCgtidl => rr 0xF102C (n := 128) (st := 0x80)
  | .lnkCgtidh => rr 0xF1030 (n := 128) (st := 0x80)
  | .lnkExpidl => rr 0xF1034 (rw := 0xFFFFFFFF) (n := 128) (st := 0x80)
  | .lnkExpidh => rr 0xF1038 (rw := 0xFFFFFFFF) (n := 128) (st := 0x80)
  | .lnkKey => rr 0xF1040 (n := 128) (st := 0x80) (n2 := 4) (wo := 0xFFFFFFFF)
  | .lnkNext => rr 0xF1050 (n := 128) (st := 0x80)
  -- RED (R340)
  | .redCtrl => rr 0x100000 (rw := 7) (reset := 6)
  | .redStat => rr 0x100004 (reset := 0x1E0)
  | .redEvt => rr 0x100008 (w1c := 0x3FF)
  | .redEpoch => rr 0x10000C
  | .redEpochseen => rr 0x100010
  | .redLease => rr 0x100014
  | .redCkseq => rr 0x100018
  | .redCkage => rr 0x10001C (reset := 0xFFFF)
  | .redCksize => rr 0x100020
  | .redCklost => rr 0x100024
  | .redTakecnt => rr 0x100028
  | .redLasttake => rr 0x10002C
  | .redCfgdig => rr 0x100030
  | .redPcfgdig => rr 0x100034
  | .redCntclr => rr 0x100038 (wo := 7)
  -- REC (R289)
  | .recCtrl => rr 0x110000 (rw := 0x1F7) (reset := 0x1F0)
  | .recStat => rr 0x110004
  | .recEvt => rr 0x110008 (w1c := 0xF)
  | .recNmask => rr 0x11000C (rw := 0x3FFFF) (reset := 0x3FFFF)
  | .recCellcfg => rr 0x110010 (rw := 0x3F)
  | .recRing => rr 0x110014 (rw := 0x3FFF) (reset := 0x1FC0)
  | .recFill => rr 0x110018
  | .recHbasel => rr 0x11001C (rw := 0xFFFFFFFF)
  | .recHbaseh => rr 0x110020 (rw := 0xFFFFFFFF)
  | .recHsize => rr 0x110024 (rw := 0xFFFFFFFF)
  | .recHwr => rr 0x110028
  | .recHrd => rr 0x11002C (rw := 0xFFFFFFFF)
  | .recUdpdst => rr 0x110030 (rw := 0xFFFFFFFF)
  | .recUdpport => rr 0x110034 (rw := 0xFFFFFFFF)
  | .recMarklost => rr 0x110038
  | .recTrgctl => rr 0x110040 (rw := 3)
  | .recTrgout => rr 0x110044 (rw := 0xFF0FFF) (reset := 0xA0000)
  | .recTucfg => rr 0x110050 (rw := 0xFFFF07FF) (n := 4) (st := 0x10)
  | .recTulevel => rr 0x110054 (rw := 0xFFFFFFFF) (n := 4) (st := 0x10)
  | .recTuhyst => rr 0x110058 (rw := 0x7FFFFFFF) (n := 4) (st := 0x10)
  | .recTucnt => rr 0x11005C (n := 4) (st := 0x10)
  | .recGaptot => rr 0x110100 (n := 6)
  | .recCntclr => rr 0x110120 (wo := 3)
  -- SHF (R360)
  | .shfCtrl => rr 0x120000 (rw := 0xFF) (reset := 0x3C)
  | .shfStat => rr 0x120004
  | .shfEvt => rr 0x120008 (w1c := 0x3F)
  | .shfCommitcnt => rr 0x12000C
  | .shfAbortcnt => rr 0x120010
  | .shfCntclr => rr 0x120014 (wo := 1)
  | .shfSstat => rr 0x120040 (n := 8) (st := 0x10)
  | .shfStime => rr 0x120044 (n := 8) (st := 0x10)
  | .shfSres => rr 0x120048 (n := 8) (st := 0x10)
  | .shfSage => rr 0x12004C (n := 8) (st := 0x10)
  -- BST (R462)
  | .bstRun => rr 0x130000 (wo := 0x3FFFF)
  | .bstStat => rr 0x130004
  | .bstDone => rr 0x130008
  | .bstPass => rr 0x13000C
  | .bstFail => rr 0x130010
  | .bstRepair => rr 0x130014
  | .bstSig => rr 0x130040 (n := 18)
  | .bstRef => rr 0x1300C0 (n := 18)
  | .bstDet => rr 0x130140 (n := 18)
  -- NET (R390)
  | .netCtrl => rr 0x140000 (rw := 1)
  | .netStat => rr 0x140004
  | .netPcfg => rr 0x140010 (rw := 0xFFFFFFFF) (reset := 0xB8C40002) (n := 3) (st := 0x20)
  | .netIp => rr 0x140014 (rw := 0xFFFFFFFF) (n := 3) (st := 0x20)
  | .netMask => rr 0x140018 (rw := 0xFFFFFFFF) (n := 3) (st := 0x20)
  | .netGw => rr 0x14001C (rw := 0xFFFFFFFF) (n := 3) (st := 0x20)
  | .netMacl => rr 0x140020 (n := 3) (st := 0x20)
  | .netMach => rr 0x140024 (n := 3) (st := 0x20)
  | .netRingctl => rr 0x140100 (rw := 1)
  | .netCqbasel => rr 0x140104 (rw := 0xFFFFFFFF)
  | .netCqbaseh => rr 0x140108 (rw := 0xFFFFFFFF)
  | .netCqsize => rr 0x14010C (rw := 0x7FF)
  | .netCqhead => rr 0x140110
  | .netCqtail => rr 0x140114 (rw := 0x3FF)
  | .netRqbasel => rr 0x140118 (rw := 0xFFFFFFFF)
  | .netRqbaseh => rr 0x14011C (rw := 0xFFFFFFFF)
  | .netRqsize => rr 0x140120 (rw := 0x7FF)
  | .netRqhead => rr 0x140124 (rw := 0x3FF)
  | .netRqtail => rr 0x140128
  | .netDrop => rr 0x140200 (n := 4) (st := 0x10)
  | .netBusy => rr 0x140204 (n := 4) (st := 0x10)
  | .netDup => rr 0x140208 (n := 4) (st := 0x10)
  | .netOut => rr 0x14020C (n := 4) (st := 0x10)
  | .netCntclr => rr 0x140240 (wo := 1)

/-- The registers of each unit block, by block number (R6). -/
def unitRegs : Nat → List RName
  | 0x0 => [.sysCap]
  | 0x1 => [.fltStat, .fltUnack, .fltAck, .fltLogptr, .fltReplace, .fltVioldrop, .fltCntclr, .fltInjctrl,
    .fltInjaddr, .fltInjarg, .fltInjstat, .fltFecode, .fltFeaddr, .fltFetimel, .fltFetimeh, .fltFecnt, .fltLog]
  | 0x2 => [.mbxCtrl, .mbxDbell, .mbxDbmask, .mbxNote, .mbxNotemask, .mbxCross, .mbxBind, .mbxCstat, .mbxSend,
    .mbxAck, .mbxSdata, .mbxRdata]
  | 0x3 => [.clkCtrl, .clkStat, .clkEvt, .clkNint, .clkNfrac, .clkRefmeas, .clkOut, .clkBand]
  | 0x4 => [.timCtrl, .timStat, .timEvt, .timSlewcfg, .timPpsout, .timPpsin, .timPairdiff, .timNowtl, .timNowth,
    .timNowsecl, .timNowsech, .timNowns, .timCntl, .timCnth, .timDeltal, .timDeltah, .timAsym, .timDCfg, .timDStat,
    .timDRatel, .timDRateh, .timDOfsl, .timDOfsh, .timDOfsf, .timDMofs, .timDMpd, .timDGmidl, .timDGmidh]
  | 0x5 => [.crcCfg, .crcPolyl, .crcPolyh, .crcInitl, .crcInith, .crcVall, .crcValh, .crcDatab, .crcDataw, .crcDatad,
    .crcResl, .crcResh, .crcAlive, .crcAlivelast, .crcStat, .crcClaim]
  | 0x6 => [.memCtrl, .memStat, .memEvt, .memHostwin, .memCecnt, .memUecnt, .memGleanpos, .memGleanposd, .memRetire,
    .memRetstat, .memDwsel, .memElogptr, .memCntclr, .memRet, .memElog]
  | 0x7 => [.pwrStat, .pwrEvt, .pwrVin, .pwrLoad, .pwrTemp, .pwrThstat, .pwrBurstcnt, .pwrBootcfg, .pwrFwctrl,
    .pwrFwstat, .pwrFwsrc, .pwrFwlen]
  | 0x8 => [.safCtrl, .safStat, .safEvt, .safCause, .safInstat, .safInflt, .safOutstat, .safCfgcrc, .safPendcrca,
    .safPendcrcb, .safTxalive, .safRxstat, .safTgerr, .safTgsingle, .safLastrx, .safCntclr, .safCfgimg]
  | 0x9 => [.madCtrl, .madStat, .madEvt, .madSync, .madSettle, .madInj, .madCalreq, .madLastsync, .madPeriod,
    .madSeq, .madRes, .madInjres, .madCal]
  | 0xA => [.filCtrl, .filStat, .filPctrl, .filNrun, .filNsettled, .filSatstk, .filInstat, .filInevt, .filSamp,
    .filNcfg, .filNshf, .filNgd, .filNout, .filPout, .filCoef]
  | 0xB => [.lenCtrl, .lenStat, .lenBlken, .lenBankctl, .lenEvt, .lenTcomp, .lenTcclr, .lenLaunch, .lenRegdwell,
    .lenModecfg, .lenInsel, .lenInscl, .lenArmscl, .lenBase, .lenGlob, .lenProf, .lenRd, .lenBiq, .lenRegn, .lenBank]
  | 0xC => [.winCtrl, .winStat, .winEvt, .winBscfg, .winRestwin, .winCcell, .winReady, .winPccfg, .winFixen,
    .winArmstat, .winVavg, .winWarm, .winVpos, .winVneg, .winDefcnt, .winDuty, .winWtot, .winWref, .winSwcnt, .winCntclr]
  | 0xD => [.fscStat, .fscLateinfo, .fscFwin, .fscDtcfg, .fscGlbovr, .fscOvrlogptr, .fscQlimcnt, .fscRejcnt, .fscCntclr,
    .fscPwmcfg, .fscPwmact, .fscFxcfg, .fscFxon, .fscGdp, .fscGdmap, .fscOvrlog, .fscOvr, .fscDt, .fscFxcell]
  | 0xE => [.celCtrl, .celStat, .celEvt, .celOccfg, .celOcth, .celCmd, .celLastoc, .celLastoct, .celArmcnt,
    .celIdl, .celIdh, .celCfg, .celState]
  | 0xF => [.lnkCtrl, .lnkTxnto, .lnkMargin, .lnkEvt, .lnkUp, .lnkQuar, .lnkBlkcmd, .lnkCntclr, .lnkLctrl, .lnkLstat,
    .lnkDelay, .lnkAsym, .lnkRtt, .lnkOpt, .lnkChaff0, .lnkChaff1, .lnkChaff2, .lnkTxn, .lnkGap, .lnkCgtidl, .lnkCgtidh,
    .lnkExpidl, .lnkExpidh, .lnkKey, .lnkNext]
  | 0x10 => [.redCtrl, .redStat, .redEvt, .redEpoch, .redEpochseen, .redLease, .redCkseq, .redCkage, .redCksize,
    .redCklost, .redTakecnt, .redLasttake, .redCfgdig, .redPcfgdig, .redCntclr]
  | 0x11 => [.recCtrl, .recStat, .recEvt, .recNmask, .recCellcfg, .recRing, .recFill, .recHbasel, .recHbaseh, .recHsize,
    .recHwr, .recHrd, .recUdpdst, .recUdpport, .recMarklost, .recTrgctl, .recTrgout, .recTucfg, .recTulevel, .recTuhyst,
    .recTucnt, .recGaptot, .recCntclr]
  | 0x12 => [.shfCtrl, .shfStat, .shfEvt, .shfCommitcnt, .shfAbortcnt, .shfCntclr, .shfSstat, .shfStime, .shfSres, .shfSage]
  | 0x13 => [.bstRun, .bstStat, .bstDone, .bstPass, .bstFail, .bstRepair, .bstSig, .bstRef, .bstDet]
  | 0x14 => [.netCtrl, .netStat, .netPcfg, .netIp, .netMask, .netGw, .netMacl, .netMach, .netRingctl, .netCqbasel,
    .netCqbaseh, .netCqsize, .netCqhead, .netCqtail, .netRqbasel, .netRqbaseh, .netRqsize, .netRqhead, .netRqtail,
    .netDrop, .netBusy, .netDup, .netOut, .netCntclr]
  | _ => []

/-- Address of register `n` with indices `i`, `j`. -/
def regAddr (n : RName) (i : Nat := 0) (j : Nat := 0) : Nat :=
  n.spec.off + i * n.spec.st + j * n.spec.st2

/-- Indices inside an array range that hold no register (R102, R461). -/
def RName.hole (n : RName) (i j : Nat) : Bool :=
  match n with
  | .fltFecode | .fltFeaddr | .fltFetimel | .fltFetimeh | .fltFecnt => i == 0
  | .lenBank => decide (20 ≤ j) && decide (j < 32)
  | _ => false

/-- The register of array `n` at address `a`, if any. -/
def RName.locate (n : RName) (a : Nat) : Option Reg :=
  let p := n.spec
  if a < p.off then none else
    let o := a - p.off
    let i := if p.n = 1 then 0 else o / p.st
    let r := if p.n = 1 then o else o % p.st
    let j := r / p.st2
    if i < p.n ∧ j < p.n2 ∧ r % p.st2 = 0 ∧ ¬ n.hole i j then some ⟨n, i, j⟩ else none

/-- The register at an aligned module address (R8, R498). -/
def decodeReg (a : Nat) : Option Reg :=
  if a % 4 ≠ 0 then none else (unitRegs (a / 0x10000)).findSome? (fun n => n.locate a)

/-- Reset word of the loop engine's bases (R102). -/
def lenBaseReset (i : Nat) : Nat := if i = 2 then 0x42480000 else 0

/-- Reset words of the global parameters (R102). -/
def lenGlobReset (i : Nat) : Nat :=
  ([0, 0x3FA00000, 0x40200000, 0x3E19999A, 0, 0, 0x42480000, 0x3F800000,
    0x3DCCCCCD, 0x3DCCCCCD, 0x3DCCCCCD, 0x40000000, 0x41A00000, 0x3F99999A, 0x40400000, 0x3F000000,
    0x40000000, 0x41200000, 0x41A00000, 0x42F00000, 0, 0x3F800000, 0x40000000, 0x3F800000,
    0x3F800000, 0x3F800000, 0x3DCCCCCD, 0x3F666666, 0x3F8CCCCD, 0x3D4CCCCD, 0x3E19999A, 0x41200000] : List Nat).getD i 0

/-- Reset words of a ride-through profile (R102). -/
def lenProfReset (j : Nat) : Nat :=
  ([0x3F59999A, 0x3F666666, 0x3E19999A, 0x3DCCCCCD, 0x40000000, 0x40000000, 0x42C80000, 0x40400000,
    0x40000000, 0] : List Nat).getD j 0

/-- Reset words of a region entry (R102). -/
def lenRegnReset (j : Nat) : Nat :=
  if j < 8 then (if j % 2 = 0 then 0xC0000000 else 0x40000000) else 0

/-- Reset words of a coefficient bank (R102, R108). -/
def lenBankReset (j : Nat) : Nat :=
  ([0x40800000, 0x41A00000, 0x3F000000, 0x3D23D70A, 0x3CF5C28F, 0, 0x3DCCCCCD, 0x3F000000,
    0x3D4CCCCD, 0x3C23D70A, 0x3C23D70A, 0x3E99999A, 0x3C23D70A, 0x42C80000, 0x40A00000, 0x3E4CCCCD,
    0x42480000, 0x40A00000, 0x3F800000, 0x38D1B717, 0, 0, 0, 0, 0, 0, 0, 0, 0, 0, 0, 0,
    0x3F800000, 0x42480000, 0x3DCCCCCD, 0x42480000, 0x3E4CCCCD, 0x42480000, 0x3E4CCCCD, 0,
    0x3F000000, 0x3E4CCCCD, 0x3F800000, 0x41A00000, 0x3C23D70A, 0x3E4CCCCD, 0x3F666666, 0] : List Nat).getD j 0

/-- Reset word of a register (the register tables). -/
def Reg.reset (r : Reg) : Word :=
  BitVec.ofNat 32 (match r.name with
    | .lenBase => lenBaseReset r.i
    | .lenGlob => lenGlobReset r.i
    | .lenProf => lenProfReset r.j
    | .lenBiq => if r.j = 0 ∨ r.j = 5 then 0x3F800000 else 0
    | .lenRegn => lenRegnReset r.j
    | .lenBank => lenBankReset r.j
    | .netPcfg => if r.i = 2 then 0xB8C40000 else 0xB8C40002
    | .timDCfg => if r.i = 1 then 0x0A3C4007 else 0x0A3C4005
    | .filNcfg => 0x33100 + r.i + 6
    | .filCoef => if r.j = 0 then 0x400000 else 0
    | .madCal => if r.j = 1 then 0x3F800000 else 0
    | .fscFxcell => if r.j = 0 then 0x13880 else 0
    | n => n.spec.reset)

/-- What an address of the register space holds before anything changed it. -/
def regReset (a : Nat) : Word :=
  match decodeReg a with
  | some r => r.reset
  | none => 0

end Sys2Proof.Machine
end

