-- ==== Sys2Proof/Machine/SigState.lean ====
section
/-!
DEFINITION. The state of the measurement chain, the metering converter, the recorder and its triggers,
the sheaves, the memories and the check units. Stamps are whole ticks of station time.
-/
namespace Sys2Proof.Machine

/-- A sample with its stamp, flags of R253 and count since the start. -/
structure Samp where
  val : Int
  stamp : Word
  flags : Nat
  seq : Nat
deriving DecidableEq, Repr

/-- No sample yet. -/
def Samp.zero : Samp := ⟨0, 0, 0, 0⟩

/-- A normal channel (R239-R250): `line` holds the bits of the phase delay, oldest first; integrators and
combs are modulo 2^64; `hist` and `med` are newest first; `pend` is when a pending start was written. -/
structure NChan where
  run : Bool
  pend : Option Nat
  start : Int
  j : Nat
  line : List Bool
  int : Nat × Nat × Nat
  comb : Nat × Nat × Nat
  hist : List (Int × Bool)
  med : List (Int × Bool × Bool)
  lastBit : Option Bool
  last : Samp
deriving DecidableEq, Repr

/-- A stopped channel. -/
def NChan.init : NChan := ⟨false, none, 0, 0, [], (0, 0, 0), (0, 0, 0), [], [], none, Samp.zero⟩

/-- The privileged engine (R244-R246); `hist` holds each channel's last bits as ±1, newest first; `last` and `prev`
are the newest set and the one before; `sets` are the sample sets waiting for a PRIV record (R273). -/
structure PEng where
  run : Bool
  pend : Option Nat
  start : Int
  j : Nat
  hist : List (List Int)
  lastBit : List (Option Bool)
  prev : List Samp
  last : List Samp
  sets : List (Word × List Int × Nat)
deriving DecidableEq, Repr

/-- A stopped engine. -/
def PEng.init : PEng :=
  ⟨false, none, 0, 0, List.replicate 6 [], List.replicate 6 none, List.replicate 6 Samp.zero, List.replicate 6 Samp.zero, []⟩

/-- A bitstream input (R254): stuck since, past stuck spans, whether its fault may not be raised, the last transition known,
and when it last left the stuck state; times in ticks of S. -/
structure InpSt where
  stuck : Bool
  since : Int
  past : List (Int × Int)
  muted : Bool
  lastT : Option Int
  okFrom : Int
deriving DecidableEq, Repr

/-- An input that has shown transitions. -/
def InpSt.init : InpSt := ⟨false, 0, [], false, none, 0⟩

/-- The measurement chain. -/
structure FilSt where
  ch : Tab NChan
  eng : PEng
  inp : Tab InpSt
deriving DecidableEq, Repr

/-- A metering conversion: `src` as MAD_STAT.SRC, boundaries left, start and end stamps. -/
structure Conv where
  src : Nat
  ch : Nat
  gain : Nat
  n : Nat
  left : Nat
  start : Word
  stop : Word
  rundown : Option Nat
  nosync : Bool
  settling : Bool
deriving DecidableEq, Repr

/-- A metering result record (R269). -/
structure MRes where
  value : Int
  start : Word
  stop : Word
  flags : Nat
  n : Nat
  gain : Nat
  count : Nat
deriving DecidableEq, Repr

/-- A record nothing has written. -/
def MRes.zero : MRes := ⟨0, 0, 0, 0, 0, 0, 0⟩

/-- The metering converter (R259-R269). `prev` is the input and gain of the previous conversion, 16 for a
calibration phase; `await` is a conversion whose rundown ended before the boundary that began the present one. -/
structure MadSt where
  lastB : Nat
  lastX : Option Nat
  timer : Bool
  conv : Option Conv
  pos : Nat
  inj : Option (Nat × Nat × Nat)
  cal : List Nat
  calN : Nat
  calPend : Bool
  calZero : Option Int
  prev : Option (Nat × Nat)
  res : Tab MRes
  injRes : MRes
  await : Option Conv
deriving DecidableEq, Repr

/-- A closed unit of the stream (R278): its records without padding and its stream offset. -/
structure RUnit where
  recs : List (List Byte)
  off : Nat
deriving DecidableEq, Repr

/-- A trigger unit (R283-R285): priming, the last usable sample, hold-off end. -/
structure TrgSt where
  low : Bool
  high : Bool
  prev : Option (Int × Word)
  hold : Option Nat
deriving DecidableEq, Repr

/-- A trigger unit after reset. -/
def TrgSt.init : TrgSt := ⟨false, false, none, none⟩

/-- The recorder (R273-R287). `live` is the content in force: groups, channel mask, cell configuration; `marks` are MARK
records that wait for the PRIV record of their sample (R274), `fired` the instant of the last firing with the MARKs made at it
(R283), `ueOffs` the offsets of discarded units whose GAP records wait for the next stamp sent (R282). -/
structure RecSt where
  cur : List (List Byte)
  curLen : Nat
  curAt : Option Nat
  closed : List RUnit
  off : Nat
  loss : Bool
  lost : List Nat
  lostFrom : Word
  lostTo : Word
  sentTo : Word
  live : Nat × Nat × Nat
  lastTime : Nat
  dgram : Nat
  trg : Tab TrgSt
  pulse : List (Option Nat)
  own : Bool
  marks : List (List Byte)
  fired : Option Nat
  firedRecs : List (List Byte)
  ueOffs : List Nat
deriving DecidableEq, Repr

/-- A sheaf (R341-R358). `wrote` holds the addresses that others have written since it was opened; `due`
the apply boundary in ticks of S, none until it is chosen; `how` the mode of its commit; `links` and `cells` what PREPARE
requests went to, with how many each link was given, and `waitOk` how many are not yet answered. -/
structure Sheaf where
  owner : Nat
  state : Nat
  opened : Nat
  es : List SheafEntry
  wrote : List Nat
  hdr : Option Hdr
  how : Nat
  due : Option Int
  order : Nat
  prep : Nat
  links : List (Nat × Nat)
  cells : List Nat
  waitOk : Nat
deriving DecidableEq, Repr

/-- The sheaves in use, the number of commits, and the last PREP_ID (R345, R352, R355). -/
structure ShfSt where
  use : Tab Sheaf
  order : Nat
  prepLast : Nat
deriving DecidableEq, Repr

/-- Error mark of a SECDED word (R424, R425): bits that differ from the stored word and its check byte. -/
structure Mark where
  bad : BitVec 72
  poison : Bool
deriving DecidableEq, Repr

/-- A clean word. -/
def Mark.clean : Mark := ⟨0, false⟩

/-- A block of a small memory (R426): bad bits as (word, bit), and, once found uncorrectable, the words not yet
rewritten as a mask. -/
structure SmallBlk where
  bad : List (Nat × Nat)
  left : Nat
deriving DecidableEq, Repr

/-- A clean block. -/
def SmallBlk.clean : SmallBlk := ⟨[], 0⟩

/-- A memory fill under way (R428). -/
structure Fill where
  hdr : Hdr
  addr : Nat
  len : Nat
  pat : BitVec 64
deriving DecidableEq, Repr

/-- The memories (R419-R434). `sram` lists bytes that are not 0; `dram` lists every byte written since the
last reset, at its DRAM offset. Marks are keyed by word number. `small` keeps, for each uncorrectable block
of a small memory (register address / 32), the words not yet rewritten (R426). `gone` lists spares that self-test
withdrew (R458) as (kind, spare). -/
structure MemSt where
  sram : Tab Byte
  dram : Tab Byte
  smark : Tab Mark
  dmark : Tab Mark
  epoch : Nat
  small : Tab SmallBlk
  ceTimes : List (Nat × Nat)
  rateAt : Tab Nat
  retire : Option (Nat × Nat)
  fills : List Fill
  gone : List (Nat × Nat)
deriving DecidableEq, Repr

/-- The staged high half and the read snapshot of a check unit (R437). -/
structure CrcSt where
  stage : Word
  snap : Word
deriving DecidableEq, Repr

/-- Nothing staged. -/
def CrcSt.init : CrcSt := ⟨0, 0⟩

end Sys2Proof.Machine
end

