-- ==== Sys2Proof/Machine/State.lean ====
section
/-!
DEFINITION. The state of the block, its outcomes other than a next state, and the state after reset.
-/
namespace Sys2Proof.Machine

/-- The block. Registers that hold a value stand in `regs`, keyed by address, over the reset words. -/
structure State where
  variant : Variant
  now : Nat
  c0 : Nat
  mode : Mode
  sub : Sub
  regs : Tab Word
  fresh : Nat
  out : List Out
  slotId : Nat
  factory : Bool
  cmd : Tab PathSt
  ringWait : List Reply
  mbx : Tab Chan
  flt : FltSt
  bst : BstSt
  tim : TimSt
  clk : ClkSt
  pwr : PwrSt
  saf : SafSt
  len : LenSt
  arms : Tab Arm
  cells : Tab Cell
  lnk : Tab Link
  win : WinSt
  red : RedSt
  fil : FilSt
  mad : MadSt
  rcd : RecSt
  shf : ShfSt
  mem : MemSt
  crc : Tab CrcSt
  pending : List Instr
deriving DecidableEq, Repr

/-- Faults a step can stop with: no rule of the manual stops the block, so no command raises one. -/
inductive Fault where
  /-- Raised by no command: kept so that the outcome type is inhabited. Safe. -/
  | halted
deriving DecidableEq, Repr

/-- Refusals of a step. -/
inductive Refusal where
  /-- Raised by the dispatch for a command that has no meaning in the model. Safe: the run stops. -/
  | notModelled (mnemonic : String)
deriving DecidableEq, Repr

/-- The block before power good (R19 OFF), every register at its reset word. -/
def State.reset : State where
  variant := .f
  now := 0
  c0 := 0
  mode := .off
  sub := .gf
  regs := []
  fresh := 0
  out := []
  slotId := 0
  factory := false
  cmd := []
  ringWait := []
  mbx := []
  flt := ⟨0, [], [], [], [], none, false, []⟩
  bst := ⟨false, 0, 0, 0, false⟩
  tim := ⟨DomSt.init, DomSt.init, 0, false, 0, 0, 0, false, false, false, [], false, none, false, none, false, none, 0, [], 0,
    none, none, none, none, none, 0⟩
  clk := ⟨250 * 2 ^ 24, false, 0, 0, false, false, none, 0, 0, 0, []⟩
  pwr := ⟨0, 0, false, false, false, false, 0, 0, 0, 0, false, false, true, true, false, none, true, [], [], 250, 250,
    false, none, false, false, none, none, none⟩
  saf := SafSt.init
  len := LenSt.init
  arms := []
  cells := []
  lnk := []
  win := WinSt.init
  red := RedSt.init
  fil := ⟨[], PEng.init, []⟩
  mad := ⟨0, none, false, none, 0, none, [], 1, false, none, none, [], MRes.zero, none⟩
  rcd := ⟨[], 0, none, [], 0, false, List.replicate 6 0, 0, 0, 0, (0x1F, 0x3FFFF, 0), 0, 0, [], [none, none, none], false,
    [], none, [], []⟩
  shf := ⟨[], 0, 0⟩
  mem := ⟨[], [], [], [], 0, [], [], [], none, [], []⟩
  crc := []
  pending := []

end Sys2Proof.Machine
end

