-- ==== Sys2Proof/Machine/Ops.lean ====
section
/-!
DEFINITION. The shared operations: registers, station time, events and faults (R375, R446-R453), the
mailbox queues, replies (R363-R370), and the changes of module state (R19-R21, R228).
-/
namespace Sys2Proof.Machine

/-! ### Registers -/

/-- The word a register holds. -/
def State.rg (s : State) (n : RName) (i : Nat := 0) (j : Nat := 0) : Word :=
  Tab.get regReset s.regs (regAddr n i j)

/-- Put a word into a register. -/
def State.rs (s : State) (n : RName) (v : Word) (i : Nat := 0) (j : Nat := 0) : State :=
  { s with regs := Tab.set regReset s.regs (regAddr n i j) v }

/-- A field of a register as a number. -/
def State.rf (s : State) (n : RName) (lo len : Nat) (i : Nat := 0) (j : Nat := 0) : Nat :=
  field (s.rg n i j) lo len

/-- A bit of a register. -/
def State.rb (s : State) (n : RName) (k : Nat) (i : Nat := 0) (j : Nat := 0) : Bool := bit (s.rg n i j) k

/-- Put a field. -/
def State.rsf (s : State) (n : RName) (lo len v : Nat) (i : Nat := 0) (j : Nat := 0) : State :=
  s.rs n (setField (s.rg n i j) lo len v) i j

/-- Put a bit. -/
def State.rsb (s : State) (n : RName) (k : Nat) (b : Bool) (i : Nat := 0) (j : Nat := 0) : State :=
  s.rsf n k 1 (if b then 1 else 0) i j

/-- Add to a saturating field. -/
def State.rsat (s : State) (n : RName) (lo len add : Nat) (i : Nat := 0) (j : Nat := 0) : State :=
  s.rsf n lo len (satAdd (2 ^ len - 1) (s.rf n lo len i j) add) i j

/-- Clear `k` registers of an array. -/
def State.rclear (s : State) (n : RName) (k : Nat) (v : Word := 0) : State :=
  (List.range k).foldl (fun s i => s.rs n v i) s

/-- Two registers read as one 64-bit number. -/
def State.rg64 (s : State) (lo hi : RName) (i : Nat := 0) : Nat := (s.rg lo i).toNat + 2 ^ 32 * (s.rg hi i).toNat

/-- A binary32 register as a number. -/
def State.rnum (s : State) (n : RName) (i : Nat := 0) (j : Nat := 0) : Num := Num.ofB32 (s.rg n i j)

/-- Append an output. -/
def State.put (s : State) (o : Out) : State := { s with out := s.out ++ [o] }

/-- Start a command at time `t`: the clock moves on and the outputs of the last command are gone. -/
def State.begin (s : State) (t : Nat) : State := { s with now := max s.now t, out := [] }

/-- Run `f` when `b` holds. -/
def State.when (s : State) (b : Bool) (f : State → State) : State := if b then f s else s

/-! ### The variant (R2, R3) -/

/-- SYS_CAP of R2. -/
def State.sysCap (s : State) : Word :=
  match s.variant with
  | .f => 0x00070180
  | .l => 0x00050240
  | .n => 0x00060380

/-- Links present. -/
def State.links (s : State) : Nat := field s.sysCap 0 8
/-- Cell slots present. -/
def State.slots (s : State) : Nat := s.links * 24
/-- Safety unit present. -/
def State.hasSaf (s : State) : Bool := bit s.sysCap 16
/-- Recorder DRAM present. -/
def State.hasDram (s : State) : Bool := bit s.sysCap 17

/-! ### Counter and station time (R290-R294) -/

/-- The counter C. -/
def State.cnt (s : State) : Nat := s.now - s.c0

/-- R_d of R291. -/
def State.rate (s : State) (d : Nat) : Nat := s.rg64 .timDRatel .timDRateh d

/-- O_d of R291, 2^-16 tick. -/
def State.ofs (s : State) (d : Nat) : Int :=
  signed 64 (s.rg64 .timDOfsl .timDOfsh d) * 65536 + (s.rf .timDOfsf 0 16 d : Nat)

/-- Put O_d. -/
def State.setOfs (s : State) (d : Nat) (v : Int) : State :=
  let t := lowBits 64 (v.fdiv 65536)
  ((s.rs .timDOfsl (BitVec.ofNat 32 t) d).rs .timDOfsh (BitVec.ofNat 32 (t / 2 ^ 32)) d).rsf .timDOfsf 0 16
    (lowBits 16 v) d

/-- Put R_d. -/
def State.setRate (s : State) (d : Nat) (v : Nat) : State :=
  (s.rs .timDRatel (BitVec.ofNat 32 v) d).rsf .timDRateh 0 16 (v / 2 ^ 32) d

/-- T_d of R291 at counter value `c`, in 2^-16 tick. -/
def State.domAt (s : State) (d : Nat) (c : Nat) : Int := ((c * s.rate d / 2 ^ 24 : Nat) : Int) + s.ofs d

/-- T_d now. -/
def State.dom (s : State) (d : Nat) : Int := s.domAt d s.cnt

/-- Δ at counter value `c`, in 2^-16 tick: it moves at its slope and does not pass 0 (R302). -/
def State.deltaAt (s : State) (c : Nat) : Int :=
  let t := s.tim
  let d := t.delta + (t.slope * ((c : Int) - t.slopeAt) * 65536).tdiv 1000000000
  if 0 < t.delta ∧ t.slope < 0 then max 0 d else if t.delta < 0 ∧ 0 < t.slope then min 0 d else d

/-- Station time S at counter value `c`, in 2^-16 tick: C until set, then T_sel, and Δ (R291, R303, R306). -/
def State.stAt (s : State) (c : Nat) : Int :=
  (if s.tim.isSet then s.domAt s.tim.sel c else ((c * 65536 : Nat) : Int) + s.tim.base) + s.deltaAt c

/-- Carry Δ to now. -/
def settleDelta (s : State) : State := { s with tim := { s.tim with delta := s.deltaAt (s.now - s.c0), slopeAt := s.now - s.c0 } }

/-- Station time now. -/
def State.st (s : State) : Int := s.stAt s.cnt

/-- Whole ticks of S. -/
def State.ticks (s : State) : Int := s.st.fdiv 65536

/-- S, in 2^-16 tick, has passed one of the points `off` + k * `p` in the last tick of C. -/
def State.crosses (s : State) (p off : Int) : Bool :=
  decide (0 < s.cnt) && decide ((s.stAt (s.cnt - 1) - off).fdiv p < (s.st - off).fdiv p)

/-- S has just reached a multiple of `p` ticks (R292). -/
def State.onGrid (s : State) (p : Nat) : Bool := s.crosses ((p * 65536 : Nat) : Int) 0

/-- Short time of R294. -/
def State.short (s : State) : Word := wordOf s.ticks

/-- Short time of an earlier or later instant of the model's clock. -/
def State.shortOf (s : State) (t : Nat) : Word := wordOf ((s.stAt (t - s.c0)).fdiv 65536)

/-- Wire time of R293: seconds, nanoseconds, 2^-16 ns. -/
def wireOf (v : Int) : Nat × Nat × Nat :=
  let n := (divNearest (5 * v) 2).toNat
  (n / (1000000000 * 65536), n / 65536 % 1000000000, n % 65536)

/-- 2^-16 ticks of a wire time, rounded to nearest even (R293, R304). -/
def ofWire (sec ns frac : Nat) : Int :=
  ((sec * 400000000 * 65536 : Nat) : Int) + divNearest (2 * ((ns * 65536 + frac : Nat) : Int)) 5

/-- Whether a short time lies 0 to 5.0 s ahead of now (R294). -/
def State.futureOk (s : State) (w : Word) : Bool :=
  decide (0 ≤ shortDiff w s.short) && decide (shortDiff w s.short ≤ 2000000000)

/-- Whether a short time lies in the last 5.0 s (R378). -/
def State.pastOk (s : State) (w : Word) : Bool :=
  decide (0 ≤ shortDiff s.short w) && decide (shortDiff s.short w ≤ 2000000000)

/-! ### Paths -/

/-- Path q's state. -/
def State.path (s : State) (q : Nat) : PathSt := Tab.get (fun _ => PathSt.empty) s.cmd q

/-- Put path q's state. -/
def State.setPath (s : State) (q : Nat) (p : PathSt) : State :=
  { s with cmd := Tab.set (fun _ => PathSt.empty) s.cmd q p }

/-- The master identity of a path (R361); without a firmware image the loader serves the service port (R469). -/
def State.masterOf (s : State) : Path → Nat
  | .pcie => 7
  | .portA => 8
  | .portB => 9
  | .service => if s.pwr.boot = 4 then 12 else if s.factory then 13 else 10

/-! ### Event records (R375) -/

/-- Queue a record on path `q` when it subscribes to the kind; true when this loss starts an episode. -/
def pushOn (q : Nat) (r : EvRec) (s : State) : State × Bool :=
  let p := s.path q
  if ¬ p.sub.testBit r.kind then (s, false)
  else if p.queue.length < 1024 then
    (s.setPath q { p with queue := p.queue ++ [r], oldest := if p.queue.isEmpty then s.now else p.oldest }, false)
  else (s.setPath q { p with lost := satAdd 0xFFFF p.lost 1, overflow := true }, !p.overflow)

/-- Queue a record on every subscribed path; the number of loss episodes it starts. -/
def pushAll (r : EvRec) (s : State) : State × Nat :=
  [0, 1, 2, 3].foldl (fun (x : State × Nat) q =>
    let y := pushOn q r x.1
    (y.1, if y.2 then x.2 + 1 else x.2)) (s, 0)

/-! ### Faults (R444-R453) -/

/-- Class unacknowledged (R448). -/
def State.unack (s : State) (c : Nat) : Bool := s.rb .fltUnack c

/-- Write one log entry of R447. -/
def logEntry (f : FaultArg) (lvl : Level) (esc first : Bool) (s : State) : State :=
  let k := s.flt.logged % 256
  let hw := f.master.isNone
  let w0 := fld 0 (f.code % 65536) ||| fld 16 (levelCode lvl) ||| fld 18 (levelCode f.base) ||| bitAt 20 esc
    ||| bitAt 21 first ||| bitAt 22 f.inj ||| fld 24 (f.master.getD 0 % 16) ||| fld 28 (f.acc % 8) ||| bitAt 31 hw
  let w3 := fld 0 (s.flt.logged % 65536) ||| fld 16 (f.index % 65536)
  let s := (((s.rs .fltLog w0 k 0).rs .fltLog (BitVec.ofNat 32 f.addr) k 1).rs .fltLog s.short k 2).rs .fltLog w3 k 3
  let s := s.when (decide (256 ≤ s.flt.logged)) (fun s => s.rsb .fltStat 4 true)
  let s := { s with flt := { s.flt with logged := s.flt.logged + 1 } }
  s.rs .fltLogptr (fld 0 (s.flt.logged % 256) ||| fld 16 (min s.flt.logged 65535))

/-- Fill the first-error capture of class `c` (R446). -/
def capture (c : Nat) (f : FaultArg) (lvl : Level) (s : State) : State :=
  let t := lowBits 64 s.ticks
  let w := fld 0 (f.code % 65536) ||| fld 16 (levelCode lvl) ||| fld 18 (f.master.getD 0 % 16) ||| fld 22 (f.acc % 8)
    ||| bitAt 25 f.master.isNone ||| bitAt 26 true
  ((((s.rs .fltFecode w c).rs .fltFeaddr (BitVec.ofNat 32 f.addr) c).rs .fltFetimel (BitVec.ofNat 32 t) c).rs
    .fltFetimeh (BitVec.ofNat 32 (t / 2 ^ 32)) c).rs .fltFecnt 0 c

/-- Raise a fault without its level action: escalation (R449), capture, log, event record. The number of
event-loss episodes it starts and the effective level are returned. -/
def raise0 (f : FaultArg) (s : State) : State × Nat × Level :=
  let c := f.code / 256
  let un := s.unack c
  let lvl := if un then levelUp f.base else f.base
  let s := s.when (!un) (capture c f lvl)
  let s := (s.rsat .fltFecnt 0 16 1 c).when un (fun s => s.rsat .fltFecnt 16 16 1 c)
  let s := s.rsb .fltUnack c true
  let h := max (Tab.get (fun _ => 0) s.flt.hi c) (levelCode lvl)
  let s := { s with flt := { s.flt with hi := Tab.set (fun _ => 0) s.flt.hi c h } }
  let s := logEntry f lvl un (!un) s
  let (s, n) := pushAll ⟨4, levelCode lvl, f.code, s.short, 0⟩ s
  (s, n, lvl)

/-- CMD EVENT_OVERFLOW (L0), once per loss episode started (R375). -/
def overflowFaults : Nat → Nat → State → State
  | 0, _, s => s
  | _, 0, s => s
  | fuel + 1, n + 1, s =>
    let r := raise0 { code := 0x0BC2, base := .l0 } s
    overflowFaults fuel (n + r.2.1) r.1

/-- Queue an event record. -/
def emit (kind ident data16 : Nat) (s : State) (data64 : Nat := 0) : State :=
  let r := pushAll ⟨kind, ident, data16, s.short, data64⟩ s
  overflowFaults 8 r.2 r.1

/-- CMD VIOLATION (R452): logged unless 64 were logged in the last second; it fills a free CMD capture
and makes nothing unacknowledged. -/
def violation (acc addr : Nat) (m : Nat) (st : Status) (s : State) : State :=
  let recent := s.flt.viol.filter (fun t => decide (s.now < t + 400000000))
  let s := { s with flt := { s.flt with viol := recent } }
  if 64 ≤ recent.length then s.rsat .fltVioldrop 0 32 1
  else
    let s := { s with flt := { s.flt with viol := recent ++ [s.now] } }
    let f : FaultArg := { code := 0x0BC3, base := .l0, acc := acc, addr := addr, master := some m, index := statusCode st }
    let free := !(s.unack 0xB) && !(s.rb .fltFecode 26 0xB)
    let s := s.when free (capture 0xB f .l0)
    let s := s.when (s.rb .fltFecode 26 0xB) (fun s => s.rsat .fltFecnt 0 16 1 0xB)
    let s := logEntry f .l0 false free s
    let r := pushAll ⟨4, 0, 0x0BC3, s.short, 0⟩ s
    overflowFaults 8 r.2 r.1

/-- Set a cause of the replacement request (R453). -/
def replaceCause (k : Nat) (s : State) : State :=
  if s.rb .fltReplace k then s else emit 3 2 (2 ^ k) (s.rsb .fltReplace k true)

/-! ### Mailbox queues (R381-R386) -/

/-- Channel c. -/
def State.chan (s : State) (c : Nat) : Chan := Tab.get (fun _ => Chan.empty) s.mbx c

/-- Put channel c. -/
def State.setChan (s : State) (c : Nat) (x : Chan) : State :=
  { s with mbx := Tab.set (fun _ => Chan.empty) s.mbx c x }

/-- Binding of channel c: sender, receiver, enabled; a damaged block of the table disables its channels (R427). -/
def State.bindSrc (s : State) (c : Nat) : Nat := s.rf .mbxBind 0 4 c
def State.bindDst (s : State) (c : Nat) : Nat := s.rf .mbxBind 4 4 c
def State.bindEn (s : State) (c : Nat) : Bool :=
  s.rb .mbxBind 8 c && decide ((Tab.get (fun _ => SmallBlk.clean) s.mem.small ((0x20100 + 4 * c) / 32)).left = 0)

/-- The interrupt or event record that a doorbell or notice bit makes while its mask is 1 (R382). -/
def mailSignal (ident m c : Nat) (s : State) : State :=
  if m = 7 then (emit 5 ident c s).put (.msix 2)
  else if m = 8 ∨ m = 9 ∨ m = 10 then emit 5 ident c s
  else s.put (.mailIrq m c)

/-- Set doorbell bit c. -/
def ringBell (c : Nat) (s : State) : State :=
  let s := s.rsb .mbxDbell c true
  s.when (s.rb .mbxDbmask c) (mailSignal 1 (s.bindDst c) c)

/-- Set notice bit c. -/
def setNote (c : Nat) (s : State) : State :=
  let s := s.rsb .mbxNote c true
  s.when (s.rb .mbxNotemask c) (mailSignal 2 (s.bindSrc c) c)

/-- Queue a message on channel c (R382). -/
def mailPush (c : Nat) (bytes : List Byte) (s : State) : State :=
  let x := s.chan c
  ringBell c (s.setChan c { x with msgs := x.msgs ++ [⟨bytes, false, s.now⟩], since := if x.msgs.isEmpty then s.now else x.since })

/-- The crossing episode of a pair ends when either channel is empty (R384). -/
def endCross (c : Nat) (s : State) : State :=
  let x := s.chan c
  if x.cross ∧ x.msgs.isEmpty then
    let s := (s.setChan c { x with cross := false }).rsb .mbxCross c false
    (List.range 32).foldl (fun s d =>
      if s.bindSrc d = s.bindDst c ∧ s.bindDst d = s.bindSrc c ∧ (s.chan d).cross then
        (s.setChan d { s.chan d with cross := false }).rsb .mbxCross d false
      else s) s
  else s

/-- Reset of a master for the mailboxes: what it would receive is cleared, what it sent stays as orphans,
and notices for it are cleared (R385, R386). -/
def mailReset (m : Nat) (s : State) : State :=
  let s := (List.range 32).foldl (fun s c =>
    if s.bindEn c ∧ s.bindDst c = m then
      let x := s.chan c
      let old := x.msgs.filter (fun g => decide (g.sent < s.now))
      let n := (old.filter (fun g => !g.orphan)).length
      let keep := x.msgs.filter (fun g => decide (s.now ≤ g.sent))
      let s := s.setChan c { x with msgs := keep, aborted := satAdd 255 x.aborted n }
      let s := s.when keep.isEmpty (fun s => s.rsb .mbxDbell c false)
      endCross c (s.when (decide (0 < n)) (setNote c))
    else s) s
  (List.range 32).foldl (fun s c =>
    if s.bindEn c ∧ s.bindSrc c = m then
      let x := s.chan c
      (s.setChan c { x with msgs := x.msgs.map (fun g => { g with orphan := true }), aborted := 0, acked := false }).rsb
        .mbxNote c false
    else s) s

/-! ### Replies (R363-R370) -/

/-- The packet of a reply (R365, R366). -/
def Reply.bytes (r : Reply) : List Byte :=
  let b := ([0x01, 0x00] : List Byte) ++ leBytes 2 (r.opcode + 0x8000) ++ leBytes 2 r.tag.toNat
    ++ leBytes 2 (4 + r.data.length) ++ leBytes 2 r.src ++ leBytes 2 r.session.toNat ++ leBytes 4 r.seq.toNat
    ++ leBytes 2 (statusCode r.status) ++ leBytes 2 r.detail ++ r.data
  b ++ leBytes 4 (crc32c b).toNat

/-- The packet of an event (R375). -/
def eventBytes (seq lost : Nat) (recs : List EvRec) : List Byte :=
  let pay := leBytes 2 recs.length ++ leBytes 2 lost ++ recs.flatMap (fun r =>
    leBytes 1 r.kind ++ leBytes 1 r.ident ++ leBytes 2 r.data16 ++ leBytes 4 r.stamp.toNat ++ leBytes 8 r.data64)
  let b := ([0x11, 0x00] : List Byte) ++ leBytes 2 0x0080 ++ leBytes 2 0 ++ leBytes 2 pay.length ++ leBytes 2 0
    ++ leBytes 2 0 ++ leBytes 4 seq ++ pay
  b ++ leBytes 4 (crc32c b).toNat

/-- Whether the reply ring has a free slot (R363); without rings in use nothing holds a reply back. -/
def State.ringRoom (s : State) : Bool :=
  let n := s.rf .netRqsize 0 11
  !(s.rb .netRingctl 0) || decide ((s.rf .netRqtail 0 10 + 1) % max n 1 ≠ s.rf .netRqhead 0 10)

/-- Advance NET_RQTAIL past a written slot and raise MSI-X vector `v`. -/
def ringAdvance (v : Nat) (s : State) : State :=
  let n := s.rf .netRqsize 0 11
  (s.when (s.rb .netRingctl 0) (fun s => s.rsf .netRqtail 0 10 ((s.rf .netRqtail 0 10 + 1) % max n 1))).put (.msix v)

/-- Whether a reply can leave now. -/
def State.replyRoom (s : State) (r : Reply) : Bool :=
  match r.via with
  | .mailbox c => decide ((s.chan (c + 1)).msgs.length < 16)
  | .port => match r.path with
    | .pcie => s.ringRoom
    | _ => true

/-- Put a reply out: on the ring, the port or the mirror channel (R363, R364, R383). -/
def deliver (r : Reply) (s : State) : State :=
  match r.via with
  | .mailbox c =>
    let small : Reply := if r.bytes.length ≤ 64 then r else { r with status := .badParam, detail := 0x40, data := [] }
    mailPush (c + 1) small.bytes (s.put (.reply small))
  | .port => match r.path with
    | .pcie => ringAdvance 0 (s.put (.reply r))
    | _ => s.put (.reply r)

/-- Keep the last 512 replies of a path with a session, except BUSY (R370). -/
def cacheReply (r : Reply) (s : State) : State :=
  if r.session = 0 ∨ r.status = .busy then s
  else
    let q := pathIndex r.path
    let p := s.path q
    let c := p.cache ++ [⟨r, r.opcode, s.now⟩]
    s.setPath q { p with cache := c.drop (c.length - 512) }

/-- Whether an outstanding entry belongs to a reply. -/
def Outst.isFor (o : Outst) (r : Reply) : Bool :=
  decide (o.hdr.tag = r.tag) && decide (o.hdr.session = r.session) && decide (o.hdr.seq = r.seq)
    && decide (o.opcode = r.opcode) && decide (o.hdr.via = r.via)

/-- Remove the first entry that satisfies `p`. -/
def removeFirst {α : Type} (p : α → Bool) : List α → List α
  | [] => []
  | x :: r => if p x then r else x :: removeFirst p r

/-- Answer an outstanding command: the reply leaves, or waits for room with the command outstanding
(R363). -/
def answer (o : Outst) (st : Status) (detail : Nat) (data : List Byte) (s : State) : State :=
  let r : Reply := ⟨o.hdr.path, o.hdr.via, o.opcode, o.hdr.tag, o.hdr.session, o.hdr.seq, s.masterOf o.hdr.path, st,
    detail, data⟩
  let q := pathIndex o.hdr.path
  if s.replyRoom r then
    let p := s.path q
    cacheReply r (deliver r (s.setPath q { p with outst := removeFirst (fun x => x.isFor r) p.outst }))
  else
    let p := s.path q
    let s := s.setPath q { p with outst := p.outst.map (fun x => if x.isFor r then { x with wait := .ring } else x) }
    { s with ringWait := s.ringWait ++ [r] }

/-- Answer every outstanding command whose wait satisfies `w`. -/
def answerAll (w : Wait → Bool) (st : Status) (detail : Nat) (data : List Byte) (s : State) : State :=
  [0, 1, 2, 3].foldl (fun s q =>
    ((s.path q).outst.filter (fun o => w o.wait)).foldl (fun s o => answer o st detail data s) s) s

/-- Let waiting replies leave while there is room, in order; one that answers a duplicate is not kept again. -/
def drainReplies : List Reply → State → State
  | [], s => s
  | r :: rest, s =>
    if s.replyRoom r then
      let q := pathIndex r.path
      let p := s.path q
      let own := p.outst.any (fun x => x.isFor r && decide (x.wait = .ring))
      let s := { s with ringWait := removeFirst (fun x => decide (x = r)) s.ringWait }
      let s := deliver r s
      let p := s.path q
      drainReplies rest (if own then
        cacheReply r (s.setPath q { p with outst := removeFirst (fun x => x.isFor r) p.outst }) else s)
    else drainReplies rest s

/-- Path reset of R374: subscription, cache and outstanding commands go, without replies. -/
def pathReset (q : Nat) (s : State) : State :=
  let s := { s with ringWait := s.ringWait.filter (fun r => decide (pathIndex r.path ≠ q)) }
  s.setPath q PathSt.empty

/-! ### Module state (R19-R21, R228) -/

/-- SERVICE or FACTORY_TEST. -/
def Mode.bench : Mode → Bool
  | .service | .factoryTest => true
  | _ => false

/-- An entry of the override log (R163). -/
def logOverride (cell old new m : Nat) (s : State) : State :=
  let k := s.rf .fscOvrlogptr 0 5
  let n := s.rf .fscOvrlogptr 16 16
  let s := (s.rs .fscOvrlog (fld 0 cell ||| fld 12 old ||| fld 14 new ||| fld 16 m) k 0).rs .fscOvrlog s.short k 1
  let s := s.when (decide (32 ≤ n)) (fun s => s.rsb .fscStat 6 true)
  s.rs .fscOvrlogptr (fld 0 ((k + 1) % 32) ||| fld 16 (min 65535 (n + 1)))

/-- FSC_GLBOVR takes a new value (R161, R163). -/
def setGlobal (v m : Nat) (s : State) : State :=
  let old := s.rf .fscGlbovr 0 2
  if old = v then s else logOverride 0xFFF old v m (s.rsf .fscGlbovr 0 2 v)

/-- TRIG_OUT0 is released when TRIPPED is left, unless a trigger pulse still runs (R228, R287). -/
def releaseTrip (s : State) : State :=
  let s := { s with flt := { s.flt with tripTo := false } }
  if (s.rcd.pulse.getD 0 none).isSome then s else s.put (.trigOut 0 false)

/-- Enter a module state; a change makes the record of KIND 3, ID 1 (R375). WIN_FIXEN is cleared on leaving SERVICE and
FACTORY_TEST (R116), FSC_GLBOVR on leaving SERVICE (R161). -/
def setMode (m : Mode) (b : Sub) (s : State) : State :=
  if s.mode = m ∧ s.sub = b then s
  else
    let s := s.when (Mode.bench s.mode && !Mode.bench m) (fun s => s.rs .winFixen 0)
    let s := s.when (decide (s.mode = .service) && decide (m ≠ .service)) (setGlobal 0 0)
    let s := s.when (decide (s.mode = .tripped) && decide (m ≠ .tripped) && s.flt.tripTo) releaseTrip
    let d := modeCode m + 16 * subCode b + 256 * modeCode s.mode + 4096 * subCode s.sub
    emit 3 1 d { s with mode := m, sub := b }

/-- The module tripped in this 10 µs frame: a state change requested in it is answered ABORTED (R20). -/
def State.justTripped (s : State) : Bool := decide (s.mode = .tripped) && decide (s.flt.tripFrame = some (s.ticks.fdiv 4000))

/-- The loop engine is running (R71). -/
def State.running (s : State) : Bool :=
  decide (s.mode = .precharge) || decide (s.mode = .run) || decide (s.mode = .stopping)

/-- Links in UP (LNK_UPk). -/
def State.linkUp (s : State) (l : Nat) : Bool := s.rb .lnkUp (l % 32) (l / 32)

/-- A cell after a block order on its link at `at_` in ticks of S (R146, R189): blocked, its queue empty; with `leave` the
order is on its arm, and the cell leaves modulation at the next frame boundary (R216). -/
def Cell.blocked (leave : Bool) (at_ : Int) (c : Cell) : Cell :=
  ⟨c.tel, { c.prot with offFrom := some (c.prot.offFrom.getD at_) },
    { c.fire with blk := true, hit := c.fire.hit || leave, queue := [], held := [], left := [], plan := [], pol := 0 }⟩

/-- The four characters of a block order on link l, 25.6 ticks; a frame in progress is abandoned (R189). On
the clock backup the transmitters are dark (R308). -/
def orderOut (l : Nat) (s : State) : State :=
  if s.rb .clkStat 1 then s else
  let k := Tab.get (fun _ => Link.init) s.lnk l
  let s := s.when (decide (s.ticks < k.eof)) (fun s => s.put (.frameCut l))
  { s.put (.blockOrder l) with lnk := Tab.set (fun _ => Link.init) s.lnk l { k with eof := s.ticks + 26 } }

/-- A block order on the links that `on` names; the cells that `leave` names leave modulation. -/
def blockLinks (on : Nat → Bool) (leave : Nat → Bool) (s : State) : State :=
  let s := (List.range 128).foldl (fun s l => s.when (on l) (orderOut l)) s
  let f (i : Nat) (c : Cell) : Cell := if on (i / 24) then c.blocked (leave i) s.ticks else c
  { s with cells := Tab.mapv (fun _ => Cell.init) f s.cells }

/-- Block orders on every UP link (R189, R228). -/
def blockAll (s : State) : State := blockLinks s.linkUp (fun _ => true) s

end Sys2Proof.Machine
end

