-- ==== Sys2Proof/Machine/Record.lean ====
section
/-!
DEFINITION. The recorder's stream and its trigger units (R273-R287): placing records in units of the ring,
loss, marks, priming and firing.
-/
namespace Sys2Proof.Machine

/-! ### Stream (R275-R281) -/

/-- Recorder on. -/
def State.streaming (s : State) : Bool := s.rb .recCtrl 0

/-- Bytes of the ring (R278). -/
def State.ringBytes (s : State) : Nat := if s.hasDram then s.rf .recRing 0 14 * 1048576 else 32 * 1048576

/-- Bytes of the ring in use: closed units whole, the open unit as filled. -/
def State.ringUsed (s : State) : Nat := s.rcd.closed.length * 4096 + s.rcd.curLen

/-- The 8-byte header of R275; `len` counts the whole record in bytes. -/
def recHead (kind sub len flags : Nat) (stamp : Word) : List Byte :=
  leBytes 1 kind ++ leBytes 1 sub ++ leBytes 1 (len / 8) ++ leBytes 1 flags ++ leBytes 4 stamp.toNat

/-- Close the open unit (R278): the rest of its 4 KiB is padding. -/
def closeUnit (s : State) : State :=
  let r := s.rcd
  if r.cur.isEmpty then s
  else { s with rcd := { r with cur := [], curLen := 0, curAt := none, closed := r.closed ++ [⟨r.cur, r.off⟩],
                                off := r.off + 4096 } }

/-- Bytes of the ring that would be in use after a record of `n` bytes. -/
def State.usedAfter (s : State) (n : Nat) : Nat :=
  let r := s.rcd
  if r.curLen + n ≤ 4096 then r.closed.length * 4096 + r.curLen + n else (r.closed.length + 1) * 4096 + n

/-- Place a record in the stream. -/
def placeRec (b : List Byte) (s : State) : State :=
  let s := s.when (decide (4096 < s.rcd.curLen + b.length)) closeUnit
  let r := s.rcd
  { s with rcd := { r with cur := r.cur ++ [b], curLen := r.curLen + b.length,
                           curAt := if r.cur.isEmpty then some s.now else r.curAt } }

/-- Whether a control record still fits below the end of the ring. -/
def State.ctlFits (s : State) (n : Nat) : Bool := decide (s.usedAfter n ≤ s.ringBytes)

/-- A data record of group `g` carrying `n` items (R281): refused and counted while the loss condition holds
or where it would enter the last 64 KiB, which begins the loss. -/
def dataRec (g n : Nat) (stamp : Word) (b : List Byte) (s : State) : State :=
  if ¬ s.streaming ∨ ¬ s.rcd.live.1.testBit (min g 4) then s
  else
    let r := s.rcd
    if r.loss || decide (s.ringBytes - 65536 < s.usedAfter b.length) then
      { s with rcd := { r with loss := true, lost := r.lost.modify g (· + n),
                               lostFrom := if r.loss then r.lostFrom else stamp, lostTo := stamp } }
    else placeRec b s

/-- A TIME or CONTENT record: dropped without a count where the ring is full. -/
def ctlRec (b : List Byte) (s : State) : State :=
  if s.streaming && s.ctlFits b.length then placeRec b s else s

/-- Δ is being slewed, and is not the remainder of a change of source that blends (R302, R306). -/
def State.slewing (s : State) : Bool := decide (s.deltaAt s.cnt ≠ 0) && !s.tim.blend

/-- TSTAT of R276. -/
def State.tstat (s : State) (step : Bool) : Nat :=
  s.tim.sel + (if s.tim.holdover then 2 else 0) + (if s.slewing ∧ s.tim.isSet then 4 else 0) + (if step then 8 else 0)

/-- The TIME record of R276. -/
def timeRec (step : Bool) (s : State) : State :=
  let (sec, ns, fr) := wireOf s.st
  let off := if 4096 < s.rcd.curLen + 32 then s.rcd.off + 4096 else s.rcd.off + s.rcd.curLen
  ctlRec (recHead 1 0 32 0 s.short ++ leBytes 6 sec ++ leBytes 4 ns ++ leBytes 2 fr ++ leBytes 1 (s.tstat step)
    ++ leBytes 3 0 ++ leBytes 8 off) s

/-- The CONTENT record of R276; the content it states is in force from here on (R289). -/
def contentRec (s : State) : State :=
  let live := (s.rf .recCtrl 4 5, s.rf .recNmask 0 18, s.rf .recCellcfg 0 6)
  let cfg := live.2.1 + live.1 * 2 ^ 24 + live.2.2 * 2 ^ 32
  ctlRec (recHead 8 0 16 0 s.short ++ leBytes 8 cfg) { s with rcd := { s.rcd with live := live } }

/-- The records a step or setting of S writes (R274, R305). -/
def stepRecs (s : State) : State := contentRec (timeRec true s)

/-! ### Trigger units (R283-R287) -/

/-- What a firing puts into its MARK. -/
structure MarkInfo where
  unit : Nat
  interp : Bool
  k : Nat
  time : Int
  bef : Word
  aft : Word
  level : Word
  xval : Word
deriving DecidableEq, Repr

/-- Trigger unit u. -/
def State.trg (s : State) (u : Nat) : TrgSt := Tab.get (fun _ => TrgSt.init) s.rcd.trg u

/-- Put trigger unit u. -/
def State.setTrg (s : State) (u : Nat) (x : TrgSt) : State :=
  { s with rcd := { s.rcd with trg := Tab.set (fun _ => TrgSt.init) s.rcd.trg u x } }

/-- Whether unit u may fire now: armed, enabled and not in hold-off. -/
def State.trgLive (s : State) (u : Nat) : Bool :=
  s.rb .recTrgctl 0 && s.rb .recTucfg 8 u && (match (s.trg u).hold with
    | some h => !(s.rb .recTrgctl 1) || decide (h ≤ s.now)
    | none => true)

/-- Drive output `o` (0 TRIG_OUT0, 1 TRIG_OUT1, 2 XTRIG) for PW µs (R287). -/
def startPulse (o : Nat) (s : State) : State :=
  let until_ := s.now + s.rf .recTrgout 16 8 * 400
  ({ s with rcd := { s.rcd with pulse := s.rcd.pulse.set o (some until_) } }).put (.trigOut o true)

/-- The outputs a firing of unit u drives. -/
def fireOutputs (u : Nat) (s : State) : State :=
  let s := s.when (s.rb .recTrgout u && !(s.rb .celCtrl 16)) (startPulse 0)
  let s := s.when (s.rb .recTrgout (4 + u)) (startPulse 1)
  s.when (s.rb .recTrgout (8 + u)) (startPulse 2)

/-- A MARK enters the stream, or is lost where the reserve is full (R281). -/
def placeMark (b : List Byte) (s : State) : State :=
  if s.ctlFits b.length then placeRec b s else (s.rsat .recMarklost 0 32 1).rsb .recEvt 2 true

/-- The MARKs that waited for their sample's record follow it (R274). -/
def flushMarks (s : State) : State :=
  s.rcd.marks.foldl (fun s b => placeMark b s) { s with rcd := { s.rcd with marks := [] } }

/-- The MARKs made at this core clock get COINC: another unit fires in it (R283). -/
def markCoinc (s : State) : State :=
  let r := s.rcd
  let f (b : List Byte) : List Byte := if r.firedRecs.contains b then b.modify 3 (fun x => x ||| 8) else b
  { s with rcd := { r with cur := r.cur.map f, marks := r.marks.map f, firedRecs := r.firedRecs.map f,
                           closed := r.closed.map (fun u => { u with recs := u.recs.map f }) } }

/-- Fire one unit: count, MARK record, event bit, hold-off, outputs. -/
def fireOne (coinc : Bool) (own : Bool) (m : MarkInfo) (s : State) : State :=
  let single := !(s.rb .recTrgctl 1)
  let s := (s.rsat .recTucnt 0 32 1 m.unit).rsb .recEvt 1 true
  let flags := (if m.interp then 1 else 0) + (if own then 2 else 0) + (if single then 4 else 0) + (if coinc then 8 else 0)
  let b := recHead 9 m.unit 32 flags (wordOf (m.time.fdiv 65536)) ++ leBytes 2 (lowBits 16 m.time)
    ++ leBytes 1 (s.rf .recTucfg 0 6 m.unit) ++ leBytes 1 m.k ++ leBytes 4 m.bef.toNat ++ leBytes 4 m.aft.toNat
    ++ leBytes 4 m.level.toNat ++ leBytes 4 m.xval.toNat ++ leBytes 4 (s.rg .recTucnt m.unit).toNat
  let src := s.rf .recTucfg 0 6 m.unit
  let waits := decide (0x18 ≤ src) && decide (src ≤ 0x1D) && !s.fil.eng.sets.isEmpty
  let s := { s with rcd := { s.rcd with firedRecs := s.rcd.firedRecs ++ [b] } }
  let s := if ¬ s.streaming then s
    else if waits then { s with rcd := { s.rcd with marks := s.rcd.marks ++ [b] } }
    else placeMark b s
  let s := s.when (!single) (fun s => s.setTrg m.unit { s.trg m.unit with hold := some (s.now + s.rf .recTucfg 16 16 m.unit * 4000) })
  fireOutputs m.unit s

/-- Fire every live unit among candidates of the present core clock; a firing in SINGLE mode clears ARM, and units whose
decisions fall in the same core clock still fire (R283). -/
def fireUnits (ms : List MarkInfo) (s : State) : State :=
  let again := decide (s.rcd.fired = some s.now)
  let single := !(s.rb .recTrgctl 1)
  let go := ms.filter (fun m => s.trgLive m.unit || (again && single && s.rb .recTucfg 8 m.unit))
  if go.isEmpty then s
  else
    let own := (s.rcd.pulse.getD 2 none).isSome
    let x24 (m : MarkInfo) : Bool := decide (s.rf .recTucfg 0 6 m.unit = 0x24)
    let s := if again then markCoinc s else { s with rcd := { s.rcd with fired := some s.now, firedRecs := [] } }
    let s := go.foldl (fun s m => fireOne (again || decide (1 < go.length)) (own && x24 m) m s) s
    s.when single (fun s => s.rsb .recTrgctl 0 false)

/-- Candidates for an edge or fault source, all times equal to the given one. -/
def edgeMarks (src : Nat) (okDir : Nat → Bool) (time : Int) (level : Word) (s : State) : List MarkInfo :=
  ((List.range 4).filter (fun u => decide (s.rf .recTucfg 0 6 u = src) && okDir (s.rf .recTucfg 6 2 u))).map (fun u =>
    let w := wordOf (time.fdiv 65536)
    ⟨u, false, 0, time, w, w, if src = 0x28 then level else s.rg .recTulevel u, 0⟩)

/-- Priming of R285 by a usable sample. -/
def prime (u : Nat) (x : Int) (s : State) : State :=
  let lvl := (s.rg .recTulevel u).toInt
  let hy : Int := (s.rf .recTuhyst 0 31 u : Nat)
  let t := s.trg u
  s.setTrg u { t with low := t.low || decide (x ≤ lvl - hy), high := t.high || decide (lvl + hy ≤ x) }

/-- The crossing of unit u between its last usable sample and `x` at `t2` (R285, R286). -/
def crossing (u : Nat) (x : Int) (t2 : Word) (s : State) : Option MarkInfo :=
  let lvl := (s.rg .recTulevel u).toInt
  let dir := s.rf .recTucfg 6 2 u
  let t := s.trg u
  match t.prev with
  | none => none
  | some (x1, t1) =>
    let up := decide (dir ≠ 1) && t.low && decide (x1 < lvl) && decide (lvl ≤ x)
    let dn := decide (dir ≠ 0) && t.high && decide (lvl < x1) && decide (x ≤ lvl)
    if up || dn then
      let k := (min 255 (max 0 ((256 * (lvl - x1)).fdiv (x - x1)))).toNat
      let base := s.ticks - shortDiff s.short t1
      let time := base * 65536 + (k : Int) * shortDiff t2 t1 * 256
      some ⟨u, true, k, time, t1, t2, s.rg .recTulevel u, wordOf x⟩
    else none

/-- Unit u ignores its source: it has fired in AUTO mode and its hold-off runs (R283). -/
def State.holding (s : State) (u : Nat) : Bool :=
  s.rb .recTrgctl 1 && (s.trg u).hold.any (fun h => decide (s.now < h))

/-- A sample of source `src` reaches the trigger units (R285): an unusable sample breaks a crossing, a unit in hold-off ignores
it, and a firing unprimes its unit, which the firing sample does not prime again. -/
def sampleTrigger (src : Nat) (x : Int) (stamp : Word) (usable : Bool) (s : State) : State :=
  let us := (List.range 4).filter (fun u => decide (s.rf .recTucfg 0 6 u = src))
  let deaf := us.filter (fun u => !usable || s.holding u)
  let us := us.filter (fun u => usable && !(s.holding u))
  let s := deaf.foldl (fun s u => s.setTrg u { s.trg u with prev := none }) s
  let ms := us.filterMap (fun u => crossing u x stamp s)
  let fires (u : Nat) : Bool := ms.any (fun m => decide (m.unit = u)) && (s.trgLive u
    || (decide (s.rcd.fired = some s.now) && !(s.rb .recTrgctl 1) && s.rb .recTucfg 8 u))
  let s := fireUnits ms s
  us.foldl (fun s u =>
    let s := if fires u then s.setTrg u { s.trg u with low := false, high := false } else prime u x s
    s.setTrg u { s.trg u with prev := some (x, stamp) }) s

end Sys2Proof.Machine
end

