-- ==== Sys2Proof/Machine/Faults.lean ====
section
/-!
DEFINITION. Raising a fault with what its effective level does (R20, R21, R228, R445-R450), and the ends of
operation: block, trip, stop.
-/
namespace Sys2Proof.Machine

/-- Arm a (R12). -/
def State.arm (s : State) (a : Nat) : Arm := Tab.get (fun _ => Arm.init) s.arms a

/-- Put arm a. -/
def State.setArm (s : State) (a : Nat) (x : Arm) : State :=
  { s with arms := Tab.set (fun _ => Arm.init) s.arms a x }

/-- Every arm blocked: no arm is deblocked. -/
def blockArms (s : State) : State :=
  (List.range 6).foldl (fun s a => s.setArm a { s.arm a with deblocked := false, pwm := none }) s

/-- A burst ends: its length stays in PWR_THSTAT.BURST_MS and the interval of R473 starts (R474); transaction timers stood
still during it (R197). -/
def endBurst (s : State) : State :=
  match s.pwr.burstStart with
  | none => { s with len := { s.len with bur := ⟨false, false, 0⟩ } }
  | some b =>
    let s := s.rsf .pwrThstat 0 16 (min 65535 ((s.now - b) / 400000))
    let late (x : Txn) : Txn := { x with sent := x.sent + (s.now - b) }
    let s := { s with lnk := Tab.mapv (fun _ => Link.init) (fun _ k => { k with flight := k.flight.map late }) s.lnk }
    { s with len := { s.len with bur := ⟨false, false, 0⟩ }, pwr := { s.pwr with burstStart := none, burstEnd := some s.now } }

/-- The loop engine stops (R71): pending requests, resynchronisation, burst and precharge end. -/
def stopEngine (s : State) : State :=
  let l := s.len
  let run := { l.run with stopReq := false, tieReq := none, estAt := none, guard := false }
  let frt := { l.frt with isl := false, islPeak := false }
  let s := endBurst { s with len := { l with pend := none, rs := { l.rs with on := false, permit := false }, run := run,
                                             frt := frt } }
  { s with win := { s.win with stage := 0, ready := false, readySince := none } }

/-- Enter ARMED from a running state: every arm blocked, the engine stopped (R19, R58, R59). -/
def enterArmed (s : State) : State := setMode .armed s.sub (stopEngine (blockArms s))

/-- Whether an orderly partner can take the awn (R337): pairing on, link up, standby ready. -/
def State.pairReady (s : State) : Bool :=
  s.rb .redCtrl 0 && s.red.linkUp && (match s.red.beat with
    | some b => b.ready
    | none => false)

/-- Ask both safety lanes for SF1 (R228). -/
def askSf1 (trip : Bool) (s : State) : State :=
  if s.hasSaf then { s with saf := { s.saf with modReq := true, trip4 := s.saf.trip4 || trip } } else s

/-- With TRIP_TO the TRIG_OUT0 output is driven until TRIPPED is left (R228). -/
def driveTrip (s : State) : State :=
  if s.rb .celCtrl 16 ∧ ¬ s.flt.tripTo then { s.put (.trigOut 0 true) with flt := { s.flt with tripTo := true } } else s

/-- Test time of BIST unit u in ms (R456). -/
def bistMs (u : Nat) : Nat :=
  ([60, 25, 25, 40, 15, 35, 0, 0, 300, 5, 10, 15, 3, 1, 1, 300, 60, 120] : List Nat).getD u 0

/-- Units of a mask in the order of testing. -/
def bistUnits (mask : Nat) : List Nat := (List.range 18).filter (fun u => mask.testBit u)

/-- Length of a run over a mask, in ticks. -/
def bistTicks (mask : Nat) : Nat := ((bistUnits mask).map bistMs).sum * 400000

/-- Units of a list finished after `ms` milliseconds, and the one under test. -/
def bistProgress : List Nat → Nat → List Nat × Nat
  | [], _ => ([], 0)
  | [u], ms => (if bistMs u ≤ ms then [u] else [], u)
  | u :: r, ms => if bistMs u ≤ ms then (u :: (bistProgress r (ms - bistMs u)).1, (bistProgress r (ms - bistMs u)).2)
    else ([], u)

/-- Where a run stands: units finished, unit under test. -/
def State.bistAt (s : State) : List Nat × Nat := bistProgress (bistUnits s.bst.mask) ((s.now - s.bst.start) / 400000)

/-- Units whose test takes the links to LISTEN frames (R457). -/
def bistQuiet (u : Nat) : Bool := decide (u ≤ 3) || decide (u = 11)

/-- The run in progress keeps the links at LISTEN frames. -/
def State.bistListen (s : State) : Bool :=
  s.bst.running && ((s.bistAt.1 ++ [s.bistAt.2]).any bistQuiet)

/-- Abort a self-test run (R457): the reply is ABORTED with the unit in progress in the detail; units already tested
keep their results, which BIST_COMPLETE brings. -/
def abortBist (s : State) : State :=
  if s.bst.running then
    let p := s.bistAt
    let s := { s with bst := { s.bst with running := false, aborted := true, unit := p.2,
                                          mask := (p.1.map (fun u => 2 ^ u)).sum } }
    answerAll (fun w => decide (w = .bist)) .aborted s.bst.unit [] s
  else s

/-- The trip of R20 and R228. `blocked` says that the block orders were already sent for this fault (R226);
`trip` whether the request counts as the converter trip of R404. -/
def tripNow (blocked trip : Bool) (s : State) : State :=
  let s := abortBist s
  match s.mode with
  | .armed | .precharge | .run | .stopping | .service =>
    let s := s.when (!blocked) blockAll
    let s := driveTrip (askSf1 trip { s with saf := { s.saf with trip4 := false } })
    let s := stopEngine (blockArms s)
    let s := answerAll (fun w => match w with
      | .mode _ | .switchover => true
      | _ => false) .aborted 0 [] s
    setMode .tripped s.sub { s with red := { s.red with hand := none, takeReq := false },
                                    flt := { s.flt with tripFrame := some (s.ticks.fdiv 4000) } }
  | .tripped => driveTrip (askSf1 trip s)
  | .init | .standbyCold | .factoryTest => askSf1 trip s
  | .off => s

/-- What an L2 fault does (R21, R445): STOPPING or a handover from RUN at the next outer boundary, block and
ARMED from PRECHARGE. -/
def stopNow (s : State) : State :=
  match s.mode with
  | .run =>
    if s.pairReady then { s with red := { s.red with takeReq := true } }
    else { s with len := { s.len with run := { s.len.run with stopReq := true } } }
  | .precharge =>
    enterArmed (answerAll (fun w => match w with
      | .mode _ => true
      | _ => false) .aborted 0 [] (blockAll s))
  | _ => s

/-- What a fault's effective level does beyond the log (R445). -/
def levelAction (code : Nat) (lvl : Level) (blocked : Bool) (s : State) : State :=
  match lvl with
  | .l0 | .l1 => s
  | .l2 => stopNow s
  | .l3 => tripNow blocked (decide (code ≠ 0x0AB1)) s

/-- The short time of the first error of class `c` (R284), where its capture holds one. -/
def State.firstTime (s : State) (c : Nat) : Int := signed 64 (s.rg64 .fltFetimel .fltFetimeh c)

/-- Fire the trigger units whose source is a fault at or above FLTLVL (R284). -/
def faultTrigger (code : Nat) (lvl : Level) (s : State) : State :=
  let t := s.firstTime (code / 256) * 65536
  let ms := (edgeMarks 0x28 (fun _ => true) t (BitVec.ofNat 32 code) s).filter (fun m =>
    decide (s.rf .recTucfg 9 2 m.unit ≤ levelCode lvl))
  fireUnits ms s

/-- Raise a fault: escalation, capture, log, event record, trigger units, level action. -/
def raise (f : FaultArg) (s : State) (blocked : Bool := false) : State :=
  let r := raise0 f s
  let s := overflowFaults 8 r.2.1 r.1
  levelAction f.code r.2.2 blocked (faultTrigger f.code r.2.2 s)

/-- Raise a fault with no address. -/
def fault (code : Nat) (base : Level) (s : State) (index : Nat := 0) : State :=
  raise { code := code, base := base, index := index } s

/-- Raise a fault that concerns a link, arm or cell register (access type 3). -/
def faultAt (code : Nat) (base : Level) (n : RName) (i : Nat) (s : State) : State :=
  raise { code := code, base := base, acc := 3, addr := regAddr n i, index := i } s

/-- A fault detected in the present clock together with others: it is raised with them by `raiseHeld` (R450). -/
def holdFault (f : FaultArg) (blocked : Bool) (s : State) : State :=
  { s with flt := { s.flt with same := s.flt.same ++ [(f, blocked)] } }

/-- The same at register n of index i. -/
def holdAt (code : Nat) (base : Level) (n : RName) (i : Nat) (s : State) : State :=
  holdFault { code := code, base := base, acc := 3, addr := regAddr n i, index := i } false s

/-- Faults of one clock in the order in which R450 raises them: ascending class, then ascending code, which the code gives
as one number. -/
def inOrder (l : List (FaultArg × Bool)) : List (FaultArg × Bool) := sortBy (fun x y => decide (x.1.code < y.1.code)) l

/-- The faults detected in one clock are raised in order (R450). -/
def raiseHeld (s : State) : State :=
  (inOrder s.flt.same).foldl (fun s x => raise x.1 s x.2) { s with flt := { s.flt with same := [] } }

end Sys2Proof.Machine
end

