-- ==== Sys2Proof/Machine/RegBase.lean ====
section
/-!
DEFINITION. What the register rules of the units share: a refusal with its logging, the store of a written
word, and the tests that many rules name (running, blocks, awn).
-/
namespace Sys2Proof.Machine

/-- A refused access: its status and whether its rule calls for logging (R452). -/
structure Deny where
  st : Status
  log : Bool
deriving DecidableEq, Repr

/-- A check: nothing, or a refusal. -/
abbrev Check := Option Deny

/-- Refusals by their status; only the ones marked so are logged as violations. -/
def bad : Check := some ⟨.badParam, false⟩
def badState : Check := some ⟨.state, false⟩
def busyNow : Check := some ⟨.busy, false⟩
def denied : Check := some ⟨.accessDenied, true⟩
def deniedBusy : Check := some ⟨.busy, true⟩

/-- Refuse with `c` when `b` holds. -/
def refuse (b : Bool) (c : Check) : Check := if b then c else none

/-- The first refusal of a list of checks. -/
def firstOf : List Check → Check
  | [] => none
  | some d :: _ => some d
  | none :: r => firstOf r

/-- The stored bits of a register: those of its row, but for the flag and CFG words that end a profile, a biquad
section and a region entry. -/
def Reg.rwBits (r : Reg) : Nat :=
  match r.name, r.j with
  | .lenProf, 9 => 0xF
  | .lenBiq, 10 => 0x33F
  | .lenRegn, 12 => 0x10F0F
  | .fscFxcell, 1 => 0x7FFFF
  | n, _ => n.spec.rw

/-- The word a write of `v` leaves in register `r`: stored bits take `v`, written W1C bits clear. -/
def mergedWord (s : State) (r : Reg) (v : Word) : Word :=
  let p := r.name.spec
  let old := s.rg r.name r.i r.j
  let rw : Word := BitVec.ofNat 32 r.rwBits
  let w1 : Word := BitVec.ofNat 32 p.w1c
  ((old &&& ~~~ rw) ||| (v &&& rw)) &&& ~~~ (v &&& w1)

/-- Store a write. -/
def storeReg (r : Reg) (v : Word) (s : State) : State := s.rs r.name (mergedWord s r v) r.i r.j

/-- Whether field [lo + n - 1 : lo] of `v` lies outside [a, b]. -/
def outside (v : Word) (lo n a b : Nat) : Bool := decide (field v lo n < a) || decide (b < field v lo n)

/-- The register at an address; self-test units 6 and 7 do not exist (R456). -/
def regAt (addr : Nat) : Option Reg :=
  match decodeReg addr with
  | some r =>
    if (r.name = .bstSig ∨ r.name = .bstRef ∨ r.name = .bstDet) ∧ (r.i = 6 ∨ r.i = 7) then none else some r
  | none => none

/-- Frame period in ticks: 10 µs, or 5 µs at burst rate (R66). -/
def State.framePeriod (s : State) : Nat := if s.len.bur.on then 2000 else 4000

/-- This instant is a frame boundary that has not been taken yet: a multiple of the frame period (R292), or the boundary
of the old grid at which S was stepped; after a step the next is at least 2,000 ticks later (R305). -/
def State.atFrame (s : State) : Bool :=
  decide (s.tim.frameAt ≠ some s.now) && (match s.tim.stepAt with
    | none => s.onGrid s.framePeriod
    | some b => decide (b = s.now) || (decide (b + 2000 ≤ s.now) && s.onGrid s.framePeriod))

/-- This instant is an outer boundary that has not been taken yet (R64). -/
def State.atOuter (s : State) : Bool :=
  decide (s.tim.outAt ≠ some s.now) && (match s.tim.stepAt with
    | none => s.onGrid 40000
    | some b => decide (b + 2000 ≤ s.now) && s.onGrid 40000)

/-- The grid point last reached, in ticks of S. -/
def State.gridPoint (s : State) : Int := s.ticks - s.ticks % (s.framePeriod : Int)

/-- The next grid point of a period strictly after `x`. -/
def nextGrid (period : Nat) (x : Int) : Int := x - x % (period : Int) + period

/-- Master identities that exist: 14 and 15 are never assigned (R372), 5 and 6 are the safety lanes (R3). -/
def State.hasMaster (s : State) (m : Nat) : Bool := decide (m < 14) && (!(decide (m = 5) || decide (m = 6)) || s.hasSaf)

/-- This module holds the awn (R318). -/
def State.awn (s : State) : Bool := s.red.awn

/-- Host paths and other masters by number (R372): cores 0-4 and 12, lanes 5 and 6, paths 7-10, partner 11,
factory 13. -/
def isHost (m : Nat) : Bool := decide (7 ≤ m) && decide (m ≤ 10)

end Sys2Proof.Machine
end

