-- ==== Sys2Proof/Machine/Fil.lean ====
section
/-!
DEFINITION. The measurement and filter chain (R235-R258).
-/
namespace Sys2Proof.Machine

/-! ### Configuration of a normal channel (R239, R247, R249) -/

/-- The fields of FIL_NCFGn and FIL_NSHFn. -/
structure NCfg where
  src : Nat
  wide : Bool
  d : Nat
  dfir : Nat
  taps : Nat
  med : Nat
  csel : Nat
  shift1 : Nat
  shift2 : Nat
  phase : Nat
deriving DecidableEq, Repr

/-- Configuration of channel n. -/
def State.nCfg (s : State) (n : Nat) : NCfg where
  src := s.rf .filNcfg 0 5 n
  wide := s.rb .filNcfg 5 n
  d := s.rf .filNcfg 8 8 n + 1
  dfir := s.rf .filNcfg 16 3 n + 1
  taps := s.rf .filNcfg 20 6 n + 1
  med := 2 * s.rf .filNcfg 26 2 n + 1
  csel := s.rf .filNcfg 28 3 n
  shift1 := s.rf .filNshf 0 4 n
  shift2 := s.rf .filNshf 8 5 n
  phase := s.rf .filNshf 16 10 n

/-- The SAMP that a loop delay in 0.1 ns asks for (R493). -/
def sampFor (loop : Nat) : Nat := min 19 ((2 * (loop + 250) + 25) / 50)

/-- The median window in force: bypassed in WIDE mode (R243). -/
def NCfg.m (c : NCfg) : Nat := if c.wide then 1 else c.med

/-- Group delay G in ticks, G × 20 (R247). -/
def NCfg.delay (c : NCfg) : Nat :=
  c.phase * 20 + 30 * (c.d - 1) + 10 * c.d * (c.taps - 1) + 10 * c.d * c.dfir * (c.m - 1)

/-- Number of UNSETTLED outputs (R249). -/
def NCfg.unsettled (c : NCfg) : Nat := 3 + (c.taps - 1 + c.dfir - 1) / c.dfir + (c.m - 1) / 2

/-- Ticks between outputs. -/
def NCfg.period (c : NCfg) : Nat := c.d * c.dfir * 20

/-- Span of an output in clock periods (R254). -/
def NCfg.span (c : NCfg) : Nat := 3 * c.d - 2 + c.d * (c.taps - 1) + c.d * c.dfir * (c.m - 1)

/-- Channel n. -/
def State.nch (s : State) (n : Nat) : NChan := Tab.get (fun _ => NChan.init) s.fil.ch n

/-- Put channel n. -/
def State.setNch (s : State) (n : Nat) (c : NChan) : State :=
  { s with fil := { s.fil with ch := Tab.set (fun _ => NChan.init) s.fil.ch n c } }

/-- Input i. -/
def State.inp (s : State) (i : Nat) : InpSt := Tab.get (fun _ => InpSt.init) s.fil.inp i

/-- Put input i. -/
def State.setInp (s : State) (i : Nat) (x : InpSt) : State :=
  { s with fil := { s.fil with inp := Tab.set (fun _ => InpSt.init) s.fil.inp i x } }

/-- Put the privileged engine. -/
def State.setEng (s : State) (e : PEng) : State := { s with fil := { s.fil with eng := e } }

/-- A channel counts as running from the write of 1 onwards (R250). -/
def State.nRuns (s : State) (n : Nat) : Bool := s.rb .filNrun n

/-- The privileged engine runs or its start is pending. -/
def State.pRuns (s : State) : Bool := s.rb .filPctrl 0

/-- Whether an enabled LEN_INSELk names channel n (R252). -/
def State.lenUses (s : State) (n : Nat) : Bool :=
  (List.range 9).any (fun k => s.rb .lenInsel 8 k && decide (s.rf .lenInsel 0 5 k = n))

/-- The comparator threshold T_int of arm a in sinc2 units under a threshold word (R246). -/
def State.tInt (s : State) (th : Word) (a : Nat) : Int := ((Num.ofB32 th).div (s.rnum .lenArmscl a).abs).floor

/-- An arm's current is at or beyond the release level of R225. -/
def State.relHigh (s : State) (a : Nat) (v : Int) : Bool :=
  let lim := (Num.ofB32 (s.win.octh.getD a 0)).mul (Num.ofRatio (field s.win.occ 16 8) 100)
  !(Num.lt ((Num.ofInt v).mul (s.rnum .lenArmscl a)).abs lim)

/-! ### Registers (R251-R253, R258) -/

/-- FIL_NGDn for the configuration in force. -/
def ngdWord (c : NCfg) : Word := fld 0 c.delay ||| fld 24 c.unsettled

/-- The words of FIL_NOUTn for a sample (R253). -/
def noutWord (x : Samp) (j : Nat) : Word :=
  match j with
  | 0 => wordOf x.val
  | 1 => BitVec.ofNat 32 (lowBits 64 x.val / 2 ^ 32)
  | 2 => x.stamp
  | _ => fld 0 x.flags ||| fld 16 (x.seq % 65536)

/-- The words of FIL_POUTk for a sample (R253). -/
def poutWord (x : Samp) (j : Nat) : Word :=
  match j with
  | 0 => wordOf x.val
  | 1 => x.stamp
  | _ => fld 0 x.flags ||| fld 16 (x.seq % 65536)

/-- Computed registers of the block. -/
def filRead (s : State) (r : Reg) : Option Word :=
  match r.name with
  | .filStat => some (bitAt 0 s.pRuns ||| bitAt 1 (s.pRuns && decide (2 < s.fil.eng.j)))
  | .filNsettled => some (packBits ((List.range 18).map (fun n =>
      s.nRuns n && decide ((s.nCfg n).unsettled < (s.nch n).j))))
  | .filInstat => some (packBits ((List.range 24).map (fun i => (s.inp i).stuck)))
  | .filNgd => some (ngdWord (s.nCfg r.i))
  | .filNout => if r.j = 0 then some (noutWord (s.nch r.i).last 0) else none
  | .filPout => if r.j = 0 then some (poutWord (s.fil.eng.last.getD r.i Samp.zero) 0) else none
  | _ => none

/-- Snapshot of R253: the read of a first word takes the newest sample. -/
def filSnapshot (r : Reg) (s : State) : State :=
  match r.name, r.j with
  | .filNout, 0 => (List.range 4).foldl (fun s j => s.rs .filNout (noutWord (s.nch r.i).last j) r.i j) s
  | .filPout, 0 =>
    let x := s.fil.eng.last.getD r.i Samp.zero
    (List.range 3).foldl (fun s j => s.rs .filPout (poutWord x j) r.i j) s
  | _, _ => s

/-- Inputs that a running channel reads (R251). -/
def State.readInput (s : State) (i : Nat) : Bool :=
  (decide (i < 6) && s.pRuns) || (List.range 18).any (fun n => s.nRuns n && decide ((s.nCfg n).src = i))

/-- Rules for a write of `v` in the block, judged on the present state. -/
def filCheck (s : State) (r : Reg) (v : Word) : Check :=
  match r.name with
  | .filCtrl => refuse (outside v 0 8 16 255) bad
  | .filPctrl => refuse (s.running && s.pRuns && !(bit v 0)) badState
  | .filNrun => refuse (s.running && (List.range 18).any (fun n => s.nRuns n && !(bit v n) && s.lenUses n)) badState
  | .filSamp => firstOf [
      refuse ((List.range 6).any (fun k => s.readInput (6 * r.i + k)
        && decide (field v (5 * k) 5 ≠ s.rf .filSamp (5 * k) 5 r.i))) denied,
      refuse ((List.range 6).any (fun k => decide (19 < field v (5 * k) 5))) bad]
  | .filNcfg => firstOf [
      refuse (s.nRuns r.i) denied,
      refuse (outside v 0 5 6 23 || outside v 8 8 7 255) bad]
  | .filNshf => refuse (s.nRuns r.i) denied
  | .filCoef => refuse ((List.range 18).any (fun n => s.nRuns n && decide ((s.nCfg n).csel = r.i))) denied
  | _ => none

/-- The PRIV record of the sets waiting (R276). -/
def privRec (s : State) : State :=
  match s.fil.eng.sets with
  | [] => s
  | (st0, v0, f0) :: rest =>
    let sets := (st0, v0, f0) :: rest
    let vals := (List.range 4).flatMap (fun j => (List.range 6).flatMap (fun k =>
      leBytes 2 (lowBits 16 (((sets.getD j (0, [], 0)).2.1).getD k 0))))
    let fl := (List.range 4).flatMap (fun j => leBytes 1 (sets.getD j (0, [], 0)).2.2)
    let b := recHead 2 sets.length 64 0 st0 ++ vals ++ fl ++ leBytes 4 0
    flushMarks (dataRec 0 sets.length st0 b (s.setEng { s.fil.eng with sets := [] }))

/-- Effects of a write that R250 gives. -/
def filWrite (r : Reg) (v : Word) (s : State) : State :=
  match r.name with
  | .filPctrl =>
    if bit v 0 = s.pRuns then s
    else
      let s2 := storeReg r v s
      if bit v 0 then s2.setEng { s.fil.eng with pend := some s.now }
      else
        let s2 := privRec s2
        s2.setEng { PEng.init with last := s2.fil.eng.last }
  | .filNrun =>
    (List.range 18).foldl (fun (s' : State) n =>
      if bit v n = s.nRuns n then s'
      else if bit v n then s'.setNch n { s'.nch n with pend := some s'.now }
      else s'.setNch n { NChan.init with last := (s'.nch n).last }) (storeReg r v s)
  | _ => storeReg r v s

/-! ### Stuck inputs (R254) -/

/-- Raise the fault of a stuck input that something running reads, once per entry. -/
def stuckFault (i : Nat) (s : State) : State :=
  let x := s.inp i
  if ¬ x.stuck ∨ x.muted then s
  else if i < 6 ∧ s.pRuns then
    fault 0x0581 (if s.running then .l3 else .l1) (s.setInp i { x with muted := true }) i
  else if (List.range 18).any (fun n => s.nRuns n && decide ((s.nCfg n).src = i)) then
    fault 0x0580 .l1 (s.setInp i { x with muted := true }) i
  else s

/-- Input `i` leaves the stuck state by a transition clocked at `t`. -/
def transition (i : Nat) (t : Int) (s : State) : State :=
  let x := s.inp i
  if x.stuck then
    s.setInp i { x with stuck := false, okFrom := t, past := (x.past ++ [(x.since, t)]).drop (x.past.length - 15) }
  else s

/-- Transitions of input `i` clocked at `ts`, in time order: the first one after the stuck state was entered ends it. -/
def transitions (i : Nat) (ts : List Int) (s : State) : State :=
  let x := s.inp i
  let s := s.setInp i { x with lastT := match ts.getLast? with
    | some t => some t
    | none => x.lastT }
  match ts.find? (fun t => decide (x.since < t)) with
  | some t => transition i t s
  | none => s

/-- Whether a stuck period of input i lies in the span of bits clocked from `lo` to `hi`. -/
def InpSt.hits (x : InpSt) (lo hi : Int) : Bool :=
  (x.stuck && decide (x.since ≤ hi)) || x.past.any (fun p => decide (p.1 ≤ hi) && decide (lo < p.2))

/-- Indices of the bits that differ from their predecessors, from index `k` on. -/
def changesOf : Option Bool → List Bool → Nat → List Nat
  | _, [], _ => []
  | a, b :: r, k => if a = none ∨ a = some b then changesOf (some b) r (k + 1) else k :: changesOf (some b) r (k + 1)

/-! ### Normal channel arithmetic (R238-R243) -/

/-- Saturate to 24 bits with the saturation mark. -/
def sat24 (v : Int) : Int × Bool :=
  if v < -8388608 then (-8388608, true) else if 8388607 < v then (8388607, true) else (v, false)

/-- Arithmetic right shift with rounding, then saturation (R240). -/
def shiftSat (k : Nat) (v : Int) : Int × Bool :=
  sat24 (if k = 0 then v else (v + (2 ^ (k - 1) : Nat)).fdiv (2 ^ k : Nat))

/-- One integrator step of the sinc3 stage, modulo 2^64. -/
def sincBit (i : Nat × Nat × Nat) (b : Bool) : Nat × Nat × Nat :=
  let m := 2 ^ 64
  let a := (i.1 + (if b then 1 else m - 1)) % m
  let c := (i.2.1 + a) % m
  (a, c, (i.2.2 + c) % m)

/-- The combs: output and new delays. -/
def sincComb (c : Nat × Nat × Nat) (x : Nat) : Nat × (Nat × Nat × Nat) :=
  let m := 2 ^ 64
  let d1 := (x + m - c.1) % m
  let d2 := (d1 + m - c.2.1) % m
  ((d2 + m - c.2.2) % m, (x, d1, d2))

/-- One decimator output from `d` bits, pushed through the first shift onto the FIR history. -/
def decimate (c : NCfg) (bits : List Bool) (x : NChan) : NChan :=
  let i := bits.foldl sincBit x.int
  let (y, cb) := sincComb x.comb i.2.2
  let (v, f) := if c.wide then (signed 64 y, false) else shiftSat c.shift1 (signed 32 y)
  { x with int := i, comb := cb, hist := ((v, f) :: x.hist).take c.taps }

/-- The decimator outputs of one channel output. -/
def decimateAll (c : NCfg) : Nat → List Bool → NChan → NChan
  | 0, _, x => x
  | k + 1, bits, x => decimateAll c k (bits.drop c.d) (decimate c (bits.take c.d) x)

/-- Exact FIR sum over the history. -/
def firSum (s : State) (c : NCfg) (hist : List (Int × Bool)) : Int :=
  (hist.zipIdx).foldl (fun acc (p : (Int × Bool) × Nat) => acc + signed 24 (s.rf .filCoef 0 24 c.csel p.2) * p.1.1) 0

/-- Insert into a rising list. -/
def insertInt (v : Int) : List Int → List Int
  | [] => [v]
  | x :: r => if v ≤ x then v :: x :: r else x :: insertInt v r

/-- Middle of the last `m` values, missing ones being 0. -/
def median (m : Nat) (vs : List Int) : Int :=
  let all := vs ++ List.replicate (m - vs.length) 0
  ((all.foldl (fun acc v => insertInt v acc) []).getD (m / 2) 0)

/-- The sample of channel n from the bits of one output period (R239-R249, R254); missing bits are 0. -/
def normalOut (n : Nat) (bits : List Bool) (s : State) : NChan :=
  let c := s.nCfg n
  let x := s.nch n
  let k := c.d * c.dfir
  let raw := (bits ++ List.replicate (k - bits.length) false).take k
  let lineIn := List.replicate (c.phase - x.line.length) false ++ x.line ++ raw
  let y := decimateAll c c.dfir (lineIn.take k) { x with line := lineIn.drop k }
  let f := firSum s c y.hist
  let s1 := y.hist.any (fun p => p.2)
  let (v2, s2) := if c.wide then (signed 64 (lowBits 64 f), false) else shiftSat c.shift2 f
  let med := ((v2, s1, s2) :: y.med).take c.m
  let j := x.j + 1
  let last := x.start + ((j * c.period : Nat) : Int)
  let hi := last - ((c.phase * 20 : Nat) : Int)
  let lo := hi - (((c.span - 1) * 20 : Nat) : Int)
  let infl := (s.inp c.src).hits lo hi
  let flags := (if j ≤ c.unsettled then 1 else 0) + (if !c.wide && med.any (fun p => p.2.1) then 2 else 0)
    + (if !c.wide && med.any (fun p => p.2.2) then 4 else 0) + (if c.wide then 8 else 0) + (if infl then 16 else 0)
  let v := if c.wide then v2 else median c.m (med.map (fun p => p.1))
  { y with j := j, med := med, lastBit := raw.getLast?, last := ⟨v, wordOf (last - (c.delay : Int)), flags, j % 65536⟩ }

/-- A channel output: transitions seen, sample delivered, saturation, record, triggers. -/
def normalSample (n : Nat) (bits : List Bool) (s : State) : State :=
  let c := s.nCfg n
  let x := s.nch n
  if ¬ x.run then s
  else
    let base := x.start + ((x.j * c.period : Nat) : Int)
    let k := c.d * c.dfir
    let s := transitions c.src ((changesOf x.lastBit (bits.take k) 0).map (fun i => base + ((i + 1 : Nat) : Int) * 20)) s
    let y := normalOut n bits s
    let s := s.setNch n y
    let satNow := y.last.flags.testBit 1 || y.last.flags.testBit 2
    let s := if satNow && !(s.rb .filSatstk n) then fault 0x0582 .l0 (s.rsb .filSatstk n true) n else s
    let b := recHead 3 n 16 y.last.flags y.last.stamp ++ leBytes 8 (lowBits 64 y.last.val)
    let s := s.when (s.rcd.live.2.1.testBit n) (dataRec 1 1 y.last.stamp b)
    let usable := !(y.last.flags.testBit 0) && !(y.last.flags.testBit 3) && !(y.last.flags.testBit 4)
    sampleTrigger n (signed 32 (lowBits 32 y.last.val)) y.last.stamp usable (stuckFault c.src s)

/-! ### Privileged engine (R244-R247) -/

/-- Weight of the i-th newest bit in a sinc2 output with D = 16. -/
def sinc2Weight (i : Nat) : Int := if i < 16 then (i : Int) + 1 else 31 - (i : Int)

/-- Bits of a chunk, oldest first. -/
def chunkBits (b : BitVec 16) : List Bool := (List.range 16).map (fun i => b.getLsbD i)

/-- Output of channel k from its history with the new chunk. -/
def privOut (hist : List Int) : Int :=
  (((hist.take 31).zipIdx).foldl (fun acc (p : Int × Nat) => acc + sinc2Weight p.2 * p.1) 0)

/-- A set of P0-P5 (R245, R249, R254), its record and triggers. -/
def privSet (bits : List (BitVec 16)) (s : State) : State :=
  let e := s.fil.eng
  if ¬ e.run then s
  else
    let j := e.j + 1
    let ch (k : Nat) : List Bool := chunkBits (bits.getD k 0)
    let s := (List.range 6).foldl (fun s k =>
      transitions k ((changesOf (e.lastBit.getD k none) (ch k) 0).map (fun i =>
        e.start + ((16 * k + 320 * e.j + (i + 1) * 20 : Nat) : Int))) s) s
    let hist := (List.range 6).map (fun k =>
      (((ch k).reverse.map (fun b => if b then (1 : Int) else -1)) ++ e.hist.getD k []).take 31)
    let last := (List.range 6).map (fun k =>
      let t := e.start + ((16 * k + 320 * j : Nat) : Int)
      let infl := (s.inp k).hits (t - 600) t
      let fl := (if j ≤ 2 then 1 else 0) + (if infl then 16 else 0)
      Samp.mk (privOut (hist.getD k [])) (wordOf (t - 300)) fl (j % 65536))
    let st0 := (last.getD 0 Samp.zero).stamp
    let sf := (List.range 6).foldl (fun acc k => acc + (if (last.getD k Samp.zero).flags.testBit 4 then 2 ^ k else 0)) 0
      + (if j ≤ 2 then 64 else 0)
    let sets := e.sets ++ [(st0, last.map (fun x => x.val), sf)]
    let s := s.setEng { e with j := j, hist := hist, prev := e.last, last := last, sets := sets,
                               lastBit := (List.range 6).map (fun k => (ch k).getLast?) }
    let high := (List.range 6).foldl (fun m k => if s.relHigh k (last.getD k Samp.zero).val then Nat.lor m (2 ^ k) else m) s.win.relHigh
    let s := { s with win := { s.win with relSeen := true, relHigh := high } }
    let s := s.when (decide (4 ≤ sets.length)) privRec
    let s := (List.range 6).foldl (fun s k =>
      let x := last.getD k Samp.zero
      sampleTrigger (0x18 + k) x.val x.stamp (decide (x.flags = 0)) s) s
    (List.range 6).foldl (fun s k => stuckFault k s) s

/-- Pending starts take effect at the grid point just reached, when it lies after their writes (R250). -/
def startPending (s : State) : State :=
  let b := s.gridPoint
  let at_ : Int := (s.now : Int) - (s.ticks - b)
  let s := s.when (s.fil.eng.pend.any (fun w => decide ((w : Int) < at_))) (fun s =>
    let s := s.setEng { PEng.init with run := true, start := b, prev := s.fil.eng.last, last := s.fil.eng.last }
    (List.range 6).foldl (fun s k => stuckFault k s) s)
  (List.range 18).foldl (fun s n =>
    if (s.nch n).pend.any (fun w => decide ((w : Int) < at_)) then
      stuckFault (s.nCfg n).src (s.setNch n { NChan.init with run := true, start := b, last := (s.nch n).last })
    else s) s

/-! ### Events -/

/-- FILTER_START (R250). -/
def execFilterStart (s : State) : Host.Outcome State Fault Refusal := .next (startPending (s.begin s.now))

/-- PRIV_SAMPLE_SET (R245). -/
def execPrivSampleSet (t : Nat) (bits : List (BitVec 16)) (s : State) : Host.Outcome State Fault Refusal :=
  .next (privSet bits (s.begin t))

/-- NORMAL_SAMPLE (R248). -/
def execNormalSample (t n : Nat) (bits : List Bool) (s : State) : Host.Outcome State Fault Refusal :=
  .next (normalSample n bits (s.begin t))

/-- INPUT_STUCK (R254): no transition for STUCK_N periods of the input's clock. -/
def execInputStuck (t i : Nat) (s : State) : Host.Outcome State Fault Refusal :=
  let s := s.begin t
  let fresh := (s.inp i).lastT.any (fun l => decide (s.ticks < l + (s.rf .filCtrl 0 8 * 20 : Nat)))
  .next (if 24 ≤ i ∨ (s.inp i).stuck ∨ s.mode = .off ∨ fresh then s
    else stuckFault i ((s.setInp i { s.inp i with stuck := true, since := s.ticks }).rsb .filInevt i true))

/-- INPUT_RECOVERED (R254): an input that has shown transitions for 1 ms; its fault may be raised again. Of an input that no
channel reads, the row is all that tells the end of its stuck state, 1 ms ago. -/
def execInputRecovered (t i : Nat) (s : State) : Host.Outcome State Fault Refusal :=
  let s := s.begin t
  let ms := s.ticks - 400000
  let s := if (s.inp i).since < ms then transition i ms s else s
  .next (if i < 24 ∧ ¬ (s.inp i).stuck ∧ (s.inp i).okFrom ≤ ms then s.setInp i { s.inp i with muted := false } else s)

end Sys2Proof.Machine
end

