-- ==== Sys2Proof/Machine/Time.lean ====
section
/-!
DEFINITION. Station time (R290-R307): domains, selection, corrections, slew, steps, PTP messages, PPS.
-/
namespace Sys2Proof.Machine

/-- Domain d. -/
def State.dmn (s : State) (d : Nat) : DomSt := if d = 0 then s.tim.d0 else s.tim.d1

/-- Put domain d. -/
def State.setDmn (s : State) (d : Nat) (x : DomSt) : State :=
  if d = 0 then { s with tim := { s.tim with d0 := x } } else { s with tim := { s.tim with d1 := x } }

/-- Event of R315: TIM_EVT bit `k`, record of KIND 1, ID k + 1, with the domain in DATA16. -/
def timeEvent (k d : Nat) (s : State) : State := emit 1 (k + 1) d (s.rsb .timEvt k true)

/-- Ticks in 2^-16 of a number of 10 ns units. -/
def tenNs (n : Nat) : Int := ((n * 262144 : Nat) : Int)

/-- Port of a domain. -/
def State.domPort (s : State) (d : Nat) : Nat := s.rf .timDCfg 1 1 d

/-- A domain is selected and S is set. -/
def State.inUse (s : State) (d : Nat) : Bool := s.tim.isSet && decide (s.tim.sel = d)

/-! ### Holdover flag and selection (R298-R300) -/

/-- The selected domain's holdover, with the event on its start (R300). -/
def refreshHoldover (s : State) : State :=
  let st := (s.dmn s.tim.sel).st
  let h := decide (st = 4) || decide (st = 5)
  if h && !s.tim.holdover then timeEvent 0 s.tim.sel { s with tim := { s.tim with holdover := true } }
  else { s with tim := { s.tim with holdover := h } }

/-- Δ is limited to ±2^31 ticks (R291). -/
def clampDelta (v : Int) : Int := max (-(2 ^ 47)) (min (2 ^ 47) v)

/-- A switch never moves S (R299); one that Δ could not take up is not made (R291). -/
def switchTo (d : Nat) (s : State) : State :=
  if s.tim.sel = d ∨ (s.dmn d).st = 5 ∨ (s.tim.isSet ∧ clampDelta (s.st - s.dom d) ≠ s.st - s.dom d) then s
  else
    let v := s.st
    let s := settleDelta s
    let delta := if s.tim.isSet then v - s.dom d else s.tim.delta
    let s := { s with tim := { s.tim with sel := d, delta := delta, blend := true } }
    refreshHoldover (timeEvent 2 d s)

/-- First lock of the selected domain asks for the setting of S (R303). -/
def wantSet (s : State) : State :=
  if !s.tim.isSet && decide ((s.dmn s.tim.sel).st = 3) then { s with tim := { s.tim with initPend := true } } else s

/-- PPS_OUT may run (R307). -/
def State.ppsOn (s : State) : Bool :=
  s.rb .timPpsout 0 && s.tim.isSet && (!(s.rb .timPpsout 1) || decide ((s.dmn s.tim.sel).st = 3))

/-- PPS_OUT goes low WIDTH ms after its rise, and when it is stopped (R307). -/
def ppsFall (s : State) : State :=
  if s.tim.ppsHigh.any (fun e => !s.ppsOn || decide (e ≤ s.now)) then
    { s with tim := { s.tim with ppsHigh := none } }.put (.pps false)
  else s

/-- Selection after any change of a domain or of TIM_CTRL (R298). -/
def reselect (s : State) : State :=
  let other := 1 - s.tim.sel
  let s :=
    if s.rb .timCtrl 1 then
      if (s.dmn s.tim.sel).st ≠ 3 ∧ (s.dmn other).st = 3 then switchTo other s else s
    else switchTo (s.rf .timCtrl 0 1) s
  ppsFall (wantSet (refreshHoldover s))

/-- Put a domain in a state. -/
def setDomState (d st : Nat) (s : State) : State :=
  let x := s.dmn d
  let left := decide (x.st = 4 ∨ x.st = 5) && decide (st ≠ 4 ∧ st ≠ 5)
  let come := decide (st = 4 ∨ st = 5) && decide (x.st ≠ 4 ∧ x.st ≠ 5)
  s.setDmn d { x with st := st, lockCnt := if st = 3 then x.lockCnt else 0,
                      lockedAt := if st = 3 ∧ x.st ≠ 3 then s.now else x.lockedAt,
                      hoStart := if come then s.now else x.hoStart,
                      hoSecs := if left then (s.now - x.hoStart) / 400000000 else x.hoSecs,
                      hoRaised := if come then false else x.hoRaised }

/-- Restart of a domain at LISTENING, or DISABLED (R297). -/
def restartDom (d : Nat) (s : State) : State :=
  let en := s.rb .timDCfg 0 d
  let s := setDomState d (if en then 1 else 0) s
  reselect (s.setDmn d { s.dmn d with masters := [], best := none, pend := none, rates := [], lockCnt := 0 })

/-! ### Corrections (R301) -/

/-- Mean rate over the last 100 s, or the present rate. -/
def DomSt.meanRate (x : DomSt) (cur : Nat) : Nat :=
  if x.rates.isEmpty then cur else (x.rates.map (fun p => p.2)).sum / x.rates.length

/-- R_d is frozen at its mean over the last 100 s, O_d unchanged (R297); S does not move. -/
def freezeRate (d : Nat) (s : State) : State :=
  let v := s.st
  let s := settleDelta s
  let s := s.setRate d ((s.dmn d).meanRate (s.rate d))
  if s.inUse d then { s with tim := { s.tim with delta := clampDelta (v - s.dom d) } } else s

/-- A change of the estimate made at once: absorbed into Δ for the domain in use, or refused with DISAGREE
where |Δ| would pass 1 s. `put` makes the change. -/
def atOnce (d : Nat) (e : Int) (put : State → State) (s : State) : State :=
  if s.inUse d then
    let s := settleDelta s
    let nd := s.tim.delta - e
    if 400000000 * 65536 < nd.natAbs then
      reselect (fault 0x0611 .l1 ((freezeRate d (setDomState d 5 s)).rsb .timEvt 8 true) d)
    else
      let s := put s
      let s := { s with tim := { s.tim with delta := nd, blend := false } }
      if tenNs (s.rf .timSlewcfg 16 16) < (e.natAbs : Int) then timeEvent 3 d s else s
  else put s

/-- Correct O_d by `e`. -/
def correct (d : Nat) (e : Int) (s : State) : State := atOnce d e (fun s => s.setOfs d (s.ofs d + e)) s

/-- Change R_d at once; T_d now changes with it. -/
def changeRate (d v : Nat) (s : State) : State :=
  let s2 := s.setRate d v
  atOnce d (s2.dom d - s.dom d) (fun s => s.setRate d v) s

/-- Servo steering of a LOCKED domain (R297, R301): the rate moves from the mean of the last 100 s by what removes the offset
with the time constant 2^TC s, within ±SLEW_MAX and the range of R291; T_d does not jump. -/
def servo (d : Nat) (e : Int) (s : State) : State :=
  let x := s.dmn d
  let mean := x.meanRate (s.rate d)
  let lim := mean * s.rf .timSlewcfg 0 8 / 1000000
  let tc : Nat := 2 ^ s.rf .timDCfg 12 4 d * 400000000 * 65536
  let dev := max (-(lim : Int)) (min (lim : Int) (divNearest (e * 2 ^ 40) tc))
  let v := (max ((2 ^ 40 * 999 + 999 : Nat) / 1000 : Int) (min ((2 ^ 40 * 1001 : Nat) / 1000 : Int) ((mean : Int) + dev))).toNat
  let before := s.dom d
  let s := s.setRate d v
  let s := s.setOfs d (s.ofs d + (before - s.dom d))
  let keep := x.rates.filter (fun p => decide (s.now < p.1 + 40000000000))
  s.setDmn d { s.dmn d with rates := keep ++ [(s.now, v)] }

/-- A measured offset `e` of domain d (R297, R301). -/
def offsetOf (d : Nat) (e : Int) (s : State) : State :=
  let s := s.rs .timDMofs (wordOf (divNearest (e * 5) 8192)) d
  let s := s.setDmn d { s.dmn d with lastE := e }
  if ¬ s.rb .timDCfg 2 d then s
  else
    let s := if (s.dmn d).st = 4 then timeEvent 1 d (setDomState d 2 s) else s
    match (s.dmn d).st with
    | 2 =>
      let small := decide ((e.natAbs : Int) < tenNs (s.rf .timDCfg 24 8 d))
      let s := correct d e s
      if (s.dmn d).st ≠ 2 then s
      else
        let n := if small then (s.dmn d).lockCnt + 1 else 0
        let s := s.setDmn d { s.dmn d with lockCnt := n }
        reselect (if 16 ≤ n then setDomState d 3 s else s)
    | 3 => if tenNs (s.rf .timSlewcfg 16 16) < (e.natAbs : Int) then correct d e s else servo d e s
    | _ => s

/-! ### Slew (R302) -/

/-- Whether a slope of `c` parts per 10^9 can still be braked to 0 within |Δ| = `a`, at `k` / 10^6 units of Δ
per part and frame and a change of `q` per frame. -/
def canBrake (a k q c : Nat) : Bool := decide (c * (c + q) * k ≤ a * 2 * q * 1000000)

/-- The slope for the next frame of a slew that takes `dist` toward 0, its size limited to `lim` and its change to `q`,
where one part moves `k` / 10^6 units in a frame; none where `dist` and the slope end (R302). -/
def slewLaw (q k lim : Nat) (slope dist : Int) : Option Int :=
  let dir : Int := if 0 < dist then -1 else 1
  let v : Int := slope * dir
  let a := dist.natAbs
  if v < 0 then some (min 0 (v + (q : Int)) * dir)
  else
    let u := v.toNat
    if u ≤ q ∧ a * 1000000 ≤ q * k then none
    else
      let cand := [min lim (u + q), min lim u]
      let c := (cand.find? (fun c => canBrake a k q c && decide (u ≤ c + q))).getD (u - q)
      some (((if u = 0 ∧ c = 0 then min lim q else c : Nat) : Int) * dir)

/-- One frame of slewing: Δ moves toward 0 with the slope limited in size and in change (R302). -/
def slewStep (s : State) : State :=
  if s.tim.follow ∨ (s.tim.delta = 0 ∧ s.tim.slope = 0) then s
  else
    let s := settleDelta s
    let t := s.tim
    let lim := if t.blend then s.rf .timSlewcfg 8 8 * 100 else s.rf .timSlewcfg 0 8 * 1000
    { s with tim := match slewLaw (if s.len.bur.on then 100 else 200) (if s.len.bur.on then 131072 else 262144) lim t.slope t.delta with
      | some v => { t with slope := v }
      | none => { t with slope := 0, delta := 0, blend := false } }

/-! ### Setting and stepping (R303-R305) -/

/-- Running filter channels and the privileged engine restart at the following boundary (R305). -/
def restartFilters (s : State) : State :=
  let s := privRec s
  let s := s.when s.fil.eng.run (fun s => s.setEng { PEng.init with pend := some s.now, last := s.fil.eng.last })
  (List.range 18).foldl (fun s n =>
    if (s.nch n).run then s.setNch n { NChan.init with pend := some s.now, last := (s.nch n).last } else s) s

/-- Move S by `a`: every O_d with it, Δ kept; before S is set, its distance from C. -/
def moveS (a : Int) (s : State) : State :=
  let s := (s.setOfs 0 (s.ofs 0 + a)).setOfs 1 (s.ofs 1 + a)
  if s.tim.isSet then s else { s with tim := { s.tim with base := s.tim.base + a } }

/-- A DISAGREE domain takes its reference's time and returns to ACQUIRING (R304). -/
def takeRef (d : Nat) (s : State) : State :=
  if (s.dmn d).st = 5 then setDomState d 2 (s.setOfs d (s.ofs d + (s.dmn d).lastE)) else s

/-- One checked step (R304). -/
def applyStep (s : State) (x : Step) : State :=
  match x with
  | .abs v => moveS (v - s.st) s
  | .rel v => moveS v s
  | .toRef =>
    let s := takeRef 1 (takeRef 0 s)
    let s := if s.tim.isSet then s
      else { s with tim := { s.tim with base := s.dom s.tim.sel - ((s.cnt * 65536 : Nat) : Int) } }
    reselect { s with tim := { s.tim with delta := 0, slope := 0, blend := false } }

/-- The checked steps take effect in order, and their replies follow (R304, R305). -/
def applySteps (s : State) : State :=
  let xs := s.tim.steps
  let s := xs.foldl applyStep { s with tim := { s.tim with steps := [], stepAt := some s.now } }
  let s := stepRecs (restartFilters s)
  answerAll (fun w => decide (w = .timeStep)) .ok 0 [] (timeEvent 5 s.tim.sel s)

/-! ### PTP (R295-R297) -/

/-- Comparison of masters by the default BMCA: priority 1, class, accuracy, variance, priority 2, identity,
steps removed, sender. -/
def Foreign.key (f : Foreign) : List Nat :=
  [f.p1, f.cls, f.accuracy, f.variance, f.p2, f.gm.toNat, f.steps, f.ident.toNat]

/-- Lexicographic order of equally long lists. -/
def lexLt : List Nat → List Nat → Bool
  | a :: r, b :: q => decide (a < b) || (decide (a = b) && lexLt r q)
  | _, _ => false

/-- The best qualified master. -/
def bestOf (ms : List Foreign) : Option Foreign :=
  (ms.filter (fun f => decide (2 ≤ f.heard))).foldl (fun acc f => match acc with
    | none => some f
    | some g => some (if lexLt f.key g.key then f else g)) none

/-- The best master's identity and class as the registers show them. -/
def noteBest (d : Nat) (s : State) : State :=
  match (s.dmn d).best with
  | some g => (((s.rs .timDGmidl (BitVec.ofNat 32 g.gm.toNat) d).rs .timDGmidh (BitVec.ofNat 32 (g.gm.toNat / 2 ^ 32)) d).rsf
      .timDStat 8 8 g.cls d)
  | none => s

/-- Masters whose Announces have stopped for three intervals are no longer heard (R295). -/
def dropMasters (d : Nat) (s : State) : State :=
  let x := s.dmn d
  let ms := x.masters.filter (fun f => decide (s.now < f.last + 1200000000))
  noteBest d (s.setDmn d { x with masters := ms, best := bestOf ms })

/-- LISTENING ends when a master is qualified and a path delay is known (R297). -/
def listenEnd (d : Nat) (s : State) : State :=
  let x := s.dmn d
  if x.st = 1 ∧ x.best.isSome ∧ x.mpdKnown ∧ s.rb .timDCfg 2 d then setDomState d 2 s else s

/-- Enter the master in domain d's list and choose the best one. -/
def hearMaster (d : Nat) (a : PtpAnnounce) (s : State) : State :=
  let x := s.dmn d
  let same := x.masters.find? (fun f => decide (f.ident = a.src))
  let n := match same with
    | some f => if s.now ≤ f.last + 1600000000 then f.heard + 1 else 1
    | none => 1
  let f : Foreign := ⟨a.src, a.gm, a.p1, a.cls, a.accuracy, a.variance, a.p2, a.steps, n, s.now, a.domnum⟩
  let ms := x.masters.filter (fun g => decide (g.ident ≠ a.src)) ++ [f]
  listenEnd d (dropMasters d (s.setDmn d { x with masters := ms }))

/-- Offset of a Sync: the master's time at its arrival minus T_d there (R296, R297). -/
def State.offsetAt (s : State) (d : Nat) (rx origin : Int) : Int :=
  let p := s.domPort d
  let rx := rx + divNearest (2 * Config.ptpCal p) 5
  let mpd := Tab.get (fun _ => 0) s.tim.mpd p
  let asym := (s.rg .timAsym p).toInt
  origin + divNearest (2 * (mpd + asym)) 5 - ((rx * (s.rate d : Int)).fdiv (2 ^ 40) + s.ofs d)

/-- A Sync of the chosen master is accepted (R295, R297). -/
def syncMsg (d : Nat) (m : PtpSync) (s : State) : State :=
  let s := dropMasters d s
  let x := s.dmn d
  let fromBest : Bool := match x.best with
    | some b => decide (b.ident = m.src)
    | none => false
  if ¬ fromBest ∨ x.st = 0 ∨ x.st = 1 ∨ m.logInt < -4 ∨ 0 < m.logInt then s
  else
    let s := s.setDmn d { x with lastSync := s.now, interval := 400000000 / 2 ^ m.logInt.natAbs,
                                 pend := if m.twoStep then some (m.seq, m.rx) else none }
    let s := s.rsb .timDStat 3 m.twoStep d
    if m.twoStep then s else offsetOf d (s.offsetAt d m.rx m.origin) s

/-! ### Registers (R316) -/

/-- Rate within 2^40 (1 ± 0.001). -/
def rateOk (v : Nat) : Bool := decide (2 ^ 40 * 999 ≤ v * 1000) && decide (v * 1000 ≤ 2 ^ 40 * 1001)

/-- Computed registers of the block. -/
def timRead (s : State) (r : Reg) : Option Word :=
  match r.name with
  | .timStat => some (fld 0 s.tim.sel ||| bitAt 1 s.tim.isSet ||| bitAt 2 s.tim.holdover
      ||| bitAt 3 s.slewing ||| bitAt 4 (decide (s.deltaAt s.cnt ≠ 0) && s.tim.blend)
      ||| bitAt 5 s.tim.follow ||| bitAt 6 (s.tim.initPend && !s.tim.isSet && s.running))
  | .timDStat =>
    let x := s.dmn r.i
    let ho := if x.st = 4 ∨ x.st = 5 then (s.now - x.hoStart) / 400000000 else x.hoSecs
    some (fld 0 x.st ||| fld 3 (s.rf .timDStat 3 1 r.i) ||| fld 8 (s.rf .timDStat 8 8 r.i) ||| fld 16 (min 65535 ho))
  | .timNowtl => some s.short
  | .timDeltal => some (wordOf (s.deltaAt s.cnt))
  | .timDeltah => some (BitVec.ofNat 32 (lowBits 16 ((s.deltaAt s.cnt).fdiv (2 ^ 32))))
  | _ => none

/-- Snapshot of R316: a read of TIM_NOWTL fixes TIM_NOWTH to TIM_CNTH. -/
def timSnapshot (r : Reg) (s : State) : State :=
  if r.name ≠ .timNowtl then s
  else
    let t := lowBits 64 s.ticks
    let (sec, ns, fr) := wireOf s.st
    let c := s.cnt
    (((((((s.rs .timNowtl s.short).rs .timNowth (BitVec.ofNat 32 (t / 2 ^ 32))).rs .timNowsecl (BitVec.ofNat 32 sec)).rs
      .timNowsech (fld 0 (sec / 2 ^ 32 % 65536) ||| fld 16 fr)).rs .timNowns (BitVec.ofNat 32 ns)).rs
      .timCntl (BitVec.ofNat 32 c)).rs .timCnth (BitVec.ofNat 32 (c / 2 ^ 32)))

/-- Rules for a write in the block. -/
def timCheck (s : State) (r : Reg) (v : Word) : Check :=
  match r.name with
  | .timCtrl => refuse (outside v 8 8 10 255) bad
  | .timSlewcfg => refuse (outside v 0 8 1 200 || outside v 8 8 1 100 || outside v 16 16 1 10000) bad
  | .timPpsout => refuse (outside v 8 8 1 250) bad
  | .timDCfg => refuse (decide (8 < field v 12 4) || decide (field v 16 8 = 0) || decide (field v 24 8 = 0)) bad
  | .timDRatel => firstOf [refuse (s.rb .timDCfg 2 r.i) badState,
      refuse (!(rateOk (v.toNat + 2 ^ 32 * (s.rg .timDRateh r.i).toNat))) bad]
  | .timDRateh => firstOf [refuse (s.rb .timDCfg 2 r.i) badState,
      refuse (!(rateOk ((s.rg .timDRatel r.i).toNat + 2 ^ 32 * field v 0 16))) bad]
  | .timDOfsl | .timDOfsh | .timDOfsf => refuse (s.rb .timDCfg 2 r.i) badState
  | _ => none

/-- Effects of a write. -/
def timWrite (r : Reg) (v : Word) (s : State) : State :=
  let d := r.i
  match r.name with
  | .timCtrl => reselect (storeReg r v s)
  | .timPpsout => ppsFall (storeReg r v s)
  | .timDCfg =>
    let old := s.rg .timDCfg d
    let s := storeReg r v s
    let enOn := bit v 0 && !(bit old 0)
    let s := if enOn && s.tim.isSet then
        let s := s.setOfs d (s.ofs d + (s.st - s.dom d))
        if s.tim.sel = d then { s with tim := { s.tim with delta := 0, slope := 0, blend := false } } else s
      else s
    if enOn || (!(bit v 0) && bit old 0) || decide (field v 1 1 ≠ field old 1 1) || decide (field v 4 8 ≠ field old 4 8)
        || (bit v 2 != bit old 2) then
      restartDom d (s.setDmn d { s.dmn d with mpdKnown := (s.tim.mpd.any (fun p => decide (p.1 = field v 1 1))) })
    else s
  | .timDRatel => changeRate d (v.toNat + 2 ^ 32 * (s.rg .timDRateh d).toNat) s
  | .timDRateh => changeRate d ((s.rg .timDRatel d).toNat + 2 ^ 32 * field v 0 16) s
  | .timDOfsl | .timDOfsh | .timDOfsf =>
    let s2 := storeReg r v s
    correct d (s2.ofs d - s.ofs d) s
  | _ => storeReg r v s

/-! ### Events -/

/-- TIME_STEP (R305): the checked steps at a frame boundary of the old grid. -/
def execTimeStep (s : State) : Host.Outcome State Fault Refusal :=
  let s := s.begin s.now
  .next (if ¬ s.tim.steps.isEmpty ∧ s.onGrid s.framePeriod then applySteps s else s)

/-- SYNC_MSG (R297). -/
def execSyncMsg (t d : Nat) (msg : PtpSync) (s : State) : Host.Outcome State Fault Refusal :=
  .next (syncMsg (d % 2) msg (s.begin t))

/-- FOLLOW_UP (R295): completes the two-step Sync of the same sequence. -/
def execFollowUp (t d seq : Nat) (origin : Int) (s : State) : Host.Outcome State Fault Refusal :=
  let s := s.begin t
  let d := d % 2
  .next (match (s.dmn d).pend with
    | some (q, rx) =>
      if q = seq then offsetOf d (s.offsetAt d rx origin) (s.setDmn d { s.dmn d with pend := none }) else s
    | none => s)

/-- ANNOUNCE (R295): heard by every enabled domain of the port and number. -/
def execAnnounce (t p : Nat) (ann : PtpAnnounce) (s : State) : Host.Outcome State Fault Refusal :=
  let s := s.begin t
  .next ([0, 1].foldl (fun s d =>
    if s.rb .timDCfg 0 d && decide (s.domPort d = p) && decide (s.rf .timDCfg 4 8 d = ann.domnum)
        && decide ((s.dmn d).st ≠ 0) then hearMaster d ann s else s) s)

/-- PDELAY_REQ (R295): answered with a two-step response carrying receive and send stamps. -/
def execPdelayReq (t p seq : Nat) (rx : Int) (s : State) : Host.Outcome State Fault Refusal :=
  let s := s.begin t
  let cal := divNearest (2 * Config.ptpCal p) 5
  .next (if s.mode = .off then s else s.put (.pdelayResp p seq (rx + cal) (((s.cnt * 65536 : Nat) : Int) + cal)))

/-- PDELAY_RESP (R296): mean path delay of the port in 2^-16 ns, from stamps in 2^-16 tick. -/
def execPdelayResp (t p : Nat) (t1 t2 t3 t4 : Int) (s : State) : Host.Outcome State Fault Refusal :=
  let s := s.begin t
  let mpd := divNearest (5 * ((t4 - t1) - (t3 - t2))) 4
  let s := { s with tim := { s.tim with mpd := Tab.put s.tim.mpd p mpd } }
  .next ([0, 1].foldl (fun s d =>
    if s.domPort d = p then
      listenEnd d ((s.setDmn d { s.dmn d with mpdKnown := true }).rs .timDMpd (wordOf (divNearest mpd 4096)) d)
    else s) s)

/-- SYNC_TIMEOUT (R297): three intervals without a Sync, or the announce timeout; the rate is frozen at its
mean over 100 s. -/
def execSyncTimeout (t d : Nat) (s : State) : Host.Outcome State Fault Refusal :=
  let s := s.begin t
  let d := d % 2
  let s := dropMasters d s
  let x := s.dmn d
  .next (if x.st = 3 ∧ (x.lastSync + 3 * x.interval ≤ s.now ∨ x.best.isNone) then
      let s := setDomState d 4 s
      reselect (changeRate d (x.meanRate (s.rate d)) s)
    else s)

/-- REVERT (R298). -/
def execRevert (t : Nat) (s : State) : Host.Outcome State Fault Refusal :=
  let s := s.begin t
  .next (if s.rb .timCtrl 1 && s.rb .timCtrl 2 && decide (s.tim.sel = 1) && decide (s.tim.d0.st = 3)
      && decide (s.tim.d0.lockedAt + s.rf .timCtrl 8 8 * 400000000 ≤ s.now) then switchTo 0 s else s)

/-- HOLDOVER_LIMIT (R300). -/
def execHoldoverLimit (t : Nat) (s : State) : Host.Outcome State Fault Refusal :=
  let s := s.begin t
  let d := s.tim.sel
  let x := s.dmn d
  .next (if s.tim.holdover && !x.hoRaised && decide (x.hoStart + s.rf .timDCfg 16 8 d * 24000000000 ≤ s.now) then
      fault 0x0610 .l1 ((s.setDmn d { x with hoRaised := true }).rsb .timEvt 7 true) d
    else s)

/-- TIME_SET (R303, R305): at the first lock, or once the loop engine stops, at a frame boundary of the old grid. -/
def execTimeSet (t : Nat) (s : State) : Host.Outcome State Fault Refusal :=
  let s := s.begin t
  .next (if s.tim.initPend && !s.tim.isSet && !s.running && s.onGrid s.framePeriod then
      let s := { s with tim := { s.tim with isSet := true, delta := 0, slope := 0, initPend := false, stepAt := some s.now } }
      timeEvent 4 s.tim.sel (stepRecs (restartFilters s))
    else s)

/-- PPS_OUT (R307): high as S passes a whole second, for WIDTH ms. -/
def execPpsOut (t : Nat) (s : State) : Host.Outcome State Fault Refusal :=
  let s := ppsFall (s.begin t)
  let sec := (s.ticks / 400000000).toNat
  .next (if s.ppsOn && decide (sec ≠ s.tim.ppsSec) then
      { s with tim := { s.tim with ppsSec := sec, ppsHigh := some (s.now + s.rf .timPpsout 8 8 * 400000) } }.put (.pps true)
    else s)

/-- The module's own Pdelay_Req, each second, on the ports of its enabled domains (R295). -/
def sendPdelay (s : State) : State :=
  if s.mode = .off ∨ s.tim.pdAt.any (fun b => decide (s.now < b + 400000000)) then s
  else
    let ports := [0, 1].filter (fun p => [0, 1].any (fun d => s.rb .timDCfg 0 d && decide (s.domPort d = p)))
    let q := s.tim.pdSeq
    ports.foldl (fun s p => s.put (.pdelayReq p q)) { s with tim := { s.tim with pdAt := some s.now, pdSeq := (q + 1) % 65536 } }

end Sys2Proof.Machine
end

