-- ==== Sys2Proof/Machine/Clock.lean ====
section
/-!
DEFINITION. Clock synthesis: the system PLL, the station PLL and its outputs (R308-R312, R317).
-/
namespace Sys2Proof.Machine

/-- N of the registers, in 2^-24. -/
def State.clkN (s : State) (frac : Nat) : Nat := s.rf .clkNint 0 9 * 2 ^ 24 + frac

/-- Whether an output word keeps within its limit at multiplier `n` (R312): 400 MHz LVDS, 125 MHz LVCMOS. -/
def outOk (n : Nat) (v : Word) : Bool :=
  let div := field v 0 10 + 1
  decide (10 * n ≤ (if bit v 16 then 125 else 400) * div * 2 ^ 24)

/-- Whether every enabled output keeps within its limit. -/
def State.outsOk (s : State) (n : Nat) : Bool :=
  (List.range 4).all (fun c => !(s.rb .clkOut 15 c) || outOk n (s.rg .clkOut c))

/-- A valid band entry exists. -/
def State.anyBand (s : State) : Bool := (List.range 64).any (fun k => s.rb .clkBand 31 k)

/-- The band for multiplier `n`: the valid entry with the lowest FTOP at or above the target (R310). -/
def State.bandFor (s : State) (n : Nat) : Option Nat :=
  ((List.range 64).filter (fun k => s.rb .clkBand 31 k && decide (100 * n ≤ s.rf .clkBand 0 16 k * 2 ^ 24))).foldl
    (fun acc k => match acc with
      | none => some k
      | some b => if s.rf .clkBand 0 16 k < s.rf .clkBand 0 16 b then some k else some b) none

/-- Put the synthesiser's state. -/
def State.setClk (s : State) (c : ClkSt) : State := { s with clk := c }

/-! ### The VCO and its dividers (R309, R312) -/

/-- N with the steering of REFSEL 1, in 2^-24. -/
def ClkSt.n (c : ClkSt) : Nat := ((c.nApplied : Int) + c.steer).toNat

/-- The VCO's phase at `now`, in 1/(40 × 2^24) cycle: N / (40 × 2^24) cycles pass in a tick. -/
def ClkSt.vcoNow (c : ClkSt) (now : Nat) : Nat := c.vco + (now - c.vcoAt) * c.n

/-- The VCO cycle now. -/
def State.vcoCycle (s : State) : Nat := s.clk.vcoNow s.now / (40 * 2 ^ 24)

/-- Carry the VCO's phase to now, before N changes. -/
def ClkSt.settle (c : ClkSt) (now : Nat) : ClkSt := { c with vco := c.vcoNow now, vcoAt := now }

/-- DIV of output `c` (R312). -/
def State.clkDiv (s : State) (c : Nat) : Nat := s.rf .clkOut 0 10 c + 1

/-- Output `c`. -/
def State.outClk (s : State) (c : Nat) : OutClk := Tab.get (fun _ => OutClk.init) s.clk.outs c

/-- Put output `c`. -/
def State.setOut (s : State) (c : Nat) (o : OutClk) : State := s.setClk { s.clk with outs := Tab.put s.clk.outs c o }

/-- The delay in force at VCO cycle `cyc`, in 1/8 VCO period. -/
def OutClk.delayAt (o : OutClk) (cyc : Nat) : Nat :=
  match o.next with
  | some (d, f) => if f ≤ cyc then d else o.delay
  | none => o.delay

/-- VCO cycles since the last rise of a divider that rises at `phase` in its division `div`. -/
def sinceRise (cyc div phase : Nat) : Nat := (cyc + div - phase % div) % div

/-- The VCO cycle from which an output is next low, `cyc` itself when it is low: high for the first half of its period. -/
def lowFrom (cyc div phase : Nat) : Nat :=
  let k := sinceRise cyc div phase
  if div ≤ 2 * k then cyc else cyc - k + (div + 1) / 2

/-- Stop output `c` at its next low phase (R311). -/
def stopOut (c : Nat) (s : State) : State :=
  let o := s.outClk c
  s.setOut c (if o.run then { OutClk.init with stop := lowFrom s.vcoCycle (s.clkDiv c) o.phase, phase := o.phase } else
    { o with wait := false })

/-- Output `c` runs with its divider rising at VCO cycle `cyc`. -/
def runOut (c cyc : Nat) (s : State) : State := s.setOut c ⟨true, cyc % s.clkDiv c, s.rf .clkOut 10 5 c, none, false, 0⟩

/-- An output enabled or released starts in phase with a running output of its DIV and DELAY; with PPSALIGN in modes 1 and 2
it waits for a PPS_IN edge (R312). -/
def startOut (c : Nat) (s : State) : State :=
  if s.rb .clkOut 17 c && decide (s.rf .clkCtrl 1 2 ≠ 0) then s.setOut c { OutClk.init with wait := true }
  else
    let same := (List.range 4).find? (fun j => decide (j ≠ c) && (s.outClk j).run && decide (s.clkDiv j = s.clkDiv c)
      && decide ((s.outClk j).delayAt s.vcoCycle = s.rf .clkOut 10 5 c))
    runOut c (match same with
      | some j => (s.outClk j).phase
      | none => s.vcoCycle) s

/-- A write of CLK_OUTc: EN starts or stops the output, a new DELAY counts from its next low phase (R312). -/
def outWrite (r : Reg) (v : Word) (s : State) : State :=
  let c := r.i
  let old := s.rg .clkOut c
  let s := storeReg r v s
  if bit old 15 && !(bit v 15) then stopOut c s
  else if bit v 15 && !(bit old 15) then (if s.clk.released then startOut c s else s)
  else if (s.outClk c).run && decide (field v 10 5 ≠ field old 10 5) then
    let o := s.outClk c
    let cyc := s.vcoCycle
    s.setOut c { o with delay := o.delayAt cyc, next := some (field v 10 5, lowFrom cyc (s.clkDiv c) o.phase) }
  else s

/-- Gate every output off and lose lock; the PLL relocks while enabled (R311). -/
def gateOff (s : State) : State :=
  let s := (s.rsb .clkStat 2 false).rsb .clkStat 3 true
  let s := (List.range 4).foldl (fun s c => stopOut c s) s
  (s.setClk { s.clk.settle s.now with steer := 0, locking := s.rb .clkCtrl 0, released := false }).put (.clkGate true)

/-- Apply N (R309, R311): a change within ±200 ppm of the frequency at the last lock is followed; unlocked, the enabled PLL
locks to the new N. -/
def applyN (s : State) : State :=
  let n := s.clkN (s.rf .clkNfrac 0 24)
  let s := s.setClk { s.clk.settle s.now with nApplied := n }
  if ¬ s.rb .clkCtrl 0 then s
  else if s.rb .clkStat 2 then
    let f := s.clk.lockFreq
    let d := if n < f then f - n else n - f
    if d * 1000000 ≤ 200 * f then s.rsb .clkEvt 6 true else gateOff s
  else s.setClk { s.clk with locking := true }

/-- Ticks of a reference cycle: one PPS period in mode 1, else 100 ns (R311). -/
def State.refCycle (s : State) : Nat := if s.rf .clkCtrl 1 2 = 1 then 400000000 else 40

/-- REF_IN is present: what the last report said, before any an open value. -/
def State.refOk (s : State) : Bool := s.clk.ref.getD (bit (Config.freeWord s.now) 0)

/-- Computed registers of the block. -/
def clkRead (s : State) (r : Reg) : Option Word :=
  match r.name with
  | .clkStat =>
    let most := (s.now - s.clk.settledFrom) / s.refCycle
    let n := if s.rb .clkStat 2 then min 65535 ((Config.freeWord s.now).toNat % (most + 1)) else 0
    some ((s.rg .clkStat &&& 0xFCF) ||| bitAt 4 s.refOk ||| bitAt 5 s.clk.ppsOk ||| fld 16 n)
  | .clkRefmeas =>
    let d := Config.freeWord s.now
    some (if s.refOk then wordOf ((d.toNat % 2000001 : Nat) - 1000000 : Int) else d)
  | _ => none

/-- Rules for a write in the block. -/
def clkCheck (s : State) (r : Reg) (v : Word) : Check :=
  match r.name with
  | .clkCtrl => firstOf [
      refuse (decide (field v 1 2 = 3) || outside v 8 8 10 255) bad,
      refuse (bit v 0 && !(s.rb .clkCtrl 0) && !s.anyBand) badState]
  | .clkNint => refuse (outside v 0 9 240 319) bad
  | .clkNfrac =>
    let n := s.clkN (field v 0 24)
    refuse (decide (n < 240 * 2 ^ 24) || decide (320 * 2 ^ 24 < n) || !(s.outsOk n)) bad
  | .clkOut => firstOf [
      refuse (bit v 15 && !(outOk s.clk.nApplied v)) bad,
      refuse (s.rb .clkOut 15 r.i && (decide (field v 0 10 ≠ s.rf .clkOut 0 10 r.i) || (bit v 16 != s.rb .clkOut 16 r.i))) badState]
  | .clkBand => refuse (s.rb .clkCtrl 0) badState
  | _ => none

/-- Effects of a write. -/
def clkWrite (r : Reg) (v : Word) (s : State) : State :=
  match r.name with
  | .clkNfrac => applyN (storeReg r v s)
  | .clkCtrl =>
    let en := s.rb .clkCtrl 0
    let sel := s.rf .clkCtrl 1 2
    let s := storeReg r v s
    if bit v 0 ≠ en ∨ (en ∧ field v 1 2 ≠ sel) then gateOff s else s
  | .clkOut => outWrite r v s
  | _ => storeReg r v s

/-! ### Events -/

/-- SYSPLL_LOSS (R308): the logic runs from the backup and the link transmitters go dark. -/
def execSyspllLoss (t : Nat) (s : State) : Host.Outcome State Fault Refusal :=
  let s := s.begin t
  .next (if s.mode = .off ∨ s.rb .clkStat 1 then s
    else
      let s := ((s.rsb .clkStat 0 false).rsb .clkStat 1 true).rsb .clkEvt 0 true
      let s := (List.range 128).foldl (fun s l => s.when (s.linkUp l) (fun s => s.put (.dark l))) s
      fault 0x0710 .l3 s)

/-- STATION_PLL_LOCK (R310). -/
def execStationPllLock (t : Nat) (s : State) : Host.Outcome State Fault Refusal :=
  let s := s.begin t
  .next (if !(s.rb .clkCtrl 0) || !s.clk.locking then s
    else match s.bandFor s.clk.nApplied with
      | none => fault 0x0713 .l1 ((s.setClk { s.clk with locking := false }).rsb .clkEvt 5 true)
      | some k =>
        let s := ((s.rsb .clkStat 2 true).rsf .clkStat 6 6 k).rsb .clkEvt 4 true
        let ref := if s.rf .clkCtrl 1 2 = 1 then s.clk.ref else some true
        s.setClk { s.clk with locking := false, lockFreq := s.clk.nApplied, settledFrom := s.now, ref := ref })

/-- OUTPUT_RELEASE (R311, R312): lock and 64 settled reference cycles; the enabled outputs start. -/
def execOutputRelease (t : Nat) (s : State) : Host.Outcome State Fault Refusal :=
  let s := s.begin t
  .next (if s.rb .clkStat 2 && s.rb .clkStat 3 && decide (s.clk.settledFrom + 64 * s.refCycle ≤ s.now) then
      let s := (s.rsb .clkStat 3 false).setClk { s.clk with released := true }
      ((List.range 4).foldl (fun s c => s.when (s.rb .clkOut 15 c) (startOut c)) s).put (.clkGate false)
    else s)

/-- SPLL_UNLOCK (R311). -/
def execSpllUnlock (t : Nat) (s : State) : Host.Outcome State Fault Refusal :=
  let s := s.begin t
  .next (if s.rb .clkStat 2 then fault 0x0711 .l1 ((gateOff s).rsb .clkEvt 1 true) else s)

/-- REF_LOSS (R311): the loss of REF_IN, which the PLL uses in modes 0 and 2. -/
def execRefLoss (t : Nat) (s : State) : Host.Outcome State Fault Refusal :=
  let s := s.begin t
  let s := s.setClk { s.clk with ref := some false }
  .next (if s.rb .clkCtrl 0 && decide (s.rf .clkCtrl 1 2 ≠ 1) then fault 0x0712 .l1 ((gateOff s).rsb .clkEvt 2 true)
    else s)

/-- What a PPS_IN edge does to the station PLL: REFSEL 1 steers N within ±200 ppm with the time constant PPS_TC (the phase
error is open); REFSEL 2 aligns every divider; the outputs that wait for an edge start (R309, R312). -/
def ppsEdge (s : State) : State :=
  let sel := s.rf .clkCtrl 1 2
  if ¬ s.rb .clkStat 2 then s
  else
    let s := if sel = 1 then
        let lim := s.clk.nApplied * 200 / 1000000
        let v := s.clk.steer + (Config.freeWord s.now).toInt.fdiv (max 1 (s.rf .clkCtrl 8 8) : Nat)
        s.setClk { s.clk.settle s.now with steer := max (-(lim : Int)) (min (lim : Int) v) }
      else s
    let cyc := s.vcoCycle
    (List.range 4).foldl (fun s c =>
      let o := s.outClk c
      if o.wait then runOut c cyc s
      else if o.run ∧ sel = 2 then s.setOut c { o with phase := cyc % s.clkDiv c }
      else s) s

/-- PPS_IN_EDGE (R307, R309, R312): the edge is stamped with S and the station PLL follows it. -/
def execPpsInEdge (t : Nat) (s : State) : Host.Outcome State Fault Refusal :=
  let s := (s.begin t).rs .timPpsin (s.begin t).short
  .next (ppsEdge { s with tim := { s.tim with lastPps := some s.now, ppsLost := false }, clk := { s.clk with ppsOk := true } })

/-- PPSIN_LOSS (R307, R311): no edge within 1.1 s of the last one. -/
def execPpsinLoss (t : Nat) (s : State) : Host.Outcome State Fault Refusal :=
  let s := s.begin t
  .next (match s.tim.lastPps with
    | some e =>
      if s.now < e + 440000000 ∨ s.tim.ppsLost then s
      else
        let s := timeEvent 6 0 { s with tim := { s.tim with ppsLost := true }, clk := { s.clk with ppsOk := false } }
        let s := s.rsb .clkEvt 3 true
        if s.rb .clkCtrl 0 && decide (s.rf .clkCtrl 1 2 = 1) then fault 0x0712 .l1 ((gateOff s).rsb .clkEvt 2 true) else s
    | none => s)

end Sys2Proof.Machine
end

