-- ==== Sys2Proof/Machine/MemCore.lean ====
section
/-!
DEFINITION. The memories under their check bits (R419-R434): error log, word outcomes, small-memory
blocks, retirement.
-/
namespace Sys2Proof.Machine

/-- Raise fault 0xD0 + k of R441 and set its MEM_EVT bit. -/
def memFault (k : Nat) (base : Level) (acc addr : Nat) (m : Option Nat) (s : State) : State :=
  raise { code := 0x01D0 + k, base := base, acc := acc, addr := addr, master := m } (s.rsb .memEvt k true)

/-- One entry of the error log (R429). `mem`: 0 SRAM, 1 small memories, 2 DRAM, 3 recorder buffer; `acc`: 0 read,
1 write, 2 fetch, 3 frame, 4 glean, 5 retirement copy. -/
def elogEntry (mem : Nat) (ue poison : Bool) (acc : Nat) (syn : Byte) (m addr : Nat) (s : State) : State :=
  let j := s.rf .memElogptr 0 5
  let w0 := fld 0 mem ||| bitAt 2 ue ||| bitAt 3 poison ||| fld 4 acc ||| fld 8 syn.toNat ||| fld 16 (m % 16)
  let s := (((s.rs .memElog w0 j 0).rs .memElog (BitVec.ofNat 32 addr) j 1).rs .memElog
    (BitVec.ofNat 32 (addr / 2 ^ 32)) j 2).rs .memElog s.short j 3
  let s := s.rs .memElogptr (BitVec.ofNat 32 ((j + 1) % 32))
  if ue then s.rsat .memUecnt 0 32 1 mem else s.rsat .memCecnt 0 32 1 mem

/-- A correctable error is logged; more than CE_TH of one memory in an hour raise CE_RATE, at most once an
hour (R429). -/
def logCe (mem acc : Nat) (syn : Byte) (m addr : Nat) (s : State) : State :=
  let s := (elogEntry mem false false acc syn m addr s).rsb .memEvt 11 true
  let hour := 1440000000000
  let recent := s.mem.ceTimes.filter (fun p => decide (s.now < p.2 + hour)) ++ [(mem, s.now)]
  let s := { s with mem := { s.mem with ceTimes := recent } }
  let n := (recent.filter (fun p => decide (p.1 = mem))).length
  let last := Tab.get (fun _ => 0) s.mem.rateAt mem
  if s.rf .memCtrl 8 8 < n ∧ (last = 0 ∨ last + hour ≤ s.now + 1) then
    memFault 8 .l1 5 0 none { s with mem := { s.mem with rateAt := Tab.set (fun _ => 0) s.mem.rateAt mem (s.now + 1) } }
  else s

/-- An uncorrectable error is logged and raised as fault `k`. -/
def logUe (mem acc : Nat) (poison : Bool) (syn : Byte) (m : Option Nat) (addr k : Nat) (base : Level) (facc faddr : Nat)
    (s : State) : State :=
  memFault k base facc faddr m (elogEntry mem true poison acc syn (m.getD 0) addr s)

/-! ### SECDED words (R424, R425) -/

/-- A word's error mark. -/
def State.mark (s : State) (dram : Bool) (w : Nat) : Mark :=
  if dram then
    if (s.mem.dram.any (fun p => decide (p.1 = w * 8))) then Tab.get (fun _ => Mark.clean) s.mem.dmark w
    else ⟨(Config.dramInit (s.mem.epoch * 2 ^ 40 + w)).2, false⟩
  else Tab.get (fun _ => Mark.clean) s.mem.smark w

/-- Byte `a` of a memory; a DRAM byte that nothing has written is a free value (R423). -/
def State.byteOf (s : State) (dram : Bool) (a : Nat) : Byte :=
  if dram then
    match s.mem.dram.find? (fun p => decide (p.1 = a)) with
    | some p => p.2
    | none => (Config.dramInit (s.mem.epoch * 2 ^ 40 + a / 8)).1.extractLsb' (8 * (a % 8)) 8
  else Tab.get (fun _ => 0) s.mem.sram a

/-- The 8 bytes of a word. -/
def State.wordBytes (s : State) (dram : Bool) (w : Nat) : List Byte :=
  (List.range 8).map (fun k => s.byteOf dram (w * 8 + k))

/-- Store one byte. -/
def setByte (dram : Bool) (a : Nat) (b : Byte) (s : State) : State :=
  if dram then { s with mem := { s.mem with dram := Tab.put s.mem.dram a b } }
  else { s with mem := { s.mem with sram := Tab.set (fun _ => 0) s.mem.sram a b } }

/-- Put a word's error mark. -/
def setMark (dram : Bool) (w : Nat) (x : Mark) (s : State) : State :=
  if dram then { s with mem := { s.mem with dmark := Tab.set (fun _ => Mark.clean) s.mem.dmark w x } }
  else { s with mem := { s.mem with smark := Tab.set (fun _ => Mark.clean) s.mem.smark w x } }

/-- Store the 8 bytes of a word with a mark. -/
def setWord (dram : Bool) (w : Nat) (bs : List Byte) (x : Mark) (s : State) : State :=
  setMark dram w x ((List.range 8).foldl (fun s k => setByte dram (w * 8 + k) (bs.getD k 0) s) s)

/-- Class of a word: 0 clean, 1 correctable, 2 uncorrectable, 3 poisoned. -/
def Mark.kind (x : Mark) : Nat :=
  if x.poison then 3 else
    match popCount 72 x.bad.toNat with
    | 0 => 0
    | 1 => 1
    | _ => 2

/-- Syndrome logged for a mark. -/
def Mark.syn (x : Mark) : Byte := if x.poison then Config.poisonSyndrome else Config.syndrome x.bad

/-- Number of a window memory in the error log. -/
def memNo (dram : Bool) : Nat := if dram then 2 else 0

/-- Read one word by a command or PCIe (R424): the bytes, or none where it is uncorrectable. -/
def readWord (dram : Bool) (w m addr : Nat) (s : State) : State × Option (List Byte) :=
  let x := s.mark dram w
  match x.kind with
  | 0 => (s, some (s.wordBytes dram w))
  | 1 =>
    let b := s.wordBytes dram w
    (logCe (memNo dram) 0 x.syn m (w * 8) (setWord dram w b Mark.clean s), some b)
  | 2 => (logUe (memNo dram) 0 false x.syn (some m) (w * 8) 0 .l0 0 addr s, none)
  | _ => (logUe (memNo dram) 0 true x.syn (some m) (w * 8) 1 .l0 0 addr s, none)

/-- Bytes [lo, hi) of a word replaced by `bs` (R424): false where the word was uncorrectable. -/
def writeWord (dram : Bool) (w lo : Nat) (bs : List Byte) (m addr : Nat) (s : State) : State × Bool :=
  if lo = 0 ∧ 8 ≤ bs.length then (setWord dram w bs Mark.clean s, true)
  else
    let x := s.mark dram w
    let old := s.wordBytes dram w
    let new := old.take lo ++ bs ++ old.drop (lo + bs.length)
    match x.kind with
    | 0 => (setWord dram w new Mark.clean s, true)
    | 1 => (logCe (memNo dram) 1 x.syn m (w * 8) (setWord dram w new Mark.clean s), true)
    | k => (logUe (memNo dram) 1 (decide (k = 3)) x.syn (some m) (w * 8) 0 .l0 1 addr (setWord dram w new ⟨0, true⟩ s), false)

/-- Read up to `fuel` words of a range that starts at memory offset `off` with `len` bytes left: bytes read, and the
index of the word that stopped the read (R428). -/
def readRange (dram : Bool) (m addr : Nat) : Nat → Nat → Nat → Nat → State → State × List Byte × Option Nat
  | 0, _, _, _, s => (s, [], none)
  | fuel + 1, idx, off, len, s =>
    if len = 0 then (s, [], none)
    else
      let lo := off % 8
      let n := min len (8 - lo)
      let r := readWord dram (off / 8) m (addr + 0) s
      match r.2 with
      | none => (r.1, [], some idx)
      | some b =>
        let q := readRange dram m (addr + n) fuel (idx + 1) (off + n) (len - n) r.1
        (q.1, (b.drop lo).take n ++ q.2.1, q.2.2)

/-- Write a range word by word; the index of the first word that was uncorrectable (R428). -/
def writeRange (dram : Bool) (m addr : Nat) : Nat → Nat → Nat → List Byte → State → State × Option Nat
  | 0, _, _, _, s => (s, none)
  | fuel + 1, idx, off, bs, s =>
    if bs.isEmpty then (s, none)
    else
      let lo := off % 8
      let n := min bs.length (8 - lo)
      let r := writeWord dram (off / 8) lo (bs.take n) m addr s
      let q := writeRange dram m (addr + n) fuel (idx + 1) (off + n) (bs.drop n) r.1
      (q.1, if r.2 then q.2 else some idx)

/-- Fill `n` words from word `w` with a pattern (R428). -/
def fillWords (dram : Bool) (pat : BitVec 64) : Nat → Nat → State → State
  | 0, _, s => s
  | n + 1, w, s => fillWords dram pat n (w + 1) (setWord dram w (leBytes 8 pat.toNat) Mark.clean s)

/-! ### Windows (R420, R421) -/

/-- Where a range of a window lies: memory and offset; or why it is refused (status, logged). An access that is not 32-bit
aligned, that lies outside every block and window, or at an offset with no register is logged (R8). -/
def State.window (s : State) (m addr len : Nat) : Except Deny (Bool × Nat) :=
  if addr % 4 ≠ 0 then .error ⟨.badParam, true⟩
  else if 0x10000000 ≤ addr ∧ addr < 0x11800000 then
    if addr + len ≤ 0x11800000 then .ok (false, addr - 0x10000000) else .error ⟨.badParam, false⟩
  else if 0x40000000 ≤ addr ∧ addr < 0xC0000000 then
    if ¬ s.hasDram then .error ⟨.unitAbsent, true⟩
    else
      let off := s.rf .memDwsel 0 2 m * 0x80000000 + (addr - 0x40000000)
      if 0x1FC000000 ≤ off then .error ⟨.badParam, true⟩
      else if addr + len ≤ 0xC0000000 ∧ off + len ≤ 0x1FC000000 then .ok (true, off)
      else .error ⟨.badParam, false⟩
  else .error ⟨.badParam, (regAt addr).isNone⟩

/-- Whether master m may write the SRAM range (R421). -/
def State.mayWriteSram (s : State) (m off len : Nat) : Bool :=
  !(decide (7 ≤ m) && decide (m ≤ 11))
    || (decide (s.rf .memHostwin 0 15 * 1024 ≤ off) && decide (off + len ≤ s.rf .memHostwin 16 15 * 1024)
        && decide (s.rf .memHostwin 0 15 < s.rf .memHostwin 16 15))

/-! ### Small memories (R426) -/

/-- Kind of a small memory by register address: the cell table (TABLE_UE), region or binding table (SMALL_UE). -/
def smallOf (addr : Nat) : Option Nat :=
  if 0xE4000 ≤ addr ∧ addr < 0xF0000 then some 5
  else if (0xB0E00 ≤ addr ∧ addr < 0xB1200) ∨ (0x20100 ≤ addr ∧ addr < 0x20180) then some 6
  else none

/-- A block. -/
def State.blk (s : State) (b : Nat) : SmallBlk := Tab.get (fun _ => SmallBlk.clean) s.mem.small b

/-- Put a block. -/
def setBlk (b : Nat) (x : SmallBlk) (s : State) : State :=
  { s with mem := { s.mem with small := Tab.set (fun _ => SmallBlk.clean) s.mem.small b x } }

/-- The block is known to be uncorrectable. -/
def SmallBlk.ue (x : SmallBlk) : Bool := decide (x.left ≠ 0)

/-- Base level of SMALL_UE and TABLE_UE (R441). -/
def smallLevel (k : Nat) : Level := if k = 5 then .l2 else .l1

/-- An access meets block `b`: one bad bit is mended, more make the block uncorrectable and raise the fault of its
table (R426, R427). -/
def touchBlk (k b acc m : Nat) (s : State) : State :=
  let x := s.blk b
  match x.bad with
  | [] => s
  | [p] => logCe 1 acc (Config.syndrome (BitVec.ofNat 72 (2 ^ p.2))) m (b * 32 + p.1 * 4) (setBlk b { x with bad := [] } s)
  | _ => logUe 1 acc false (Config.syndrome 3) (some m) (b * 32) k (smallLevel k) 3 (b * 32) (setBlk b ⟨[], 255⟩ s)

/-- A hardware consumer reads block `b`: one bad bit is mended with a logged error, more make the block uncorrectable
(R426, R427). -/
def consumerRead (b : Nat) (s : State) : State :=
  let x := s.blk b
  match smallOf (b * 32), x.bad with
  | some _, [p] => logCe 1 3 (Config.syndrome (BitVec.ofNat 72 (2 ^ p.2))) 0 (b * 32 + p.1 * 4) (setBlk b { x with bad := [] } s)
  | some k, _ :: _ :: _ =>
    logUe 1 3 false (Config.syndrome 3) none (b * 32) k (smallLevel k) 3 (b * 32) (setBlk b ⟨[], 255⟩ s)
  | _, _ => s

/-- The hardware reads its tables: cell table, region table and binding table. -/
def readTables (s : State) : State := s.mem.small.foldl (fun s p => consumerRead p.1 s) s

/-- A block of the region table is uncorrectable (R427): its 16 entries are 64 bytes each. -/
def State.regionUe (s : State) : Bool := (List.range 32).any (fun k => (s.blk (0xB0E00 / 32 + k)).ue)

/-- A register write to a small memory (R426); the binding table stays out of use until reset (R427). -/
def smallWrite (addr m : Nat) (s : State) : State :=
  match smallOf addr with
  | none => s
  | some k =>
    let b := addr / 32
    let s := touchBlk k b 1 m s
    let x := s.blk b
    if addr < 0x20180 then s else setBlk b { x with left := x.left - (if x.left.testBit (addr % 32 / 4) then 2 ^ (addr % 32 / 4) else 0) } s

/-- Whether the cell table entry of slot i is uncorrectable (R427). -/
def State.tableUe (s : State) (i : Nat) : Bool := (s.blk ((0xE4000 + 16 * i) / 32)).ue

/-! ### Retirement (R432-R434) -/

/-- Entries in use. -/
def State.retCnt (s : State) : Nat := ((List.range 64).filter (fun e => s.rb .memRet 31 e)).length

/-- Whether a page or row is already retired. -/
def State.isRetired (s : State) (kind idx : Nat) : Bool :=
  (List.range 64).any (fun e => s.rb .memRet 31 e && decide (s.rf .memRet 30 1 e = kind) && decide (s.rf .memRet 0 21 e = idx))

/-- Lowest free spare of a kind; spares that self-test withdrew are not free (R458). -/
def State.freeSpare (s : State) (kind : Nat) : Option Nat :=
  (List.range 64).find? (fun n => !((List.range 64).any (fun e => s.rb .memRet 31 e
    && decide (s.rf .memRet 30 1 e = kind) && decide (s.rf .memRet 21 6 e = n))) && !(s.mem.gone.contains (kind, n)))

/-- Copy one word to its spare: single bad bits are corrected, poison is carried, an uncorrectable word is stored
poisoned and logged as GLEAN_UE (R432). -/
def copyWord (dram : Bool) (w : Nat) (s : State) : State :=
  let x := s.mark dram w
  match x.kind with
  | 1 => logCe (memNo dram) 5 x.syn 0 (w * 8) (setWord dram w (s.wordBytes dram w) Mark.clean s)
  | 2 => logUe (memNo dram) 5 false x.syn none (w * 8) 7 .l0 3 (w * 8) (setWord dram w (s.wordBytes dram w) ⟨0, true⟩ s)
  | _ => s

/-- Enter a retirement in the table; the 49th raises RETIRE_HIGH (R433). -/
def enterRetired (kind idx : Nat) (s : State) : State :=
  let e := ((List.range 64).find? (fun e => !(s.rb .memRet 31 e))).getD 63
  let sp := (s.freeSpare kind).getD 63
  let s := s.rs .memRet (fld 0 idx ||| fld 21 sp ||| fld 30 kind ||| bitAt 31 true) e
  let s := s.rs .memRetstat (fld 16 e)
  if s.retCnt = 49 then replaceCause 2 (memFault 10 .l1 5 0 none s) else s

/-- Entries that the boot ROM and the firmware put back at a start (R434): more than 48 retirements raise RETIRE_HIGH, the
retirement cause of R453. -/
def reenter (l : List (Word × Nat)) (s : State) : State :=
  let n := s.retCnt
  let s := l.foldl (fun s p => s.rs .memRet p.1 p.2) s
  if n < 49 ∧ 49 ≤ s.retCnt then replaceCause 2 (memFault 10 .l1 5 0 none s) else s

/-- Request a retirement (R433); the status answered. -/
def retireRequest (kind idx : Nat) (s : State) : State × Status :=
  let top := if kind = 0 then 24576 else 2080768
  let stat (st : Status) (s : State) : State × Status := (s.rs .memRetstat (fld 0 (statusCode st)), st)
  if top ≤ idx ∨ s.mem.retire.isSome then stat .badParam s
  else if kind = 1 ∧ ¬ s.hasDram then stat .unitAbsent s
  else if s.isRetired kind idx then stat .ok s
  else if 64 ≤ s.retCnt ∨ (s.freeSpare kind).isNone then
    stat .busy (memFault 9 .l1 5 0 none s)
  else stat .ok { s with mem := { s.mem with retire := some (kind, idx) } }

/-- The copy of a retirement finishes. -/
def retireDone (kind idx : Nat) (s : State) : State :=
  let n := if kind = 0 then 128 else 512
  let s := (List.range n).foldl (fun s k => copyWord (decide (kind = 1)) (idx * n + k) s) s
  enterRetired kind idx { s with mem := { s.mem with retire := none } }

/-! ### Glean (R430) -/

/-- The glean meets a word. -/
def gleanMark (dram : Bool) (w : Nat) (s : State) : State :=
  let x := s.mark dram w
  match x.kind with
  | 1 => logCe (memNo dram) 4 x.syn 0 (w * 8) (setWord dram w (s.wordBytes dram w) Mark.clean s)
  | 2 => logUe (memNo dram) 4 false x.syn none (w * 8) 7 .l0 3 (w * 8) s
  | _ => s

/-- Visit every block of the small memories at the end of a pass. -/
def gleanSmall (s : State) : State :=
  s.mem.small.foldl (fun s p => match smallOf (p.1 * 32) with
    | some k => touchBlk k p.1 4 0 s
    | none => s) s

/-- One word of a glean pass. -/
def gleanWord (dram : Bool) (s : State) : State :=
  if dram then
    if ¬ s.hasDram ∨ ¬ s.rb .memCtrl 0 then s
    else
      let w := (s.rg .memGleanposd).toNat
      (gleanMark true w s).rs .memGleanposd (BitVec.ofNat 32 (if w + 1 = 1065353216 then 0 else w + 1))
  else
    let w := (s.rg .memGleanpos).toNat
    let s := (gleanMark false w s).rs .memGleanpos (BitVec.ofNat 32 (if w + 1 = 3145728 then 0 else w + 1))
    s.when (decide (w + 1 = 3145728)) gleanSmall

end Sys2Proof.Machine
end

