-- ==== Sys2Proof/Machine/CrcUnit.lean ====
section
/-!
DEFINITION. The check units' registers (R435-R439, R443) and the memory block's registers and events
(R422-R434, R442).
-/
namespace Sys2Proof.Machine

/-- Staged half and snapshot of unit u. -/
def State.crcSt (s : State) (u : Nat) : CrcSt := Tab.get (fun _ => CrcSt.init) s.crc u

/-- Put them. -/
def State.setCrcSt (s : State) (u : Nat) (x : CrcSt) : State :=
  { s with crc := Tab.set (fun _ => CrcSt.init) s.crc u x }

/-- Width of unit u. -/
def State.crcWidth (s : State) (u : Nat) : Nat := s.rf .crcCfg 0 7 u

/-- Running value of unit u. -/
def State.crcVal (s : State) (u : Nat) : Nat := s.rg64 .crcVall .crcValh u

/-- Put the running value. -/
def setCrcVal (u v : Nat) (s : State) : State :=
  (s.rs .crcVall (BitVec.ofNat 32 v) u).rs .crcValh (BitVec.ofNat 32 (v / 2 ^ 32)) u

/-- Feed bytes in order (R436). -/
def crcFeed (u : Nat) (bs : List Byte) (s : State) : State :=
  let f := crcUnitByte (s.crcWidth u) (s.rg64 .crcPolyl .crcPolyh u) (s.rb .crcCfg 7 u)
  setCrcVal u (bs.foldl f (s.crcVal u)) s

/-- Result of unit u. -/
def State.crcRes (s : State) (u : Nat) : Nat :=
  crcUnitResult (s.crcWidth u) (s.rb .crcCfg 8 u) (s.rb .crcCfg 9 u) (s.crcVal u)

/-- Computed registers of the block. -/
def crcRead (s : State) (r : Reg) : Option Word :=
  match r.name with
  | .crcResl => some (BitVec.ofNat 32 (s.crcRes r.i))
  | .crcResh => some (BitVec.ofNat 32 (s.crcRes r.i / 2 ^ 32))
  | .crcValh => some (s.crcSt r.i).snap
  | _ => none

/-- A read of CRC_VALLu takes the snapshot that CRC_VALHu returns (R437). -/
def crcSnapshot (r : Reg) (s : State) : State :=
  if r.name = .crcVall then s.setCrcSt r.i { s.crcSt r.i with snap := s.rg .crcValh r.i } else s

/-- Rules for a write by master `m`: the claim of R439, WIDTH, and POLY and INIT below 2^WIDTH (R435). -/
def crcCheck (s : State) (m : Nat) (r : Reg) (v : Word) : Check :=
  let u := r.i
  let w := s.crcWidth u
  let hi (n : RName) : Nat := 2 ^ 32 * (s.rg n u).toNat
  let lo (n : RName) : Nat := (s.rg n u).toNat
  firstOf [
    refuse (s.rb .crcClaim 4 u && decide (s.rf .crcClaim 0 4 u ≠ m)) deniedBusy,
    (match r.name with
      | .crcCfg =>
        let nw := field v 0 7
        refuse (outside v 0 7 8 64 || decide (2 ^ nw ≤ lo .crcPolyl + hi .crcPolyh)
          || decide (2 ^ nw ≤ lo .crcInitl + hi .crcInith)) bad
      | .crcPolyl => refuse (decide (2 ^ w ≤ v.toNat + hi .crcPolyh)) bad
      | .crcPolyh => refuse (decide (2 ^ w ≤ lo .crcPolyl + 2 ^ 32 * v.toNat)) bad
      | .crcInitl => refuse (decide (2 ^ w ≤ v.toNat + hi .crcInith)) bad
      | .crcInith => refuse (decide (2 ^ w ≤ lo .crcInitl + 2 ^ 32 * v.toNat)) bad
      | _ => none)]

/-- Fold an alive counter and compare it with the last one (R438). -/
def crcAlive (u : Nat) (v : Word) (s : State) : State :=
  let a := field v 0 16
  let s := crcFeed u (leBytes 2 a) s
  let last := s.rf .crcAlivelast 0 16 u
  let s := s.when (s.rb .crcAlivelast 16 u) (fun s =>
    (s.when (decide (a = last)) (fun s => s.rsb .crcStat 0 true u)).when (decide (a ≠ (last + 1) % 65536))
      (fun s => s.rsb .crcStat 1 true u))
  s.rs .crcAlivelast (fld 0 a ||| bitAt 16 true) u

/-- Effects of a write by master `m`. -/
def crcWrite (m : Nat) (r : Reg) (v : Word) (s : State) : State :=
  let u := r.i
  match r.name with
  | .crcCfg => (setCrcVal u (s.rg64 .crcInitl .crcInith u) (storeReg r v s)).rs .crcAlivelast 0 u
  | .crcValh => s.setCrcSt u { s.crcSt u with stage := v }
  | .crcVall => (s.rs .crcVall v u).rs .crcValh (s.crcSt u).stage u
  | .crcDatab => crcFeed u (leBytes 1 v.toNat) s
  | .crcDataw => crcFeed u (leBytes 4 v.toNat) s
  | .crcDatad => crcFeed u (leBytes 4 v.toNat).reverse s
  | .crcAlive => crcAlive u v s
  | .crcClaim => if bit v 4 then s.rs .crcClaim (fld 0 m ||| bitAt 4 true) u else s.rs .crcClaim 0 u
  | _ => storeReg r v s

/-- A reset of a master releases the units it holds (R439). -/
def crcReleaseOf (m : Nat) (s : State) : State :=
  (List.range 4).foldl (fun s u =>
    s.when (s.rb .crcClaim 4 u && decide (s.rf .crcClaim 0 4 u = m)) (fun s => s.rs .crcClaim 0 u)) s

/-- A master identity is reset (R374): its mailboxes (R385, R386) and the check units it holds (R439). -/
def resetMaster (m : Nat) (s : State) : State := crcReleaseOf m (mailReset m s)

/-! ### Memory block -/

/-- Computed registers of the block. -/
def memRegRead (s : State) (r : Reg) : Option Word :=
  match r.name with
  | .memStat => some (bitAt 0 (s.rb .memStat 0) ||| bitAt 1 s.mem.retire.isSome ||| fld 2 s.retCnt
      ||| bitAt 9 (decide (48 < s.retCnt)))
  | _ => none

/-- Rules for a write by master `m` (R433, R434, R442). -/
def memRegCheck (s : State) (m : Nat) (r : Reg) (v : Word) : Check :=
  match r.name with
  | .memCtrl => refuse (decide (field v 8 8 = 0)) bad
  | .memHostwin => firstOf [refuse (s.rb .memCtrl 1) denied, refuse (decide (24576 < field v 16 15)) bad]
  | .memRetire =>
    let early := decide (m = 0) || decide (m = 12) || decide (m = 13)
    let late := decide (m ≤ 4) || (decide (7 ≤ m) && decide (m ≤ 9))
    refuse (!(early || (late && decide (s.mode ≠ .init)))) denied
  | _ => none

/-- Effects of a write. -/
def memRegWrite (r : Reg) (v : Word) (s : State) : State × Status :=
  match r.name with
  | .memCtrl =>
    let lock := s.rb .memCtrl 1
    let s2 := storeReg r v s
    let s2 := s2.when lock (fun s => s.rsb .memCtrl 1 true)
    (s2.when (s.rb .memCtrl 0 && !(bit v 0)) (fun s => s.rs .memGleanposd 0), .ok)
  | .memRetire => retireRequest (field v 31 1) (field v 0 21) s
  | .memCntclr => (s.when (bit v 0) (fun s => (s.rclear .memCecnt 4).rclear .memUecnt 4), .ok)
  | _ => (storeReg r v s, .ok)

/-! ### Events -/

/-- RETIREMENT_COPY_DONE (R432). -/
def execRetirementCopyDone (t : Nat) (s : State) : Host.Outcome State Fault Refusal :=
  let s := s.begin t
  .next (match s.mem.retire with
    | some (k, i) => retireDone k i s
    | none => s)

/-- GLEAN_WORD (R430). -/
def execGleanWord (t : Nat) (dram : Bool) (s : State) : Host.Outcome State Fault Refusal :=
  let s := s.begin t
  .next (if s.mode = .off then s else gleanWord dram s)

end Sys2Proof.Machine
end

