-- ==== Sys2Proof/Machine/Mad.lean ====
section
/-!
DEFINITION. The metering converter (R259-R272).
-/
namespace Sys2Proof.Machine

/-- Length of the regular sequence. -/
def State.madLen (s : State) : Nat := s.rf .madCtrl 4 4 + 1

/-- Put the converter's state. -/
def State.setMad (s : State) (m : MadSt) : State := { s with mad := m }

/-- Result record of input c. -/
def State.mres (s : State) (c : Nat) : MRes := Tab.get (fun _ => MRes.zero) s.mad.res c

/-- The words of a result record (R269, R272). -/
def mresWord (x : MRes) (j : Nat) : Word :=
  match j with
  | 0 => wordOf x.value
  | 1 => x.start
  | 2 => x.stop
  | _ => fld 0 x.flags ||| fld 8 (x.n - 1) ||| fld 12 x.gain ||| fld 16 (x.count % 65536)

/-- MAD_STAT (R272). -/
def madStatWord (s : State) : Word :=
  let m := s.mad
  let ph := match m.conv with
    | none => 0
    | some c => if c.rundown.isSome then 2 else 1
  let src := match m.conv with
    | none => 0
    | some c => c.src
  let ch := match m.conv with
    | none => 0
    | some c => c.ch
  bitAt 0 (s.rb .madCtrl 0) ||| fld 1 ph ||| fld 3 src ||| fld 5 ch ||| bitAt 9 m.inj.isSome ||| bitAt 10 m.calPend
    ||| bitAt 11 m.timer ||| fld 12 (m.pos % 16)

/-- Computed registers of the block. -/
def madRead (s : State) (r : Reg) : Option Word :=
  match r.name with
  | .madStat => some (madStatWord s)
  | .madRes => if r.j = 0 then some (mresWord (s.mres r.i) 0) else none
  | .madInjres => if r.j = 0 then some (mresWord s.mad.injRes 0) else none
  | _ => none

/-- Snapshot of R269. -/
def madSnapshot (r : Reg) (s : State) : State :=
  match r.name, r.j with
  | .madRes, 0 => (List.range 4).foldl (fun s j => s.rs .madRes (mresWord (s.mres r.i) j) r.i j) s
  | .madInjres, 0 => (List.range 4).foldl (fun s j => s.rs .madInjres (mresWord s.mad.injRes j) 0 j) s
  | _, _ => s

/-- An injected conversion is pending or runs (R265). -/
def State.injBusy (s : State) : Bool :=
  s.mad.inj.isSome || (match s.mad.conv with
    | some c => decide (c.src = 1)
    | none => false)

/-- Rules for a write in the block. -/
def madCheck (s : State) (r : Reg) (v : Word) : Check :=
  match r.name with
  | .madCtrl => refuse (s.rb .madCtrl 0 && (decide (field v 4 4 ≠ s.rf .madCtrl 4 4) || (bit v 1 != s.rb .madCtrl 1))) denied
  | .madSeq => firstOf [refuse (s.rb .madCtrl 0) denied, refuse (decide (field v 4 2 = 3)) bad]
  | .madSync => refuse (outside v 0 8 1 200 || outside v 8 8 5 15) bad
  | .madInj => firstOf [refuse (decide (field v 4 2 = 3)) bad, refuse (bit v 31 && s.injBusy) busyNow]
  | .madCalreq => firstOf [refuse (bit v 31 && decide (field v 0 3 = 0)) bad,
      refuse (bit v 31 && decide (s.mad.cal ≠ [])) busyNow]
  | .madCal => refuse (decide (r.j = 1) && !(b32In v (b32Of 95 100) (b32Of 105 100))) bad
  | _ => none

/-- Effects of a write (R264-R266). -/
def madWrite (r : Reg) (v : Word) (s : State) : State :=
  let m := s.mad
  match r.name with
  | .madCtrl =>
    let s2 := storeReg r v s
    if bit v 0 && !(s.rb .madCtrl 0) then s2.setMad { m with pos := 0 }
    else if !(bit v 0) && s.rb .madCtrl 0 then
      s2.setMad { m with conv := match m.conv with
        | some c => if c.src = 0 then none else some c
        | none => none }
    else s2
  | .madInj =>
    let s2 := storeReg r v s
    if bit v 31 then s2.setMad { m with inj := some (field v 0 4, field v 4 2, field v 8 4 + 1) } else s2
  | .madCalreq =>
    let s2 := storeReg r v s
    if bit v 31 then
      s2.setMad { m with cal := (List.range 3).filter (fun g => bit v g), calN := field v 8 4 + 1, calPend := true,
                         calZero := none }
    else s2
  | _ => storeReg r v s

/-- Whether a conversion of `ch` at `gain` is flagged SETTLING (R268); 16 stands for a calibration phase. -/
def State.settles (s : State) (ch gain : Nat) : Bool :=
  (match s.mad.prev with
    | some p => decide (p ≠ (ch, gain))
    | none => false) && s.rb .madSettle ch

/-- The calibration gains still to do and whether the first one's zero phase is done, a phase whose result is on its way
counting as done (R266). -/
def State.calNow (s : State) : List Nat × Bool :=
  match s.mad.await.map (fun c => c.src) with
  | some 2 => (s.mad.cal, true)
  | some 3 => (s.mad.cal.drop 1, false)
  | _ => (s.mad.cal, s.mad.calZero.isSome)

/-- Start a conversion at this boundary, by the order of R267. -/
def startConv (timer : Bool) (s : State) : State :=
  let m := s.mad
  let go (src ch gain n : Nat) (prev : Nat × Nat) (m : MadSt) : State :=
    let c : Conv := ⟨src, ch, gain, n, n, s.short, 0, none, timer, src < 2 && s.settles ch gain⟩
    s.setMad { m with conv := some c, prev := some prev }
  match m.inj with
  | some (ch, gain, n) => go 1 ch gain n (ch, gain) { m with inj := none }
  | none =>
    match s.calNow.1 with
    | g :: _ => go (if s.calNow.2 then 3 else 2) 0 g m.calN (16, g) { m with calPend := false }
    | [] =>
      if s.rb .madCtrl 0 && decide (m.pos < s.madLen) then
        let e := s.rg .madSeq m.pos
        let nxt := if m.pos + 1 = s.madLen ∧ ¬ s.rb .madCtrl 1 then 0 else m.pos + 1
        go 0 (field e 0 4) (field e 4 2) (field e 8 4 + 1) (field e 0 4, field e 4 2) { m with pos := nxt }
      else s

/-- A conversion boundary (R262, R263): one at or after the end of a rundown starts the next conversion, although the result
is available only 5 to 10 µs later (R270). -/
def madBoundary (timer : Bool) (s : State) : State :=
  let s := s.setMad { s.mad with lastB := s.now }
  match s.mad.conv with
  | none => startConv timer s
  | some c =>
    if c.rundown.isSome then
      (if c.rundown.any (fun e => decide (e ≤ s.now)) ∧ s.mad.await.isNone then
        startConv timer (s.setMad { s.mad with conv := none, await := some c })
      else s)
    else if c.left ≤ 1 then
      s.setMad { s.mad with conv := some { c with left := 0, stop := s.short, rundown := some (s.now + 160000),
                                                  nosync := c.nosync || timer } }
    else s.setMad { s.mad with conv := some { c with left := c.left - 1, nosync := c.nosync || timer } }

/-- Correction of a raw count by the calibration of its gain (R260). -/
def State.madValue (s : State) (gain : Nat) (raw : Int) : Int :=
  let w := s.rg .madCal gain 1
  let d := (raw - (s.rg .madCal gain 0).toInt) * ((2 ^ 23 + field w 0 23 : Nat) : Int)
  let e : Int := (field w 23 8 : Int) - 150
  let v := if 0 ≤ e then d * ((2 ^ e.toNat : Nat) : Int) else divNearest d (2 ^ (-e).toNat)
  max (-2097151) (min 2097151 v)

/-- The record a result leaves (R269). -/
def mresOf (c : Conv) (value : Int) (ovr : Bool) (count : Nat) : MRes :=
  ⟨value, c.start, c.stop, (if c.settling then 1 else 0) + (if c.nosync then 2 else 0) + (if ovr then 4 else 0)
    + (if c.src = 1 then 8 else 0), c.n, c.gain, (count + 1) % 65536⟩

/-- The MAD record of R276. -/
def madRecord (ch : Nat) (x : MRes) (s : State) : State :=
  dataRec 5 1 x.stop (recHead 7 ch 24 x.flags x.stop ++ leBytes 4 x.start.toNat ++ leBytes 4 (wordOf x.value).toNat
    ++ leBytes 4 (x.n - 1 + 16 * x.gain + 65536 * x.count) ++ leBytes 4 0) s

/-- GAINCORR of a reference phase as binary32 (R266). -/
def gainCorr (zero ref : Int) : Word :=
  let d := ref - zero
  if d = 0 then 0 else Num.toB32 (Num.ofRatio (if d < 0 then -1887437 else 1887437) d.natAbs)

/-- Deliver a result (R260, R264-R266); `exc` is an excess beyond full scale, its sign true for a positive one. -/
def deliverConv (c : Conv) (raw : Int) (exc : Option Bool) (s : State) : State :=
  let ovr := exc.isSome
  let value := match exc with
    | some true => 2097151
    | some false => -2097151
    | none => s.madValue c.gain raw
  match c.src with
  | 0 =>
    let x := mresOf c value ovr (s.mres c.ch).count
    let s := s.setMad { s.mad with res := Tab.set (fun _ => MRes.zero) s.mad.res c.ch x }
    let s := madRecord c.ch x (s.when ovr (fun s => s.rsb .madEvt 4 true))
    if s.rb .madCtrl 0 && s.rb .madCtrl 1 && decide (s.madLen ≤ s.mad.pos) && !(s.mad.conv.any (fun k => decide (k.src = 0))) then
      (s.rsb .madEvt 0 true).rsb .madCtrl 0 false
    else s
  | 1 =>
    let x := mresOf c value ovr s.mad.injRes.count
    let s := (s.setMad { s.mad with injRes := x }).rsb .madEvt 1 true
    madRecord c.ch x (s.when ovr (fun s => s.rsb .madEvt 4 true))
  | 2 => s.setMad { s.mad with calZero := some raw }
  | _ =>
    let zero := s.mad.calZero.getD 0
    let w := gainCorr zero raw
    let ok := b32In w (b32Of 95 100) (b32Of 105 100)
    let s := if ok then (s.rs .madCal (wordOf zero) c.gain 0).rs .madCal w c.gain 1
      else fault 0x0591 .l1 (s.rsb .madEvt 5 true)
    let rest := s.mad.cal.drop 1
    (s.setMad { s.mad with cal := rest, calZero := none }).when rest.isEmpty (fun s => s.rsb .madEvt 2 true)

/-! ### Events -/

/-- SYNC_CROSSING (R261): ignored within BLANK of the last accepted one. -/
def execSyncCrossing (t : Nat) (s : State) : Host.Outcome State Fault Refusal :=
  let s := s.begin t
  let blank := s.rf .madSync 8 8 * 400000
  let tooSoon : Bool := match s.mad.lastX with
    | some x => decide (s.now < x + blank)
    | none => false
  .next (if s.mode = .off ∨ tooSoon then s
    else
      let s := match s.mad.lastX with
        | some x => s.rs .madPeriod (BitVec.ofNat 32 (min 0xFFFFFF ((s.now - x) / 40)))
        | none => s
      let s := s.rs .madLastsync s.short
      madBoundary false (s.setMad { s.mad with lastX := some s.now, timer := false }))

/-- TIMER_MODE (R262): 25 ms without a boundary. -/
def execTimerMode (t : Nat) (s : State) : Host.Outcome State Fault Refusal :=
  let s := s.begin t
  .next (if s.mode = .off ∨ s.mad.timer ∨ s.now < s.mad.lastB + 10000000 then s
    else fault 0x0590 .l0 (madBoundary true ((s.setMad { s.mad with timer := true }).rsb .madEvt 3 true)))

/-- TIMER_TICK (R262): every 20 ms in timer mode. -/
def execTimerTick (t : Nat) (s : State) : Host.Outcome State Fault Refusal :=
  let s := s.begin t
  .next (if s.mode = .off ∨ ¬ s.mad.timer ∨ s.now < s.mad.lastB + 8000000 then s else madBoundary true s)

/-- CONVERSION_RESULT (R263): the rundown has ended. -/
def execConversionResult (t : Nat) (raw : Int) (exc : Option Bool) (s : State) : Host.Outcome State Fault Refusal :=
  let s := s.begin t
  .next (match s.mad.await with
    | some c => deliverConv c raw exc (s.setMad { s.mad with await := none })
    | none =>
      match s.mad.conv with
      | some c =>
        if c.rundown.any (fun e => decide (e ≤ s.now)) then deliverConv c raw exc (s.setMad { s.mad with conv := none }) else s
      | none => s)

end Sys2Proof.Machine
end

