-- ==== Sys2Proof/Machine/Mbx.lean ====
section
/-!
DEFINITION. The registers of the mailboxes and of the host paths (R363, R364, R381-R390).
-/
namespace Sys2Proof.Machine

/-! ### Mailboxes -/

/-- MBX_CSTATc (R389). -/
def cstatWord (s : State) (c : Nat) : Word :=
  let x := s.chan c
  let hd := match x.msgs with
    | [] => (0, false)
    | g :: _ => (g.bytes.length, g.orphan)
  fld 0 x.msgs.length ||| fld 5 hd.1 ||| bitAt 12 hd.2 ||| fld 16 x.aborted ||| bitAt 24 x.acked ||| bitAt 25 x.cross

/-- Computed registers of the block. -/
def mbxRead (s : State) (r : Reg) : Option Word :=
  match r.name with
  | .mbxCstat => some (cstatWord s r.i)
  | .mbxRdata => some (BitVec.ofNat 32 (match (s.chan r.i).msgs with
      | [] => 0
      | g :: _ => leAt g.bytes (4 * r.j) 4))
  | .mbxSdata => some 0
  | _ => none

/-- Rules for a read by master m: MBX_RDATAc belongs to the receiver of an enabled channel (R382). -/
def mbxReadCheck (s : State) (m : Nat) (r : Reg) : Check :=
  match r.name with
  | .mbxRdata => refuse (!(s.bindEn r.i && decide (s.bindDst r.i = m))) denied
  | _ => none

/-- Rules for a write by master m (R381, R382). -/
def mbxCheck (s : State) (m : Nat) (r : Reg) (v : Word) : Check :=
  let c := r.i
  match r.name with
  | .mbxCtrl => refuse (decide (field v 8 8 = 0)) bad
  | .mbxBind => firstOf [
      refuse (!(decide (m = 0) || decide (m = 12))) denied,
      refuse (s.rb .mbxCtrl 0) denied,
      refuse (decide (field v 0 4 = field v 4 4) || !(s.hasMaster (field v 0 4)) || !(s.hasMaster (field v 4 4))) bad]
  | .mbxSdata => refuse (!(s.bindEn c)) denied
  | .mbxSend => firstOf [
      refuse (!(s.bindEn c && decide (s.bindSrc c = m))) denied,
      refuse (outside v 0 7 1 64) bad,
      refuse (decide (16 ≤ (s.chan c).msgs.length)) busyNow]
  | .mbxAck => firstOf [
      refuse (!(s.bindEn c && decide (s.bindDst c = m))) denied,
      refuse (bit v 0 && (s.chan c).msgs.isEmpty) badState]
  | _ => none

/-- The bits of `v` that master m owns, by `own`; an attempt on any other is ignored and logged (R382). -/
def ownedBits (own : Nat → Bool) (tried : Word) : Word × Bool :=
  (packBits ((List.range 32).map (fun c => bit tried c && own c)),
   (List.range 32).any (fun c => bit tried c && !(own c)))

/-- Acknowledge the oldest message of channel c (R382, R386). -/
def mailAck (c : Nat) (s : State) : State :=
  let x := s.chan c
  match x.msgs with
  | [] => s
  | g :: rest =>
    let s := s.setChan c { x with msgs := rest, acked := x.acked || !g.orphan }
    let s := s.when rest.isEmpty (fun s => s.rsb .mbxDbell c false)
    let s := endCross c s
    s.when (!g.orphan) (setNote c)

/-- The message that MBX_SENDc sends: the first `n` bytes of MBX_SDATAc. -/
def State.sdata (s : State) (c n : Nat) : List Byte :=
  ((List.range 16).flatMap (fun j => leBytes 4 (s.rg .mbxSdata c j).toNat)).take n

/-- Clear the notice bits of `own` with their channels' ACKED and ABORTED (R389). -/
def clearNotes (own : Word) (s : State) : State :=
  (List.range 32).foldl (fun s c =>
    if bit own c then (s.setChan c { s.chan c with acked := false, aborted := 0 }).rsb .mbxNote c false else s) s

/-- Effects of a write by master m. -/
def mbxWrite (m : Nat) (r : Reg) (v : Word) (s : State) : State :=
  let recv (c : Nat) : Bool := decide (s.bindDst c = m) && s.bindEn c
  let send (c : Nat) : Bool := decide (s.bindSrc c = m) && s.bindEn c
  let log (b : Bool) (s : State) : State := s.when b (violation 1 (regAddr r.name r.i r.j) m .ok)
  match r.name with
  | .mbxCtrl =>
    let lock := s.rb .mbxCtrl 0
    (storeReg r v s).when lock (fun s => s.rsb .mbxCtrl 0 true)
  | .mbxDbell =>
    let (own, strange) := ownedBits recv v
    log strange (s.rs .mbxDbell (s.rg .mbxDbell &&& ~~~ own))
  | .mbxNote =>
    let (own, strange) := ownedBits send v
    log strange (clearNotes own s)
  | .mbxDbmask =>
    let (own, strange) := ownedBits recv (v ^^^ s.rg .mbxDbmask)
    log strange (s.rs .mbxDbmask (s.rg .mbxDbmask ^^^ own))
  | .mbxNotemask =>
    let (own, strange) := ownedBits send (v ^^^ s.rg .mbxNotemask)
    log strange (s.rs .mbxNotemask (s.rg .mbxNotemask ^^^ own))
  | .mbxSend => mailPush r.i (s.sdata r.i (field v 0 7)) s
  | .mbxAck => s.when (bit v 0) (mailAck r.i)
  | .mbxSdata => s.rs .mbxSdata v r.i r.j
  | _ => storeReg r v s

/-! ### Host paths -/

/-- Computed registers of the block. -/
def netRead (s : State) (r : Reg) : Option Word :=
  match r.name with
  | .netMacl => some (BitVec.ofNat 32 (Config.mac r.i).toNat)
  | .netMach => some (BitVec.ofNat 32 ((Config.mac r.i).toNat / 2 ^ 32))
  | .netOut => some (BitVec.ofNat 32 (min 256 (s.path r.i).outst.length))
  | _ => none

/-- Ring sizes of R390. -/
def ringSizeOk (n : Nat) : Bool := decide (2 ≤ n) && decide (n ≤ 1024) && decide (n = 2 ^ Nat.log2 n)

/-- Rules for a write in the block. -/
def netCheck (s : State) (r : Reg) (v : Word) : Check :=
  match r.name with
  | .netPcfg => firstOf [
      refuse (bit v 3 && outside v 4 12 1 4094) bad,
      refuse (s.rb .netPcfg 0 r.i && decide (v ||| 1 ≠ s.rg .netPcfg r.i)) badState]
  | .netIp | .netMask | .netGw => refuse (s.rb .netPcfg 0 r.i) badState
  | .netCqbasel | .netRqbasel => firstOf [refuse (decide (field v 0 12 ≠ 0)) bad, refuse (s.rb .netRingctl 0) badState]
  | .netCqbaseh | .netRqbaseh => refuse (s.rb .netRingctl 0) badState
  | .netCqsize | .netRqsize => firstOf [refuse (!(ringSizeOk (field v 0 11))) bad, refuse (s.rb .netRingctl 0) badState]
  | .netCqtail => firstOf [refuse (!(s.rb .netRingctl 0)) badState,
      refuse (decide (s.rf .netCqsize 0 11 ≤ field v 0 10)) bad]
  | .netRqhead => refuse (decide (s.rf .netRqsize 0 11 ≤ field v 0 10)) bad
  | _ => none

/-- Effects of a write: room in the reply ring lets waiting replies leave; the service port's SPEED stays 0. -/
def netWrite (r : Reg) (v : Word) (s : State) : State :=
  match r.name with
  | .netPcfg => storeReg r (if r.i = 2 then v &&& ~~~ 2 else v) s
  | .netRqhead =>
    let s := storeReg r v s
    drainReplies s.ringWait s
  | .netCntclr => s.when (bit v 0) (fun s => ((s.rclear .netDrop 4).rclear .netBusy 4).rclear .netDup 4)
  | _ => storeReg r v s

end Sys2Proof.Machine
end

