-- ==== Sys2Proof/Machine/LenReg.lean ====
section
/-!
DEFINITION. The registers of the loop engine (R28, R42, R68-R71, R83-R86, R93, R94, R102, R108) and of the winnow
units (R132).
-/
namespace Sys2Proof.Machine

/-! ### Ranges -/

/-- A binary32 word's value times 2^149, exactly (R68). -/
def b32Scaled (w : Word) : Int :=
  let e := field w 23 8
  if e = 0 then 0
  else
    let m : Int := (((2 ^ 23 + field w 0 23) * 2 ^ (e - 1) : Nat) : Int)
    if bit w 31 then -m else m

/-- A written binary32 in [a / 1000, b / 1000], the limits held as binary32; anything else is BAD_PARAM. -/
def rangeMilli (v : Word) (a b : Int) : Check := refuse (!(b32In v (b32Of a 1000) (b32Of b 1000))) bad

/-- Ranges of the bases 0-4 (R18, R71), in thousandths. -/
def baseRange (i : Nat) (v : Word) : Check :=
  match i with
  | 0 => rangeMilli v 10000 5000000
  | 1 => rangeMilli v 10000 800000
  | 2 => refuse (decide (v ≠ 0x42480000) && decide (v ≠ 0x42700000)) bad
  | 3 => rangeMilli v 20000 1200000
  | _ => rangeMilli v 1600 2500

/-- Ranges of the global parameters (R28, R31, R32, R50, R52, R54, R55, R58, R60, R61, R102), in thousandths. -/
def globRange (i : Nat) : Int × Int :=
  (([(0, 1300), (0, 1300), (500, 5000), (50, 500), (-1000, 1000), (-1000, 1000), (0, 0), (900, 1100)] : List (Int × Int))
    ++ [(1, 10000), (1, 10000), (1, 2000), (1200, 2000), (0, 20000), (1000, 1500), (0, 3000), (200, 2000)]
    ++ [(100, 10000), (2000, 20000), (0, 200000), (10000, 600000), (0, 300), (900, 1100), (50, 10000), (100, 10000)]
    ++ [(800, 1100), (0, 10000), (5, 10000), (800, 980), (1020, 1200), (10, 200), (50, 400), (0, 100000)]).getD i (0, 0)

/-- Ranges of a bank word (R28, R102, R108), in 1/10000. -/
def bankRange (j : Nat) : Int × Int :=
  let lo : List (Int × Int) := [(2000, 300000), (0, 2000000), (500, 50000), (50, 1000), (50, 1000), (0, 2000), (0, 3000),
    (0, 100000), (20, 100000), (10, 1000), (10, 1000), (0, 50000), (5, 10000), (0, 10000000), (10000, 1000000), (0, 50000),
    (0, 10000000), (10000, 1000000), (0, 10000), (0, 10)]
  let hi : List (Int × Int) := [(8000, 12000), (0, 10000000), (50, 100000), (0, 10000000), (50, 100000), (0, 10000000),
    (50, 100000), (0, 10000), (0, 10000), (0, 5000), (0, 10000), (0, 2000000), (0, 500), (500, 5000), (8000, 10000), (0, 500)]
  if j < 32 then lo.getD j (0, 0) else hi.getD (j - 32) (0, 0)

/-- A bank word in its range. -/
def bankCheck (j : Nat) (v : Word) : Check :=
  refuse (!(b32In v (b32Of (bankRange j).1 10000) (b32Of (bankRange j).2 10000))) bad

/-- The word nearest to a register's value plus `a / 100`. -/
def plusCent (w : Word) (a : Int) : Word := ((Num.ofB32 w).add (Num.ofRatio a 100)).toB32

/-- Ranges of profile p as it would stand in `w` (R42). -/
def profCheck (w : State) (p j : Nat) (v : Word) : Check :=
  let x (k : Nat) : Word := if k = j then b32Flush v else w.rg .lenProf p k
  let dep : Check := firstOf [
    refuse (!(b32Le (plusCent (x 0) 2) (x 1) && b32Le (x 1) (b32Of 95 100))) bad,
    refuse (!(b32Le (b32Of 2 100) (x 3) && b32Le (x 3) (plusCent (x 2) (-2)))) bad]
  match j with
  | 0 => firstOf [rangeMilli v 500 900, dep]
  | 1 => firstOf [refuse (b32Bad v) bad, dep]
  | 2 => firstOf [rangeMilli v 50 500, dep]
  | 3 => firstOf [refuse (b32Bad v) bad, dep]
  | 4 | 5 => rangeMilli v 0 10000
  | 6 => rangeMilli v 20000 500000
  | 7 => rangeMilli v 100 10000
  | 8 => rangeMilli v 100 10000
  | _ => none

/-- A coefficient set has its poles inside the unit circle (R84). -/
def stableSet (a1 a2 : Word) : Bool :=
  let one : Int := ((2 ^ 149 : Nat) : Int)
  decide ((b32Scaled a2).natAbs < one.toNat) && decide (((b32Scaled a1).natAbs : Int) < one + b32Scaled a2)

/-- Rules of a biquad word (R83, R84). -/
def biqCheck (w : State) (n j : Nat) (v : Word) : Check :=
  let x (k : Nat) : Word := if k = j then b32Flush v else w.rg .lenBiq n k
  if j = 10 then refuse (decide (6 < field v 0 4)) bad
  else firstOf [
    refuse (b32Bad v) bad,
    (if j = 3 ∨ j = 4 then refuse (!(stableSet (x 3) (x 4))) bad
     else if j = 8 ∨ j = 9 then refuse (!(stableSet (x 8) (x 9))) bad
     else none)]

/-- Rules of a region word (R86). -/
def regnCheck (w : State) (r j : Nat) (v : Word) : Check :=
  let x (k : Nat) : Word := if k = j then b32Flush v else w.rg .lenRegn r k
  if j < 8 then firstOf [rangeMilli v (-2000) 2000, refuse (!(b32Lt (x (j / 2 * 2)) (x (j / 2 * 2 + 1)))) bad]
  else if j < 12 then rangeMilli v 0 200
  else none

/-- Two enabled inputs of `w` share a channel, with input k as `v` (R71). -/
def inselClash (w : State) (k : Nat) (v : Word) : Bool :=
  bit v 8 && (List.range 9).any (fun i => decide (i ≠ k) && w.rb .lenInsel 8 i && decide (w.rf .lenInsel 0 5 i = field v 0 5))

/-! ### LEN (R102) -/

/-- LEN_STAT. -/
def State.lenStat (s : State) : Word :=
  let l := s.len
  fld 0 l.reg.region ||| fld 4 l.reg.bank ||| fld 8 l.reg.gdp ||| bitAt 12 l.bur.on ||| bitAt 13 l.lim.active
    ||| bitAt 14 l.lim.armed ||| bitAt 15 l.emf.clamp ||| bitAt 16 l.rs.permit ||| bitAt 17 (l.rs.on && !l.rs.paused) ||| bitAt 18 l.run.guard
    ||| bitAt 19 l.reg.blendAt.isSome ||| fld 20 l.frt.prof ||| bitAt 23 s.running

/-- Readouts of the blocks that run in RUN and STOPPING only (R500). -/
def quietRd (i : Nat) : Bool := decide (i ≤ 2) || decide (i = 8) || decide (i = 9) || decide (11 ≤ i)

/-- Computed registers of the block. -/
def lenRead (s : State) (r : Reg) : Option Word :=
  match r.name with
  | .lenStat => some s.lenStat
  | .lenRd => if s.mode ≠ .run ∧ s.mode ≠ .stopping ∧ quietRd r.i then some 0 else none
  | _ => none

/-- An ISLAND_FAULT condition or FRT is active. -/
def State.frtActive (s : State) : Bool := (decide (s.mode = .run) && decide (s.sub = .frt)) || s.len.frt.isl

/-- Rules for a write: `w` is the state as all values of the write or sheaf would leave it; `direct` is off for a sheaf
entry, which lifts R93 and R94 only (R95). -/
def lenCheck (s w : State) (direct : Bool) (r : Reg) (v : Word) : Check :=
  let run := s.running
  match r.name with
  | .lenBlken => refuse (direct && run) badState
  | .lenBankctl => firstOf [
      refuse (bit v 4 && decide (field v 0 4 = s.len.reg.bank)) badState,
      refuse (s.rb .lenBankctl 4 && decide (field v 0 4 ≠ s.rf .lenBankctl 0 4)) badState]
  | .lenLaunch => refuse (decide (2499 < field v 0 12)) bad
  | .lenRegdwell => refuse (decide (10000 < field v 0 16)) bad
  | .lenModecfg => refuse (run && decide (field v 0 1 ≠ s.rf .lenModecfg 0 1)) badState
  | .lenInsel => firstOf [refuse (decide (17 < field v 0 5)) bad, refuse (inselClash w r.i v) bad, refuse run badState]
  | .lenInscl | .lenArmscl => refuse (b32Bad v || decide (b32Flush v &&& 0x7FFFFFFF = 0)) bad
  | .lenBase => firstOf [baseRange r.i v, refuse run badState]
  | .lenGlob =>
    if r.i = 6 then
      let fb := w.rg .lenBase 2
      refuse (!(b32In v (plusCent fb (-250)) (plusCent fb 250))) bad
    else rangeMilli v (globRange r.i).1 (globRange r.i).2
  | .lenProf => firstOf [profCheck w r.i r.j v, refuse (direct && s.frtActive && decide (s.len.frt.prof = r.i)) badState]
  | .lenBiq => firstOf [biqCheck w r.i r.j v,
      refuse (direct && run && (s.rb .lenBiq 8 r.i 10 || (decide (r.j = 10) && bit v 8))) badState]
  | .lenRegn => firstOf [regnCheck w r.i r.j v,
      refuse (direct && run && (s.rb .lenRegn 16 r.i 12 || (decide (r.j = 12) && bit v 16))) badState]
  | .lenBank => firstOf [bankCheck r.j v,
      refuse (direct && !(s.rb .lenBankctl 4 && decide (s.rf .lenBankctl 0 4 = r.i))) badState]
  | _ => none

/-- Words of the block held as binary32. -/
def Reg.isNum (r : Reg) : Bool :=
  match r.name with
  | .lenInscl | .lenArmscl | .lenBase | .lenGlob | .lenBank => true
  | .lenProf => decide (r.j < 9)
  | .lenBiq => decide (r.j < 10)
  | .lenRegn => decide (r.j < 12)
  | _ => false

/-- Effects of a write; LEN_FB also sets F_SET (R71). -/
def lenWrite (r : Reg) (v : Word) (s : State) : State :=
  match r.name with
  | .lenTcclr => s.when (bit v 0) (fun s => s.rsf .lenTcomp 16 16 0)
  | .lenBase =>
    let s := storeReg r (b32Flush v) s
    if r.i = 2 then s.rs .lenGlob (b32Flush v) 6 else s
  | _ => storeReg r (if r.isNum then b32Flush v else v) s

/-! ### WIN (R132) -/


/-- Slots mapped to arm a: the ranges of CEL_CFGi. -/
def State.armOf (s : State) (i : Nat) : Nat := s.rf .celCfg 0 3 i

/-- Slots with a cell entry, in order. -/
def State.slotsOf (s : State) (a : Nat) : List Nat :=
  (s.cells.map (fun p => p.1)).filter (fun i => decide (i < s.slots) && decide (s.armOf i = a))

/-- The cell in slot i. -/
def State.cell (s : State) (i : Nat) : Cell := Tab.get (fun _ => Cell.init) s.cells i

/-- Put the cell in slot i. -/
def State.setCell (s : State) (i : Nat) (c : Cell) : State :=
  { s with cells := Tab.set (fun _ => Cell.init) s.cells i c }

/-- Rules for a write. -/
def winCheck (s w : State) (r : Reg) (v : Word) : Check :=
  match r.name with
  | .winCtrl => refuse (decide (field v 0 8 = 0)) bad
  | .winBscfg => refuse (outside v 0 10 50 1000 || outside v 16 9 20 500 || outside v 28 4 1 8
      || decide (field v 0 10 ≤ w.rf .winRestwin 0 7)) bad
  | .winRestwin => refuse (outside v 0 7 2 100 || decide (w.rf .winBscfg 0 10 ≤ field v 0 7)) bad
  | .winCcell => firstOf [rangeMilli v 1000 30000, refuse s.running badState]
  | .winReady => refuse (decide (64 < field v 0 8) || decide (field v 8 8 = 0)) bad
  | .winPccfg => refuse (outside v 0 8 30 70 || decide (field v 8 8 = 0)) bad
  | .winFixen => refuse (!(decide (s.mode = .service) || decide (s.mode = .factoryTest))) badState
  | _ => none

/-- Effects of a write. -/
def winWrite (r : Reg) (v : Word) (s : State) : State :=
  match r.name with
  | .winCcell => storeReg r (b32Flush v) s
  | .winCntclr =>
    let s := s.when (bit v 0) (fun s => s.rclear .winDefcnt 6)
    s.when (bit v 1) (fun s => s.rclear .winSwcnt 6)
  | _ => storeReg r v s

end Sys2Proof.Machine
end

