-- ==== Sys2Proof/Machine/LinkCore.lean ====
section
/-!
DEFINITION. The links and the cell table as the units share them: stages of a link (R200, R205), requests waiting for
it (R197), enrolment and downloads (R158, R201), and the moves of a cell (R215, R216).
-/
namespace Sys2Proof.Machine

/-- Link l. -/
def State.link (s : State) (l : Nat) : Link := Tab.get (fun _ => Link.init) s.lnk l

/-- Put link l. -/
def State.setLink (s : State) (l : Nat) (x : Link) : State :=
  { s with lnk := Tab.set (fun _ => Link.init) s.lnk l x }

/-- Link of a slot, and its slot there (R13). -/
def linkOf (i : Nat) : Nat := i / 24
def slotOf (i : Nat) : Nat := i % 24

/-- Change the protection part of a cell. -/
def State.setProt (s : State) (i : Nat) (p : CellSt) : State := s.setCell i { s.cell i with prot := p }

/-- Change the telemetry part of a cell. -/
def State.setTel (s : State) (i : Nat) (x : CellTel) : State := s.setCell i { s.cell i with tel := x }

/-- Change the firing part of a cell. -/
def State.setFire (s : State) (i : Nat) (x : CellFire) : State := s.setCell i { s.cell i with fire := x }

/-- State code of a cell (R215): RESTING from the instant its rest starts until the instant it ends (R127). -/
def State.cst (s : State) (i : Nat) : Nat :=
  let p := (s.cell i).prot
  match p.rest with
  | some (a, b) => if p.st = 4 ∨ p.st = 5 then (if a ≤ s.ticks ∧ s.ticks < b then 5 else 4) else p.st
  | none => p.st

/-- A cell enters a state. -/
def moveCell (i st : Nat) (s : State) : State := s.setProt i { (s.cell i).prot with st := st }

/-- ENROLLED, CHARGING, READY, ACTIVE or RESTING. -/
def inService (st : Nat) : Bool := decide (1 ≤ st) && decide (st ≤ 5)

/-- Slots mapped to some arm, from the configuration words that are not at reset. -/
def State.mapped (s : State) : List Nat :=
  (s.regs.filter (fun p => decide (0xE4000 ≤ p.1) && decide (p.1 < 0xF0000) && decide (p.1 % 16 = 8))).map
    (fun p => (p.1 - 0xE4000) / 16) |>.filter (fun i => decide (i < s.slots) && decide (s.armOf i ≤ 5))

/-- Slots mapped to arm a. -/
def State.mappedTo (s : State) (a : Nat) : List Nat := s.mapped.filter (fun i => decide (s.armOf i = a))

/-- Slots of link l with a cell entry. -/
def State.cellsOn (s : State) (l : Nat) : List Nat :=
  (List.range 24).map (fun k => 24 * l + k) |>.filter (fun i => decide (s.cst i ≠ 0))

/-- Cells enrolled on link l (R201): in a module of a pair without the awn, those whose identity also matches. -/
def State.enrolledOn (s : State) (l : Nat) : List Nat :=
  (s.cellsOn l).filter (fun i => s.awn || !(s.rb .redCtrl 0) || (s.link l).idMatch.testBit (slotOf i))

/-- READY or ACTIVE, not stale (R103). -/
def State.usable (s : State) (i : Nat) : Bool :=
  (decide (s.cst i = 3) || decide (s.cst i = 4)) && !(s.cell i).tel.excl && !(s.tableUe i)

/-- Usable cells of arm a. -/
def State.usableOf (s : State) (a : Nat) : List Nat := (s.slotsOf a).filter s.usable

/-- Available cells of arm a: usable and RESTING (R103). -/
def State.availOf (s : State) (a : Nat) : List Nat :=
  (s.slotsOf a).filter (fun i => s.usable i || decide (s.cst i = 5))

/-- N_MIN of R103; without a cell base it is 0. -/
def State.nMin (s : State) : Int :=
  if s.rg .lenBase 4 = 0 then 0 else -(((s.rnum .lenBase 3).div (s.rnum .lenBase 4)).neg.floor)

/-- Arm a is short of margin (R104). -/
def State.isShort (s : State) (a : Nat) : Bool := decide (((s.availOf a).length : Int) < s.nMin)

/-- FB cell (R213). -/
def State.isFb (s : State) (i : Nat) : Bool := s.rb .celCfg 13 i
/-- BS cell (R125). -/
def State.isBs (s : State) (i : Nat) : Bool := s.rb .celCfg 14 i

/-- A reported voltage in kV. -/
def kvOf (v : Nat) : Num := Num.ofRatio (v : Int) 20000

/-! ### Transactions (R197) -/

/-- Put a request on a link's waiting list. -/
def pushTxn (l op slot prep addr : Nat) (data : List Byte) (len : Nat) (org : Origin) (s : State) : State :=
  let k := s.link l
  s.setLink l { k with waiting := k.waiting ++ [⟨0, op, slot, prep, BitVec.ofNat 32 addr, data, len, org, 0⟩] }

/-- Whether a request downloads profiles, maps or a group (R158). -/
def Txn.isDownload (x : Txn) : Bool :=
  match x.org with
  | .group _ | .profiles _ | .maps _ => true
  | _ => false

/-- A download is pending (FSC_STAT.GDP_BUSY). -/
def State.gdpBusy (s : State) : Bool :=
  s.lnk.any (fun p => p.2.waiting.any Txn.isDownload || p.2.flight.any Txn.isDownload)

/-- Address of slot k's block in the CGT (R199). -/
def cgtAddr (k off : Nat) : Nat := 0x1000 + 0x100 * k + off

/-- Read a cell's identity and class (R201). -/
def readCell (l k : Nat) (s : State) : State := pushTxn l 1 k 0 (cgtAddr k 0) [] 12 (.cellId k) s

/-- The three configuration writes of R201 and R158. -/
def sendGroup (i : Nat) (s : State) : State :=
  pushTxn (linkOf i) 2 (slotOf i) 0 (cgtAddr (slotOf i) 0xC0) (leBytes 4 (s.rf .celCfg 15 2 i)) 4 (.group (slotOf i)) s

def profileBytes (s : State) : List Byte := (List.range 16).flatMap (fun p => leBytes 4 (s.rg .fscGdp p).toNat)
def mapBytes (s : State) : List Byte := (List.range 16).flatMap (fun p => leBytes 2 (s.rg .fscGdmap p).toNat)

def sendProfiles (i : Nat) (s : State) : State :=
  pushTxn (linkOf i) 2 (slotOf i) 0 (cgtAddr (slotOf i) 0x40) (profileBytes s) 64 (.profiles (slotOf i)) s

def sendMaps (i : Nat) (s : State) : State :=
  pushTxn (linkOf i) 2 (slotOf i) 0 (cgtAddr (slotOf i) 0x80) (mapBytes s) 32 (.maps (slotOf i)) s

/-- All 16 profiles and all 16 set maps go to a cell (R158). -/
def downloadGates (i : Nat) (s : State) : State := sendMaps i (sendProfiles i s)

/-- Cells that downloads go to: enrolled, on an UP link, on the module that holds the awn. -/
def State.enrolled (s : State) : List Nat :=
  ((s.cells.map (fun p => p.1)).filter (fun i =>
    decide (1 ≤ s.cst i) && decide (s.cst i ≤ 7) && s.linkUp (linkOf i))).filter (fun _ => s.awn || !(s.rb .redCtrl 0))

/-- Download to every enrolled cell (R158). -/
def downloadAll (f : Nat → State → State) (s : State) : State := s.enrolled.foldl (fun s i => f i s) s

/-- Take the next slot present on a link (R201), from `fuel` slots before the end. -/
def nextEnrol (l : Nat) : Nat → State → State
  | 0, s => s
  | fuel + 1, s =>
    let k := s.link l
    if 24 ≤ k.enrolNext then s
    else
      let s := s.setLink l { k with enrolNext := k.enrolNext + 1 }
      if k.present.testBit k.enrolNext then readCell l k.enrolNext s else nextEnrol l fuel s

/-- Enrolment of a link begins. -/
def startEnrol (l : Nat) (s : State) : State :=
  nextEnrol l 25 (s.setLink l { s.link l with enrolNext := 0 })

/-- Enrolment of one slot, when its link is UP and reports the cell (R201, R214, R229). -/
def enrolSlot (i : Nat) (s : State) : State :=
  let l := linkOf i
  if s.linkUp l && (s.link l).present.testBit (slotOf i) then readCell l (slotOf i) s else s

/-! ### Stages (R200, R205) -/

/-- Put a link's stage with its bits in LNK_UPk and LNK_QUARk. -/
def setStage (l n : Nat) (s : State) : State :=
  let s := s.setLink l { s.link l with stage := n }
  (s.rsb .lnkUp (l % 32) (decide (n = 2)) (l / 32)).rsb .lnkQuar (l % 32) (decide (n = 3)) (l / 32)

/-- A request of a host or of a sheaf, which outlives a state of its link. -/
def Txn.outlives (x : Txn) : Bool :=
  match x.org with
  | .host _ | .prepare _ => true
  | _ => false

/-- A link leaves UP or restarts: its own enrolment requests are forgotten; each request in flight keeps its TID until its
response arrives or its timeout expires (R197). -/
def dropTxns (l : Nat) (s : State) : State :=
  let k := s.link l
  s.setLink l { k with waiting := k.waiting.filter Txn.outlives,
                       flight := k.flight.map (fun x => if x.outlives then x else { x with org := .gone }) }

/-- A link leaves UP or starts again: its cells go ABSENT but for those in FAULTED, BYPASSED and QUARANTINED (R216), its
session key ends (R202), its requests are dropped. -/
def leaveUp (l : Nat) (s : State) : State :=
  let s := (s.cellsOn l).foldl (fun s i => if inService (s.cst i) ∧ s.awn ∨ inService (s.cst i) ∧ !(s.rb .redCtrl 0) then
    moveCell i 0 s else s) s
  let s := dropTxns l s
  s.setLink l { s.link l with key := none, rtts := [], outl := [], apply := [], cancel := [], watch := none, idMatch := 0 }

/-- A link enters TRAIN: both ports' uplink sequences are forgotten (R203) and its identity is read (R200). -/
def enterTrain (l : Nat) (s : State) : State :=
  let s := setStage l 1 (leaveUp l s)
  let k := s.link l
  let s := s.setLink l { k with trainAt := s.now, raisedFail := false, idBad := none, idKnown := false, overflow := false,
                                rxSeq0 := none, rxSeq1 := none, lastUp := 0, chaff := [], late := 0 }
  pushTxn l 1 31 0 0 [] 20 .ident s

/-- Automatic attempts within the last hour (R206). -/
def triesNow (now : Nat) (l : List Nat) : List Nat := l.filter (fun t => decide (now < t + 3600 * 400000000))

/-- Quarantine of a link (R205): its cells from ENROLLED to BYPASSED are quarantined with cause 9. -/
def quarantineLink (l : Nat) (s : State) : State :=
  let run := s.running
  let s := setStage l 3 (dropTxns l s)
  let s := (s.cellsOn l).foldl (fun s i =>
    let c := s.cell i
    if 1 ≤ c.prot.st ∧ c.prot.st ≤ 7 then
      s.setCell i { c with prot := { c.prot with st := 8, cause := 9, qAt := s.now, unconf := false, bypAt := none,
                                                 qLeft := (triesNow s.now c.prot.qTries).length },
                           fire := { c.fire with quar := if run then 3 else 0 } }
    else s) s
  let k := s.link l
  let s := s.setLink l { k with quarAt := s.now, quarLeft := (triesNow s.now k.tries).length, key := none,
                                quarFrames := if run then 3 else 0 }
  s.rsb .lnkEvt 2 true

/-- Quarantine of a cell (R204). -/
def quarantineCell (i : Nat) (s : State) : State :=
  let c := s.cell i
  if s.awn ∧ 1 ≤ c.prot.st ∧ c.prot.st ≤ 7 then
    let s := s.setCell i { c with prot := { c.prot with st := 8, cause := 8, qAt := s.now, unconf := false, bypAt := none,
                                                        qLeft := (triesNow s.now c.prot.qTries).length },
                                  fire := { c.fire with quar := 3 } }
    faultAt 0x0360 .l1 .celState i (s.rsb .lnkEvt 3 true)
  else s

/-- A link goes DOWN (R200): LINK_LOST when it had enrolled mapped cells, quarantine at the third time in 60 s. -/
def linkDown (l : Nat) (s : State) : State :=
  let k := s.link l
  if k.stage = 0 ∨ k.stage = 3 then s
  else
    let had := k.stage = 2 ∧ (s.enrolledOn l).any (fun i => decide (s.armOf i ≤ 5))
    let downs := (k.downs.filter (fun t => decide (s.now < t + 60 * 400000000))) ++ [s.now]
    let third := 3 ≤ downs.length ∧ s.awn
    let s := s.setLink l { k with downs := downs }
    let s := if third then quarantineLink l s else setStage l 0 (leaveUp l s)
    if had ∨ third then faultAt 0x0260 .l1 .lnkLstat l (s.rsb .lnkEvt 0 true) else s

/-- One-way delay d_l of R195 in 1/16 tick. -/
def State.delayOf (s : State) (l : Nat) : Int :=
  let k := s.link l
  if k.rtts.isEmpty then 0
  else divNearest k.rtts.sum (2 * k.rtts.length) + signed 16 (s.rf .lnkAsym 0 16 l) + Config.aPort l

/-- B_j of the newest accepted uplink frame of link l (R179): its start less UOFS, on the 10 µs grid. -/
def State.bOf (s : State) (l : Nat) : Word :=
  let x := s.ticks + shortDiff (s.link l).upSof s.short - (s.rf .lnkCtrl 24 7 * 40 : Nat) + 2000
  wordOf (x - x % 4000)

/-- Authentication adds its tag to R135 (R184). -/
def State.authOn (s : State) (l : Nat) : Bool := (s.link l).key.isSome

/-- Links with a mapped cell. -/
def State.mappedLinks (s : State) : List Nat :=
  let ls := s.mapped.map linkOf
  (List.range 128).filter (fun l => ls.contains l)

/-- A mapped link fails R135, in 1/80 tick. -/
def State.late135 (s : State) (phase : Nat) (l : Nat) : Bool :=
  let fixed : Int := 40 * (((970 + 100 + (if s.authOn l then 2816 else 2688) : Nat) : Int)) * 8 / 10
  decide ((s.rf .fscFwin 0 10 : Int) * 4 * 80 < (phase * 64 : Nat) + fixed + 5 * s.delayOf l)

/-- The check of R135 over every mapped link; each failure while the loop engine runs raises FWIN_LATE. -/
def checkWindow (s : State) : State :=
  let fails := s.mappedLinks.filter (s.late135 (s.rf .lenLaunch 0 12))
  let s := { s with win := { s.win with fwinErr := !fails.isEmpty } }
  let s := s.rsf .fscFwin 16 7 (fails.headD 0)
  if !fails.isEmpty ∧ s.running then faultAt 0x0250 .l2 .lnkLstat (fails.headD 0) s else s

/-! ### Commands on cells (R229) -/

/-- Whether a cell command is accepted. -/
def cellCmdCheck (s : State) (i cmd : Nat) : Check :=
  if ¬ (1 ≤ cmd ∧ cmd ≤ 3) then bad
  else if s.slots ≤ i then some ⟨.unitAbsent, true⟩
  else if ¬ s.awn then some ⟨.notAwnHolder, false⟩
  else match cmd with
    | 1 => refuse (!(inService (s.cst i))) badState
    | 2 => refuse (decide (s.cst i ≠ 7) || (s.cell i).tel.status.testBit 6 || s.running) badState
    | _ => refuse (decide (s.cst i ≠ 8) || decide ((s.link (linkOf i)).stage = 3)) badState

/-- Start of the firm window of the first frame built after now (R133, R220), in ticks of S: a frame is built from its
launch on. -/
def State.nextWindow (s : State) : Int :=
  let b := s.gridPoint
  let built := decide ((s.len.launch * 4 : Nat) < (s.ticks - b) * 5)
  (if built then b + (s.framePeriod : Int) else b) + (s.rf .fscFwin 0 10 * 4 : Nat)

/-- FAULTED with a cause, bypass commanded (R218, R220): T_CONF runs from the start of the next window (R221). -/
def faultCell (i cause : Nat) (s : State) : State :=
  let at_ := (s.now : Int) + (s.nextWindow - s.ticks)
  s.setProt i { (s.cell i).prot with st := 6, cause := cause, unconf := true, bypAt := some at_.toNat }

/-- Effect of an accepted cell command. -/
def cellCmd (i cmd : Nat) (s : State) : State :=
  let c := s.cell i
  match cmd with
  | 1 => faultCell i 7 s
  | 2 => enrolSlot i (moveCell i 0 s)
  | _ => enrolSlot i (s.setProt i { c.prot with st := 0, qTries := [] })

end Sys2Proof.Machine
end

