-- ==== Sys2Proof/Machine/CelReg.lean ====
section
/-!
DEFINITION. The registers of the cell table (R211-R214, R234), the firing scheduler (R156-R169, R174), the links (R210)
and the computed registers of the winnow units (R132).
-/
namespace Sys2Proof.Machine

/-- How a write reaches a register: directly, as a sheaf entry of TYPE REG or TABLE, or as one of TYPE GDP (R342). -/
inductive How where
  | direct
  | sheaf
  | gdp
deriving DecidableEq, Repr

/-! ### WIN -/

/-- WIN_STAT. -/
def State.winStat (s : State) : Word :=
  bitAt 0 s.win.ready ||| fld 1 s.win.stage ||| bitAt 3 s.win.episode
    ||| (List.range 6).foldl (fun w a => w ||| bitAt (4 + a) (s.isShort a)) 0

/-- WIN_ARMSTATa; a blocked arm has no cell inserted. -/
def State.armStat (s : State) (a : Nat) : Word :=
  let x := s.arm a
  let ins := if x.deblocked && !x.oc then x.sel.length else 0
  fld 0 (min 1023 (s.usableOf a).length) ||| fld 10 (min 1023 ins)
    ||| fld 20 (min 63 ((s.slotsOf a).filter (fun i => decide (s.cst i = 5))).length) ||| bitAt 26 (decide (0 < x.dir))
    ||| bitAt 27 (decide (x.duty.m < 0))

/-- Computed registers of the block. -/
def winRead (s : State) (r : Reg) : Option Word :=
  match r.name with
  | .winStat => some s.winStat
  | .winArmstat => some (s.armStat r.i)
  | _ => none

/-! ### CEL -/

/-- CEL_STATi; an uncorrectable entry reads FAULTED (R427). -/
def State.celWord (s : State) (i : Nat) : Word :=
  let c := s.cell i
  fld 0 (if s.tableUe i then 6 else s.cst i) ||| fld 4 c.prot.cause ||| fld 8 (min 255 c.prot.des) ||| bitAt 16 c.tel.excl
    ||| bitAt 17 c.prot.unconf

/-- A link carries cells of more than one arm (R231). -/
def State.mixed (s : State) : Bool :=
  let ms := s.mapped
  ms.any (fun i => ms.any (fun j => decide (linkOf i = linkOf j) && decide (s.armOf i ≠ s.armOf j)))

/-- Computed registers of the block. -/
def celRead (s : State) (r : Reg) : Option Word :=
  match r.name with
  | .celStat => some ((List.range 6).foldl (fun w a => w ||| bitAt a (s.arm a).oc) 0 ||| bitAt 6 s.mixed)
  | .celArmcnt =>
    let ms := s.mappedTo r.i
    some (fld 0 (min 1023 ms.length) ||| fld 10 (min 1023 (ms.filter (fun i => decide (6 ≤ s.cst i))).length))
  | .celState => some (s.celWord r.i)
  | _ => none

/-- Module states in which the mapping may be written (R17). -/
def State.mapOk (s : State) : Bool :=
  match s.mode with
  | .init | .standbyCold | .armed | .service | .factoryTest => true
  | _ => false

/-- Another slot of `w` stands at the arm and position of `v` (R15). -/
def mapClash (w : State) (i : Nat) (v : Word) : Bool :=
  decide (field v 0 3 ≤ 5) && w.mapped.any (fun j =>
    decide (j ≠ i) && decide (w.armOf j = field v 0 3) && decide (w.rf .celCfg 4 9 j = field v 4 9))

/-- Rules for a write (R15, R17, R214, R229, R234). -/
def celCheck (s w : State) (how : How) (r : Reg) (v : Word) : Check :=
  match r.name with
  | .celCtrl => refuse (outside v 0 8 10 30 || outside v 8 8 1 100) bad
  | .celOccfg => refuse (outside v 8 8 5 100 || outside v 16 8 50 95) bad
  | .celOcth => refuse (b32Bad v || !(decide (b32Flush v &&& 0x7FFFFFFF = 0) || b32In v (b32Of 100 1) (b32Of 20000 1))) bad
  | .celCmd => cellCmdCheck s (field v 0 12) (field v 12 4)
  | .celIdl | .celIdh => refuse (!s.mapOk) badState
  | .celCfg =>
    let same : Bool := decide ((v ^^^ s.rg .celCfg r.i) &&& 0x7FF7 = 0)
    match how with
    | .gdp => none
    | .sheaf => firstOf [refuse (decide (field v 0 3 = 6) || mapClash w r.i v) bad, refuse (!s.mapOk) badState]
    | .direct => firstOf [refuse (decide (field v 0 3 = 6) || mapClash w r.i v) bad,
        refuse (s.running || (!s.mapOk && !same)) badState]
  | _ => none

/-- Effects of a write. -/
def celWrite (r : Reg) (v : Word) (s : State) : State :=
  match r.name with
  | .celCmd => cellCmd (field v 0 12) (field v 12 4) s
  | .celOcth => storeReg r (b32Flush v) s
  | .celIdl | .celIdh | .celCfg =>
    let old := s.rg r.name r.i
    let s := storeReg r v s
    let new := s.rg r.name r.i
    let ident : Bool := if r.name = .celCfg then decide ((old ^^^ new) &&& 0x6000 ≠ 0) else decide (old ≠ new)
    let s := if ident ∧ s.cst r.i ≠ 0 then enrolSlot r.i (moveCell r.i 0 s) else s
    let grp : Bool := decide (r.name = .celCfg) && decide ((old ^^^ new) &&& 0x18000 ≠ 0)
    let s := s.when (grp && s.enrolled.contains r.i) (sendGroup r.i)
    s.when (decide (r.name = .celCfg) && decide ((old ^^^ new) &&& 7 ≠ 0)) checkWindow
  | _ => storeReg r v s

/-! ### Carriers (R164-R169) -/

/-- A target of a period and duty: an arm's PWM carrier, an arm's FIXED carrier, a cell's own FIXED carrier. -/
inductive Target where
  | pwm (a : Nat)
  | fixed (a : Nat)
  | own (i : Nat)
deriving DecidableEq, Repr

/-- The carrier of a target. -/
def State.car (s : State) : Target → Carrier
  | .pwm a => (s.arm a).pwmCar
  | .fixed a => (s.arm a).fixCar
  | .own i => (s.cell i).fire.own

/-- Put the carrier of a target. -/
def State.setCar (s : State) (x : Target) (c : Carrier) : State :=
  match x with
  | .pwm a => s.setArm a { s.arm a with pwmCar := c }
  | .fixed a => s.setArm a { s.arm a with fixCar := c }
  | .own i => s.setFire i { (s.cell i).fire with own := c }

/-- N in force: a cell's own carrier runs under its arm's N. -/
def State.carN (s : State) : Target → Nat
  | .own i => (s.arm (s.armOf i)).fixCar.n
  | x => (s.car x).n

/-- The next load boundary, in ticks of S: the carrier's origin, then every Nth carrier boundary (R164, R169). -/
def State.nextLoad (s : State) (x : Target) : Option Int :=
  let c := s.car x
  c.origin.map (fun o => if c.started then c.last + ((s.carN x * c.period : Nat) : Int) else o)

/-- Shadow period, N and on-time of a target, and its USE bit. -/
def State.shadow (s : State) : Target → Nat × Nat × Nat × Bool
  | .pwm a => (s.rf .fscPwmcfg 0 19 a, s.rf .fscPwmcfg 24 8 a + 1, 0, false)
  | .fixed a => (s.rf .fscFxcfg 0 19 a, s.rf .fscFxcfg 24 8 a + 1, s.rf .fscFxon 0 19 a, false)
  | .own i => (s.rf .fscFxcell 0 19 i 0, 1, s.rf .fscFxcell 0 19 i 1, s.rb .fscFxcell 31 i 0)

/-- The load at a boundary `b` (R165, R167, R168). -/
def loadCarrier (x : Target) (b : Int) (s : State) : State :=
  let c := s.car x
  let (p, n, on, use) := s.shadow x
  let newP : Bool := c.wroteP && decide (p ≠ c.period)
  let on' := min p (if c.wroteOn then on else c.on)
  let s := s.setCar x { c with started := true, last := b, period := p, n := n, on := on', use := use, wroteP := false, wroteOn := false }
  match x with
  | .pwm a =>
    let m := s.arm a
    (s.setArm a { m with duty := m.dutyProp, pwm := m.pwmProp }).rs .fscPwmact (BitVec.ofNat 32 p) a
  | .fixed a => if newP && !c.wroteOn then faultAt 0x0550 .l0 .fscFxcfg a (s.rsb .fscStat 1 true) else s
  | .own i => if newP && !c.wroteOn then faultAt 0x0550 .l0 .fscFxcell i (s.rsb .fscStat 1 true) else s

/-- A carrier starts at C, where all shadow values load as they stand then (R164, R169). -/
def startCarrier (x : Target) (c0 : Int) (s : State) : State :=
  s.setCar x { s.car x with origin := some c0, started := false, last := c0, wroteP := false, wroteOn := true }

/-- A load boundary that has come is taken. -/
def takeLoad (x : Target) (s : State) : State :=
  match s.nextLoad x with
  | some b => if b ≤ s.ticks then loadCarrier x b s else s
  | none => s

/-- A shadow write that completes in the clock of a load boundary counts for the following one (R166). -/
def lateWrite (x : Target) (fieldNo : Nat) (s : State) : State :=
  let now := s.ticks
  let s := takeLoad x s
  let c := s.car x
  if c.origin.isSome ∧ c.last = now then
    let w := match x with
      | .pwm a | .fixed a => fld 0 a
      | .own i => fld 0 i ||| bitAt 12 true
    (s.rs .fscLateinfo (w ||| fld 13 fieldNo)).rsb .fscStat 0 true
  else s

/-! ### FSC -/

/-- Dead time in force for a cell, in ticks, and whether R155 sets it to 6.0 µs: `tel.dead` holds F in 2^-24 of 10 ns. -/
def State.deadTime (s : State) (i : Nat) : Nat × Bool :=
  let x := (s.cell i).tel
  match x.dead with
  | none => (2400, true)
  | some f =>
    if x.stale ≠ 0 then (2400, true)
    else
      let d := min (600 * 2 ^ 24) (max (30 * 2 ^ 24) (f + s.rf .fscDtcfg 0 6 * 2 ^ 24))
      ((d * 4 + 2 ^ 24 - 1) / 2 ^ 24, false)

/-- Computed registers of the block. -/
def fscRead (s : State) (r : Reg) : Option Word :=
  match r.name with
  | .fscStat => some (s.rg .fscStat ||| bitAt 3 s.win.fwinErr ||| bitAt 4 s.gdpBusy ||| bitAt 5 s.len.bur.on)
  | .fscDt => some (fld 0 (s.deadTime r.i).1 ||| bitAt 12 (s.deadTime r.i).2)
  | _ => none

/-- SERVICE or FACTORY_TEST. -/
def State.bench (s : State) : Bool := decide (s.mode = .service) || decide (s.mode = .factoryTest)

/-- Rules for a write (R156, R159-R161, R167, R174). -/
def fscCheck (s w : State) (how : How) (r : Reg) (v : Word) : Check :=
  let period := refuse (outside v 0 19 20000 400000) bad
  match r.name with
  | .fscFwin => firstOf [refuse (outside v 0 10 800 990) bad, refuse s.running badState]
  | .fscDtcfg => refuse (outside v 0 6 10 50 || outside v 16 7 5 100) bad
  | .fscGlbovr => refuse (decide (s.mode ≠ .service)) badState
  | .fscPwmcfg | .fscFxcfg => period
  | .fscFxon => refuse (decide (400000 < field v 0 19) || decide (w.rf .fscFxcfg 0 19 r.i < field v 0 19)) bad
  | .fscGdp => firstOf [refuse (decide (field v 12 4 = 15)) bad,
      refuse (decide (how = .direct) && (s.running || decide (s.rf .winFixen 0 6 ≠ 0))) badState]
  | .fscGdmap => refuse (decide (how = .direct) && (s.running || decide (s.rf .winFixen 0 6 ≠ 0))) badState
  | .fscOvr => firstOf [refuse (decide (field v 0 2 ≠ 0) && !(w.isFb r.i)) bad,
      refuse (decide (how = .direct) && !s.bench) badState]
  | .fscFxcell =>
    if r.j = 0 then period
    else refuse (decide (400000 < field v 0 19) || decide (w.rf .fscFxcell 0 19 r.i 0 < field v 0 19)) bad
  | _ => none

/-- Override wanted for a cell (R160). -/
def State.ovrWanted (s : State) (i : Nat) : Nat :=
  if s.isFb i then Nat.xor (s.rf .fscOvr 0 2 i) (s.rf .fscGlbovr 0 2) else 0

/-- A cell's override was written (R163); `fire.ovr` holds the bits in force (R162). -/
def ovrWritten (i old m : Nat) (s : State) : State :=
  let new := s.rf .fscOvr 0 2 i
  if old = new then s else logOverride i old new m s

/-- Effects of a write. -/
def fscWrite (m : Nat) (r : Reg) (v : Word) (s : State) : State :=
  let shadow (x : Target) (f : Nat) (p : Bool) : State :=
    let s := storeReg r v (lateWrite x f s)
    let c := s.car x
    s.setCar x (if p then { c with wroteP := true } else { c with wroteOn := true })
  match r.name with
  | .fscFwin => checkWindow (storeReg r v s)
  | .fscGlbovr => setGlobal (field v 0 2) m s
  | .fscCntclr => (s.when (bit v 0) (fun s => s.rs .fscQlimcnt 0)).when (bit v 1) (fun s => s.rs .fscRejcnt 0)
  | .fscPwmcfg => shadow (.pwm r.i) 0 true
  | .fscFxcfg => shadow (.fixed r.i) 1 true
  | .fscFxon => shadow (.fixed r.i) 2 false
  | .fscFxcell =>
    let use : Bool := decide (r.j = 0) && decide (bit v 31 ≠ s.rb .fscFxcell 31 r.i 0)
    shadow (.own r.i) (if use then 3 else if r.j = 0 then 1 else 2) (decide (r.j = 0))
  | .fscGdp =>
    let old := s.rg .fscGdp r.i
    let s := storeReg r v s
    if old = s.rg .fscGdp r.i then s else downloadAll downloadGates s
  | .fscGdmap =>
    let old := s.rg .fscGdmap r.i
    let s := storeReg r v s
    if old = s.rg .fscGdmap r.i then s else downloadAll downloadGates s
  | .fscOvr => ovrWritten r.i (s.rf .fscOvr 0 2 r.i) m (storeReg r v s)
  | _ => storeReg r v s

/-! ### LNK -/

/-- LNK_NEXTl: seconds to the next automatic attempt (R206); its reset word until the link is first quarantined. -/
def State.lnkNext (s : State) (l : Nat) : Word :=
  let k := s.link l
  let max := s.rf .lnkCtrl 16 4
  if k.stage ≠ 3 then (if k.quarAt = 0 then 0 else 0xFFFF)
  else if max ≤ k.quarLeft then 0xFFFF
  else
    let due := k.quarAt + s.rf .lnkCtrl 8 8 * 400000000
    BitVec.ofNat 32 ((due - s.now + 399999999) / 400000000)

/-- LNK_LSTATl. -/
def State.lstat (s : State) (l : Nat) : Word :=
  let k := s.link l
  (s.rg .lnkLstat l &&& 0x00FF000C) ||| fld 0 k.stage ||| bitAt 4 k.awnPort ||| bitAt 5 k.key.isSome
    ||| fld 8 (s.enrolledOn l).length ||| fld 24 (min 15 (triesNow s.now k.tries).length)

/-- Computed registers of the block. -/
def lnkRead (s : State) (r : Reg) : Option Word :=
  match r.name with
  | .lnkLstat => some (s.lstat r.i)
  | .lnkDelay => some (BitVec.ofNat 32 (lowBits 24 (s.delayOf r.i)))
  | .lnkTxn => some ((s.rg .lnkTxn r.i &&& 0xFFFFFFE0) ||| fld 0 (s.link r.i).flight.length)
  | .lnkNext => some (s.lnkNext r.i)
  | _ => none

/-- Rules for a write (R210). -/
def lnkCheck (s : State) (r : Reg) (v : Word) : Check :=
  match r.name with
  | .lnkCtrl => firstOf [refuse (decide (field v 0 8 = 0) || decide (field v 8 8 = 0) || outside v 24 7 5 30) bad,
      refuse (s.running && decide (field v 24 7 ≠ s.rf .lnkCtrl 24 7)) badState]
  | .lnkTxnto => refuse (outside v 0 16 10 1000) bad
  | .lnkMargin => refuse (decide (100 < field v 0 8)) bad
  | .lnkAsym => refuse (decide ((signed 16 (field v 0 16)).natAbs > 2000)) bad
  | .lnkLctrl => refuse (s.linkUp r.i && decide (bit v 1 ≠ s.rb .lnkLctrl 1 r.i)) badState
  | .lnkKey => refuse (s.link r.i).key.isSome badState
  | .lnkBlkcmd => firstOf [refuse (!(bit v 7) && decide (s.links ≤ field v 0 7)) (some ⟨.unitAbsent, true⟩),
      refuse (!s.awn) (some ⟨.notAwnHolder, false⟩)]
  | _ => none

/-- A block order on one link (R189). -/
def blockLink (l : Nat) (s : State) : State := blockLinks (fun k => decide (k = l)) (fun _ => true) s

/-- Quarantined cells of a released or re-enrolled link go ABSENT (R216), and it restarts at TRAIN (R206). -/
def reenrolLink (l : Nat) (s : State) : State :=
  let s := (s.cellsOn l).foldl (fun s i => if s.cst i = 8 ∧ (s.cell i).prot.cause = 9 then moveCell i 0 s else s) s
  enterTrain l s

/-- Effects of a write. -/
def lnkWrite (r : Reg) (v : Word) (s : State) : State :=
  match r.name with
  | .lnkBlkcmd => if bit v 7 then blockAll s else s.when (s.rb .lnkLctrl 0 (field v 0 7)) (blockLink (field v 0 7))
  | .lnkCntclr =>
    let s := s.when (bit v 0) (fun s => ((s.rclear .lnkChaff0 128).rclear .lnkChaff1 128).rclear .lnkChaff2 128)
    s.when (bit v 1) (fun s => (List.range 128).foldl (fun s l => s.rsf .lnkTxn 16 16 0 l) (s.rclear .lnkGap 128))
  | .lnkKey =>
    let k := s.link r.i
    let old := k.keyReg.toNat
    let sh := 2 ^ (32 * r.j)
    let new := old - (old / sh % 2 ^ 32) * sh + v.toNat * sh
    s.setLink r.i { k with keyReg := BitVec.ofNat 128 new }
  | .lnkAsym => checkWindow (storeReg r v s)
  | .lnkLctrl =>
    let l := r.i
    let was := s.rb .lnkLctrl 0 l
    let s := storeReg r v s
    let s := if was ∧ ¬ bit v 0 then ((setStage l 0 (leaveUp l s)).rsb .lnkLstat 2 true l).put (.dark l) else s
    let s := if bit v 2 ∧ (s.link l).stage = 3 then
      reenrolLink l (s.setLink l { s.link l with tries := [], quarLeft := 0 }) else s
    if bit v 3 ∧ bit v 0 ∧ ((s.link l).stage = 1 ∨ (s.link l).stage = 2) then enterTrain l s else s
  | _ => storeReg r v s

end Sys2Proof.Machine
end

