-- ==== Sys2Proof/Machine/PairReg.lean ====
section
/-!
DEFINITION. The registers of the pair (R318, R328, R330, R331, R340) and of the sheaves (R360).
-/
namespace Sys2Proof.Machine

/-- Configuration registers that a pair replicates (R328). -/
def RName.replicated (n : RName) : Bool :=
  let p := n.spec
  decide (0xB0000 ≤ p.off) && decide (p.off < 0xF0000) && decide (p.rw ≠ 0)
    && !(decide (n = .lenInsel) || decide (n = .lenInscl) || decide (n = .lenArmscl))

/-- Whether a register exists on this variant (R3): links, cell slots. -/
def State.hasReg (s : State) (r : Reg) : Bool :=
  let p := r.name.spec
  if p.n = 3072 then decide (r.i < s.slots)
  else if p.n = 128 then decide (r.i < s.links)
  else true

/-- Every replicated address, ascending. -/
def State.replicatedAddrs (s : State) : List Nat :=
  ((List.range 0x10000).map (fun k => 0xB0000 + 4 * k)).filter (fun a => match decodeReg a with
    | some r => r.name.replicated && s.hasReg r
    | none => false)

/-- The configuration digest (R330). -/
def State.cfgDigest (s : State) : Word :=
  crc32c (s.replicatedAddrs.flatMap (fun a => leBytes 4 (Tab.get regReset s.regs a).toNat))

/-- The channels of R319 run and are settled. -/
def State.measOk (s : State) : Bool :=
  s.pRuns && decide (2 ≤ s.fil.eng.j) && (List.range 9).all (fun k =>
    !(s.rb .lenInsel 8 k) || (s.nRuns (s.rf .lenInsel 0 5 k) && s.rb .filNsettled (s.rf .lenInsel 0 5 k)))

/-- The last checkpoint was applied in time and is no more than 200 µs old (R331). -/
def State.ckFresh (s : State) : Bool :=
  match s.red.ck with
  | none => false
  | some b => !s.red.ckLate && decide (s.ticks ≤ b.takenAt + 80000)

/-- Conditions of readiness that do not hold: SYNC, FRESH, CFG, MEAS (R331). -/
def State.nrdy (s : State) : Nat :=
  (if s.red.synced then 0 else 1) + (if s.ckFresh then 0 else 2)
    + (if s.red.cfgBad ∨ s.red.ck.isNone then 4 else 0) + (if s.measOk then 0 else 8)

/-- A ready standby (R331). -/
def State.ready (s : State) : Bool :=
  s.rb .redCtrl 0 && decide (s.mode = .standbyCold) && !s.awn && s.red.linkUp && decide (s.nrdy = 0)

/-- RED_STAT. -/
def State.redStat (s : State) : Word :=
  let p := s.red.beat
  fld 0 (if !(s.rb .redCtrl 0) then 0 else if s.awn then 1 else 2) ||| bitAt 2 (s.slotId.testBit 0) ||| bitAt 3 s.red.linkUp
    ||| bitAt 4 s.ready ||| fld 5 s.nrdy ||| bitAt 9 (!s.mapped.isEmpty && s.mappedLinks.all s.linkUp)
    ||| bitAt 10 s.red.resync ||| bitAt 11 s.red.hand.isSome ||| fld 12 ((p.map (fun b => b.st)).getD 0)
    ||| fld 16 ((p.map (fun b => b.sub)).getD 0) ||| bitAt 20 ((p.map (fun b => b.awn)).getD false)

/-- Computed registers of the block. -/
def redRead (s : State) (r : Reg) : Option Word :=
  match r.name with
  | .redStat => some s.redStat
  | .redCkage => some (match s.red.ck with
    | none => 0xFFFF
    | some b => BitVec.ofNat 32 (min 65535 ((s.ticks - b.takenAt).toNat / 400)))
  | .redCfgdig => some s.cfgDigest
  | _ => none

/-- Rules for a write (R318). -/
def redCheck (s : State) (r : Reg) (v : Word) : Check :=
  match r.name with
  | .redCtrl => refuse (decide (bit v 0 ≠ s.rb .redCtrl 0) && !(match s.mode with
      | .init | .standbyCold | .service => true
      | _ => false)) badState
  | _ => none

/-- Effects of a write. -/
def redWrite (r : Reg) (v : Word) (s : State) : State :=
  match r.name with
  | .redCntclr =>
    let s := (s.when (bit v 0) (fun s => s.rs .redCklost 0)).when (bit v 1) (fun s => s.rs .redTakecnt 0)
    s.when (bit v 2) (fun s => s.rsf .redCksize 16 16 0)
  | _ => storeReg r v s

/-! ### SHF -/

/-- Sheaf with handle n, if in use. -/
def State.sheaf (s : State) (n : Nat) : Option Sheaf := (s.shf.use.find? (fun p => decide (p.1 = n))).map (fun p => p.2)

/-- Put a sheaf. -/
def State.setSheaf (s : State) (n : Nat) (x : Sheaf) : State := { s with shf := { s.shf with use := Tab.put s.shf.use n x } }

/-- A sheaf carries GDP entries. -/
def Sheaf.hasGdp (x : Sheaf) : Bool := x.es.any (fun e => decide (e.kind = 5))

/-- PREP_IDs of the sets that CGTs may still hold: of sheaves not yet decided, and those still to be applied or cancelled
(R329, R352). -/
def State.heldPreps (s : State) : List Nat :=
  let live := (s.shf.use.map (fun p => p.2.prep)).filter (fun i => decide (i ≠ 0))
  let sent := s.lnk.flatMap (fun p => (p.2.apply ++ p.2.cancel).filter (fun i => decide (i ≠ 0)))
  (live ++ sent).eraseDups

/-- Computed registers of the block. -/
def shfRead (s : State) (r : Reg) : Option Word :=
  match r.name with
  | .shfStat => some (fld 0 s.shf.use.length ||| fld 4 ((s.shf.use.map (fun p => p.2.es.length)).sum))
  | .shfSstat => some (match s.sheaf r.i with
    | none => 0
    | some x => fld 0 x.state ||| fld 2 x.owner ||| fld 6 x.es.length ||| bitAt 16 x.hasGdp ||| fld 17 x.prep)
  | .shfSage => some (match s.sheaf r.i with
    | none => 0
    | some x => BitVec.ofNat 32 (min 65535 ((s.now - x.opened) / 400000000)))
  | _ => none

/-- Effects of a write. -/
def shfWrite (r : Reg) (v : Word) (s : State) : State :=
  match r.name with
  | .shfCntclr => s.when (bit v 0) (fun s => (s.rs .shfCommitcnt 0).rs .shfAbortcnt 0)
  | _ => storeReg r v s

/-- The address an entry acts on: CEL_CMD for a cell command, none for a bank selection (R341). -/
def SheafEntry.target (e : SheafEntry) : Nat := if e.kind = 4 then 0xE0030 else e.addr

/-- An address that a sheaf in PREPARING or READY holds, other than handle `own` (R351). -/
def State.heldBySheaf (s : State) (own : Option Nat) (addr : Nat) : Bool :=
  s.shf.use.any (fun p => decide (some p.1 ≠ own) && decide (2 ≤ p.2.state) && p.2.es.any (fun e =>
    decide (e.kind ≠ 3) && decide (e.kind ≠ 4) && decide (e.addr = addr)))

/-- A cell that a held cell command names (R351). -/
def State.cellHeld (s : State) (own : Option Nat) (i : Nat) : Bool :=
  s.shf.use.any (fun p => decide (some p.1 ≠ own) && decide (2 ≤ p.2.state) && p.2.es.any (fun e =>
    decide (e.kind = 4) && decide (field e.value 0 12 = i)))

/-- Someone other than sheaf `own` wrote an address: every open sheaf notes it (R350). -/
def noteWritten (own : Option Nat) (addr : Nat) (s : State) : State :=
  { s with shf := { s.shf with use := s.shf.use.map (fun p =>
      if some p.1 = own ∨ p.2.wrote.contains addr then p else (p.1, { p.2 with wrote := p.2.wrote ++ [addr] })) } }

end Sys2Proof.Machine
end

