-- ==== Sys2Proof/Machine/Flt.lean ====
section
/-!
DEFINITION. The fault collector's registers and acknowledgement (R446-R455, R461), fault injection, and the
built-in self-test (R456-R462).
-/
namespace Sys2Proof.Machine

/-! ### Acknowledgement (R451) -/

/-- Acknowledge class c. -/
def ackClass (c : Nat) (s : State) : State :=
  let s := (s.rsb .fltUnack c false).rs .fltFecode 0 c
  let s := (((s.rs .fltFeaddr 0 c).rs .fltFetimel 0 c).rs .fltFetimeh 0 c).rs .fltFecnt 0 c
  { s with flt := { s.flt with hi := Tab.set (fun _ => 0) s.flt.hi c 0 } }

/-- Acknowledge every class of a mask. -/
def ackMask (mask : Nat) (s : State) : State :=
  (List.range 14).foldl (fun s c => s.when (mask.testBit c && decide (c ≠ 0)) (ackClass c)) s

/-- Highest effective level raised in an unacknowledged class (R447). -/
def State.hilvl (s : State) : Nat :=
  (List.range 14).foldl (fun h c => if s.unack c then max h (Tab.get (fun _ => 0) s.flt.hi c) else h) 0

/-! ### Injection (R454, R455) -/

/-- Base level of a fault of the manual that injection raises; none where the code is not defined. -/
def faultBase (s : State) (code : Nat) : Option Level :=
  let f := match code with
    | 0x01D0 | 0x01D1 | 0x01D7 | 0x0266 | 0x0268 | 0x0269 | 0x0376 | 0x0530 | 0x0550 | 0x0582 | 0x0590 | 0x08F0
    | 0x09F0 | 0x0AB7 | 0x0ABB | 0x0BC0 | 0x0BC1 | 0x0BC2 | 0x0BC3 | 0x0DE2 => some Level.l0
    | 0x01D3 | 0x01D6 | 0x01D8 | 0x01D9 | 0x01DA | 0x0260 | 0x0261 | 0x0262 | 0x0263 | 0x0264 | 0x0265 | 0x0267 => some .l1
    | 0x0340 | 0x0350 | 0x0351 | 0x0360 | 0x0370 | 0x0371 | 0x0372 | 0x0373 | 0x0374 => some .l1
    | 0x0440 | 0x0441 | 0x0470 | 0x0520 | 0x0522 | 0x0523 | 0x0524 | 0x0525 | 0x0580 | 0x0591 => some .l1
    | 0x0610 | 0x0611 | 0x0612 | 0x0711 | 0x0712 | 0x0713 | 0x08F1 | 0x08F3 | 0x09F3 => some .l1
    | 0x0AB2 | 0x0AB3 | 0x0AB8 | 0x0CA0 | 0x0CA1 | 0x0CA3 | 0x0CA4 | 0x0DE1 | 0x0DE3 | 0x0DE5 => some .l1
    | 0x01D2 | 0x01D4 | 0x01D5 | 0x0250 | 0x0442 | 0x0531 | 0x08F2 | 0x09F1 | 0x0DE0 => some .l2
    | 0x0375 | 0x0471 | 0x0472 | 0x0521 | 0x0710 | 0x09F2 | 0x0AB0 | 0x0AB4 | 0x0AB5 | 0x0AB9 | 0x0ABA | 0x0CA2
    | 0x0CA5 | 0x0DE4 => some .l3
    | 0x0581 => some (if s.running then .l3 else .l1)
    | 0x0AB1 => some (if (match s.saf.image with
        | some im => decide (leAt im 52 1 = 1)
        | none => false) then .l1 else .l3)
    | 0x0AB6 => some (if (match s.saf.image with
        | some im => decide (leAt im 49 1 = 1)
        | none => false) then .l3 else .l1)
    | _ => none
  if f.isSome ∧ code / 256 = 0x0A ∧ ¬ s.hasSaf then none else f

/-- The event bit that marks the raising of a fault (R418, R442). -/
def faultEvt (code : Nat) (s : State) : State :=
  if code / 256 = 1 then s.rsb .memEvt (code % 256 - 0xD0) true
  else if code / 256 = 10 then s.rsb .safEvt (code % 256 - 0xB0) true
  else s

/-- The cause of the replacement request that a fault raises (R453). -/
def replaceOf : Nat → Option Nat
  | 0x08F0 => some 0
  | 0x0264 => some 1
  | 0x01DA => some 2
  | 0x0DE1 => some 3
  | 0x0AB8 => some 4
  | _ => none

/-- FAULT_INJECT of R455: the fault behaves like any other (R454). A violation keeps to R452 also when injected. -/
def injectFault (code : Nat) (addr : Word) (s : State) : State × Status :=
  match faultBase s code with
  | none => (s, .badParam)
  | some .l0 =>
    let f : FaultArg := { code := code, base := .l0, acc := 5, addr := addr.toNat, inj := true }
    if code = 0x0BC3 then
      (emit 4 0 code (logEntry f .l0 false (!(s.unack 0xB) && !(s.rb .fltFecode 26 0xB)) (s.when
        (!(s.unack 0xB) && !(s.rb .fltFecode 26 0xB)) (capture 0xB f .l0))), .ok)
    else (raise f (faultEvt code s), .ok)
  | some l =>
    let s := raise { code := code, base := l, acc := 5, addr := addr.toNat, inj := true } (faultEvt code s)
    (match replaceOf code with
      | some k => replaceCause k s
      | none => s, .ok)

/-- Toggle one stored bit of a small memory's word. -/
def toggleSmall (addr b : Nat) (s : State) : State :=
  let k := addr / 32
  let p := (addr % 32 / 4, b)
  let x := s.blk k
  setBlk k { x with bad := if x.bad.contains p then x.bad.filter (fun q => decide (q ≠ p)) else x.bad ++ [p] } s

/-- MEM_INJECT of R455: the stored bits a and b are inverted; a refusal of R4 or R8 is logged with the address. -/
def injectMem (addr a : Nat) (b : Option Nat) (s : State) (m : Nat := 13) : State × Status :=
  let bits := a :: b.toList
  if smallOf addr = some 5 ∧ 0xE4000 + 16 * s.slots ≤ addr then (violation 1 addr m .unitAbsent s, .unitAbsent)
  else if (smallOf addr).isSome ∧ addr % 4 = 0 then
    if bits.any (fun k => decide (32 < k)) then (s, .badParam)
    else (bits.foldl (fun s k => toggleSmall addr k s) s, .ok)
  else if bits.any (fun k => decide (71 < k)) then (s, .badParam)
  else match s.window 13 addr 1 with
    | .error d => (s.when d.log (violation 1 addr m d.st), d.st)
    | .ok (dram, off) =>
      let x := s.mark dram (off / 8)
      let e := bits.foldl (fun (e : BitVec 72) k => e ^^^ BitVec.ofNat 72 (2 ^ k)) x.bad
      let bs := s.wordBytes dram (off / 8)
      (setWord dram (off / 8) bs { x with bad := e } s, .ok)

/-- LINK_INJECT of R455; an absent link is logged (R4) with the access that named it. -/
def injectLink (l cause count : Nat) (up : Bool) (s : State) (acc : Nat := 4) (where_ : Nat := 0x0F03) (m : Nat := 13) :
    State × Status :=
  if s.links ≤ l then (violation acc where_ m .unitAbsent s, .unitAbsent)
  else if cause = 0 ∨ 5 < cause ∨ count = 0 ∨ 255 < count then (s, .badParam)
  else ({ s with flt := { s.flt with inj := s.flt.inj ++ [⟨l, cause, count, up⟩] } }, .ok)

/-- The injection held in the registers, started by master m (FLT_INJCTRL.GO). -/
def injectGo (m : Nat) (s : State) : State × Status :=
  let arg := s.rg .fltInjarg
  match s.rf .fltInjctrl 0 3 with
  | 1 => injectFault (field arg 0 16) (s.rg .fltInjaddr) s
  | 2 => injectMem (s.rg .fltInjaddr).toNat (field arg 0 8) (if field arg 8 8 = 255 then none else some (field arg 8 8)) s m
  | 3 => injectLink (field arg 0 8) (field arg 8 8) (field arg 16 8) (decide (field arg 24 8 = 1)) s 1 (regAddr .fltInjctrl) m
  | _ => (s, .badParam)

/-! ### Registers of the block -/

/-- The injection registers. -/
def RName.isInj : RName → Bool
  | .fltInjctrl | .fltInjaddr | .fltInjarg | .fltInjstat => true
  | _ => false

/-- Computed registers of the block. -/
def fltRead (s : State) (r : Reg) : Option Word :=
  if r.name.isInj ∧ s.mode ≠ .factoryTest then some 0
  else match r.name with
    | .fltStat => some (bitAt 0 (decide (s.rg .fltUnack ≠ 0)) ||| fld 1 s.hilvl ||| bitAt 3 (decide (s.rg .fltReplace ≠ 0))
        ||| bitAt 4 (s.rb .fltStat 4) ||| bitAt 5 (decide (s.mode = .factoryTest)) ||| bitAt 6 (!s.flt.inj.isEmpty))
    | .fltInjstat => some (BitVec.ofNat 32 (min 255 ((s.flt.inj.map (fun i => i.count)).sum)))
    | .fltLog => if r.j = 0 then none else
        some ((Tab.get (fun _ => [0, 0, 0]) s.flt.snap r.i).getD (r.j - 1) 0)
    | _ => none

/-- A read of word 0 of FLT_LOGj takes the snapshot that words 1-3 return (R461). -/
def fltSnapshot (r : Reg) (s : State) : State :=
  if r.name = .fltLog ∧ r.j = 0 then
    let w := [s.rg .fltLog r.i 1, s.rg .fltLog r.i 2, s.rg .fltLog r.i 3]
    { s with flt := { s.flt with snap := Tab.set (fun _ => [0, 0, 0]) s.flt.snap r.i w } }
  else s

/-- Rules for a write in the block (R454). -/
def fltCheck (s : State) (r : Reg) (_v : Word) : Check :=
  if r.name.isInj ∧ s.mode ≠ .factoryTest then some ⟨.factoryOnly, false⟩ else none

/-- Effects of a write by master m. -/
def fltWrite (m : Nat) (r : Reg) (v : Word) (s : State) : State × Status :=
  match r.name with
  | .fltAck => (ackMask v.toNat s, .ok)
  | .fltCntclr => (s.when (bit v 0) (fun s => s.rs .fltVioldrop 0), .ok)
  | .fltInjctrl =>
    let s := storeReg r v s
    if bit v 31 then injectGo m s else (s, .ok)
  | _ => (storeReg r v s, .ok)

/-! ### Self-test (R456-R459) -/

/-- Whether BIST unit u is present. -/
def State.bistHas (s : State) (u : Nat) : Bool :=
  decide (u ≤ 5) || (decide (8 ≤ u) && decide (u ≤ 14)) || ((decide (u = 15) || decide (u = 16)) && s.hasDram)
    || (decide (u = 17) && !s.hasDram)

/-- Precondition of unit u (R457). -/
def State.bistPre (s : State) (u : Nat) : Bool :=
  if bistQuiet u then !s.running && decide (s.rg .winFixen = 0)
  else if u = 4 then !(s.rb .filPctrl 0)
  else if u = 5 then decide (s.rg .filNrun = 0)
  else if u = 8 then (s.freeSpare 0).isSome
  else if u = 15 ∨ u = 17 then !(s.rb .recCtrl 0)
  else true

/-- Whether a run over `mask` may start: its status and detail (R457). -/
def bistCheck (mask : Nat) (s : State) : Status × Nat :=
  if s.mode ≠ .init ∧ s.mode ≠ .service then (.state, 0)
  else if s.bst.running then (.busy, 0)
  else if mask = 0 ∨ 2 ^ 18 ≤ mask ∨ mask.testBit 6 ∨ mask.testBit 7 then (.badParam, 0)
  else if (bistUnits mask).any (fun u => !(s.bistHas u)) then (.unitAbsent, 0)
  else match (bistUnits mask).find? (fun u => !(s.bistPre u)) with
    | some u => (.state, u)
    | none => (.ok, 0)

/-- Start a run. -/
def bistStart (mask : Nat) (s : State) : State :=
  { s with bst := ⟨true, mask, s.now, (bistUnits mask).headD 0, false⟩ }

/-- Contents of a tested unit (R456). -/
def bistClear (u : Nat) (s : State) : State :=
  match u with
  | 4 => { s with fil := { s.fil with eng := { PEng.init with last := s.fil.eng.last } } }
  | 5 => { s with fil := { s.fil with ch := Tab.mapv (fun _ => NChan.init) (fun _ c => { NChan.init with last := c.last }) s.fil.ch } }
  | 11 => { s with cells := Tab.mapv (fun _ => Cell.init) (fun _ c => { c with fire := { c.fire with queue := [] } }) s.cells }
  | 15 => (List.range 127).foldl (fun s k => fillWords true 0 131072 (k * 8388608) s) s
  | 17 => { s with rcd := { s.rcd with closed := [] } }
  | _ => s

/-- Withdraw failing spares of a kind (R458). -/
def withdraw (kind : Nat) (items : List Nat) (s : State) : State :=
  { s with mem := { s.mem with gone := s.mem.gone ++ items.map (fun n => (kind, n)) } }

/-- Retire the failing rows or pages that a test found; the number retired. -/
def bistRetire (kind : Nat) : List Nat → State → State × Nat
  | [], s => (s, 0)
  | i :: r, s =>
    let x := retireRequest kind i s
    let s := match x.1.mem.retire with
      | some (k, j) => retireDone k j x.1
      | none => x.1
    let y := bistRetire kind r s
    (y.1, y.2 + (if x.2 = .ok then 1 else 0))

/-- Record the result of unit u (R458). -/
def bistResult (res : List BistRes) (s : State) (u : Nat) : State :=
  let x := (res.find? (fun r => decide (r.unit = u))).getD ⟨u, Config.bistRef u, []⟩
  let logic := decide (u ≤ 5)
  let found := if logic then 0 else min 65535 x.items.length
  let repair := decide (u = 8) || decide (u = 15)
  let s := bistClear u s
  let (s, n) := if repair then bistRetire (if u = 8 then 0 else 1) x.items s else (s, 0)
  let s := s.when (decide (u = 9)) (withdraw 0 x.items)
  let s := s.when (decide (u = 16)) (withdraw 1 x.items)
  let s := ((s.rs .bstSig x.sig u).rs .bstDet (fld 0 found ||| fld 16 (min 65535 n)) u).rsb .bstDone u true
  let s := ((s.rsb .bstPass u false).rsb .bstFail u false).rsb .bstRepair u false
  let same := decide (x.sig = Config.bistRef u)
  if same && decide (found = 0) then s.rsb .bstPass u true
  else if repair && same && decide (n = x.items.length) then fault 0x0DE2 .l0 (s.rsb .bstRepair u true)
  else if u = 9 ∨ u = 16 then replaceCause 3 (fault 0x0DE1 .l1 (s.rsb .bstFail u true))
  else fault 0x0DE0 .l2 (s.rsb .bstFail u true)

/-- A non-redundant unit's latest result is FAIL (R458). -/
def State.bistFailed (s : State) : Bool :=
  (List.range 18).any (fun u => s.rb .bstFail u && decide (u ≠ 9) && decide (u ≠ 16))

/-- Masks of a run's results for its reply (R459). -/
def bistReply (mask : Nat) (s : State) : List Byte :=
  leBytes 4 ((s.rg .bstPass).toNat &&& mask) ++ leBytes 4 ((s.rg .bstFail).toNat &&& mask)
    ++ leBytes 4 ((s.rg .bstRepair).toNat &&& mask)

/-- BIST_COMPLETE (R458): the results of a finished run, or of the units that an aborted run had tested. -/
def execBistComplete (t : Nat) (res : List BistRes) (s : State) : Host.Outcome State Fault Refusal :=
  let s := s.begin t
  .next (
    if s.bst.running then
      if s.now < s.bst.start + bistTicks s.bst.mask then s
      else
        let us := bistUnits s.bst.mask
        let m := s.bst.mask
        let s := { s with bst := { s.bst with running := false, unit := us.getLastD 0, mask := 0 } }
        let s := us.foldl (bistResult res) s
        answerAll (fun w => decide (w = .bist)) .ok 0 (bistReply m s) s
    else if s.bst.aborted ∧ s.bst.mask ≠ 0 then
      let us := bistUnits s.bst.mask
      us.foldl (bistResult res) { s with bst := { s.bst with mask := 0 } }
    else s)

/-- Computed registers of the block. -/
def bstRead (s : State) (r : Reg) : Option Word :=
  match r.name with
  | .bstStat =>
    let u := if s.bst.running then s.bistAt.2 else s.bst.unit
    let ms := min 65535 ((s.now - s.bst.start) / 400000)
    some (bitAt 0 s.bst.running ||| fld 1 u ||| bitAt 6 s.bst.aborted ||| fld 16 (if s.bst.start = 0 then 0 else ms))
  | .bstRef => some (Config.bistRef r.i)
  | _ => none

/-- Effects of a write: BST_RUN starts a run, answered as it starts. -/
def bstWrite (r : Reg) (v : Word) (s : State) : State × Status :=
  match r.name with
  | .bstRun =>
    let c := bistCheck (field v 0 18) s
    if c.1 = .ok then (bistStart (field v 0 18) s, .ok) else (s, c.1)
  | _ => (s, .ok)

end Sys2Proof.Machine
end

