-- ==== Sys2Proof/Machine/Saf.lean ====
section
/-!
DEFINITION. The safety functions (R391-R418, R483, R485): inputs, SF1 and SF2, outputs and dark tests, intertrip,
telegrams, configuration.
-/
namespace Sys2Proof.Machine

/-! ### Configuration image (R412) -/

/-- Field of the image in force; 0 before the first adoption. -/
def State.img (s : State) (off n : Nat) : Nat := leAt (s.saf.image.getD []) off n

/-- Function of input k (0-7) and of output k (0-3). -/
def State.siFunc (s : State) (k : Nat) : Nat := s.img (12 + 4 * k) 1
def State.soFunc (s : State) (k : Nat) : Nat := s.img (44 + k) 1

/-- ICRC of an image: the CRC of R408 with the connection identifier taken as 0. -/
def imageCrc (im : List Byte) : Word := safetyCrc 0 (im.take 124)

/-- Some byte of [lo, hi) is not 0. -/
def anyByte (im : List Byte) (lo hi : Nat) : Bool := (bytesAt im lo (hi - lo)).any (fun b => decide (b ≠ 0))

/-- Byte offsets of the fields that break R412. -/
def imageFaults (im : List Byte) : List Nat :=
  let g := leAt im
  let no (ok : Bool) (off : Nat) : List Nat := if ok then [] else [off]
  let brk := (List.range 8).filter (fun k => decide (g (12 + 4 * k) 1 = 4))
  no (decide (g 0 1 = 1)) 0 ++ no (decide (g 1 1 = 0)) 1 ++ no (decide (1 ≤ g 2 2)) 2
    ++ no (decide (1 ≤ g 4 2) && decide (g 4 2 ≠ g 2 2)) 4 ++ no (decide (g 6 2 = 0)) 6 ++ no (decide (g 8 4 ≠ 0)) 8
    ++ (List.range 8).flatMap (fun k => no (decide (g (12 + 4 * k) 1 ≤ 6)) (12 + 4 * k)
      ++ no (decide (g (13 + 4 * k) 1 = 0)) (13 + 4 * k)
      ++ no (decide (40 ≤ g (14 + 4 * k) 2) && decide (g (14 + 4 * k) 2 ≤ 20000)) (14 + 4 * k))
    ++ no (decide (g 44 1 = 1)) 44
    ++ (List.range 3).flatMap (fun k => no (decide (g (45 + k) 1 ≤ 4)) (45 + k))
    ++ no (decide (2 ≤ g 48 1) && decide (g 48 1 ≤ 20)) 48 ++ no (decide (g 49 1 ≤ 1)) 49
    ++ no (decide (g 50 1 = 0) || (decide (10 ≤ g 50 1) && decide (g 50 1 ≤ 100))) 50 ++ no (decide (g 51 1 ≤ 1)) 51
    ++ no (decide (g 52 1 ≤ 1)) 52 ++ no (decide (g 53 1 = 0)) 53 ++ no (decide (g 54 2 ≤ 3600)) 54
    ++ no (decide (1024 ≤ g 64 2)) 64 ++ no (decide (1024 ≤ g 66 2)) 66 ++ no (!(anyByte im 68 124)) 68
    ++ (match brk with
      | [] => [12]
      | [_] => []
      | _ :: k :: _ => [12 + 4 * k])

/-- First byte offset that breaks R412. -/
def imageFault (im : List Byte) : Option Nat :=
  (imageFaults im).foldl (fun acc o => match acc with
    | none => some o
    | some a => some (min a o)) none

/-- SAF_CONFIG_WRITE (R413): status and detail. -/
def safConfigWrite (im : List Byte) (s : State) : State × Status × Nat :=
  if s.mode = .precharge ∨ s.mode = .run ∨ s.mode = .stopping then (s, .state, 0)
  else if imageCrc im ≠ BitVec.ofNat 32 (leAt im 124 4) then (s, .check, 0)
  else match imageFault im with
    | some o => (s, .badParam, o)
    | none => ({ s with saf := { s.saf with pend := some (im, s.now), confA := false, confB := false } }, .ok, 0)

/-- Input k (0-7). -/
def State.si (s : State) (k : Nat) : InSt := Tab.get (fun _ => InSt.init) s.saf.ins k

/-- Put input k. -/
def setInp (k : Nat) (x : InSt) (s : State) : State :=
  { s with saf := { s.saf with ins := Tab.set (fun _ => InSt.init) s.saf.ins k x } }

/-- Both lanes adopt an image: inputs whose function changes start anew, and the connection starts anew, but a held
trip stays held. -/
def adopt (im : List Byte) (s : State) : State :=
  let old := s.saf.image.getD []
  let s := (List.range 8).foldl (fun s k =>
    if leAt old (12 + 4 * k) 1 = leAt im (12 + 4 * k) 1 then s
    else setInp k { InSt.init with a := (s.si k).a, b := (s.si k).b } s) s
  { s with saf := { s.saf with image := some im, pend := none, confA := false, confB := false, adopted := s.now,
                               wins := [], everRx := false, timedOut := false, episode := false, lastSend := s.now } }

/-- SAF_CONFIG_CONFIRM by lane (0 A, 1 B) (R413, R414). -/
def safConfirm (lane : Nat) (crc : Word) (s : State) : State × Status :=
  match s.saf.pend with
  | none => (s, .state)
  | some (im, _) =>
    let own := if lane = 0 then s.saf.confA else s.saf.confB
    let other := if lane = 0 then s.saf.confB else s.saf.confA
    if own then (s, .state)
    else if crc ≠ imageCrc im then (s, .check)
    else if other then
      if s.saf.sf1 then (adopt im s, .ok) else (s, .state)
    else if lane = 0 then ({ s with saf := { s.saf with confA := true } }, .ok)
    else ({ s with saf := { s.saf with confB := true } }, .ok)

/-! ### SF1 (R403, R404) -/

/-- Raise safety fault 0xB0 + k with its SAF_EVT bit. -/
def safFault (k : Nat) (base : Level) (s : State) : State := fault (0x0AB0 + k) base (s.rsb .safEvt k true)

/-- The same for a fault that a lane cycle detects: raised with those of the same cycle (R450). -/
def safHold (k : Nat) (base : Level) (s : State) : State :=
  holdFault { code := 0x0AB0 + k, base := base } false (s.rsb .safEvt k true)

/-- Highest level unacknowledged in the SAF class. -/
def State.safLevel (s : State) : Nat := if s.unack 10 then Tab.get (fun _ => 0) s.flt.hi 10 else 0

/-- SAF_STAT.RESET_OK (R404); the host request of cause 5 is removed by the release itself. -/
def State.resetOk (s : State) : Bool :=
  decide (s.saf.causes &&& 0x1DF = 0) && (List.range 8).all (fun k => decide ((s.si k).latch = 0))
    && decide (s.safLevel < 3)

/-- Release SF1. -/
def releaseSf1 (s : State) : State := { s with saf := { s.saf with sf1 := false, hostReq := false,
                                                                   causes := s.saf.causes &&& 0x1DF } }

/-- Cause 4 counts as local (R406). -/
def State.trip4 (s : State) : Bool := s.saf.causes.testBit 4 && s.saf.trip4

/-- SAF_CAUSE. -/
def State.causeWord (s : State) : Word := fld 0 s.saf.causes ||| bitAt 9 s.trip4

/-! ### Inputs (R394-R399) -/

/-- One channel's filter over its samples: the state changes after 3 ms of the opposite level, 61 samples of 50 µs in a
row (R396). -/
def filterChan : List Bool → Bool × Nat → Bool × Nat
  | [], x => x
  | b :: r, (st, n) =>
    if b = st then filterChan r (st, 0)
    else if 61 ≤ n + 1 then filterChan r (b, 0)
    else filterChan r (st, n + 1)

/-- Whether one period's 200 samples show a wrong pattern; `own` and `other` are where the off-pulses start (R395). -/
def wrongPattern (l : List Bool) (own other : Nat) : Bool :=
  let low (lo n : Nat) : Bool := ((l.drop lo).take n).all (fun b => !b)
  !(low own 10 && (!(low other 10) || low 0 200))

/-- Active as the functions see it: filtered active, pattern not faulted, supply present. -/
def effA (io : Bool) (x : InSt) : Bool := x.a && !x.patA && !io
def effB (io : Bool) (x : InSt) : Bool := x.b && !x.patB && !io

/-- Input in demand (R396). -/
def InSt.demand (io : Bool) (x : InSt) : Bool := decide (x.latch ≠ 0) || !(effA io x && effB io x)

/-- Judge the patterns of a period that ends now. -/
def judgePattern (k : Nat) (s : State) : State :=
  let x := s.si k
  let wa := wrongPattern x.seenA 0 100
  let wb := wrongPattern x.seenB 100 0
  let badA := if wa then x.badA + 1 else 0
  let badB := if wb then x.badB + 1 else 0
  let newA := decide (badA = 2)
  let newB := decide (badB = 2)
  let y := { x with seenA := [], seenB := [], badA := badA, badB := badB, patA := decide (2 ≤ badA),
                    patB := decide (2 ≤ badB), latch := if newA || newB then 1 else x.latch }
  let s := setInp k y s
  let s := s.when newA (safHold 3 .l1)
  s.when newB (safHold 3 .l1)

/-- Latch and discrepancy of input k in one lane cycle (R397, R398). -/
def judgeInput (k : Nat) (s : State) : State :=
  let x := s.si k
  let a := effA s.saf.ioLost x
  let b := effB s.saf.ioLost x
  let disc := if a = b then 0 else x.disc + 1
  let new := decide (disc = s.img (14 + 4 * k) 2 + 1)
  let latch := if new then 1
    else if x.latch = 1 ∧ a = false ∧ b = false then 2
    else if x.latch = 2 ∧ a = true ∧ b = true then 0
    else x.latch
  let discF := if new then true else x.discF && decide (latch ≠ 0)
  let s := setInp k { x with disc := disc, discF := discF, latch := latch } s
  s.when new (safHold 2 .l1)

/-- The press of a RESET input (R399): its release after 100 ms to 5 s is held for RESET_INPUT. -/
def judgePress (k : Nat) (s : State) : State :=
  let x := s.si k
  if s.siFunc k ≠ 6 then s
  else if !(x.demand s.saf.ioLost) then
    if x.pressed.isSome then s else setInp k { x with pressed := some s.now } s
  else match x.pressed with
    | none => s
    | some p =>
      let d := s.now - p
      setInp k { x with pressed := none, rel := decide (40000000 ≤ d) && decide (d ≤ 2000000000) } s

/-- One lane cycle of input k with its five samples. -/
def cycleInput (io : LaneInputs) (s : State) (k : Nat) : State :=
  let sa := io.chA.map (fun v => v.getLsbD k)
  let sb := io.chB.map (fun v => v.getLsbD k)
  let x := s.si k
  let fa := filterChan sa (x.a, x.cntA)
  let fb := filterChan sb (x.b, x.cntB)
  let x := { x with a := fa.1, cntA := fa.2, b := fb.1, cntB := fb.2 }
  if s.siFunc k = 0 then
    setInp k { x with seenA := [], seenB := [], badA := 0, badB := 0, patA := false, patB := false, disc := 0,
                      discF := false, latch := 0, pressed := none, rel := false } s
  else
    let s := setInp k { x with seenA := x.seenA ++ sa, seenB := x.seenB ++ sb } s
    let s := s.when (decide (s.saf.cycle % 40 = 0)) (judgePattern k)
    judgePress k (judgeInput k s)

/-! ### Lanes (R392) -/

/-- Compare oscillators, cross-link and decisions. -/
def cycleLanes (io : LaneInputs) (s : State) : State :=
  let errs := s.saf.xerrs.filter (fun t => decide (s.now < t + 400000000)) ++ (if io.linkErr then [s.now] else [])
  let xf := if io.linkErr then s.saf.xfails + 1 else 0
  let dg := if io.disagree then s.saf.disagrees + 1 else 0
  let diag := (decide (5000 ≤ io.oscDiff) && decide (io.oscDiff ≤ 20000))
    || (decide (1 ≤ errs.length) && decide (errs.length ≤ 15))
  let wasDiag := s.saf.diag
  let fails := decide (20000 < io.oscDiff) || decide (3 ≤ xf) || decide (3 ≤ dg)
  let ocxo := decide (10000 < io.ocxoDev)
  let newFail := fails && !s.saf.laneFault
  let newOcxo := ocxo && !s.saf.ocxo
  let dead := io.deadHi.toNat + 16 * io.deadLo.toNat
  let s := { s with saf := { s.saf with xerrs := errs, xfails := xf, disagrees := dg, diag := diag, dead := dead,
                                        laneFault := s.saf.laneFault || fails, ocxo := s.saf.ocxo || ocxo,
                                        sf1 := s.saf.sf1 || fails || ocxo } }
  let s := s.when (diag && !wasDiag) (safHold 8 .l1)
  let s := s.when newFail (safHold 9 .l3)
  s.when newOcxo (safHold 10 .l3)

/-! ### Outputs (R400-R402) -/

/-- Output k (0-3). -/
def State.so (s : State) (k : Nat) : OutSt := Tab.get (fun _ => OutSt.init) s.saf.outs k

/-- Put output k, telling a change of its switches. -/
def setSo (k : Nat) (x : OutSt) (s : State) : State :=
  let old := s.so k
  let s := { s with saf := { s.saf with outs := Tab.set (fun _ => OutSt.init) s.saf.outs k x } }
  if old.hi = x.hi ∧ old.lo = x.lo then s else s.put (.safOut (k + 1) x.hi x.lo)

/-- Whether output k is wanted on (R400). -/
def State.soWanted (s : State) (k : Nat) : Bool :=
  !s.saf.ioLost && !(s.so k).faulted && (match s.soFunc k with
    | 1 => !s.saf.sf1
    | 2 => s.saf.accessOn
    | 3 => !s.saf.held
    | 4 => !s.saf.laneFault && decide (s.safLevel < 2)
    | _ => false)

/-- Drive output k: a demand aborts a test of it, a release leaves the switch under test open until its test ends
(R402). -/
def driveSo (s : State) (k : Nat) : State :=
  let x := s.so k
  if x.faulted then s
  else if s.soWanted k then
    let testing := decide (x.test ≠ 0) && decide (s.now < x.testAt + 160000)
    setSo k { x with hi := !(testing && decide (x.test = 1)), lo := !(testing && decide (x.test = 2)), load := !testing,
                     test := if testing then x.test else 0 } s
  else
    setSo k { x with hi := false, lo := false, load := false, abortHi := x.abortHi || decide (x.test = 1 ∧ x.hi = false ∧ x.lo = true),
                     abortLo := x.abortLo || decide (x.test = 2 ∧ x.lo = false ∧ x.hi = true) } s

/-- A switch of output k is taken as stuck closed: the other stays open until reset (R401, R485). -/
def stuckSo (k : Nat) (low : Bool) (s : State) : State :=
  let x := s.so k
  let s := setSo k { x with hi := !low, lo := low, load := false, faulted := true, test := 0 } s
  let s := s.when (decide (s.soFunc k = 1)) (fun s => { s with saf := { s.saf with sf1 := true } })
  safFault 4 (if s.soFunc k = 1 then .l3 else .l1) s

/-! ### Telegrams (R406-R411) -/

/-- SF1 has a local cause (R406). -/
def State.localCause (s : State) : Bool :=
  s.saf.sf1 && (decide (s.saf.causes &&& 0xE7 ≠ 0) || s.trip4)

/-- TRIP as R406 asks for it. -/
def State.tripWanted (s : State) : Bool :=
  s.saf.image.isSome && (s.saf.causes.testBit 2 || (decide (s.img 51 1 = 1) && s.localCause))

/-- Bytes of a telegram (R408). -/
def telegramBytes (s : State) (alive : Nat) : List Byte :=
  let w := wireOf s.st
  let b := leBytes 1 0x11
    ++ leBytes 1 ((if s.saf.tripTx then 1 else 0) + (if s.saf.sf1 then 2 else 0) + (if s.saf.sf2 then 4 else 0))
    ++ leBytes 2 (s.img 2 2) ++ leBytes 2 (s.img 4 2) ++ leBytes 2 alive ++ leBytes 6 w.1 ++ leBytes 4 w.2.1
    ++ leBytes 2 (field s.causeWord 0 16) ++ leBytes 40 0
  b ++ leBytes 4 (safetyCrc (BitVec.ofNat 32 (s.img 8 4)) b).toNat

/-- Send one telegram, a copy on each port. -/
def sendTelegram (s : State) : State :=
  let a := (s.saf.txAlive + 1) % 65536
  let s := { s with saf := { s.saf with txAlive := a } }
  let b := telegramBytes s a
  (s.put (.telegram 0 (BitVec.ofNat 32 (s.img 56 4)) (s.img 64 2) b)).put
    (.telegram 1 (BitVec.ofNat 32 (s.img 60 4)) (s.img 66 2) b)

/-- TRIP follows R406; a change is sent at once. -/
def updateTrip (s : State) : State :=
  let t := s.tripWanted
  if t = s.saf.tripTx then s
  else
    let s := { s with saf := { s.saf with tripTx := t } }
    if s.saf.image.isSome then sendTelegram s else s

/-- Signed 16-bit distance of `a` ahead of `b`. -/
def alive16 (a b : Nat) : Int := signed 16 (a + 65536 - b % 65536)

/-- A copy's bytes are valid on port p (R409), given where it came from. -/
def copyValid (p : Nat) (ip : Word) (udp : Nat) (b : List Byte) (s : State) : Bool :=
  let alive := leAt b 6 2
  let age : Int := s.st - ofWire (leAt b 8 6) (leAt b 14 4) 0
  let lim : Int := ((s.img 50 1 * 400000 * 65536 : Nat) : Int)
  decide (b.length = 64) && decide (ip.toNat = s.img (56 + 4 * p) 4) && decide (udp = s.img (64 + 2 * p) 2)
    && decide (safetyCrc (BitVec.ofNat 32 (s.img 8 4)) (b.take 60) = BitVec.ofNat 32 (leAt b 60 4))
    && decide (leAt b 0 1 = 0x11) && decide (leAt b 1 1 < 8) && !(anyByte b 20 60)
    && decide (leAt b 2 2 = s.img 4 2) && decide (leAt b 4 2 = s.img 2 2)
    && (!s.saf.everRx || decide (0 < alive16 alive s.saf.lastAlive)
      || s.saf.wins.any (fun w => decide (w.alive = alive) && !w.shut))
    && (decide (s.img 50 1 = 0) || !s.tim.isSet || (decide (-lim ≤ age) && decide (age ≤ lim)))

/-- The copy of port p in a window. -/
def Win.copy (w : Win) (p : Nat) : Copy := if p = 0 then w.a else w.b

/-- Put the copy of port p; both copies shut the window. -/
def Win.setCopy (w : Win) (p : Nat) (c : Option (List Byte)) : Win :=
  let w := if p = 0 then { w with a := some c } else { w with b := some c }
  { w with shut := w.shut || (w.a.isSome && w.b.isSome) }

/-- An accepted telegram (R410, R411). -/
def acceptTelegram (b : List Byte) (alive : Nat) (one : Bool) (s : State) : State :=
  let fl := leAt b 1 1
  let trip := decide (fl % 2 = 1)
  let first := one && !s.saf.episode
  let s := { s with saf := { s.saf with lastAlive := alive, everRx := true, lastRx := s.now, timedOut := false,
                                        single := one, episode := one, held := s.saf.held && trip,
                                        heldNew := s.saf.heldNew || (trip && !s.saf.held) } }
  let s := (s.rs .safRxstat (fld 0 alive ||| fld 16 (fl % 8))).rs .safLastrx s.short
  let s := s.when one (fun s => s.rsat .safTgsingle 0 32 1)
  s.when first (safFault 7 .l0)

/-- Close the window at the head of the list. -/
def finishWindow (w : Win) (s : State) : State :=
  let s := s.when w.a.isNone (fun s => s.rsat .safTgerr 16 16 1 0)
  let s := s.when w.b.isNone (fun s => s.rsat .safTgerr 16 16 1 1)
  match w.a, w.b with
  | some (some x), some (some y) =>
    if x = y then acceptTelegram x w.alive false s
    else
      let s := { s with saf := { s.saf with mismatch := true, episode := false, sf1 := true } }
      safFault 5 .l3 s
  | some (some x), _ => acceptTelegram x w.alive true s
  | _, some (some y) => acceptTelegram y w.alive true s
  | _, _ => s

/-- Windows close in ascending ALIVE order: shut ones at the head are judged. -/
def flushWindows : List Win → State → State
  | [], s => { s with saf := { s.saf with wins := [] } }
  | w :: r, s =>
    if w.shut then flushWindows r (finishWindow w { s with saf := { s.saf with wins := r } })
    else { s with saf := { s.saf with wins := w :: r } }

/-- Insert a window in ascending ALIVE order. -/
def insertWindow (w : Win) : List Win → List Win
  | [] => [w]
  | x :: r => if alive16 w.alive x.alive < 0 then w :: x :: r else x :: insertWindow w r

/-- Change the first window that satisfies `p`. -/
def mapFirst {α : Type} (p : α → Bool) (f : α → α) : List α → List α
  | [] => []
  | x :: r => if p x then f x :: r else x :: mapFirst p f r

/-- The oldest window still open, the first in ALIVE order, is shut when a ninth opens. -/
def shutOldest (l : List Win) : List Win :=
  if (l.filter (fun w => !w.shut)).length < 8 then l
  else mapFirst (fun w => !w.shut) (fun w => { w with shut := true }) l

/-- A copy arrives on port p (R409, R410). -/
def takeCopy (p : Nat) (ip : Word) (udp : Nat) (b : List Byte) (s : State) : State :=
  if s.saf.image.isNone then s
  else if copyValid p ip udp b s then
    let alive := leAt b 6 2
    let trip := decide (leAt b 1 1 % 2 = 1)
    let known := s.saf.wins.any (fun w => decide (w.alive = alive))
    let l := if known then
        mapFirst (fun w => decide (w.alive = alive) && !w.shut && (w.copy p).isNone) (fun w => w.setCopy p (some b)) s.saf.wins
      else insertWindow (Win.setCopy ⟨alive, s.now, false, none, none⟩ p (some b)) (shutOldest s.saf.wins)
    let s := { s with saf := { s.saf with heldNew := s.saf.heldNew || (trip && !s.saf.held) } }
    flushWindows l s
  else
    let s := s.rsat .safTgerr 0 16 1 p
    flushWindows (mapFirst (fun w => !w.shut && (w.copy p).isNone) (fun w => w.setCopy p none) s.saf.wins) s

/-! ### The lane cycle -/

/-- Causes of R403 present now. -/
def State.causesNow (s : State) : Nat :=
  let dem (f : Nat) : Bool := (List.range 8).any (fun k => decide (s.siFunc k = f) && (s.si k).demand s.saf.ioLost)
  let b (i : Nat) (x : Bool) : Nat := if x then 2 ^ i else 0
  b 0 (dem 1) + b 1 (dem 2 || dem 3) + b 2 (dem 5) + b 3 (s.saf.held && decide (s.img 52 1 = 0))
    + b 4 (s.saf.modReq || decide (s.mode = .tripped)) + b 5 s.saf.hostReq
    + b 6 (s.saf.mismatch || (s.saf.timedOut && decide (s.img 49 1 = 1)))
    + b 7 (s.saf.laneFault || s.saf.ocxo || s.saf.ioLost
      || (List.range 4).any (fun k => decide (s.soFunc k = 1) && (s.so k).faulted))
    + b 8 s.saf.image.isNone

/-- Evaluate the causes; each cause 0, 1, 2 or 5 that is added raises SAFE_STOP (R403). -/
def judgeCauses (s : State) : State :=
  let new := s.causesNow
  let add := (List.range 9).filter (fun k => new.testBit k && !(s.saf.causes.testBit k))
  let dem (f : Nat) : Bool := (List.range 8).any (fun k => decide (s.siFunc k = f) && (s.si k).demand s.saf.ioLost)
  let brk := (List.range 8).any (fun k => decide (s.siFunc k = 4) && !((s.si k).demand s.saf.ioLost))
  let s := { s with saf := { s.saf with causes := new, sf1 := s.saf.sf1 || decide (new ≠ 0), sf2 := dem 2 || dem 3,
                                        brk := brk, mismatch := false, modReq := decide (s.mode = .tripped) } }
  add.foldl (fun s k => s.when (decide (k = 0) || decide (k = 1) || decide (k = 2) || decide (k = 5)) (safHold 0 .l3)) s

/-- ACCESS keeps SF1 and the breaker confirmed open without a break (R400). -/
def judgeAccess (s : State) : State :=
  if s.saf.sf1 && s.saf.brk then
    { s with saf := { s.saf with accessSince := some (s.saf.accessSince.getD s.now) } }
  else { s with saf := { s.saf with accessSince := none, accessOn := false } }

/-- A received trip is acted on (R407). -/
def holdTrip (s : State) : State :=
  if s.saf.heldNew then
    let s := { s with saf := { s.saf with held := true, heldNew := false, sf1 := s.saf.sf1 || decide (s.img 52 1 = 0) } }
    safHold 1 (if s.img 52 1 = 1 then .l1 else .l3) s
  else s

/-- One cycle of 250 µs. The faults that it detects are of one clock (R450); a new discrepancy of the lanes then asks for
replacement (R453). -/
def laneCycle (io : LaneInputs) (s : State) : State :=
  let was := s.saf.diag
  let s := { s with saf := { s.saf with cycle := s.saf.cycle + 1 } }
  let s := cycleLanes io (holdTrip s)
  let s := (List.range 8).foldl (cycleInput io) s
  let s := raiseHeld (judgeAccess (judgeCauses s))
  let s := s.when (s.saf.diag && !was) (replaceCause 4)
  updateTrip ((List.range 4).foldl driveSo s)

/-! ### Registers (R418) -/

/-- A word with one byte's bits from a test over the inputs. -/
def inputBits (s : State) (lo : Nat) (f : InSt → Bool) : Word :=
  (List.range 8).foldl (fun w k => w ||| bitAt (lo + k) (f (s.si k))) 0

/-- SAF_OUTSTAT. -/
def State.outstat (s : State) : Word :=
  (List.range 4).foldl (fun w k =>
    let x := s.so k
    w ||| bitAt (4 * k) x.hi ||| bitAt (4 * k + 1) x.lo ||| bitAt (4 * k + 2) x.load ||| bitAt (4 * k + 3) x.faulted
      ||| bitAt (16 + 2 * k) x.abortHi ||| bitAt (17 + 2 * k) x.abortLo) 0

/-- SAF_STAT. -/
def State.safStat (s : State) : Word :=
  let ok := decide (0 < s.saf.cycle) && !s.saf.laneFault
  packBits [s.saf.image.isSome, s.saf.sf1, s.saf.sf2, s.saf.tripTx, s.saf.held, s.saf.brk, s.resetOk, s.saf.single,
    s.saf.timedOut, ok, ok, s.saf.pend.isSome, s.saf.confA, s.saf.confB]

/-- SAF_INSTAT. -/
def State.instat (s : State) : Word :=
  inputBits s 0 (fun x => decide (0 < s.saf.cycle) && x.demand s.saf.ioLost) ||| inputBits s 8 (fun x => decide (x.latch ≠ 0))
    ||| inputBits s 16 (effA s.saf.ioLost) ||| inputBits s 24 (effB s.saf.ioLost)

/-- ICRC of the pending image as a lane computes it. -/
def State.pendCrc (s : State) : Word :=
  match s.saf.pend with
  | none => 0
  | some (im, _) => imageCrc im

/-- Computed registers of the block. -/
def safRead (s : State) (r : Reg) : Option Word :=
  match r.name with
  | .safStat => some s.safStat
  | .safCause => some s.causeWord
  | .safInstat => some s.instat
  | .safInflt => some (inputBits s 0 (fun x => x.discF) ||| inputBits s 8 (fun x => x.patA) ||| inputBits s 16 (fun x => x.patB))
  | .safOutstat => some s.outstat
  | .safCfgcrc => some (BitVec.ofNat 32 (s.img 124 4))
  | .safPendcrca | .safPendcrcb => some s.pendCrc
  | .safTxalive => some (fld 0 s.saf.txAlive)
  | .safCfgimg => some (BitVec.ofNat 32 (s.img (4 * r.i) 4))
  | _ => none

/-- Effects of a write. -/
def safWrite (r : Reg) (v : Word) (s : State) : State :=
  match r.name with
  | .safCtrl => if bit v 0 then { s with saf := { s.saf with hostReq := true } } else s
  | .safCntclr => s.when (bit v 0) (fun s => (s.rclear .safTgerr 2).rs .safTgsingle 0)
  | _ => storeReg r v s

/-! ### Events -/

/-- The lanes run: power good and the unit present. -/
def State.lanesRun (s : State) : Bool := s.hasSaf && decide (s.mode ≠ .off)

/-- LANE_CYCLE (R391). -/
def execLaneCycle (t : Nat) (io : LaneInputs) (s : State) : Host.Outcome State Fault Refusal :=
  let s := s.begin t
  .next (if s.lanesRun then laneCycle io s else s)

/-- RESET_INPUT (R399): the release of RESET input n (1-8) acts as SAF_RESET while RESET_OK = 1. -/
def execResetInput (t : Nat) (n : Nat) (s : State) : Host.Outcome State Fault Refusal :=
  let s := s.begin t
  .next (if s.lanesRun && (s.si (n - 1)).rel && decide (1 ≤ n) then
      let s := setInp (n - 1) { s.si (n - 1) with rel := false } s
      if s.resetOk then releaseSf1 s else s
    else s)

/-- The lane cycle within 60 s at which a switch of output k + 1 is tested (R401): 15 s apart, the low side 7.5 s later. -/
def darkSlot (k : Nat) (low : Bool) : Nat := 60000 * k + if low then 30000 else 0

/-- DARK_TEST of a switch of SOn (R401, R402), in its slot of the schedule. -/
def execDarkTest (t : Nat) (n : Nat) (low : Bool) (s : State) : Host.Outcome State Fault Refusal :=
  let s := s.begin t
  let k := n - 1
  let x := s.so k
  .next (if !s.lanesRun || decide (n < 1) || decide (4 < n) || x.faulted || decide (s.saf.cycle % 240000 ≠ darkSlot k low) then s
    else if x.hi && x.lo then
      setSo k { x with hi := low, lo := !low, load := false, test := if low then 2 else 1, testAt := s.now,
                       abortHi := x.abortHi && low, abortLo := x.abortLo && !low } s
    else if s.saf.cycle = 0 ∨ (s.saf.dead.testBit k ∧ s.saf.dead.testBit (4 + k)) then s
    else stuckSo k low s)

/-- DARK_TEST_RESULT: whether the readback fell below 5 V within 300 µs. -/
def execDarkTestResult (t : Nat) (n : Nat) (low fell : Bool) (s : State) : Host.Outcome State Fault Refusal :=
  let s := s.begin t
  let k := n - 1
  let x := s.so k
  .next (if !s.lanesRun || decide (n < 1) || decide (4 < n) || decide (x.test ≠ if low then 2 else 1) then s
    else if !fell then stuckSo k low s
    else if s.soWanted k then setSo k { x with hi := true, lo := true, load := true, test := 0 } s
    else setSo k { x with test := 0 } s)

/-- ACCESS_DELAY (R400, R405). -/
def execAccessDelay (t : Nat) (s : State) : Host.Outcome State Fault Refusal :=
  let s := s.begin t
  .next (match s.saf.accessSince with
    | some a => if s.lanesRun && decide (a + s.img 54 2 * 400000000 ≤ s.now) then
        { s with saf := { s.saf with accessOn := true } }
      else s
    | none => s)

/-- TELEGRAM_SEND (R408): due every SEND_PERIOD. -/
def execTelegramSend (t : Nat) (s : State) : Host.Outcome State Fault Refusal :=
  let s := s.begin t
  .next (if s.lanesRun && s.saf.image.isSome && decide (s.saf.lastSend + s.img 48 1 * 400000 ≤ s.now) then
      sendTelegram { s with saf := { s.saf with lastSend := s.now } }
    else s)

/-- TELEGRAM_COPY (R409) on port p (0 A, 1 B). -/
def execTelegramCopy (t : Nat) (p : Nat) (ip : Word) (udp : Nat) (bytes : List Byte) (s : State) :
    Host.Outcome State Fault Refusal :=
  let s := s.begin t
  .next (if s.lanesRun && decide (p < 2) then takeCopy p ip udp bytes s else s)

/-- WINDOW_CLOSE (R410): the window of an ALIVE value ends 20 ms after it opened. -/
def execWindowClose (t : Nat) (alive : Nat) (s : State) : Host.Outcome State Fault Refusal :=
  let s := s.begin t
  .next (flushWindows (s.saf.wins.map (fun w =>
    if w.alive = alive ∧ w.opened + 8000000 ≤ s.now then { w with shut := true } else w)) s)

/-- TELEGRAM_TIMEOUT (R411). -/
def execTelegramTimeout (t : Nat) (s : State) : Host.Outcome State Fault Refusal :=
  let s := s.begin t
  let from_ := max s.saf.adopted (if s.saf.everRx then s.saf.lastRx else 0)
  .next (if s.lanesRun && s.saf.image.isSome && !s.saf.timedOut && decide (from_ + 16000000 ≤ s.now) then
      let sf1 := decide (s.img 49 1 = 1)
      safFault 6 (if sf1 then .l3 else .l1) { s with saf := { s.saf with timedOut := true, sf1 := s.saf.sf1 || sf1 } }
    else s)

/-- CONFIG_TIMEOUT (R413). -/
def execConfigTimeout (t : Nat) (s : State) : Host.Outcome State Fault Refusal :=
  let s := s.begin t
  .next (match s.saf.pend with
    | some (_, w) => if w + 240000000000 ≤ s.now then
        safFault 11 .l0 { s with saf := { s.saf with pend := none, confA := false, confB := false } }
      else s
    | none => s)

/-- IO_SUPPLY_LOSS (R483). -/
def execIoSupplyLoss (t : Nat) (s : State) : Host.Outcome State Fault Refusal :=
  let s := s.begin t
  .next (if s.lanesRun && !s.saf.ioLost then
      let s := { s with saf := { s.saf with ioLost := true, sf1 := true } }
      safFault 9 .l3 ((List.range 4).foldl driveSo s)
    else s)

/-- OUTPUT_CURRENT_LIMIT (R485): both switches of SOn open, and the fault of R401 is raised. -/
def execOutputCurrentLimit (t : Nat) (n : Nat) (s : State) : Host.Outcome State Fault Refusal :=
  let s := s.begin t
  let k := n - 1
  .next (if !s.lanesRun || decide (n < 1) || decide (4 < n) || (s.so k).faulted then s
    else
      let s := setSo k { s.so k with hi := false, lo := false, load := false, faulted := true, test := 0 } s
      let one := decide (s.soFunc k = 1)
      safFault 4 (if one then .l3 else .l1) { s with saf := { s.saf with sf1 := s.saf.sf1 || one } })

/-- OCXO_FAIL (R392). -/
def execOcxoFail (t : Nat) (s : State) : Host.Outcome State Fault Refusal :=
  let s := s.begin t
  .next (if s.lanesRun && !s.saf.ocxo then safFault 10 .l3 { s with saf := { s.saf with ocxo := true, sf1 := true } }
    else s)

end Sys2Proof.Machine
end

