-- ==== Sys2Proof/Machine/Pwr.lean ====
section
/-!
DEFINITION. Power, start-up and thermal limits (R463-R476, R501), and the reset of the module.
-/
namespace Sys2Proof.Machine

/-- Put the power state. -/
def State.setPwr (s : State) (p : PwrSt) : State := { s with pwr := p }

/-! ### Reset of the module -/

/-- The module goes into reset: everything but its supply, its flash and its queue returns to the reset state, the DRAM
loses its contents (R423), the firmware's copy of the retirement table stays in flash (R434), the transmitters go dark and the safety outputs open. -/
def resetModule (s : State) : State :=
  let dark := ((List.range 128).filter (fun l => s.linkUp l)).map Out.dark
  let off := ((List.range 4).filter (fun k => (s.so k).hi || (s.so k).lo)).map (fun k => Out.safOut (k + 1) false false)
  let p := s.pwr
  let z := State.reset
  let kept := if p.boot = 2 ∨ p.boot = 3 then (List.range 64).map (fun e => s.rg .memRet e) else p.retFlash
  { z with
    variant := s.variant, now := s.now, c0 := s.now, fresh := s.fresh, pending := s.pending
    out := s.out ++ dark ++ off ++ [.moduleReset]
    mem := { z.mem with epoch := s.mem.epoch + 1 }
    pwr := { z.pwr with legA := p.legA, legB := p.legB, good := p.good, holdup := p.holdup, storeFull := p.storeFull,
                        prefFlash := p.prefFlash, bistFlash := p.bistFlash, trialPend := p.trialPend, validA := p.validA,
                        validB := p.validB, broken := p.broken, cfgOk := p.cfgOk, cfgFlash := p.cfgFlash, retFlash := kept } }

/-! ### Burst governor (R473, R474) -/

/-- T_b at an inlet temperature in 0.1 °C, in ticks. -/
def burstLimit (inlet : Int) : Nat :=
  if inlet ≤ 450 then 4000000000
  else if inlet ≤ 550 then 4000000000 - 24000000 * (inlet - 450).toNat
  else 0

/-- Seconds until the interval of R473 is met. -/
def State.coolS (s : State) : Nat :=
  match s.pwr.burstEnd with
  | none => 0
  | some e => (e + 24000000000 - s.now + 399999999) / 400000000

/-- The conditions of R473 apart from the request. -/
def State.burstOk (s : State) : Bool :=
  !s.len.bur.on && decide (s.pwr.inlet ≤ 550) && decide (s.pwr.junc < 1000) && decide (s.coolS = 0)

/-! ### Registers (R476) -/

/-- Masters that may write the start-up registers. -/
def mayBoot (m : Nat) : Bool := !(decide (m = 5) || decide (m = 6) || decide (m = 11) || decide (13 ≤ m))

/-- Computed registers of the block. -/
def pwrRead (s : State) (r : Reg) : Option Word :=
  let p := s.pwr
  match r.name with
  | .pwrStat => some (fld 0 p.legA ||| fld 2 p.legB ||| bitAt 4 p.holdup ||| bitAt 5 s.len.bur.on ||| bitAt 6 s.burstOk
      ||| bitAt 7 p.storeFull)
  | .pwrThstat =>
    let ms := match p.burstStart with
      | some b => min 65535 ((s.now - b) / 400000)
      | none => s.rf .pwrThstat 0 16
    some (fld 0 ms ||| fld 16 s.coolS ||| fld 24 (burstLimit p.inlet / 40000000))
  | .pwrFwctrl => some (fld 0 p.prefFlash)
  | .pwrFwstat => some (fld 0 p.runBank ||| bitAt 1 p.trialActive ||| bitAt 2 p.validA ||| bitAt 3 p.validB
      ||| bitAt 4 p.progBusy ||| bitAt 5 p.trialPend ||| fld 16 (s.rf .pwrFwstat 16 16))
  | _ => none

/-- Rules for a write by master m. -/
def pwrCheck (s : State) (m : Nat) (r : Reg) (v : Word) : Check :=
  match r.name with
  | .pwrBootcfg => refuse (!(mayBoot m)) denied
  | .pwrFwsrc => firstOf [refuse (!(mayBoot m)) denied,
      refuse (decide (v.toNat < 0x10000000) || decide (0x11800000 ≤ v.toNat) || decide (field v 0 12 ≠ 0)) bad]
  | .pwrFwlen => firstOf [refuse (!(mayBoot m)) denied, refuse (decide (v.toNat = 0) || decide (16777216 < v.toNat)) bad]
  | .pwrFwctrl => firstOf [
      refuse (!(mayBoot m)) denied,
      refuse s.pwr.progBusy busyNow,
      refuse (bit v 2 && !s.pwr.trialActive) badState,
      (if bit v 3 then firstOf [
        refuse (decide (s.mode = .precharge) || decide (s.mode = .run) || decide (s.mode = .stopping)) badState,
        refuse (decide (s.rg .pwrFwlen = 0)
          || decide (0x11800000 < (s.rg .pwrFwsrc).toNat + (s.rg .pwrFwlen).toNat)) bad]
      else none)]
  | _ => none

/-- The source image of PROG. -/
def State.progImage (s : State) : List Byte :=
  (List.range (s.rg .pwrFwlen).toNat).map (fun k => s.byteOf false ((s.rg .pwrFwsrc).toNat - 0x10000000 + k))

/-- PROG (R471): the source's signature is verified, then the bank that is not running is erased and programmed. -/
def startProg (s : State) : State × Status :=
  if Config.signatureOk s.progImage then
    let p : PwrSt := { s.pwr with progBusy := true, broken := some (1 - s.pwr.runBank) }
    (s.setPwr (if p.runBank = 0 then { p with validB := false } else { p with validA := false }), .ok)
  else (s.rsf .pwrFwstat 16 16 (statusCode .check), .check)

/-- Effects of a write. -/
def pwrWrite (r : Reg) (v : Word) (s : State) : State × Status :=
  match r.name with
  | .pwrBootcfg =>
    let s := storeReg r v s
    (s.setPwr { s.pwr with bistFlash := s.rg .pwrBootcfg }, .ok)
  | .pwrFwctrl =>
    let s := s.setPwr { s.pwr with prefFlash := field v 0 1, trialPend := s.pwr.trialPend || bit v 1 }
    let s := if bit v 2 then s.setPwr { s.pwr with prefFlash := s.pwr.runBank, trialActive := false } else s
    if bit v 3 then startProg s else (s, .ok)
  | _ => (storeReg r v s, .ok)

/-! ### Legs and hold-up (R463-R466, R501) -/

/-- State of a leg. -/
def PwrSt.leg (p : PwrSt) : Leg → Nat
  | .a => p.legA
  | .b => p.legB

/-- Put a leg's state. -/
def PwrSt.setLeg (p : PwrSt) (l : Leg) (v : Nat) : PwrSt :=
  match l with
  | .a => { p with legA := v }
  | .b => { p with legB := v }

/-- The other leg. -/
def otherLeg : Leg → Leg
  | .a => .b
  | .b => .a

/-- The input is lost (R465). -/
def PwrSt.lost (p : PwrSt) : Bool :=
  decide (p.legA ≠ 1) && decide (p.legB ≠ 1) && (decide (p.legA = 0) || decide (p.legB = 0))

/-- Note a leg's voltage in PWR_VIN. -/
def noteVin (l : Leg) (mv : Nat) (s : State) : State :=
  s.rsf .pwrVin (match l with
    | .a => 0
    | .b => 16) 16 (min 65535 (mv / 10))

/-- A leg leaves GOOD or changes between LOST and OVER (R464, R465). -/
def legLeaves (l : Leg) (v mv : Nat) (s : State) : State :=
  let was := s.pwr.leg l
  let wasLost := s.pwr.lost
  let s := noteVin l mv (s.setPwr (s.pwr.setLeg l v))
  if ¬ s.pwr.good then s
  else
    let alone := decide (was = 1) && decide (s.pwr.leg (otherLeg l) = 1)
    let s := s.when (alone && decide (v = 0)) (fun s => replaceCause 0 (fault 0x08F0 .l1 (s.rsb .pwrEvt 0 true)))
    let s := s.when (alone && decide (v = 2)) (fun s => fault 0x08F3 .l1 (s.rsb .pwrEvt 3 true))
    if s.pwr.lost && !wasLost then
      fault 0x08F1 .l2 ((s.setPwr { s.pwr with holdup := true, storeFull := false }).rsb .pwrEvt 1 true)
    else s

/-- LEG_GOOD (R463): power good asserts with the first leg (R468); a hold-up ends (R465). -/
def execLegGood (t : Nat) (leg : Leg) (mv : Nat) (s : State) : Host.Outcome State Fault Refusal :=
  let s := s.begin t
  let s := noteVin leg mv (s.setPwr (s.pwr.setLeg leg 1))
  .next (s.setPwr { s.pwr with good := true, holdup := false })

/-- LEG_LOST (R464). -/
def execLegLost (t : Nat) (leg : Leg) (mv : Nat) (s : State) : Host.Outcome State Fault Refusal :=
  let s := s.begin t
  .next (if s.pwr.leg leg = 0 then s else legLeaves leg 0 mv s)

/-- LEG_OV (R464). -/
def execLegOv (t : Nat) (leg : Leg) (mv : Nat) (s : State) : Host.Outcome State Fault Refusal :=
  let s := s.begin t
  .next (if s.pwr.leg leg = 2 then s else legLeaves leg 2 mv s)

/-- HOLDUP_LOW (R466). -/
def execHoldupLow (t : Nat) (s : State) : Host.Outcome State Fault Refusal :=
  let s := s.begin t
  .next (if s.pwr.holdup ∧ s.mode ≠ .off then fault 0x08F2 .l3 (s.rsb .pwrEvt 2 true) else s)

/-- POWER_GOOD_LOST (R466): the module is OFF. -/
def execPowerGoodLost (t : Nat) (s : State) : Host.Outcome State Fault Refusal :=
  let s := s.begin t
  .next (if s.pwr.legA ≠ 1 ∧ s.pwr.legB ≠ 1 ∧ s.pwr.good then
      resetModule (s.setPwr { s.pwr with good := false, holdup := false, storeFull := false })
    else s)

/-- STORE_FULL (R501). -/
def execStoreFull (t : Nat) (s : State) : Host.Outcome State Fault Refusal :=
  let s := s.begin t
  .next (if s.pwr.legA = 1 ∨ s.pwr.legB = 1 then s.setPwr { s.pwr with storeFull := true } else s)

/-! ### Start-up (R468-R471, R491) -/

/-- RESET_RELEASE (R468, R491): the straps are sampled, the clocks run, the counter C starts, the module is in INIT, and
enabled domains listen (R297). -/
def execResetRelease (t : Nat) (slotId : Nat) (factory : Bool) (s : State) : Host.Outcome State Fault Refusal :=
  let s := s.begin t
  .next (if s.pwr.good ∧ s.mode = .off then
      let s := { s with c0 := s.now, slotId := slotId, factory := factory }
      restartDom 1 (restartDom 0 (setMode .init .gf (s.setPwr { s.pwr with boot := 1 })))
    else s)

/-- HARDWARE_FILL_DONE (R422). -/
def execHardwareFillDone (t : Nat) (s : State) : Host.Outcome State Fault Refusal :=
  let s := s.begin t
  .next (if s.pwr.boot = 1 then
      let m := { s.mem with sram := [], smark := [], small := [] }
      ({ s with mem := m }.setPwr { s.pwr with fillDone := true }).rsb .memStat 0 true
    else s)

/-- Binding word of channel c (R383). -/
def bindingOf (c : Nat) : Word :=
  match c with
  | 24 => 0x107 | 25 => 0x170 | 26 => 0x108 | 27 => 0x180 | 28 => 0x109 | 29 => 0x190 | 30 => 0x10B | 31 => 0x1B0
  | _ => Config.fwBinding c

/-- The entries of one kind, 0 SRAM rows and 1 DRAM pages, in the firmware's copy of the retirement table. -/
def State.retKept (s : State) (kind : Nat) : List (Word × Nat) :=
  s.pwr.retFlash.zipIdx.filter (fun p => p.1.getLsbD 31 && decide (p.1.getLsbD 30 = decide (kind = 1)))

/-- What the firmware loads in INIT (R468 step 5, R310, R383, R421, R434). -/
def loadFirmware (s : State) : State :=
  let s := (List.range 64).foldl (fun s k => s.rs .clkBand (Config.bandRecord k) k) s
  let s := (List.range 32).foldl (fun s c => s.rs .mbxBind (bindingOf c) c) s
  let s := ((s.rs .memHostwin Config.hostWin).rsb .memCtrl 1 true).rs .pwrBootcfg s.pwr.bistFlash
  let s := reenter (s.retKept 1) s
  if s.pwr.cfgOk then
    s.pwr.cfgFlash.foldl (fun s p => { s with regs := Tab.set regReset s.regs p.1 p.2 }) s
  else fault 0x0DE5 .l1 s

/-- The firmware runs: it loads what it keeps in flash and starts the start-up self-test (R468). -/
def startFirmware (s : State) : State :=
  let s := loadFirmware s
  let mask := (s.rg .pwrBootcfg).toNat
  if mask ≠ 0 ∧ (bistCheck mask s).1 = .ok then bistStart mask s else s

/-- BOOT_VERIFIED (R469): which banks' signatures verify, a bank whose programming was interrupted never (R471); the boot ROM has put back the retired SRAM rows (R434), and the firmware
of the chosen bank runs. -/
def execBootVerified (t : Nat) (okA okB : Bool) (s : State) : Host.Outcome State Fault Refusal :=
  let s := s.begin t
  .next (if s.mode ≠ .init ∨ s.pwr.boot ≠ 1 ∨ ¬ s.pwr.fillDone then s
    else
      let s := reenter (s.retKept 0) s
      let p := s.pwr
      let ok (b : Nat) : Bool := (if b = 0 then okA else okB) && decide (p.broken ≠ some b)
      let first := if p.trialPend then 1 - p.prefFlash else p.prefFlash
      let note (b : Nat) (p : PwrSt) : PwrSt := if b = 0 then { p with validA := ok 0 } else { p with validB := ok 1 }
      if ok first then
        let s := s.setPwr { note first p with runBank := first, boot := if p.trialPend then 3 else 2, trialPend := false }
        startFirmware s
      else if ok (1 - first) then
        let s := s.setPwr { note (1 - first) (note first p) with runBank := 1 - first, boot := 2, trialPend := false }
        startFirmware (fault 0x0DE3 .l1 s)
      else
        fault 0x0DE4 .l3 (s.setPwr { note (1 - first) (note first p) with boot := 4, trialPend := false }))

/-- PROGRAMMING_DONE (R471): the bank is read back and verified again. -/
def execProgrammingDone (t : Nat) (ok : Bool) (s : State) : Host.Outcome State Fault Refusal :=
  let s := s.begin t
  .next (if s.pwr.progBusy then
      let p : PwrSt := { s.pwr with progBusy := false, broken := if ok then none else s.pwr.broken }
      let s := s.setPwr (if p.runBank = 0 then { p with validB := ok } else { p with validA := ok })
      s.rsf .pwrFwstat 16 16 (if ok then 0 else statusCode .check)
    else s)

/-! ### Temperatures (R472) -/

/-- Since when a condition has held: unchanged where it held before. -/
def since (ok : Bool) (old : Option Nat) (now : Nat) : Option Nat := if ok then some (old.getD now) else none

/-- A condition has held for 60 s. -/
def heldMinute (o : Option Nat) (now : Nat) : Bool :=
  match o with
  | some a => decide (a + 24000000000 ≤ now)
  | none => false

/-- TEMP_SAMPLE (R472, R476): inlet and junction in 0.1 °C. -/
def execTempSample (t : Nat) (inlet junc : Int) (s : State) : Host.Outcome State Fault Refusal :=
  let s := s.begin t
  .next (if s.mode = .off then s
    else
      let p := s.pwr
      let inOk := decide (-250 ≤ inlet) && decide (inlet ≤ 550)
      let juOk := decide (junc < 1050)
      let inS := since inOk p.inletOkSince s.now
      let juS := since juOk p.juncOkSince s.now
      let inletBad := p.inletBad && !(heldMinute inS s.now)
      let high := p.juncHigh && !(heldMinute juS s.now)
      let trip := p.juncTrip && !(heldMinute juS s.now)
      let nIn := !inOk && !inletBad
      let nHi := decide (1100 ≤ junc) && !high
      let nTr := decide (1250 ≤ junc) && !trip
      let s := s.setPwr { p with inlet := inlet, junc := junc, inletBad := inletBad || nIn, inletOkSince := inS,
                                 juncHigh := high || nHi, juncTrip := trip || nTr, juncOkSince := juS }
      let s := s.rs .pwrTemp (fld 0 (lowBits 16 inlet) ||| fld 16 (lowBits 16 junc))
      let s := { s.rs .pwrLoad (Config.freeWord s.fresh) with fresh := s.fresh + 1 }
      let s := s.when nHi (fun s => fault 0x09F1 .l2 (s.rsb .pwrEvt 6 true))
      let s := s.when nTr (fun s => fault 0x09F2 .l3 (s.rsb .pwrEvt 6 true))
      s.when nIn (fun s => fault 0x09F3 .l1 (s.rsb .pwrEvt 7 true)))

/-- BURST_AVAIL (R473): 60 s at the normal rate have passed since the last burst ended. -/
def execBurstAvail (t : Nat) (s : State) : Host.Outcome State Fault Refusal :=
  let s := s.begin t
  .next (match s.pwr.burstEnd with
    | some e => if e + 24000000000 ≤ s.now then s.setPwr { s.pwr with burstEnd := none } else s
    | none => s)

end Sys2Proof.Machine
end

