-- ==== Sys2Proof/Machine/Rec.lean ====
section
/-!
DEFINITION. The recorder's registers and events (R278-R289).
-/
namespace Sys2Proof.Machine

/-- Source codes of R284. -/
def trgSrcOk (c : Nat) : Bool :=
  decide (c ≤ 0x11) || (decide (0x18 ≤ c) && decide (c ≤ 0x1D)) || (decide (0x20 ≤ c) && decide (c ≤ 0x24)) || decide (c = 0x28)

/-- Bytes of the host ring (R279). -/
def State.hostRing (s : State) : Nat := (s.rg .recHsize).toNat * 1024

/-- Destination of REC_CTRL. -/
def State.recDest (s : State) : Nat := s.rf .recCtrl 1 2

/-- Computed registers of the block. -/
def recRead (s : State) (r : Reg) : Option Word :=
  match r.name with
  | .recStat => some (bitAt 0 s.streaming ||| bitAt 1 s.rcd.loss ||| bitAt 2 (s.rb .recTrgctl 0))
  | .recFill => some (BitVec.ofNat 32 (s.ringUsed / 1024))
  | .recRing => if s.hasDram then none else some 0x20
  | _ => none

/-- Rules for a write in the block (R283, R284, R287, R289). -/
def recCheck (s : State) (r : Reg) (v : Word) : Check :=
  let en := s.streaming
  match r.name with
  | .recCtrl => firstOf [
      refuse (decide (field v 1 2 = 3)) bad,
      refuse (en && decide (field v 1 2 ≠ s.recDest)) badState,
      refuse (bit v 0 && decide (field v 1 2 = 0) && decide (s.rg .recHsize = 0)) badState]
  | .recRing => firstOf [refuse (!s.hasDram || outside v 0 14 64 8128) bad, refuse en badState]
  | .recHbasel => refuse (decide (field v 0 12 ≠ 0)) bad
  | .recHsize => firstOf [
      refuse (decide (v.toNat % 4 ≠ 0) || decide (v.toNat < 64) || decide (1048576 < v.toNat)) bad,
      refuse (en && decide (s.recDest = 0)) badState]
  | .recHrd =>
    let n := max 1 s.hostRing
    let old := (s.rg .recHrd).toNat
    refuse (decide (v.toNat % 4096 ≠ 0) || decide (n ≤ v.toNat)
      || decide (((s.rg .recHwr).toNat + n - old) % n < (v.toNat + n - old) % n)) bad
  | .recUdpdst | .recUdpport => refuse (en && decide (s.recDest ≠ 0)) badState
  | .recTrgout => refuse (decide (field v 16 8 = 0)
      || (List.range 4).any (fun u => bit v (8 + u) && decide (s.rf .recTucfg 0 6 u = 0x24))) bad
  | .recTucfg => firstOf [
      refuse (!(trgSrcOk (field v 0 6)) || decide (field v 6 2 = 3)
        || (decide (field v 0 6 = 0x24) && s.rb .recTrgout (8 + r.i))) bad,
      refuse (s.rb .recTrgctl 0) badState]
  | .recTulevel | .recTuhyst => refuse (s.rb .recTrgctl 0) badState
  | _ => none

/-- Effects of a write in the block. -/
def recWrite (r : Reg) (v : Word) (s : State) : State :=
  match r.name with
  | .recCtrl =>
    let was := s.streaming
    let s := storeReg r v s
    if was && !(bit v 0) then closeUnit s
    else if !was && bit v 0 then { s with rcd := { s.rcd with lastTime := s.now } }
    else s
  | .recTucfg =>
    let s := storeReg r v s
    s.setTrg r.i TrgSt.init
  | .recCntclr =>
    let s := s.when (bit v 0) (fun s => s.rclear .recGaptot 6)
    s.when (bit v 1) (fun s => (s.rs .recMarklost 0).rclear .recTucnt 4)
  | _ => storeReg r v s

/-- PAD records filling `n` bytes (R278), none longer than a datagram carries (R280). -/
def padRecs : Nat → Nat → List (List Byte)
  | 0, _ => []
  | fuel + 1, n =>
    if n = 0 then [] else
      let k := min n 1408
      (recHead 0 0 k 0 0 ++ List.replicate (k - 8) 0) :: padRecs fuel (n - k)

/-- The records of a closed unit, its 4 KiB filled with padding (R278). -/
def fullUnit (recs : List (List Byte)) : List (List Byte) := recs ++ padRecs 4 (4096 - recs.flatten.length)

/-- Stamp of a record. -/
def recStamp (b : List Byte) : Word := BitVec.ofNat 32 (leAt b 4 4)

/-- The GAP record of R277. -/
def gapRec (ue : Bool) (a b : Word) (lost : List Nat) : List Byte :=
  recHead 0x0A 0 40 (if ue then 1 else 0) a ++ leBytes 4 b.toNat ++ leBytes 4 0
    ++ (List.range 6).flatMap (fun g => leBytes 4 (min 0xFFFFFFFF (lost.getD g 0)))

/-- Whole records gathered into payloads of at most 1,408 bytes, each with its offset from the start. -/
def gather : List (List Byte) → Nat → Nat → List Byte → List (Nat × List Byte)
  | [], _, start, acc => if acc.isEmpty then [] else [(start, acc)]
  | r :: rest, pos, start, acc =>
    if acc.isEmpty then gather rest (pos + r.length) pos r
    else if acc.length + r.length ≤ 1408 then gather rest (pos + r.length) start (acc ++ r)
    else (start, acc) :: gather rest (pos + r.length) pos r

/-- One datagram of R280. -/
def dgramBytes (off seq : Nat) (body : List Byte) : List Byte :=
  leBytes 1 1 ++ leBytes 1 0 ++ leBytes 2 body.length ++ leBytes 8 off ++ leBytes 4 seq ++ body

/-- Send the datagrams of a unit. -/
def sendDgrams (port off : Nat) : List (Nat × List Byte) → State → State
  | [], s => s
  | (o, b) :: r, s =>
    let s := s.put (.datagram port (s.rg .recUdpdst) (s.rf .recUdpport 0 16) (s.rf .recUdpport 16 16) (dgramBytes (off + o) s.rcd.dgram b))
    sendDgrams port off r { s with rcd := { s.rcd with dgram := (s.rcd.dgram + 1) % 2 ^ 32 } }

/-- A unit of the stream leaves, to the host ring or as datagrams (R279, R280). -/
def sendUnit (recs : List (List Byte)) (off : Nat) (s : State) : State :=
  if s.recDest = 0 then
    let hwr := (s.rg .recHwr).toNat
    (s.put (.hostWrite (s.rg64 .recHbasel .recHbaseh + hwr) (fullUnit recs).flatten)).rs .recHwr
      (BitVec.ofNat 32 ((hwr + 4096) % (max 1 s.hostRing)))
  else sendDgrams (s.recDest - 1) off (gather (fullUnit recs) 0 0 []) s

/-- The GAP records of discarded units leave, with the last stamp sent before them and the first one after (R282). -/
def sendGaps (next : Word) (s : State) : State :=
  let s := s.rcd.ueOffs.foldl (fun s o =>
    (sendUnit [gapRec true s.rcd.sentTo next (List.replicate 6 0xFFFFFFFF)] o s).rsb .recEvt 0 true) s
  { s with rcd := { s.rcd with ueOffs := [] } }

/-- The host ring has room for `n` units, or datagrams need none (R279). -/
def State.hostRoom (s : State) (n : Nat) : Bool :=
  let size := max 1 s.hostRing
  decide (s.recDest ≠ 0) || (decide (s.hostRing ≠ 0)
    && decide (((s.rg .recHwr).toNat + size - (s.rg .recHrd).toNat) % size + 4096 * n < size))

/-- Copy the oldest closed unit to the host or send it (R279, R280); one whose read meets an uncorrectable word is discarded, and
its GAP record goes out with the next unit that follows (R282). -/
def hostCopy (ue : Bool) (s : State) : State :=
  match s.rcd.closed with
  | [] => if s.streaming ∨ ¬ s.hostRoom s.rcd.ueOffs.length then s else sendGaps s.rcd.sentTo s
  | u :: rest =>
    if ue then
      let s := logUe (if s.hasDram then 2 else 3) 3 false (Config.syndrome 3) none u.off 3 .l1 3 u.off (s.rsb .recEvt 3 true)
      { s with rcd := { s.rcd with closed := rest, ueOffs := s.rcd.ueOffs ++ [u.off] } }
    else if ¬ s.hostRoom (s.rcd.ueOffs.length + 1) then s
    else
      let stamps := u.recs.map recStamp
      let s := sendGaps (stamps.headD s.rcd.sentTo) s
      let s := sendUnit u.recs u.off { s with rcd := { s.rcd with closed := rest } }
      { s with rcd := { s.rcd with sentTo := stamps.getLast?.getD s.rcd.sentTo } }

/-! ### Events -/

/-- UNIT_CLOSE (R278). -/
def execUnitClose (t : Nat) (s : State) : Host.Outcome State Fault Refusal :=
  let s := s.begin t
  .next (match s.rcd.curAt with
    | some a => if s.rcd.curLen = 4096 ∨ a + 400000 ≤ s.now then closeUnit s else s
    | none => s)

/-- HOST_COPY (R279, R280, R282); `ue` says that the unit's read met an uncorrectable word. -/
def execHostCopy (t : Nat) (ue : Bool) (s : State) : Host.Outcome State Fault Refusal :=
  .next (hostCopy ue (s.begin t))

/-- GAP (R281). -/
def execGap (t : Nat) (s : State) : Host.Outcome State Fault Refusal :=
  let s := s.begin t
  let r := s.rcd
  .next (if ¬ r.loss ∨ s.ringBytes - 65536 < s.ringUsed + 4194304 then s
    else
      let s := placeRec (gapRec false r.lostFrom r.lostTo r.lost)
        { s with rcd := { r with loss := false, lost := List.replicate 6 0 } }
      let s := s.rsb .recEvt 0 true
      (List.range 6).foldl (fun s g => s.rsat .recGaptot 0 32 (r.lost.getD g 0) g) s)

/-- TIME_RECORD (R276): a changed content takes effect here (R289). -/
def execTimeRecord (t : Nat) (s : State) : Host.Outcome State Fault Refusal :=
  let s := s.begin t
  .next (if ¬ s.streaming ∨ s.now < s.rcd.lastTime + 400000 then s
    else
      let s := timeRec false { s with rcd := { s.rcd with lastTime := s.now } }
      if s.rcd.live = (s.rf .recCtrl 4 5, s.rf .recNmask 0 18, s.rf .recCellcfg 0 6) then s else contentRec s)

/-- TRIG_IN_EDGE (R284), stamped less the 50 ns filter delay. -/
def execTrigInEdge (t n : Nat) (rising : Bool) (s : State) : Host.Outcome State Fault Refusal :=
  let s := s.begin t
  let okDir (d : Nat) : Bool := decide (d = 2) || decide (d = if rising then 0 else 1)
  .next (if 4 ≤ n then s else fireUnits (edgeMarks (0x20 + n) okDir (s.st - 20 * 65536) 0 s) s)

/-- XTRIG_ASSERT (R284). -/
def execXtrigAssert (t : Nat) (s : State) : Host.Outcome State Fault Refusal :=
  let s := s.begin t
  .next (fireUnits (edgeMarks 0x24 (fun _ => true) (s.st - 20 * 65536) 0 s) s)

/-- HOLD_OFF_END (R283). -/
def execHoldOffEnd (t u : Nat) (s : State) : Host.Outcome State Fault Refusal :=
  let s := s.begin t
  .next (match (s.trg u).hold with
    | some h => if h ≤ s.now then s.setTrg u { s.trg u with hold := none } else s
    | none => s)

/-- PULSE_END (R287). -/
def execPulseEnd (t o : Nat) (s : State) : Host.Outcome State Fault Refusal :=
  let s := s.begin t
  .next (match s.rcd.pulse.getD o none with
    | some e =>
      if e ≤ s.now then
        let s : State := { s with rcd := { s.rcd with pulse := s.rcd.pulse.set o none } }
        if o = 0 ∧ s.flt.tripTo then s else s.put (.trigOut o false)
      else s
    | none => s)

end Sys2Proof.Machine
end

