-- ==== Sys2Proof/Machine/RegAccess.lean ====
section
/-!
DEFINITION. Register accesses by any master: what holds a register (R3, R4, R8), who may reach it (R373), what its unit
answers, what a sheaf or the pair holds back (R328, R351), and the read and the write as one operation each (R9).
-/
namespace Sys2Proof.Machine

/-- Unit number of a register: its block (R6). -/
def Reg.unit (r : Reg) : Nat := r.name.spec.off / 0x10000

/-- Absent on this variant (R3). -/
def State.absentReg (s : State) (r : Reg) : Bool :=
  !(s.hasReg r) || (decide (r.unit = 8) && !s.hasSaf)
    || ((decide (r.name = .bstSig) || decide (r.name = .bstRef) || decide (r.name = .bstDet)) && !(s.bistHas r.i))

/-- The service port may write and command (R373). -/
def State.svcRw (s : State) : Bool := s.bench || s.rb .netCtrl 0

/-- Channel of a mailbox register that belongs to one channel. -/
def Reg.channel (r : Reg) : Option Nat :=
  match r.name with
  | .mbxBind | .mbxCstat | .mbxSend | .mbxAck | .mbxSdata | .mbxRdata => some r.i
  | _ => none

/-- Registers of the programming of firmware (R471). -/
def RName.isFw : RName → Bool
  | .pwrBootcfg | .pwrFwctrl | .pwrFwstat | .pwrFwsrc | .pwrFwlen => true
  | _ => false

/-- Registers that a unit replicates, as master 11 reaches them. -/
def Reg.replicated (r : Reg) : Bool := r.name.replicated

/-- Rights of R373 on registers; without a safety unit there are no masters 5 and 6 (R3). -/
def State.mayAccess (s : State) (m : Nat) (write : Bool) (r : Reg) : Bool :=
  let mail : Bool := decide (r.unit = 2)
  match m with
  | 0 | 1 | 2 | 3 | 4 | 7 | 8 | 9 | 13 => true
  | 5 | 6 => s.hasSaf && (decide (r.unit = 8) || (mail && (match r.channel with
      | some c => decide (s.bindSrc c = m) || decide (s.bindDst c = m)
      | none => decide (r.name ≠ .mbxCtrl))))
  | 10 => !write || s.svcRw
  | 11 => r.replicated || (decide (r.unit = 16) && !write) || (mail && (match r.channel with
      | some c => decide (c = 30) || decide (c = 31)
      | none => decide (r.name ≠ .mbxCtrl)))
  | 12 => decide (s.mode = .init) && ((mail && decide (r.channel.isSome || r.name = .mbxCtrl)) || r.name.isFw || decide (r.name = .memRetire))
  | _ => false

/-- The computed word of a register, or the word it stores; write-only registers read 0. -/
def State.regWord (s : State) (r : Reg) : Word :=
  let x : Option Word := match r.unit with
    | 0 => some s.sysCap
    | 1 => fltRead s r
    | 2 => mbxRead s r
    | 3 => clkRead s r
    | 4 => timRead s r
    | 5 => crcRead s r
    | 6 => memRegRead s r
    | 7 => pwrRead s r
    | 8 => safRead s r
    | 9 => madRead s r
    | 10 => filRead s r
    | 11 => lenRead s r
    | 12 => winRead s r
    | 13 => fscRead s r
    | 14 => celRead s r
    | 15 => lnkRead s r
    | 16 => redRead s r
    | 17 => recRead s r
    | 18 => shfRead s r
    | 19 => bstRead s r
    | _ => netRead s r
  x.getD (s.rg r.name r.i r.j)

/-- Snapshots that reading a register takes (R253, R269, R316, R437, R461). -/
def snapshot (r : Reg) (s : State) : State :=
  match r.unit with
  | 1 => fltSnapshot r s
  | 4 => timSnapshot r s
  | 5 => crcSnapshot r s
  | 9 => madSnapshot r s
  | 10 => filSnapshot r s
  | _ => s

/-- Log a refusal where its rule calls for it (R452). -/
def deny (d : Deny) (acc addr m : Nat) (s : State) : State := s.when d.log (violation acc addr m d.st)

/-- A read of one register by master m: the state, the status, the word. -/
def readReg (m addr : Nat) (s : State) : State × Status × Word :=
  match regAt addr with
  | none => (violation 0 addr m .badParam s, .badParam, 0)
  | some r =>
    if s.absentReg r then (violation 0 addr m .unitAbsent s, .unitAbsent, 0)
    else if ¬ s.mayAccess m false r then (violation 0 addr m .accessDenied s, .accessDenied, 0)
    else match mbxReadCheck s m r with
      | some d => (deny d 0 addr m s, d.st, 0)
      | none =>
        let s := match smallOf addr with
          | some k => touchBlk k (addr / 32) 0 m s
          | none => s
        if (smallOf addr).isSome ∧ (s.blk (addr / 32)).ue ∧ r.name ≠ .celState then (s, .memUe, 0)
        else
          let w := s.regWord r
          (snapshot r s, .ok, w)

/-- The rules of its unit for a write of `v`; `w` is the state that all the values would leave. -/
def writeCheck (s w : State) (how : How) (m : Nat) (r : Reg) (v : Word) : Check :=
  match r.unit with
  | 1 => fltCheck s r v
  | 2 => mbxCheck s m r v
  | 3 => clkCheck s r v
  | 4 => timCheck s r v
  | 5 => crcCheck s m r v
  | 6 => memRegCheck s m r v
  | 7 => pwrCheck s m r v
  | 9 => madCheck s r v
  | 10 => filCheck s r v
  | 11 => lenCheck s w (decide (how = .direct)) r v
  | 12 => winCheck s w r v
  | 13 => fscCheck s w how r v
  | 14 => celCheck s w how r v
  | 15 => lnkCheck s r v
  | 16 => redCheck s r v
  | 17 => recCheck s r v
  | 20 => netCheck s r v
  | _ => none

/-- The effect of an accepted write. -/
def writeEffect (m : Nat) (r : Reg) (v : Word) (s : State) : State × Status :=
  match r.unit with
  | 1 => fltWrite m r v s
  | 2 => (mbxWrite m r v s, .ok)
  | 3 => (clkWrite r v s, .ok)
  | 4 => (timWrite r v s, .ok)
  | 5 => (crcWrite m r v s, .ok)
  | 6 => memRegWrite r v s
  | 7 => pwrWrite r v s
  | 8 => (safWrite r v s, .ok)
  | 9 => (madWrite r v s, .ok)
  | 10 => (filWrite r v s, .ok)
  | 11 =>
    let s := lenWrite r v s
    (s.when (decide (r.name = .lenLaunch)) checkWindow, .ok)
  | 12 => (winWrite r v s, .ok)
  | 13 => (fscWrite m r v s, .ok)
  | 14 => (celWrite r v s, .ok)
  | 15 => (lnkWrite r v s, .ok)
  | 16 => (redWrite r v s, .ok)
  | 17 => (recWrite r v s, .ok)
  | 18 => (shfWrite r v s, .ok)
  | 19 => bstWrite r v s
  | 20 => (netWrite r v s, .ok)
  | _ => (s, .ok)

/-- Whether a write can change anything: read-only registers ignore it (R9). -/
def RName.writable (n : RName) : Bool :=
  let p := n.spec
  decide (p.rw ≠ 0) || decide (p.w1c ≠ 0) || decide (p.wo ≠ 0)

/-- What a write leaves for others: the words of a small memory (R426), the sheaves that watch the address (R350), and
the configuration log of the pair (R329). -/
def afterWrite (own : Option Nat) (m addr : Nat) (r : Reg) (s : State) : State :=
  let s := noteWritten own addr (smallWrite addr m s)
  if r.name.replicated ∧ s.awn ∧ s.rb .redCtrl 0 then
    { s with red := { s.red with cfgLog := s.red.cfgLog ++ [(addr, s.rg r.name r.i r.j)] } }
  else s

/-- A write of one register by master m: the state and the status. -/
def writeReg (m addr : Nat) (v : Word) (s : State) : State × Status :=
  match regAt addr with
  | none => (violation 1 addr m .badParam s, .badParam)
  | some r =>
    if s.absentReg r then (violation 1 addr m .unitAbsent s, .unitAbsent)
    else if ¬ s.mayAccess m true r then (violation 1 addr m .accessDenied s, .accessDenied)
    else if r.name.isInj ∧ s.mode ≠ .factoryTest then (s, .factoryOnly)
    else if ¬ r.name.writable then (s, .ok)
    else match writeCheck s (storeReg r v s) .direct m r v with
      | some d => (deny d 1 addr m s, d.st)
      | none =>
        if s.heldBySheaf none addr ∨ (r.name = .celCmd ∧ s.cellHeld none (field v 0 12)) then (s, .busy)
        else if r.name.replicated ∧ s.rb .redCtrl 0 ∧ ¬ s.awn ∧ s.red.linkUp ∧ m ≠ 11 then (s, .notAwnHolder)
        else
          let x := writeEffect m r v s
          (afterWrite none m addr r x.1, x.2)

/-- A register write as a command of its own: the status stands among the outputs. -/
def writeAs (t : Nat) (m : Master) (addr : Nat) (v : Word) (s : State) : State :=
  let x := writeReg m.toNat addr v (s.begin t)
  x.1.put (.wrote x.2)

/-- A register read as a command of its own. -/
def readAs (t : Nat) (m : Master) (addr : Nat) (s : State) : State :=
  let x := readReg m.toNat addr (s.begin t)
  if x.2.1 = .ok then x.1.put (.readData x.2.2) else x.1.put (.wrote x.2.1)

end Sys2Proof.Machine
end

