-- ==== Sys2Proof/Machine/LoopIn.lean ====
section
/-!
DEFINITION. The inner loop (R63-R85, R97): inputs, transforms, current reference, limiter, controllers and arm
references of one cycle, and the events of the limiter (R31-R33). AC quantities are in pu of v_b and i_b.
-/
namespace Sys2Proof.Machine

/-! ### Bases, coefficients, angles -/

/-- f_b in Hz; v_b and i_b, the peak phase voltage and current, in kV and kA; V_dc,b in kV (R18). -/
def State.fb (s : State) : Num := s.rnum .lenBase 2
def State.vb (s : State) : Num := ((s.rnum .lenBase 1).mul (Num.sqrt (Num.ofInt 2))).div numSqrt3
def State.ib (s : State) : Num := ((s.rnum .lenBase 0).mul (Num.sqrt (Num.ofInt 2))).div (numSqrt3.mul (s.rnum .lenBase 1))
def State.vdcb (s : State) : Num := s.rnum .lenBase 3

/-- Word j of bank b. -/
def State.bankNum (s : State) (b j : Nat) : Num := s.rnum .lenBank b j

/-- Global parameter i in use since the last outer boundary (R102). -/
def State.gl (s : State) (i : Nat) : Num := Num.ofB32 (s.len.glob.getD i (s.rg .lenGlob i))

/-- Inner period in seconds. -/
def State.ts (s : State) : Num := if s.len.bur.on then Num.ofRatio 5 1000000 else Num.ofRatio 1 100000

/-- Outer period in seconds. -/
def tOut : Num := Num.ofRatio 1 10000

def num1 : Num := Num.ofInt 1
def num2 : Num := Num.ofInt 2
def half : Num := Num.ofRatio 1 2

/-- Binary angle that `f` Hz covers in `n` counter ticks (R25). -/
def angleIn (f : Num) (n : Int) : Word :=
  let turns := (f.mul (Num.ofInt n)).mul (Num.ofRatio 25 10000000000)
  wordOf ((turns.mul (Num.ofInt 4294967296)).round)

/-- θ at counter value `c` from the last outer update (R25). -/
def EmfSt.angleAt (e : EmfSt) (fb : Num) (c : Nat) : Word := e.th + angleIn (fb.mul e.om) ((c : Int) - e.thAt)

/-- Magnitude of a vector. -/
def Vec.mag (v : Vec) : Num := Num.sqrt ((v.a.mul v.a).add (v.b.mul v.b))

def Vec.add (u v : Vec) : Vec := ⟨u.a.add v.a, u.b.add v.b⟩
def Vec.sub (u v : Vec) : Vec := ⟨u.a.sub v.a, u.b.sub v.b⟩
def Vec.scale (k : Num) (v : Vec) : Vec := ⟨k.mul v.a, k.mul v.b⟩
/-- Complex product. -/
def Vec.mul (u v : Vec) : Vec := ⟨(u.a.mul v.a).sub (u.b.mul v.b), (u.a.mul v.b).add (u.b.mul v.a)⟩
/-- Complex quotient. -/
def Vec.div (u v : Vec) : Vec :=
  let d := (v.a.mul v.a).add (v.b.mul v.b)
  ⟨((u.a.mul v.a).add (u.b.mul v.b)).div d, ((u.b.mul v.a).sub (u.a.mul v.b)).div d⟩

/-- Clarke transform (R74). -/
def clarke (x : List Num) : Vec :=
  let a := x.getD 0 Num.zero
  let b := x.getD 1 Num.zero
  let c := x.getD 2 Num.zero
  ⟨(((num2.mul a).sub b).sub c).div (Num.ofInt 3), (b.sub c).div numSqrt3⟩

/-- Phase quantities of a vector. -/
def unclarke (v : Vec) : List Num :=
  let h := v.a.mul half
  let k := (numSqrt3.mul v.b).mul half
  [v.a, k.sub h, (h.neg).sub k]

/-- Park transform at φ (R74) and its inverse. -/
def park (th : Word) (v : Vec) : Vec :=
  let c := cosA th
  let s := sinA th
  ⟨(v.a.mul c).add (v.b.mul s), (v.b.mul c).sub (v.a.mul s)⟩

def unpark (th : Word) (v : Vec) : Vec :=
  let c := cosA th
  let s := sinA th
  ⟨(v.a.mul c).sub (v.b.mul s), (v.a.mul s).add (v.b.mul c)⟩

/-! ### Inputs (R69-R73) -/

/-- A sample the loop engine uses: not UNSETTLED, WIDE or INFAULT (R73, R253). -/
def Samp.usable (x : Samp) : Bool := !(x.flags.testBit 0) && !(x.flags.testBit 3) && !(x.flags.testBit 4)

/-- Take input k. -/
def takeInput (s : State) (x : LenIn) (k : Nat) : LenIn :=
  if ¬ s.rb .lenInsel 8 k then x
  else
    let p := (s.nch (s.rf .lenInsel 0 5 k)).last
    if decide (p.seq ≠ x.seq.getD k 0) && p.usable then
      { x with val := x.val.set k ((Num.ofInt p.val).mul (s.rnum .lenInscl k)), seq := x.seq.set k p.seq,
               miss := x.miss.set k 0, stale := x.stale.set k false }
    else { x with miss := x.miss.set k (x.miss.getD k 0 + 1), seq := x.seq.set k p.seq }

/-- The privileged set of a launch, and whether a free value chose it: the newest set delivered in an earlier core clock,
where a launch 0.05 to 0.10 µs after P5's output instant may take either (R64, R257). -/
def State.launchSet (s : State) : List Samp × Bool :=
  let e := s.fil.eng
  let age := s.ticks - (e.start + 80 + 320 * (e.j : Int))
  if age < 20 then (e.prev, false)
  else if 40 < age then (e.last, false)
  else (if (Config.freeWord s.fresh).getLsbD 0 then e.last else e.prev, true)

/-- Take arm current a from the set `p`; each privileged channel holds its own last settled value (R73). -/
def takeArm (s : State) (p : List Samp) (new : Bool) (x : LenIn) (a : Nat) : LenIn :=
  let q := p.getD a Samp.zero
  if new && q.usable then
    { x with arm := x.arm.set a ((Num.ofInt q.val).mul (s.rnum .lenArmscl a)), miss := x.miss.set (9 + a) 0,
             stale := x.stale.set (9 + a) false }
  else { x with miss := x.miss.set (9 + a) (x.miss.getD (9 + a) 0 + 1) }

/-- Take the arm currents from the set `p`. -/
def takeArms (s : State) (p : List Samp) (x : LenIn) : LenIn :=
  let p0 := p.getD 0 Samp.zero
  let new := decide (p0.seq ≠ x.seq.getD 9 0)
  let x := (List.range 6).foldl (takeArm s p new) x
  if new then { x with tSample := p0.stamp, seq := x.seq.set 9 p0.seq } else x

/-! ### Biquads (R82-R85) -/

/-- Enabled sections at an insertion point. -/
def State.sections (s : State) (p : Nat) : List Nat :=
  (List.range 24).filter (fun n => s.rb .lenBiq 8 n 10 && decide (s.rf .lenBiq 0 4 n 10 = p))

/-- Run one section on channel ch; at a change of inner rate its states first take the steady state of R85. -/
def biqOne (s : State) (inner : Bool) (ch : Nat) (x : Num × Tab Vec) (n : Nat) : Num × Tab Vec :=
  let o := if inner && s.len.bur.on && !(s.rb .lenBiq 9 n 10) then 5 else 0
  let b0 := s.rnum .lenBiq n o
  let b1 := s.rnum .lenBiq n (o + 1)
  let b2 := s.rnum .lenBiq n (o + 2)
  let a1 := s.rnum .lenBiq n (o + 3)
  let a2 := s.rnum .lenBiq n (o + 4)
  let u := x.1
  let steady : Vec :=
    let y := u.mul (((b0.add b1).add b2).div ((num1.add a1).add a2))
    let s2 := (b2.mul u).sub (a2.mul y)
    ⟨((b1.mul u).sub (a1.mul y)).add s2, s2⟩
  let st := if inner && s.len.rateNew then steady else Tab.get (fun _ => Vec.zero) x.2 (8 * n + ch)
  let y := (b0.mul u).add st.a
  let s1 := ((b1.mul u).sub (a1.mul y)).add st.b
  let s2 := (b2.mul u).sub (a2.mul y)
  (y.note (s1.sat || s2.sat), Tab.set (fun _ => Vec.zero) x.2 (8 * n + ch) ⟨s1.clear, s2.clear⟩)

/-- The cascade at a point for one channel. -/
def biqChan (s : State) (p ch : Nat) (x : Num) (t : Tab Vec) : Num × Tab Vec :=
  (s.sections p).foldl (biqOne s (decide (p ≤ 5)) ch) (x, t)

/-- The cascade at a point for a list of channels. -/
def biqAll (s : State) (p : Nat) : Nat → List Num → Tab Vec → List Num × Tab Vec
  | _, [], t => ([], t)
  | ch, x :: r, t =>
    let y := biqChan s p ch x t
    let z := biqAll s p (ch + 1) r y.2
    (y.1 :: z.1, z.2)

/-! ### Sequence separation (R75) -/

/-- Samples in a quarter period: whole part and fraction. -/
def State.quarter (s : State) : Nat × Num :=
  let fs : Int := if s.len.bur.on then 50000 else 25000
  let q := (Num.ofInt fs).div s.fb
  (q.floor.toNat, q.sub (Num.ofInt q.floor))

/-- A delayed quantity: component `k` of the entries, newest first, the present one at 0. -/
def delayed (line : List (List Num)) (k : Nat) (q : Nat × Num) : Num :=
  let x (i : Nat) : Num := (line.getD i []).getD k Num.zero
  (x q.1).add (q.2.mul ((x (q.1 + 1)).sub (x q.1)))

/-- Positive and negative sequence vectors of the pair of components at `k` (R75). -/
def separate (line : List (List Num)) (k : Nat) (q : Nat × Num) : Vec × Vec :=
  let a := (line.getD 0 []).getD k Num.zero
  let b := (line.getD 0 []).getD (k + 1) Num.zero
  let da := delayed line k q
  let db := delayed line (k + 1) q
  (⟨half.mul (a.sub db), half.mul (b.add da)⟩, ⟨half.mul (a.add db), half.mul (b.sub da)⟩)

/-- The delay line at the other inner rate: doubled with midpoints, or every second sample. -/
def midpoints : List (List Num) → List (List Num)
  | x :: y :: r => x :: (List.zipWith (fun a b => half.mul (a.add b)) x y) :: midpoints (y :: r)
  | l => l

def thinned : List (List Num) → List (List Num)
  | x :: _ :: r => x :: thinned r
  | l => l

/-! ### Saturation (R67, R101) -/

/-- Some number saturated. -/
def anySat (l : List Num) : Bool := l.any (fun x => x.sat)

/-- A saturation sets LEN_EVT.NUM_SAT and raises the fault. -/
def noteSat (b : Bool) (s : State) : State := if b then fault 0x0530 .l0 (s.rsb .lenEvt 2 true) else s

/-- The vector without its saturation marks. -/
def Vec.clear (v : Vec) : Vec := ⟨v.a.clear, v.b.clear⟩

/-- Its components. -/
def Vec.list (v : Vec) : List Num := [v.a, v.b]

/-! ### Measurement part of a cycle (R72-R75, R500) -/

/-- Inputs, filters and separation of one cycle. -/
def measure (s : State) : State :=
  let set := s.launchSet
  let inp := takeArms s set.1 ((List.range 9).foldl (takeInput s) s.len.inp)
  let pu (k : Nat) : Num := ((inp.val.getD k Num.zero).mul (Num.ofRatio 1 1000)).div s.vb
  let ar (k : Nat) : Num := ((inp.arm.getD k Num.zero).mul (Num.ofRatio 1 1000)).div s.ib
  let t0 := s.len.con.biq
  let b := biqAll s 0 0 [pu 0, pu 1, pu 2] t0
  let tie := biqAll s 1 0 [pu 3, pu 4, pu 5] b.2
  let vd := biqChan s 2 0 ((((inp.val.getD 6 Num.zero).sub (inp.val.getD 7 Num.zero)).mul (Num.ofRatio 1 1000)).div s.vdcb) tie.2
  let ac := biqAll s 3 0 [(ar 0).sub (ar 1), (ar 2).sub (ar 3), (ar 4).sub (ar 5)] vd.2
  let ci := biqAll s 4 0 [half.mul ((ar 0).add (ar 1)), half.mul ((ar 2).add (ar 3)), half.mul ((ar 4).add (ar 5))] ac.2
  let v := clarke b.1
  let i := clarke ac.1
  let line := ([v.a.clear, v.b.clear, i.a.clear, i.b.clear, (clarke tie.1).a.clear, (clarke tie.1).b.clear,
    (b.1.getD 0 Num.zero).clear, (tie.1.getD 0 Num.zero).clear] :: s.len.sig.delay).take 1002
  let vs := separate line 0 s.quarter
  let cs := separate line 2 s.quarter
  let sig : LenSig := { vbus := b.1.map Num.clear, iac := ac.1.map Num.clear,
                        icirc := ci.1.map Num.clear, vdc := vd.1.clear, delay := line, v1 := vs.1.clear, v2 := vs.2.clear,
                        i1 := cs.1.clear, i2 := cs.2.clear }
  let sat := anySat (inp.val ++ inp.arm ++ b.1 ++ tie.1 ++ ac.1 ++ ci.1 ++ [vd.1] ++ v.list ++ i.list ++ vs.1.list ++ vs.2.list
    ++ cs.1.list ++ cs.2.list)
  let inp := { inp with val := inp.val.map Num.clear, arm := inp.arm.map Num.clear }
  noteSat sat { s with len := { s.len with inp := inp, sig := sig, con := { s.len.con with biq := ci.2 } },
                       fresh := if set.2 then s.fresh + 1 else s.fresh }

/-! ### Current reference and limiter (R30-R35, R44, R76) -/

/-- Length of the peak stage; with T_PK = 0 an episode has none (R31). -/
def State.peakTicks (s : State) : Nat := ((s.gl 12).mul (Num.ofInt 400000)).round.toNat

/-- The next episode begins with a peak stage. -/
def State.peakReady (s : State) : Bool := s.len.lim.armed && decide (0 < s.peakTicks)

/-- Limit in force (R31, R32). -/
def State.iLim (s : State) : Num :=
  let l := s.len.lim
  if l.peak || (l.start.isNone && s.peakReady) then s.gl 11
  else if 0 < l.budget then s.gl 13
  else num1

/-- Full overload budget in tenths of a tick. -/
def State.budgetMax (s : State) : Nat := ((s.gl 14).mul (Num.ofInt 4000000000)).round.toNat

/-- Carry the overload budget to now (R32): it is drawn on while the sum exceeds 1.0 pu where the limiter runs, and
recharges otherwise; above 0 it may be exhausted again. -/
def budgetTick (s : State) : State :=
  let l := s.len.lim
  let dt := s.now - l.budgetAt
  let draws := Num.lt num1 l.sum && (decide (s.mode = .run) || decide (s.mode = .stopping))
  let b := min s.budgetMax (if draws then l.budget - 10 * dt else l.budget + dt)
  { s with len := { s.len with lim := { l with budget := b, budgetAt := s.now, spent := l.spent && decide (b = 0) } } }

/-- The limiter sees the unlimited sum of this cycle (R31, R33). -/
def limiterSee (sum : Num) (s : State) : State :=
  let s := budgetTick s
  let l := s.len.lim
  let begins := Num.lt num1 sum && l.start.isNone
  let peak := begins && s.peakReady
  let l' : LimSt :=
    if begins then { l with start := some s.now, below := none, peak := peak, active := true, seenPeak := l.seenPeak || peak,
                            spent := false, sum := sum.clear }
    else if Num.lt num1 sum then { l with below := none, sum := sum.clear }
    else { l with below := some (l.below.getD s.now), sum := sum.clear }
  { s with len := { s.len with lim := l', frt := { s.len.frt with islPeak := s.len.frt.islPeak || peak } } }

/-- R_v, X_v and K_FF on their way to the values of the active bank (R91). -/
def State.blended (s : State) (r : RegSt) (old : Num) (j : Nat) : Num :=
  let new := s.bankNum r.bank j
  match r.blendAt with
  | none => new
  | some t0 =>
    if r.blendLen = 0 then new
    else old.add ((new.sub old).mul (Num.ofRatio (min (s.now - t0) r.blendLen : Nat) r.blendLen))

/-- Ride-through currents apply: FRT, or a condition of R49 in ISLAND. -/
def rideActive (sub : Sub) (f : FrtSt) : Bool := decide (sub = .frt) || (decide (sub = .island) && f.isl)

/-- Currents granted in profile order until |I1| + |I2| reaches the limit (R44): reactive, negative, active. -/
def grant (neg : Bool) (lim dq d2 dp : Num) : Num × Num × Num :=
  let gq := if neg then Num.min dq (Num.max Num.zero (lim.sub (Num.min d2 lim))) else Num.min dq lim
  let g2 := if neg then Num.min d2 lim else Num.min d2 (lim.sub gq)
  let i1 := lim.sub g2
  let room := Num.sqrt (Num.max Num.zero ((i1.mul i1).sub (gq.mul gq)))
  let gp := Num.min dp.abs room
  (gq, g2, if dp.m < 0 then gp.neg else gp)

/-- The unlimited references and their limited forms in the frames at θ and −θ: I1*, I2*, the unlimited sum, whether the
limiter reduces them. -/
def currentRef (s : State) (sub : Sub) (emf : EmfSt) (frt : FrtSt) (reg : RegSt) (th : Word) : Vec × Vec × Num × Bool :=
  let v1 := park th s.len.sig.v1
  let lim := s.iLim
  if rideActive sub frt then
    let m := v1.mag
    let u : Vec := if m.m = 0 then ⟨num1, Num.zero⟩ else ⟨v1.a.div m, v1.b.div m⟩
    let v2 := park (-th) s.len.sig.v2
    let m2 := v2.mag
    let u2 : Vec := if m2.m = 0 then Vec.zero else ⟨v2.b.div m2, (v2.a.div m2).neg⟩
    let p := s.rb .lenProf 0 frt.prof 9
    let g := grant p lim frt.gq frt.g2 frt.gp
    let sum := (Vec.mag ⟨frt.gp, frt.gq⟩).add frt.g2
    (Vec.mul ⟨g.2.2, g.1.neg⟩ u, Vec.scale g.2.1 u2, sum, Num.lt lim sum)
  else
    let z : Vec := ⟨s.blended reg reg.rv0 5, (s.blended reg reg.xv0 6).add (s.gl 30)⟩
    let i1 := Vec.div ⟨emf.e.sub v1.a, v1.b.neg⟩ z
    let sum := i1.mag
    if Num.lt lim sum then (Vec.scale (lim.div sum) i1, Vec.zero, sum, true) else (i1, Vec.zero, sum, false)

/-! ### Controllers (R77-R80) -/

/-- One PI of R78: output and next integrator. -/
def piStep (kp ti ts x e : Num) : Num × Num :=
  ((kp.mul e).add x, x.add (((kp.mul ts).div ti).mul e))

/-- Phase of ω_0 = 2π f_b at the counter's present value, as a binary angle: exact, since f_b is 50 or 60 Hz (R18, R71, R79). -/
def State.basePhase (s : State) : Word := wordOf (divNearest (s.fb.round * (s.cnt : Int) * 4294967296) 400000000)

/-- One resonant term at phase φ (R79): output, its quadrature, which is its rate of change over ω_0, and next amplitudes. -/
def resStep (kr w ts : Num) (ph : Word) (x : Vec) (e : Num) : Num × Num × Vec :=
  let c := cosA ph
  let s := sinA ph
  let y := (x.a.mul c).add (x.b.mul s)
  let g := w.mul ts
  let k := (num2.mul kr).mul g
  let x' : Vec := ⟨(x.a.sub (g.mul x.a)).add (k.mul (e.mul c)), (x.b.sub (g.mul x.b)).add (k.mul (e.mul s))⟩
  (y.note (x'.a.sat || x'.b.sat), (x.b.mul c).sub (x.a.mul s), x'.clear)

/-- Compute time in core clocks of 2 ns (R97); half clocks round up. -/
def State.tComp (s : State) (limiting : Bool) : Nat :=
  let b (k n : Nat) : Nat := if s.rb .lenBlken k then n else 0
  let pr := s.rb .lenBlken 0
  let secs := ([0, 1, 2, 3, 4, 5] : List Nat).foldl (fun n p => n + (s.sections p).length) 0
  let halves := 2 * (210 + (if pr then 20 else b 1 10) + b 2 15 + b 3 5 + (if limiting then 45 else 0)) + 5 * secs
  (halves + 1) / 2

/-- Outer results still in force in the boundary frame (R65). -/
def State.oldNow (s : State) : Option OldRes := if s.now < s.len.outerAt + s.framePeriod then s.len.old else none

/-- A controller state at a change of gain (R91): a PI integrator keeps the output, a resonator is scaled. -/
def rescalePi (k k' x e : Num) : Num := (x.add ((k.sub k').mul e)).clear
def rescaleRes (k k' : Num) (v : Vec) : Vec :=
  if k.m = 0 then v else
    let r := Vec.scale (k'.div k) v
    ⟨r.a.clear, r.b.clear⟩

/-- The inner controllers when words change from `k` to `k'` (R91). -/
def rescaleInner (k k' : Nat → Num) (c : LenCon) : LenCon :=
  let e (i : Nat) : Num := c.err.getD i Num.zero
  { c with xd := rescalePi (k 11) (k' 11) c.xd (e 0), xq := rescalePi (k 11) (k' 11) c.xq (e 1),
           xd2 := rescalePi (k 11) (k' 11) c.xd2 (e 2), xq2 := rescalePi (k 11) (k' 11) c.xq2 (e 3),
           ra := c.ra.map (rescaleRes (k 13) (k' 13)), rc := c.rc.map (rescaleRes (k 16) (k' 16)) }

/-- The words of a bank that the inner controllers stand for: K_PI, K_RI, K_RC. -/
def innerWords (k : Nat → Num) : List Num := [k 11, k 13, k 16]
def innerWord (l : List Num) (j : Nat) : Num := l.getD (if j = 11 then 0 else if j = 13 then 1 else 2) Num.zero

/-- The first cycle on a new bank rescales the inner controllers (R65, R91). -/
def takeScale (s : State) : State :=
  match s.len.reg.scaleFrom, s.oldNow with
  | some old, none =>
    let r := s.len.reg
    { s with len := { s.len with con := rescaleInner (innerWord old) (s.bankNum r.bank) s.len.con,
                                 reg := { r with scaleFrom := none } } }
  | _, _ => s

/-- The control law of one cycle (R76-R81, R97, R98). -/
def controlLaw (s : State) : State :=
  let s := takeScale s
  let l := s.len
  let o : OldRes := s.oldNow.getD ⟨false, s.sub, l.emf, l.frt, l.reg, l.ene⟩
  let th := o.emf.angleAt s.fb s.cnt
  let s := s.rs .lenRd th 0
  let r0 := currentRef s o.sub o.emf o.frt o.reg th
  let s := limiterSee r0.2.2.1 s
  let (i1, i2, sum, limiting) := currentRef s o.sub o.emf o.frt o.reg th
  let b := o.reg.bank
  let con := s.len.con
  let ts := s.ts
  let pr := s.rb .lenBlken 0
  let kp := s.bankNum b 11
  let ti := s.bankNum b 12
  let ph := s.basePhase
  let e1 := Vec.sub i1 (park th s.len.sig.i1)
  let e2 := Vec.sub i2 (park (-th) s.len.sig.i2)
  let ed := piStep kp ti ts con.xd e1.a
  let eq := piStep kp ti ts con.xq e1.b
  let neg := s.rb .lenBlken 1
  let ed2 := piStep kp ti ts con.xd2 e2.a
  let eq2 := piStep kp ti ts con.xq2 e2.b
  let ea := Vec.sub (Vec.add (unpark th i1) (unpark (-th) i2)) (clarke s.len.sig.iac)
  let kr := s.bankNum b 13
  let w := s.bankNum b 14
  let ra := resStep kr w ts ph (con.ra.getD 0 Vec.zero) ea.a
  let rb := resStep kr w ts ph (con.ra.getD 1 Vec.zero) ea.b
  let vp := unpark th ⟨ed.1, eq.1⟩
  let vn := if neg then unpark (-th) ⟨ed2.1, eq2.1⟩ else Vec.zero
  let vab : Vec := if pr then ⟨(kp.mul ea.a).add ra.1, (kp.mul ea.b).add rb.1⟩ else Vec.add vp vn
  let v5 := biqAll s 5 0 (unclarke vab) con.biq
  let tff := s.bankNum b 19
  let ff := (List.range 3).map (fun x =>
    let u := s.len.sig.vbus.getD x Num.zero
    let y := con.ff.getD x Num.zero
    if tff.m = 0 then u else (y.add ((Num.min num1 (ts.div tff)).mul (u.sub y))).clear)
  let kff := s.blended o.reg o.reg.kff0 18
  let vac := (List.range 3).map (fun x =>
    let y := v5.1.getD x Num.zero
    if s.rb .lenBlken 3 then y.add (kff.mul (ff.getD x Num.zero)) else y)
  let circ := s.rb .lenBlken 2
  let ph2 := ph + ph
  let res := (List.range 3).map (fun x =>
    let ref := (o.ene.idc.getD x Num.zero).add
      ((o.ene.icf.getD x Num.zero).mul (cosA (th - (BitVec.ofNat 32 (1431655765 * x)))))
    let e := ref.sub (s.len.sig.icirc.getD x Num.zero)
    let y := resStep (s.bankNum b 16) (s.bankNum b 17) ts ph2 (con.rc.getD x Vec.zero) e
    ((s.bankNum b 15).mul e |>.add y.1, y.2.2))
  let vc (x : Nat) : Num := if circ then (res.getD x (Num.zero, Vec.zero)).1 else Num.zero
  let hdc := half.mul (s.len.sig.vdc.mul s.vdcb)
  let vb := s.vb
  let raw := (List.range 6).map (fun a =>
    let x := a / 2
    let ac := vb.mul (vac.getD x Num.zero)
    let c := vb.mul (vc x)
    if a % 2 = 0 then (hdc.sub ac).sub c else (hdc.add ac).sub c)
  let lo (a : Nat) : Num := s.rnum .winVneg a
  let hi (a : Nat) : Num := s.rnum .winVpos a
  let clamps := (List.range 6).map (fun a =>
    let v := raw.getD a Num.zero
    Num.lt v (lo a) || Num.lt (hi a) v || (s.arm a).oc)
  let vs := (List.range 6).map (fun a => (Num.clamp (lo a) (hi a) (raw.getD a Num.zero)))
  let w0 := (numTwoPi.mul s.fb).mul (Num.ofRatio 1 1000000)
  let rot := w0.mul o.emf.om
  let turned : List Num := unclarke (if pr then ⟨ra.1, rb.1⟩ else vab)
  let turn : List Num := unclarke (if pr then ⟨w0.mul ra.2.1, w0.mul rb.2.1⟩
    else ⟨rot.mul (vn.b.sub vp.b), rot.mul (vp.a.sub vn.a)⟩)
  let side (a : Nat) (x : Num) : Num := if a % 2 = 0 then x.neg else x
  let rest := (List.range 6).map (fun a => (raw.getD a Num.zero).sub (side a (vb.mul (turned.getD (a / 2) Num.zero))))
  let dvs := (List.range 6).map (fun a =>
    let d := side a (vb.mul (turn.getD (a / 2) Num.zero))
    match con.rest[a]? with
    | none => d
    | some r => d.add (((rest.getD a Num.zero).sub r).div (ts.mul (Num.ofInt 1000000))))
  let now := clamps.any id
  let keep (x y : Num) : Num := (if now then x else y).clear
  let sat := anySat (vs ++ dvs ++ ff ++ [sum] ++ (if pr then [] else [ed.2, eq.2] ++ (if neg then [ed2.2, eq2.2] else [])))
  let con' : LenCon :=
    { xd := if pr then con.xd else keep con.xd ed.2, xq := if pr then con.xq else keep con.xq eq.2,
      xd2 := if pr ∨ !neg then con.xd2 else keep con.xd2 ed2.2, xq2 := if pr ∨ !neg then con.xq2 else keep con.xq2 eq2.2,
      ra := if pr then (if now then con.ra else [ra.2.2, rb.2.2]) else con.ra,
      rc := if circ then (if now then con.rc else res.map (fun p => p.2)) else con.rc,
      ff := ff, biq := v5.2, clamp := clamps, err := [e1.a.clear, e1.b.clear, e2.a.clear, e2.b.clear],
      rest := rest.map Num.clear }
  let n := s.tComp limiting
  let tc := fld 0 n ||| fld 16 (max n (s.rf .lenTcomp 16 16))
  let tPub := s.short + BitVec.ofNat 32 (n * 4 / 5)
  let flags := (if limiting then 1 else 0) + (if s.len.bur.on then 2 else 0)
    + (((List.range 6).filter (fun a => clamps.getD a false)).map (fun a => 4 * 2 ^ a)).sum
  let p : Pub := ⟨s.len.cyc % 65536, s.len.inp.tSample, tPub, vs.map Num.asB32, dvs.map Num.asB32, o.reg.region, o.reg.bank,
    o.reg.gdp, flags⟩
  let s := (s.rs .lenTcomp tc).setClk s.clk
  noteSat sat { s with len := { s.len with con := con', pend := some p,
                                           lim := { s.len.lim with ilim := s.iLim.clear } } }

/-- Bad coefficient words met by a cycle keep their previous values (R427). -/
def coefUe (ue : List Nat) (s : State) : State := ue.foldl (fun s a => memFault 4 .l2 3 a none s) s

/-- An inner cycle (R64): the measuring part in every running state, the control law outside PRECHARGE (R500). -/
def innerCycle (ue : List Nat) (s : State) : State :=
  if ¬ s.running then s
  else
    let s := measure (coefUe ue s)
    let quiet := decide (s.mode = .precharge) || (match s.oldNow with
      | some o => o.pre
      | none => false)
    let s := if quiet then s else controlLaw s
    { s with len := { s.len with cyc := s.len.cyc + 1, rateNew := false, launched := some s.now } }

/-! ### Events -/

/-- A cycle launches now: PHASE core clocks after a frame boundary, once (R64, R66). At burst rate a frame lasts 5 µs, so
cycles launch at PHASE and at PHASE + 2,500 core clocks. -/
def State.launchDue (s : State) : Bool :=
  s.crosses ((s.framePeriod * 65536 : Nat) : Int) ((s.len.launch * 262144 / 5 : Nat) : Int)
    && decide (s.len.launched ≠ some s.now)

def execInnerCycle (t : Nat) (ue : List Nat) (s : State) : Host.Outcome State Fault Refusal :=
  let s := s.begin t
  .next (if s.launchDue then innerCycle ue s else s)

/-- INPUT_STALE (R73): inputs 0-8, and 9-14 for the privileged channels P0-P5. -/
def execInputStale (t k : Nat) (s : State) : Host.Outcome State Fault Refusal :=
  let s := s.begin t
  let x := s.len.inp
  .next (if s.running ∧ k < 15 ∧ 10 ≤ x.miss.getD k 0 ∧ x.stale.getD k false = false then
    fault 0x0531 .l2 (({ s with len := { s.len with inp := { x with stale := x.stale.set k true } } } : State).rsb .lenEvt 3 true) k
  else s)

/-- EPISODE_END (R31): the sum has been at or below 1.0 pu for 20 ms. -/
def execEpisodeEnd (t : Nat) (s : State) : Host.Outcome State Fault Refusal :=
  let s := budgetTick (s.begin t)
  let l := s.len.lim
  .next (match l.start, l.below with
    | some _, some b =>
      if b + 8000000 ≤ s.now then
        let f := { s.len.frt with islPeak := false }
        { s with len := { s.len with frt := f, lim := { l with start := none, peak := false, active := false,
                                                               armed := l.armed && !l.peak } } }
      else s
    | _, _ => s)

/-- PEAK_STAGE_END (R31, R33). -/
def execPeakStageEnd (t : Nat) (s : State) : Host.Outcome State Fault Refusal :=
  let s := budgetTick (s.begin t)
  let l := s.len.lim
  .next (match l.start with
    | some b =>
      if l.peak ∧ b + s.peakTicks ≤ s.now then
        { s with len := { s.len with lim := { l with peak := false, armed := false } } }
      else s
    | none => s)

/-- LIMIT_BUDGET_EXHAUSTED (R32). -/
def execLimitBudgetExhausted (t : Nat) (s : State) : Host.Outcome State Fault Refusal :=
  let s := budgetTick (s.begin t)
  let l := s.len.lim
  .next (if l.budget = 0 ∧ l.start.isSome ∧ ¬ l.spent then
    fault 0x0522 .l1 { s with len := { s.len with lim := { l with spent := true, peak := false, armed := l.armed && !l.peak } } }
  else s)

/-- PEAK_REARM (R33). -/
def execPeakRearm (t : Nat) (s : State) : Host.Outcome State Fault Refusal :=
  let s := budgetTick (s.begin t)
  let l := s.len.lim
  .next (match l.below with
    | some b => if b + 80000000 ≤ s.now then { s with len := { s.len with lim := { l with armed := true } } } else s
    | none => s)

end Sys2Proof.Machine
end

