-- ==== Sys2Proof/Machine/Region.lean ====
section
/-!
DEFINITION. Gain scheduling (R86-R92), the burst decision (R47, R66, R473, R474), and arm energy control with the
precharge stages (R103-R111) as an outer boundary runs them.
-/
namespace Sys2Proof.Machine

/-- Put the loop engine. -/
def State.setLen (s : State) (l : LenSt) : State := { s with len := l }

/-- Mark the start of an outer boundary's decisions: what the boundary frame still uses is kept (R65). -/
def noteOld (s : State) : State :=
  if s.len.outerAt = s.now ∧ s.len.old.isSome then s
  else
    let l := s.len
    s.setLen { l with outerAt := s.now, old := some ⟨decide (s.mode = .precharge), s.sub, l.emf, l.frt, l.reg, l.ene⟩ }

/-- Ticks of a time in seconds or milliseconds held as a number. -/
def secTicks (x : Num) : Nat := (x.mul (Num.ofInt 400000000)).round.toNat
def msTicks (x : Num) : Nat := (x.mul (Num.ofInt 400000)).round.toNat

/-- One ramp step of size `d` toward a target (R29). -/
def rampTo (x goal d : Num) : Num :=
  if Num.le (x.sub goal).abs d then goal else if Num.lt x goal then x.add d else x.sub d

/-- A first-order filter over one outer period; time constant 0 passes the input. -/
def lowPass (y u t : Num) : Num :=
  if t.m = 0 then u.clear else (y.add ((Num.min num1 (tOut.div t)).mul (u.sub y))).clear

/-! ### Banks (R91, R92) -/

/-- The outer controllers when words change from `k` to `k'`. -/
def rescaleOuter (k k' : Nat → Num) (l : LenSt) : LenSt :=
  let e (i : Nat) : Num := l.ene.errs.getD i Num.zero
  let pi (j i : Nat) (x : Num) : Num := rescalePi (k j) (k' j) x (e i)
  { l with
    emf := { l.emf with xv := rescalePi (k 7) (k' 7) l.emf.xv l.emf.ev }
    ene := { l.ene with xt := pi 33 0 l.ene.xt,
                        xh := (List.range 3).map (fun x => pi 35 (1 + x) (l.ene.xh.getD x Num.zero)),
                        xv := (List.range 3).map (fun x => pi 37 (4 + x) (l.ene.xv.getD x Num.zero)) } }

/-- Without the saturation marks of the rescaled integrators, and the note of those marks (R67). -/
def LenSt.marksOff (l : LenSt) : LenSt :=
  { l with emf := { l.emf with xv := l.emf.xv.clear },
           ene := { l.ene with xt := l.ene.xt.clear, xh := l.ene.xh.map Num.clear, xv := l.ene.xv.map Num.clear } }
def noteRescale (l : LenSt) (s : State) : State := noteSat (anySat ([l.emf.xv, l.ene.xt] ++ l.ene.xh ++ l.ene.xv)) s

/-- Start the ramp of R_v, X_v and K_FF from the values reached (R91, R92). -/
def startBlend (s : State) (r : RegSt) : RegSt :=
  let len := msTicks (s.gl 31)
  { r with rv0 := (s.blended r r.rv0 5).clear, xv0 := (s.blended r r.xv0 6).clear, kff0 := (s.blended r r.kff0 18).clear,
           blendAt := if len = 0 then none else some s.now, blendLen := len }

/-- Make bank b active without a step. -/
def changeBank (b : Nat) (s : State) : State :=
  let r := s.len.reg
  if r.bank = b then s
  else
    let l := rescaleOuter (s.bankNum r.bank) (s.bankNum b) s.len
    let r' := startBlend s r
    let from_ := if s.mode = .precharge then none else some (r.scaleFrom.getD (innerWords (s.bankNum r.bank)))
    noteRescale l (s.setLen { l.marksOff with reg := { r' with bank := b, scaleFrom := from_ } })

/-- Words of the active bank have changed from `k` in place (R95): the controllers are rescaled at once, the inner ones with
the first cycle where a change of bank is still to be taken by it. -/
def bankRewritten (k : Nat → Num) (s : State) : State :=
  let b := s.len.reg.bank
  let l := rescaleOuter k (s.bankNum b) s.len
  let r := l.reg
  let old (r0 : Num) (j : Nat) : Num := match r.blendAt with
    | none => k j
    | some t0 => r0.add (((k j).sub r0).mul (Num.ofRatio (min (s.now - t0) r.blendLen : Nat) (max 1 r.blendLen)))
  let len := msTicks (s.gl 31)
  let moved := [5, 6, 18].any (fun j => decide (k j ≠ s.bankNum b j))
  let r' : RegSt := if moved then
      { r with rv0 := (old r.rv0 5).clear, xv0 := (old r.xv0 6).clear, kff0 := (old r.kff0 18).clear,
               blendAt := if len = 0 then none else some s.now, blendLen := len }
    else r
  let con := if r.scaleFrom.isSome then l.con else rescaleInner k (s.bankNum b) l.con
  noteRescale l (s.setLen { l.marksOff with con := con, reg := r' })

/-! ### Regions (R86-R90) -/

/-- The operating point lies in box r, widened by its hysteresis when `wide`. -/
def State.inBox (s : State) (r : Nat) (wide : Bool) : Bool :=
  let e := s.len.emf
  let p (d : Nat) : Num := ([e.pm, e.qm, e.v1m, e.vdcPu] : List Num).getD d Num.zero
  (List.range 4).all (fun d =>
    let h := if wide then s.rnum .lenRegn r (8 + d) else Num.zero
    Num.le ((s.rnum .lenRegn r (2 * d)).sub h) (p d) && Num.le (p d) ((s.rnum .lenRegn r (2 * d + 1)).add h))

/-- Bank and gate-drive set that an entry names. -/
def State.regBank (s : State) (r : Nat) : Nat := s.rf .lenRegn 0 4 r 12
def State.regGdp (s : State) (r : Nat) : Nat := s.rf .lenRegn 8 4 r 12
def State.regEn (s : State) (r : Nat) : Bool := s.rb .lenRegn 16 r 12

/-- Move to region n, unless its bank is open for writing (R90). -/
def enterRegion (n : Nat) (s : State) : State :=
  let r := s.len.reg
  if n = r.region then s.setLen { s.len with reg := { r with defer := none } }
  else if s.rb .lenBankctl 4 ∧ s.rf .lenBankctl 0 4 = s.regBank n then
    if r.defer = some n then s
    else emit 0 0x0B n ((s.setLen { s.len with reg := { r with defer := some n } }).rsb .lenEvt 0 true)
  else
    let old := r.region
    let s := changeBank (s.regBank n) s
    let s := s.setLen { s.len with reg := { s.len.reg with region := n, gdp := s.regGdp n, defer := none, override := false,
                                                           dwell := s.rf .lenRegdwell 0 16 } }
    emit 0 0x0A (old + 16 * n) (s.rsb .lenEvt 4 true)

/-- Before an evaluation decides, the bank and the gate-drive set are those that entry REG_INIT names now, unless BANKSEL
has made another bank active (R87); a bank open for writing waits until it is closed (R90). -/
def followEntry (s : State) : State :=
  let r := s.len.reg
  if r.override ∨ r.region ≠ s.rf .lenCtrl 0 4 then s
  else
    let s := s.setLen { s.len with reg := { r with gdp := s.regGdp r.region } }
    if s.rb .lenBankctl 4 ∧ s.rf .lenBankctl 0 4 = s.regBank r.region then s else changeBank (s.regBank r.region) s

/-- REG_FREEZE holds evaluation (R88). -/
def State.frozen (s : State) : Bool :=
  s.rb .lenCtrl 4 && decide (s.mode = .run) && (decide (s.sub = .frt) || decide (s.sub = .blackstart) || s.len.frt.isl)

/-- Region evaluation of an outer boundary. -/
def evalRegion (s : State) : State :=
  let s := s.setLen { s.len with reg := { s.len.reg with dwell := s.len.reg.dwell - 1 } }
  let r := s.len.reg
  if ¬ s.rb .lenCtrl 5 then
    followEntry (enterRegion (s.rf .lenCtrl 0 4) (s.setLen { s.len with reg := { r with none_ := false } }))
  else if 0 < r.dwell ∨ s.frozen ∨ s.regionUe then if r.evaluated then s else followEntry s
  else
    let s := s.setLen { s.len with reg := { r with evaluated := true } }
    if s.regEn r.region && s.inBox r.region true then
      s.setLen { s.len with reg := { s.len.reg with none_ := false, defer := none } }
    else match (List.range 16).find? (fun n => s.regEn n && s.inBox n false) with
      | some n => enterRegion n (s.setLen { s.len with reg := { s.len.reg with none_ := false } })
      | none =>
        let s' := (s.setLen { s.len with reg := { s.len.reg with none_ := true, defer := none } }).rsb .lenEvt 1 true
        if r.none_ then s' else emit 0 0x0C r.region s'

/-- The region at the start of the loop engine (R87). -/
def startRegion (s : State) : RegSt :=
  let r := s.rf .lenCtrl 0 4
  { LenSt.init.reg with region := r, bank := s.regBank r, gdp := s.regGdp r }

/-! ### Burst rate (R47, R66, R473, R474) -/

/-- The inner rate changes: the delay line is put at the new rate, and filters take R85 at the next cycle. -/
def rateChanged (toBurst : Bool) (s : State) : State :=
  let g := s.len.sig
  let d := if toBurst then (midpoints g.delay).take 1002 else thinned g.delay
  s.setLen { s.len with sig := { g with delay := d }, rateNew := true }

/-- Ask for burst rate. -/
def askBurst (s : State) : State := s.setLen { s.len with bur := { s.len.bur with req := true, reqAt := s.now } }

/-- Leave burst rate. -/
def leaveBurst (s : State) : State := if s.len.bur.on then endBurst (rateChanged false s) else s

/-- The governor's decision on a request made before this boundary. -/
def decideBurst (s : State) : State :=
  let b := s.len.bur
  if ¬ b.req ∨ s.now ≤ b.reqAt then s
  else
    let s' := s.setLen { s.len with bur := { b with req := false } }
    if b.on then s'
    else if s.burstOk then
      let s' := rateChanged true (s'.setLen { s'.len with bur := ⟨true, false, b.reqAt⟩ })
      (s'.setPwr { s'.pwr with burstStart := some s.now }).rsat .pwrBurstcnt 0 16 1
    else s'.rsb .pwrEvt 5 true

/-- BURST_FORCED_EXIT (R474), at an outer boundary. -/
def execBurstForcedExit (t : Nat) (s : State) : Host.Outcome State Fault Refusal :=
  let s := s.begin t
  .next (match s.pwr.burstStart with
    | some b =>
      if s.len.bur.on ∧ s.onGrid 40000 ∧ (b + burstLimit s.pwr.inlet ≤ s.now ∨ 550 < s.pwr.inlet ∨ 1100 ≤ s.pwr.junc) then
        fault 0x09F0 .l0 (((leaveBurst (noteOld s)).rsb .pwrEvt 4 true).rsat .pwrBurstcnt 16 16 1)
      else s
    | none => s)

/-- DWELL_END (R88). -/
def execDwellEnd (t : Nat) (s : State) : Host.Outcome State Fault Refusal :=
  let s := s.begin t
  let r := s.len.reg
  .next (if r.dwell ≤ 1 ∧ s.len.outerAt + 40000 ≤ s.now then s.setLen { s.len with reg := { r with dwell := 0 } } else s)

/-- BLEND_END (R91). -/
def execBlendEnd (t : Nat) (s : State) : Host.Outcome State Fault Refusal :=
  let s := s.begin t
  let r := s.len.reg
  .next (match r.blendAt with
    | some b => if b + r.blendLen ≤ s.now then s.setLen { s.len with reg := { r with blendAt := none } } else s
    | none => s)

/-! ### Arm energy (R105-R109) -/

/-- E_cell / E_b (R18, R105). -/
def State.eCell (s : State) : Num :=
  let v := s.rnum .lenBase 4
  ((s.rnum .winCcell).mul (v.mul v)).div ((Num.ofInt 2000).mul (s.rnum .lenBase 0))

/-- Available and CHARGING cells of arm a. -/
def State.energyCells (s : State) (a : Nat) : List Nat :=
  (s.slotsOf a).filter (fun i => s.usable i || decide (s.cst i = 5) || decide (s.cst i = 2))

/-- Energy of arm a from the newest telemetry (R105). -/
def State.armEnergy (s : State) (a : Nat) : Num :=
  let e := s.eCell
  let vb := s.rnum .lenBase 4
  (s.energyCells a).foldl (fun x i =>
    let r := (kvOf (s.cell i).tel.vcap).div vb
    x.add ((r.mul r).mul e)) Num.zero

/-- Mean of a list; 0 where it is empty. -/
def mean (l : List Num) : Num :=
  if l.isEmpty then Num.zero else (l.foldl Num.add Num.zero).div (Num.ofInt l.length)

/-- Outer samples in a period of f_b. -/
def State.winLen (s : State) : Nat := if s.rg .lenBase 2 = 0x42700000 then 167 else 200

/-- One PI of the outer rate (R78). -/
def outerPi (s : State) (j : Nat) (x e : Num) : Num × Num :=
  let b := s.len.reg.bank
  piStep (s.bankNum b j) (s.bankNum b (j + 1)) tOut x e

/-- Arm energy control of an outer boundary (R105-R107). -/
def energyStep (s : State) : State :=
  let n := s.len.ene
  let b := s.len.reg.bank
  let k (j : Nat) : Num := s.bankNum b j
  let now := (List.range 6).map s.armEnergy
  let win := (now :: n.win).take s.winLen
  let avg := (List.range 6).map (fun a => mean (win.map (fun r => r.getD a Num.zero)))
  let w := (List.range 6).map (fun a => lowPass (n.lp.getD a Num.zero) (avg.getD a Num.zero) (k 47))
  let wa (a : Nat) : Num := w.getD a Num.zero
  let tot := (List.range 6).foldl (fun x a => x.add (wa a)) Num.zero
  let cells := ((List.range 6).map (fun a => (s.availOf a).length)).sum
  let v := s.len.emf.vdcPu
  let wref := ((k 32).mul ((Num.ofInt cells).mul s.eCell)).mul (num1.add ((k 39).mul ((v.mul v).sub num1)))
  let et := wref.sub tot
  let pt := outerPi s 33 n.xt et
  let three := Num.ofInt 3
  let ff := if s.rb .lenInsel 8 8 then ((s.len.inp.val.getD 8 Num.zero).mul (Num.ofRatio 1 1000)).div s.ib
    else ((s.len.emf.pm.mul (s.rnum .lenBase 0)).div (v.mul s.vdcb)).div s.ib
  let cdc := k 40
  let cf := k 41
  let rows := (List.range 3).map (fun x =>
    let eh := (tot.div three).sub ((wa (2 * x)).add (wa (2 * x + 1)))
    let ev := (wa (2 * x)).sub (wa (2 * x + 1))
    let ph := outerPi s 35 (n.xh.getD x Num.zero) eh
    let pv := outerPi s 37 (n.xv.getD x Num.zero) ev
    let dc := ((((k 42).mul ff).div three).add (pt.1.div three)).add ph.1
    let dc' := Num.clamp cdc.neg cdc dc
    let af := Num.clamp cf.neg cf pv.1
    let dcHit := Num.lt cdc dc.abs
    let afHit := Num.lt cf pv.1.abs
    (dc', af, dcHit, eh, ev, if dcHit then n.xh.getD x Num.zero else ph.2, if afHit then n.xv.getD x Num.zero else pv.2))
  let hitT := rows.any (fun r => r.2.2.1)
  let sat := anySat (rows.map (fun r => r.1) ++ rows.map (fun r => r.2.1) ++ [tot, wref, pt.2]
    ++ rows.map (fun r => r.2.2.2.2.2.1) ++ rows.map (fun r => r.2.2.2.2.2.2) ++ w)
  let lim := (k 45).mul (wref.div (Num.ofInt 6)).abs
  let out (a : Nat) : Bool := Num.lt lim ((wa a).sub (wref.div (Num.ofInt 6))).abs
  let dev := (List.range 6).map (fun a => if out a && decide (s.mode = .run) then some ((n.dev.getD a none).getD s.now) else none)
  let anyOut := (List.range 6).any out
  let devIn := if anyOut then none else some (n.devIn.getD s.now)
  let long := match devIn with
    | some d => decide (d + 40000000 ≤ s.now)
    | none => false
  let n' : EneSt :=
    { win := win.map (fun r => r.map Num.clear), lp := w, xt := if hitT then n.xt else pt.2.clear
      xh := rows.map (fun r => r.2.2.2.2.2.1.clear), xv := rows.map (fun r => r.2.2.2.2.2.2.clear)
      idc := rows.map (fun r => r.1.clear), icf := rows.map (fun r => r.2.1.clear)
      errs := et.clear :: (rows.map (fun r => r.2.2.2.1.clear) ++ rows.map (fun r => r.2.2.2.2.1.clear))
      dev := dev, devIn := devIn, devRaised := n.devRaised && !long }
  let s := s.setLen { s.len with ene := n' }
  let s := (List.range 6).foldl (fun s a => s.rs .winWarm (wa a).toB32 a) s
  noteSat sat ((s.rs .winWtot tot.toB32).rs .winWref wref.toB32)

/-- ENERGY_DEVIATION (R109). -/
def execEnergyDeviation (t : Nat) (s : State) : Host.Outcome State Fault Refusal :=
  let s := s.begin t
  let n := s.len.ene
  let due := n.dev.any (fun d => match d with
    | some b => decide (b + 40000000 ≤ s.now)
    | none => false)
  .next (if s.mode = .run ∧ due ∧ ¬ n.devRaised then
    fault 0x0441 .l1 ((s.setLen { s.len with ene := { n with devRaised := true } }).rsb .winEvt 4 true)
  else s)

/-! ### Precharge (R110, R111) -/

/-- Mean usable cell voltage of arm a in pu; none without a usable cell. -/
def State.meanPu (s : State) (a : Nat) : Option Num :=
  let l := s.usableOf a
  if l.isEmpty then none else some ((mean (l.map (fun i => kvOf (s.cell i).tel.vcap))).div (s.rnum .lenBase 4))

/-- Every arm's mean usable voltage is at least `x`. -/
def State.allAbove (s : State) (x : Num) : Bool :=
  (List.range 6).all (fun a => match s.meanPu a with
    | some v => Num.le x v
    | none => false)

/-- The precharge stages of an outer boundary. -/
def prechargeStep (s : State) : State :=
  let w := s.win
  match w.stage with
  | 1 =>
    if s.allAbove (Num.ofRatio (s.rf .winPccfg 0 8) 100) then
      let s := (List.range 6).foldl (fun s a =>
        s.setArm a { s.arm a with npc := max (10 * s.nMin.toNat) (10 * (s.usableOf a).length), deblocked := true, dir := 1 }) s
      { s with win := { w with stage := 2 } }
    else s
  | 2 =>
    let held := s.allAbove (s.bankNum s.len.reg.bank 46)
    let floor := 10 * s.nMin.toNat
    if held then { s with win := { w with stage := 3 } }
    else (List.range 6).foldl (fun s a =>
      let x := s.arm a
      s.setArm a { x with npc := max floor (x.npc - s.rf .winPccfg 8 8) }) s
  | _ => s

/-- The conditions of R111. -/
def State.readyNow (s : State) : Bool :=
  decide (s.win.stage = 3) && (List.range 6).all (fun a =>
    decide (s.nMin + (s.rf .winReady 0 8 : Nat) ≤ ((s.usableOf a).length : Int)) && (match s.meanPu a with
      | some v => Num.le (s.bankNum s.len.reg.bank 46) v && Num.le v (Num.ofRatio 11 10)
      | none => false))

/-- Follow the conditions of R111; the flag falls at once. -/
def watchReady (s : State) : State :=
  if s.mode = .precharge ∧ s.readyNow then { s with win := { s.win with readySince := some (s.win.readySince.getD s.now) } }
  else { s with win := { s.win with readySince := none, ready := false } }

/-- ENERGY_READY (R111). -/
def execEnergyReady (t : Nat) (s : State) : Host.Outcome State Fault Refusal :=
  let s := s.begin t
  .next (match s.win.readySince with
    | some b =>
      if s.mode = .precharge ∧ s.readyNow ∧ b + s.rf .winReady 8 8 * 400000 ≤ s.now then
        { s with win := { s.win with ready := true } }
      else s
    | none => s)

end Sys2Proof.Machine
end

