-- ==== Sys2Proof/Machine/LoopOut.lean ====
section
/-!
DEFINITION. The outer control laws of grid forming (R23-R29, R34, R35, R37, R44-R46, R49, R51-R58, R60, R61) as an outer
boundary runs them, and the entries to the states and sub-modes (R36, R39).
-/
namespace Sys2Proof.Machine

/-! ### Measurement (R24, R63) -/

/-- Power and sequence measurement of an outer boundary. -/
def outerMeasure (s : State) : State :=
  let g := s.len.sig
  let p := (g.v1.a.mul g.i1.a).add (g.v1.b.mul g.i1.b)
  let q := (g.v1.b.mul g.i1.a).sub (g.v1.a.mul g.i1.b)
  let f := biqAll s 6 0 [p, q] s.len.con.biq
  let b := s.len.reg.bank
  let e := s.len.emf
  let m1 := g.v1.mag
  let m2 := g.v2.mag
  let e' := { e with pm := lowPass e.pm (f.1.getD 0 Num.zero) (s.bankNum b 9), qm := lowPass e.qm (f.1.getD 1 Num.zero) (s.bankNum b 10)
                     v1m := m1.clear, v2m := m2.clear, vdcPu := g.vdc.clear }
  noteSat (anySat (m1 :: m2 :: p :: q :: f.1)) (s.setLen { s.len with emf := e', con := { s.len.con with biq := f.2 } })

/-- Positive-sequence bus voltage and tie voltage as vectors, single-phase where only VTIE_A is enabled (R70). -/
def State.tieVecs (s : State) : Vec × Vec :=
  let d := s.len.sig.delay
  let q := s.quarter
  if s.rb .lenInsel 8 4 && s.rb .lenInsel 8 5 then (s.len.sig.v1, (separate d 4 q).1)
  else (⟨(d.getD 0 []).getD 6 Num.zero, delayed d 6 q⟩, ⟨(d.getD 0 []).getD 7 Num.zero, delayed d 7 q⟩)

/-- Angle of a vector. -/
def Vec.angle (v : Vec) : Word := Config.angleOf v.a.m v.a.e v.b.m v.b.e

/-! ### Requests waiting for a boundary (R38) -/

/-- Whether mode request `op` is outstanding. -/
def State.asked (s : State) (op : Nat) : Bool :=
  [0, 1, 2, 3].any (fun q => (s.path q).outst.any (fun o => decide (o.wait = .mode op)))

/-- Answer mode request `op`. -/
def answerMode (op : Nat) (st : Status) (s : State) : State := answerAll (fun w => decide (w = .mode op)) st 0 [] s

/-- Every other mode request is overtaken (R39). -/
def overtake (s : State) : State :=
  answerAll (fun w => match w with
    | .mode _ => true
    | _ => false) .aborted 0 [] s

/-- Opcodes of the mode requests that wait; a cancel of resynchronisation has bit 16 set. -/
def opStart : Nat := 0x0301
def opBlack : Nat := 0x0302
def opIsland : Nat := 0x0303
def opResync : Nat := 0x0304
def opCancel : Nat := 0x10304
def opStop : Nat := 0x0305

/-- A sub-mode decision is taken at this boundary. -/
def noteMove (s : State) : State :=
  let s := noteOld s
  s.setLen { s.len with run := { s.len.run with moved := some s.now } }

/-- None has been taken at this instant yet. -/
def State.undecided (s : State) : Bool := decide (s.len.run.moved ≠ some s.now)

/-! ### Start and stop of the loop engine (R19, R37, R55, R58, R71) -/

/-- Put every arm's deblocked mark. -/
def deblockArms (s : State) : State :=
  (List.range 6).foldl (fun s a => s.setArm a { s.arm a with deblocked := true }) s

/-- Enter PRECHARGE: the engine starts from its initial state; limiter history, reports and inputs stay. -/
def enterPrecharge (s : State) : State :=
  let l := s.len
  let z := LenSt.init
  let inp := { l.inp with miss := List.replicate 15 0, stale := List.replicate 15 false }
  let run := { z.run with tie := l.run.tie, ac := l.run.ac }
  let lim := { l.lim with start := none, below := none, peak := false, spent := false, active := false, seenPeak := false,
                          sum := Num.zero }
  let s := s.setLen { z with cyc := l.cyc, launch := l.launch, inp := inp, lim := lim, reg := startRegion s, run := run
                             glob := (List.range 32).map (fun i => s.rg .lenGlob i) }
  let s := (List.range 6).foldl (fun s a =>
    s.setArm a { Arm.init with sort := (s.arm a).sort, sortNext := (s.arm a).sortNext, vAvg := (s.arm a).vAvg,
                               short := (s.arm a).short }) s
  setMode .precharge s.sub { s with win := { s.win with stage := 1, ready := false, readySince := none } }

/-- The blocks that do not run in PRECHARGE take their initial state, and the arms are deblocked (R37, R500). -/
def enterRun (b : Sub) (emf : EmfSt) (s : State) : State :=
  let l := s.len
  let z := LenSt.init
  let con := { z.con with biq := l.con.biq, ff := l.sig.vbus }
  let frt := { z.frt with hist := l.frt.hist }
  let sat := anySat [emf.om, emf.e, emf.xv, emf.ev, emf.pset]
  let emf := { emf with om := emf.om.clear, omLp := emf.omLp.clear, e := emf.e.clear, xv := emf.xv.clear, ev := emf.ev.clear,
                        pset := emf.pset.clear }
  let s := s.setLen { l with emf := emf, con := con, frt := frt, rs := z.rs, run := { l.run with estAt := none, estV := [] } }
  noteSat sat <| setMode .run b (deblockArms { s with win := { s.win with stage := 0, ready := false, readySince := none } })

/-- P_set′ at deblock (R37). -/
def State.pStart (s : State) : Num :=
  if s.rb .lenModecfg 0 then
    Num.clamp (Num.ofInt (-1)) num1 ((s.gl 25).mul (s.len.emf.vdcPu.sub (s.gl 24)))
  else Num.zero

/-- Frequency of the start estimate in pu of f_b: the angle its vectors turn through (R37). -/
def State.estOmega (s : State) (vs : List Vec) : Num :=
  let turn : Int := (List.zipWith (fun a b => shortDiff b.angle a.angle) vs (vs.drop 1)).sum
  let dt : Nat := 40000 * (vs.length - 1)
  ((Num.ofRatio turn (2 ^ 32)).div (Num.ofRatio dt 400000000)).div s.fb

/-- The state at a start into GF (R37). -/
def startEmf (s : State) : EmfSt :=
  let e := s.len.emf
  let v := s.len.sig.v1
  let b := s.len.reg.bank
  let wset := (s.gl 6).div s.fb
  let d := (s.gl 2).div s.fb
  let w := Num.clamp (wset.sub d) (wset.add d) (s.estOmega s.len.run.estV)
  let ev := ((s.gl 7).sub ((s.bankNum b 4).mul e.qm)).sub e.v1m
  { e with th := v.angle, thAt := s.cnt, om := w, omLp := w, e := e.v1m
           xv := e.v1m.sub ((s.bankNum b 7).mul ev), ev := ev, pset := s.pStart, qset := Num.zero
           fset := s.gl 6, xdc := Num.zero, clamp := false, blendFrom := Num.zero, blendAt := none, wasLim := false,
           vset := s.gl 7 }

/-- The state at a black start (R55). -/
def blackEmf (s : State) : EmfSt :=
  let w := (s.gl 6).div s.fb
  { s.len.emf with th := 0, thAt := s.cnt, om := w, omLp := w, e := Num.zero, xv := Num.zero, ev := Num.zero
                   pset := s.pStart, qset := Num.zero, fset := s.gl 6, xdc := Num.zero, clamp := false
                   blendFrom := Num.zero, blendAt := none, wasLim := false, vset := s.gl 7 }

/-- What a sub-mode leaves behind: ride-through ends with its burst, the resynchronisation controller stops and its
offsets ramp out, the permit is withdrawn (R47, R53, R54). The peak stage of an episode that runs on counts in ISLAND (R49). -/
def leaveSub (s : State) : State :=
  let wasFrt := decide (s.sub = .frt)
  let s := if wasFrt then leaveBurst s else s
  let l := s.len
  let permit := l.rs.permit
  let frt := { l.frt with isl := false, hold := none }
  let bur := if wasFrt then { l.bur with req := false } else l.bur
  let rs := { l.rs with on := false, paused := false, permit := false, ok := none, close := none }
  let s := s.setLen { l with frt := frt, bur := bur, rs := rs, run := { l.run with islSince := none } }
  if permit then emit 0 5 0 s else s

/-- Enter STOPPING (R58); an addition of the DC guard goes on as R61 says. -/
def toStopping (s : State) : State :=
  let s := leaveSub (noteMove s)
  let e := s.len.emf
  let r := s.len.run
  let t := (Num.max e.pset.abs e.qset.abs).div (s.gl 23)
  let run := { r with stopAt := s.now, stopEnd := s.now + secTicks t + 40000000, stopReq := false, tieReq := none }
  let s := s.setLen { s.len with run := run, frt := { s.len.frt with recovered := false } }
  setMode .stopping (if s.sub = .frt then .gf else s.sub) s

/-- Enter ISLAND from GF or FRT. -/
def toIsland (s : State) : State :=
  let s := leaveSub (noteMove s)
  let s := s.setLen { s.len with run := { s.len.run with tieReq := none } }
  emit 0 3 0 (setMode .run .island s)

/-- Enter GF from ISLAND at a closure of the tie (R53). -/
def closeTie (s : State) : State :=
  let permit := s.len.rs.permit
  let s := leaveSub (noteMove s)
  let s := s.setLen { s.len with run := { s.len.run with tieReq := none } }
  let s := setMode .run .gf s
  if permit then s else fault 0x0523 .l1 s

/-! ### Ride-through (R42-R49) -/

/-- Words and flags of a profile. -/
def State.prf (s : State) (p j : Nat) : Num := s.rnum .lenProf p j
def State.prfFlag (s : State) (p k : Nat) : Bool := s.rb .lenProf k p 9

/-- The first two entry conditions of profile p (R43). -/
def State.dips (s : State) (p : Nat) : Bool :=
  Num.lt s.len.emf.v1m (s.prf p 0) || Num.lt (s.prf p 2) s.len.emf.v2m

/-- The exit conditions of profile p (R46). -/
def State.recovers (s : State) (p : Nat) : Bool :=
  Num.le (s.prf p 1) s.len.emf.v1m && Num.le s.len.emf.v2m (s.prf p 3)

/-- V_pre (R44). -/
def State.vPre (s : State) : Num := if s.len.frt.hist.isEmpty then s.len.emf.v1m else (mean s.len.frt.hist).clear

/-- Freeze V_pre and P_pre for profile p. -/
def freeze (p : Nat) (f : FrtSt) (s : State) : FrtSt :=
  { f with prof := p, entered := s.now, vPre := s.vPre, pPre := (s.len.emf.pset.add s.len.run.guardAdd).clear, recovered := false
           gPre := s.len.run.guardAdd, hold := none }

/-- Enter FRT from GF (R43, R47). -/
def toFrt (s : State) : State :=
  let p := s.rf .lenModecfg 4 3
  let s := noteMove s
  let s := s.setLen { s.len with frt := freeze p s.len.frt s, run := { s.len.run with islSince := none } }
  let s := s.when (s.prfFlag p 2) askBurst
  emit 0 1 0 (setMode .run .frt s)

/-- The demands of R44. -/
def demands (s : State) : State :=
  let f := s.len.frt
  let e := s.len.emf
  let pf := if f.recovered then e.pset.add s.len.run.guardAdd else f.pPre
  let gq := (s.prf f.prof 4).mul (Num.max Num.zero (f.vPre.sub e.v1m))
  let g2 := (s.prf f.prof 5).mul e.v2m
  let gp := pf.div (Num.max e.v1m (Num.ofRatio 5 100))
  noteSat (anySat [gq, g2, gp]) (s.setLen { s.len with frt := { f with gq := gq.clear, g2 := g2.clear, gp := gp.clear } })

/-- Voltage recovery and T_HOLD in FRT (R46): P_set′, with what the DC guard adds, restarts from the measured power. -/
def watchRecovery (s : State) : State :=
  let f := s.len.frt
  if s.recovers f.prof then
    let s := if f.recovered then s else s.setLen { s.len with emf := { s.len.emf with pset := (s.len.emf.pm.sub s.len.run.guardAdd).clear } }
    s.setLen { s.len with frt := { f with recovered := true, hold := some (f.hold.getD s.now) } }
  else s.setLen { s.len with frt := { f with hold := none } }

/-- Ride-through conditions in ISLAND (R49). -/
def watchIsland (s : State) : State :=
  let f := s.len.frt
  let p := if f.isl then f.prof else s.rf .lenModecfg 8 3
  let on := s.dips p || f.islPeak
  if on ∧ ¬ f.isl then
    let r := s.len.rs
    let rs := { r with paused := true, permit := false, ok := none, close := none }
    let s := s.setLen { s.len with frt := { freeze p f s with isl := true }, rs := rs }
    let s := if r.permit then emit 0 5 0 s else s
    emit 0 9 0 s
  else if on then s
  else s.setLen { s.len with frt := { f with isl := false }, rs := { s.len.rs with paused := false } }

/-! ### Setpoints (R29, R46, R58, R60, R61) -/

/-- The DC voltage guard of R61 in PDC role, wherever P_set′ drives the swing equation. -/
def guardStep (s : State) : State :=
  let r := s.len.run
  let v := s.len.emf.vdcPu
  let lo := s.gl 27
  let hi := s.gl 28
  let out := Num.lt v lo || Num.lt hi v
  let run := (decide (s.mode = .run) || decide (s.mode = .stopping)) && !(s.rb .lenModecfg 0)
  if run ∧ (r.guard ∨ out) then
    let edge := if Num.lt v lo then lo else if Num.lt hi v then hi else r.guardEdge
    let add := (v.sub edge).div (s.gl 29)
    let r' := { r with guard := true, guardEdge := edge, guardBack := if out then none else some (r.guardBack.getD s.now)
                       guardAdd := add.clear }
    let s := noteSat add.sat (s.setLen { s.len with run := r' })
    if r.guard then s else fault 0x0525 .l1 s
  else
    s.setLen { s.len with run := { r with guard := false, guardAdd := (rampTo r.guardAdd Num.zero ((s.gl 8).mul tOut)).clear } }

/-- One step of the setpoints. The ramp after a ride-through ends where P_set′ without the guard's addition stood. -/
def setpoints (s : State) : State :=
  let e := s.len.emf
  let f := s.len.frt
  let vdc := s.rb .lenModecfg 0
  let d (i : Nat) : Num := (s.gl i).mul tOut
  let err := e.vdcPu.sub (s.gl 24)
  let u := piStep (s.gl 25) (s.gl 26) tOut e.xdc err
  let uc := Num.clamp (Num.ofInt (-1)) num1 u.1
  let hit := Num.lt num1 u.1.abs
  let goal := f.pPre.sub f.gPre
  let rec_ := rampTo e.pset goal ((s.prf f.prof 8).mul tOut)
  let steady := decide (s.mode = .run) && (decide (s.sub = .gf) || decide (s.sub = .island))
  let stop := decide (s.mode = .stopping)
  let recov := f.recovered && (steady || decide (s.sub = .frt)) && !stop
  let byPi := vdc && !stop && !recov && decide (s.sub ≠ .frt)
  let p := if stop then rampTo e.pset Num.zero (d 23)
    else if recov then rec_
    else if byPi then uc
    else if steady then rampTo e.pset (s.gl 4) (d 8)
    else e.pset
  let q := if stop then rampTo e.qset Num.zero (d 23) else if steady then rampTo e.qset (s.gl 5) (d 9) else e.qset
  let fs := if steady then rampTo e.fset (s.gl 6) (d 10) else e.fset
  let done := steady && decide (p.clear = goal.clear)
  let e' := { e with pset := p.clear, qset := q.clear, fset := fs.clear, xdc := if byPi && !hit then u.2.clear else e.xdc
                     vset := if steady then s.gl 7 else e.vset }
  noteSat (anySat ([p, q, fs] ++ (if byPi then [u.1, u.2] else [])))
    (s.setLen { s.len with emf := e', frt := { f with recovered := f.recovered && !done } })

/-! ### Resynchronisation (R51-R54) -/

/-- The offsets return to zero. -/
def rampOffsets (s : State) : State :=
  let r := s.len.rs
  let fo := rampTo r.fOff Num.zero ((s.gl 10).mul tOut)
  let vo := rampTo r.vOff Num.zero ((Num.ofRatio 5 100).mul tOut)
  noteSat (anySat [fo, vo]) (s.setLen { s.len with rs := { r with fOff := fo.clear, vOff := vo.clear } })

/-- The resynchronisation controller of an outer boundary. -/
def resyncStep (s : State) : State :=
  let r := s.len.rs
  if ¬ r.on then rampOffsets s
  else
    let (bus, tie) := s.tieVecs
    let ab := bus.angle
    let at_ := tie.angle
    let hz (a b : Word) : Num := Num.ofRatio (shortDiff a b * 10000) (2 ^ 32)
    let df := if r.seen then (hz at_ r.angTie).sub (hz ab r.angBus) else Num.zero
    let dth := Num.ofRatio (shortDiff at_ ab * 360) (2 ^ 32)
    let dv := tie.mag.sub bus.mag
    let s := noteSat (anySat [df, dth, dv]) s
    let r := { r with angBus := ab, angTie := at_, seen := true, df := df.clear, dth := dth.clear, dv := dv.clear }
    if r.paused ∨ ¬ s.len.rs.seen then s.setLen { s.len with rs := r }
    else
      let step := Num.ofRatio 1 100000
      let goal := if Num.lt (Num.ofRatio 5 100) df.abs then df
        else Num.clamp (Num.ofRatio (-5) 100) (Num.ofRatio 5 100) ((Num.ofRatio 5 1000).mul dth)
      let vs := (Num.ofRatio 5 100).mul tOut
      let ok := Num.le dth.abs (s.gl 17) && Num.le df.abs (Num.ofRatio 1 10) && Num.le dv.abs (Num.ofRatio 5 100)
      let near := r.permit && ok && Num.lt (Vec.sub bus tie).mag (Num.ofRatio 1 100)
      let fo := r.fOff.add (Num.clamp step.neg step goal)
      let vo := r.vOff.add (Num.clamp vs.neg vs dv)
      let r' := { r with fOff := fo.clear, vOff := vo.clear,
                         ok := if ok then some (r.ok.getD s.now) else none, permit := r.permit && ok
                         close := if near then some (r.close.getD s.now) else none }
      let s := noteSat (anySat [fo, vo]) (s.setLen { s.len with rs := r' })
      if r.permit && !ok then emit 0 5 0 s else s

/-- Start the controller (R51). -/
def startResync (s : State) : State :=
  s.setLen { s.len with rs := { s.len.rs with on := true, paused := s.len.frt.isl, started := s.now, ok := none, close := none, seen := false } }

/-- The controller stops (R54). -/
def stopResync (s : State) : State :=
  let p := s.len.rs.permit
  let s := s.setLen { s.len with rs := { s.len.rs with on := false, permit := false, ok := none, close := none } }
  if p then emit 0 5 0 s else s

/-! ### Swing equation and EMF magnitude (R23-R27, R34, R35, R45, R55, R56) -/

/-- The black-start ramp (R55-R57). -/
def blackStep (s : State) : State :=
  let r := s.len.run
  let dt := s.now - r.bsLast
  let paused := if s.len.lim.start.isSome then r.bsPaused + dt else r.bsPaused
  let ramp := secTicks (s.gl 22)
  let gone := s.now - r.bsAt - paused
  let v0 := s.gl 20
  let vt := s.gl 21
  let val := v0.add ((vt.sub v0).mul (Num.ofRatio (min gone ramp : Nat) (max 1 ramp)))
  let reached := r.bsReached || decide (ramp ≤ gone)
  let near := reached && Num.le (s.len.emf.v1m.sub vt).abs (Num.ofRatio 2 100)
  noteSat val.sat (s.setLen { s.len with run := { r with bsVal := val.clear, bsPaused := paused, bsLast := s.now,
                                                          bsReached := reached,
                                                          bsOk := if near then some (r.bsOk.getD s.now) else none } })

/-- One step of the swing equation and of the voltage controller. P_virt replaces P_meas while a limiting episode runs in GF,
ISLAND or BLACKSTART (R34), and the difference at its end is blended out (R35); FRT uses its profile's input and, from
voltage recovery, P_meas alone (R45, R46). -/
def emfStep (s : State) : State :=
  let l := s.len
  let e := l.emf
  let k (j : Nat) : Num := s.bankNum l.reg.bank j
  let th := e.angleAt s.fb s.cnt
  let v1q := (park th l.sig.v1).b
  let pv := ((e.e.mul v1q).neg).div (s.gl 3)
  let ride := decide (s.mode = .run) && rideActive s.sub l.frt && !(decide (s.sub = .frt) && l.frt.recovered)
  let virt := ride && s.prfFlag l.frt.prof 1
  let hold := ride && !virt
  let steady := decide (s.mode = .run) && decide (s.sub ≠ .frt)
  let lim := steady && l.lim.start.isSome
  let ends := steady && e.wasLim && !lim
  let from_ := if ends then (pv.sub e.pm).clear else e.blendFrom
  let at_ := if lim ∨ (s.mode = .run ∧ s.sub = .frt) then none else if ends then some s.now else e.blendAt
  let mix : Num := match at_ with
    | some t0 => from_.mul (num1.sub (Num.ofRatio (min (s.now - t0) 8000000 : Nat) 8000000))
    | none => Num.zero
  let psw := if virt || lim then pv else e.pm.add mix
  let wset := (e.fset.add l.rs.fOff).div s.fb
  let band := (s.gl 2).div s.fb
  let rhs := (((e.pset.add l.run.guardAdd).add ((wset.sub e.om).div (k 3))).sub psw).sub ((k 1).mul (e.om.sub e.omLp))
  let w := e.om.add ((tOut.mul rhs).div (num2.mul (k 0)))
  let lo := wset.sub band
  let hi := wset.add band
  let clamp := Num.lt w lo || Num.lt hi w
  let wl := e.omLp.add ((tOut.mul (e.om.sub e.omLp)).div (k 2))
  let vset := if s.sub = .blackstart then l.run.bsVal else e.vset
  let ev := ((vset.add l.rs.vOff).add ((k 4).mul (e.qset.sub e.qm))).sub e.v1m
  let u := piStep (k 7) (k 8) tOut e.xv ev
  let ec := Num.clamp (s.gl 0) (s.gl 1) u.1
  let hit := Num.lt u.1 (s.gl 0) || Num.lt (s.gl 1) u.1
  let e' := { e with th := th, thAt := s.cnt, om := if hold then e.om else (Num.clamp lo hi w).clear
                     omLp := if hold then e.omLp else wl.clear, e := ec.clear, xv := if hit then e.xv else u.2.clear
                     ev := ev.clear, clamp := if hold then e.clamp else clamp, blendFrom := from_, blendAt := at_, wasLim := lim }
  let s := noteSat (anySat [w, wl, u.1, u.2, psw, pv, ev]) (s.setLen { l with emf := e' })
  if clamp ∧ ¬ hold ∧ ¬ e.clamp then emit 0 8 0 s else s

/-- Automatic islanding: since when |f − f_set| has exceeded F_ISL in GF (R50). -/
def watchAuto (s : State) : State :=
  let e := s.len.emf
  let f := (s.fb.mul e.om).sub (e.fset.add s.len.rs.fOff)
  let on := s.rb .lenModecfg 1 && decide (s.mode = .run) && decide (s.sub = .gf) && Num.lt (s.gl 15) f.abs
  s.setLen { s.len with run := { s.len.run with islSince := if on then some (s.len.run.islSince.getD s.now) else none } }

end Sys2Proof.Machine
end

