-- ==== Sys2Proof/Machine/Modes.lean ====
section
/-!
DEFINITION. What an outer boundary decides (R36-R39) and runs (R89), its dead times, records and readouts, and what a
checkpoint carries.
-/
namespace Sys2Proof.Machine

/-! ### Decisions of a boundary (R36-R39) -/

/-- A stop at a boundary in PRECHARGE (R59). -/
def stopPrecharge (s : State) : State := overtake (answerMode opStop .ok (enterArmed (blockAll s)))

/-- Black start at a boundary (R55). -/
def enterBlack (s : State) : State :=
  let s := enterRun .blackstart (blackEmf s) s
  let r := { s.len.run with bsAt := s.now, bsVal := s.gl 20, bsPaused := 0, bsLast := s.now, bsReached := false, bsOk := none }
  overtake (answerMode opBlack .ok (s.setLen { s.len with run := r }))

/-- The ride-through conditions of GF hold at this boundary (R43). -/
def State.frtEntry (s : State) : Bool := s.dips (s.rf .lenModecfg 4 3) || s.len.lim.seenPeak

/-- What may change the state or sub-mode at an outer boundary (R36). -/
inductive Cause where
  | frtTrip | stop | frtStop | bsFail
  | tieOpen | autoIsland | tieClosed | closure
  | frtEntry | frtExit
  | reqStop | reqIsland | reqCancel | reqResync
  | bsDone | deblock | reqBlack | stopped
deriving DecidableEq, Repr

/-- T_MAX has been reached (R48). -/
def State.frtTimedOut (s : State) : Bool :=
  decide (s.sub = .frt) && decide (s.len.frt.entered + secTicks (s.prf s.len.frt.prof 7) ≤ s.now)

/-- The black start has been paused for more than 2 · BS_TRAMP + 1 s (R56). -/
def State.bsFailed (s : State) : Bool :=
  decide (s.sub = .blackstart) && decide (2 * secTicks (s.gl 22) + 400000000 < s.len.run.bsPaused)

/-- |f − f_set| has exceeded F_ISL for T_ISL (R50). -/
def State.autoDue (s : State) : Bool :=
  decide (s.sub = .gf) && s.rb .lenModecfg 1 && (match s.len.run.islSince with
    | some b => decide (b + secTicks (s.gl 16) ≤ s.now)
    | none => false)

/-- VBUS and VTIE have matched for 20 ms under permit (R53). -/
def State.closureDue (s : State) : Bool :=
  decide (s.sub = .island) && s.len.rs.permit && (match s.len.rs.close with
    | some b => decide (b + 8000000 ≤ s.now)
    | none => false)

/-- T_HOLD has expired before this boundary and both exit conditions still hold (R46). -/
def State.frtExitDue (s : State) : Bool :=
  decide (s.sub = .frt) && (match s.len.frt.hold with
    | some h => decide (h + msTicks (s.prf s.len.frt.prof 6) < s.now) && s.recovers s.len.frt.prof
    | none => false)

/-- The black start is complete (R57). -/
def State.bsComplete (s : State) : Bool :=
  decide (s.sub = .blackstart) && (match s.len.run.bsOk with
    | some b => decide (b + 40000000 ≤ s.now)
    | none => false)

/-- The estimate of a start has run for two cycles of f_b (R36, R37). -/
def State.deblockDue (s : State) : Bool :=
  match s.len.run.estAt with
  | some b => decide (b + secTicks (num2.div s.fb) ≤ s.now)
  | none => false

/-- The causes in RUN, highest first (R39). -/
def State.runCauses (s : State) : List (Bool × Cause) :=
  let r := s.len.run
  let gf := decide (s.sub = .gf)
  let ride := decide (s.sub = .frt)
  let isl := decide (s.sub = .island)
  let out := s.frtTimedOut
  [(out && s.prfFlag s.len.frt.prof 3, .frtTrip),
   (r.stopReq || (s.red.takeReq && !s.pairReady), .stop), (out, .frtStop), (s.bsFailed, .bsFail),
   (decide (r.tieReq = some false) && (gf || ride), .tieOpen), (s.autoDue, .autoIsland),
   (decide (r.tieReq = some true) && isl, .tieClosed), (s.closureDue, .closure),
   (gf && s.frtEntry, .frtEntry), (s.frtExitDue, .frtExit), (s.bsComplete, .bsDone),
   (!ride && s.asked opStop, .reqStop), (gf && s.asked opIsland, .reqIsland),
   (isl && s.asked opCancel, .reqCancel), (isl && s.asked opResync, .reqResync)]

/-- The first cause of a list that holds. -/
def firstCause : List (Bool × Cause) → Option Cause
  | [] => none
  | (b, c) :: r => if b then some c else firstCause r

/-- The highest cause of a change at this outer boundary; one decision is taken at each. -/
def State.cause (s : State) : Option Cause :=
  if ¬ s.undecided then none
  else match s.mode with
    | .precharge => firstCause [(s.asked opStop, .reqStop), (s.deblockDue, .deblock), (s.asked opBlack, .reqBlack)]
    | .run => firstCause s.runCauses
    | .stopping => firstCause [(decide (s.len.run.stopAt < s.now) && Num.le s.len.lim.sum (Num.ofRatio 5 100), .stopped)]
    | _ => none

/-- Act on a cause: the change of R36, the reports of R40 and R41, and the answers of R38 and R39. -/
def takeCause (c : Cause) (s : State) : State :=
  match c with
  | .frtTrip => fault 0x0521 .l3 (noteMove s)
  | .stop => overtake (toStopping { s with red := { s.red with takeReq := false } })
  | .frtStop => fault 0x0520 .l1 (overtake (toStopping s))
  | .bsFail => fault 0x0524 .l1 (overtake (toStopping s))
  | .tieOpen | .autoIsland => overtake (toIsland s)
  | .tieClosed | .closure => overtake (closeTie s)
  | .frtEntry => overtake (toFrt s)
  | .frtExit => overtake (emit 0 2 0 (setMode .run .gf (leaveSub (noteMove s))))
  | .bsDone =>
    let vt := s.rg .lenGlob 21
    let s := (leaveSub (noteMove s)).rs .lenGlob vt 7
    overtake (emit 0 7 0 (setMode .run .gf (s.setLen { s.len with glob := s.len.glob.set 7 vt })))
  | .reqStop => if s.mode = .precharge then stopPrecharge s else overtake (answerMode opStop .ok (toStopping s))
  | .reqIsland => overtake (answerMode opIsland .ok (toIsland s))
  | .reqCancel => overtake (answerMode opCancel .ok (stopResync s))
  | .reqResync => overtake (answerMode opResync .ok (startResync s))
  | .deblock =>
    let s := noteMove s
    overtake (answerMode opStart .ok (enterRun .gf (startEmf s) s))
  | .reqBlack => enterBlack s
  | .stopped => enterArmed (blockAll s)

/-- The decision of an outer boundary (R39). A tie report that does not apply in the sub-mode is spent. -/
def decideMode (s : State) : State :=
  let s := match s.cause with
    | some c => takeCause c s
    | none => if s.running then s else overtake s
  if s.len.run.tieReq.isSome then s.setLen { s.len with run := { s.len.run with tieReq := none } } else s

/-! ### Dead times (R154) -/

/-- F after the codes received since the last boundary, in 2^-24 of 10 ns. -/
def deadNext (fk : Nat) (x : CellTel) : Option Nat :=
  if x.transFF then some (600 * 2 ^ 24)
  else if x.trans = 0 then x.dead
  else
    let m := x.trans * 2 ^ 24
    match x.dead with
    | none => some m
    | some f => if f < m then some m else some ((f : Int) + ((m : Int) - (f : Int)).fdiv ((2 ^ fk : Nat) : Int)).toNat

/-- The update of every enrolled cell. -/
def deadTimes (s : State) : State :=
  let fk := s.rf .fscDtcfg 8 3
  let f (_ : Nat) (c : Cell) : Cell :=
    if 1 ≤ c.prot.st ∧ c.prot.st ≤ 7 then { c with tel := { c.tel with dead := deadNext fk c.tel, trans := 0, transFF := false } }
    else c
  { s with cells := Tab.mapv (fun _ => Cell.init) f s.cells }

/-! ### Readouts and records (R102, R276) -/

/-- The outer readouts. -/
def readouts (s : State) : State :=
  let e := s.len.emf
  let l := s.len.lim
  let r := s.len.rs
  let vals : List Num := [e.om, e.e, e.pm, e.qm, e.v1m, e.v2m, e.vdcPu, l.sum, l.ilim, Num.ofRatio l.budget 4000000000,
    e.pset.add s.len.run.guardAdd, e.qset, r.fOff, r.vOff, r.df, r.dth, r.dv]
  (vals.foldl (fun (x : State × Nat) v => (x.1.rs .lenRd v.toB32 x.2, x.2 + 1)) (s, 1)).1

/-- The LENOUT record. -/
def lenOut (s : State) : State :=
  let rd (i : Nat) : List Byte := leBytes 4 (s.regWord ⟨.lenRd, i, 0⟩).toNat
  let b := recHead 5 0 64 0 s.short ++ leBytes 4 s.lenStat.toNat ++ leBytes 4 (modeCode s.mode + 16 * subCode s.sub)
    ++ ([1, 2, 3, 4, 5, 6, 7, 9, 10, 11, 12] : List Nat).flatMap rd ++ leBytes 4 (s.rg .winWtot).toNat
  dataRec 3 1 s.short b s

/-- The CELL record of a link. -/
def cellRec (l : Nat) (s : State) : State :=
  let c (k : Nat) : CellTel := (s.cell (24 * l + k)).tel
  let stale := ((List.range 24).map (fun k =>
    if s.cst (24 * l + k) = 0 ∨ (c k).rxAt = (s.link l).rxAt then 0 else 2 ^ k)).sum
  let st := s.bOf l
  let b := recHead 6 l 160 0 st ++ leBytes 3 stale ++ leBytes 5 0
    ++ (List.range 24).flatMap (fun k => leBytes 2 (c k).vcap ++ leBytes 2 (c k).status ++ leBytes 1 (c k).temp ++ leBytes 1 (c k).gsv)
  dataRec 4 1 st b s

/-- Links that carry a cell of an arm in REC_CELLCFG.ARM10K. -/
def State.fastLink (s : State) (l : Nat) : Bool :=
  (List.range 24).any (fun k => s.armOf (24 * l + k) ≤ 5 && s.rcd.live.2.2.testBit (s.armOf (24 * l + k)))

/-- CELL records of an outer boundary; every tenth of them is a hundredth frame boundary. -/
def cellRecs (s : State) : State :=
  let all := decide (s.ticks / (s.framePeriod : Int) % 100 = 0)
  (List.range s.links).foldl (fun s l => if s.linkUp l ∧ (all ∨ s.fastLink l) then cellRec l s else s) s

/-! ### Checkpoints and handover (R329, R337) -/

/-- What a checkpoint taken now carries. -/
def State.ckBody (s : State) (handover full : Bool) : CkBody :=
  let all := s.regs.filter (fun p => match decodeReg p.1 with
    | some r => r.name.replicated
    | none => false)
  ⟨s.mode, s.sub, s.len, s.arms, s.cells, s.win, s.ticks, (s.rg .redCkseq).toNat, (s.rg .redEpoch).toNat, handover, s.heldPreps,
    if full then all else s.red.cfgLog, full, s.now, s.cnt⟩

/-- The checkpoint of a boundary leaves for the partner in one segment, with the full resynchronisation it asked for (R321,
R329, R330), unless its buffer is damaged (R427); its size is the unit's own. -/
def sendCheckpoint (ue : Bool) (s : State) : State :=
  if ¬ (s.awn ∧ s.rb .redCtrl 0 ∧ s.red.linkUp) then s
  else if ue then memFault 3 .l1 3 (regAddr .redCkseq) none s
  else
    let size := (Config.freeWord s.fresh).toNat % 49153
    let s := s.rs .redCkseq (s.rg .redCkseq + 1)
    let s := (s.rsf .redCksize 0 16 size).rsf .redCksize 16 16 (max size (s.rf .redCksize 16 16))
    let full := s.red.sendFull
    let hand := s.red.hand.isSome
    let q := (s.rg .redCkseq).toNat
    let out := [Out.segment ⟨false, q, 0, true, true, some (s.ckBody hand false)⟩]
    let out := if full then out ++ [.segment ⟨true, q, 0, true, true, some (s.ckBody hand true)⟩] else out
    let red := { s.red with cfgLog := [], sent := some (s.ckBody hand full), sendFull := false }
    out.foldl (fun s o => s.put o) { s with fresh := s.fresh + 1, red := red }

/-- A handover begins at the first boundary after its request while the standby is ready; a switchover that finds it no
longer ready is answered ABORTED. -/
def startHandover (s : State) : State :=
  let host := [0, 1, 2, 3].any (fun q => (s.path q).outst.any (fun o => decide (o.wait = .switchover)))
  if s.red.hand.isSome ∨ ¬ (host ∨ s.red.takeReq) then s
  else if s.pairReady then { s with red := { s.red with hand := some s.now, takeReq := false } }
  else answerAll (fun w => decide (w = .switchover)) .aborted 0 [] s

/-! ### The boundary (R89) -/

/-- The control laws that follow the decisions, in PRECHARGE. -/
def outerPrecharge (s : State) : State :=
  let r := s.len.run
  let s := if r.estAt.isSome then s.setLen { s.len with run := { r with estV := r.estV ++ [s.len.sig.v1] } } else s
  energyStep (prechargeStep s)

/-- The control laws that follow the decisions, in RUN and STOPPING; at the boundary of deblock nothing advances yet. -/
def outerRun (s : State) : State :=
  if s.len.old.any (fun o => o.pre) then energyStep s
  else
    let s := if s.sub = .frt ∧ s.mode = .run then watchRecovery s else s
    let s := resyncStep (setpoints (guardStep s))
    let s := if s.sub = .blackstart ∧ s.mode = .run then blackStep s else s
    energyStep (watchAuto (emfStep (demands s)))

/-- Everything an outer boundary does in a running state after its measurement: the decision, the burst decision, the region
with the ride-through conditions of this boundary, and the control laws (R88, R89). -/
def outerRunning (s : State) : State :=
  let s := decideMode s
  if ¬ s.running then s
  else
    let s := if s.sub = .island ∧ s.mode = .run then watchIsland s else s
    let s := evalRegion (decideBurst s)
    let s := if s.mode = .precharge then outerPrecharge s else outerRun s
    let l := s.len
    let hist := (l.emf.v1m :: l.frt.hist).take 10000
    s.setLen { l with lim := { l.lim with seenPeak := false }, frt := { l.frt with hist := hist } }

end Sys2Proof.Machine
end

