-- ==== Sys2Proof/Machine/Select.lean ====
section
/-!
DEFINITION. The winnow units (R112-R130): sorts, counts, duty proposals, rests and the selection of an arm for one firm
window.
-/
namespace Sys2Proof.Machine

/-! ### Windows -/

/-- Start of the firm window of the frame being built (R133, R134), in ticks of S. -/
def State.winStart (s : State) : Int := s.gridPoint + (s.rf .fscFwin 0 10 * 4 : Nat)

/-- Bootstrap settings in force (R125, R127, R130), in ticks. -/
def State.tBsMax (s : State) : Int := (field s.win.bs 0 10 * 4000 : Nat)
def State.tRefresh (s : State) : Int := (field s.win.bs 16 9 * 40 : Nat)
def State.restPar (s : State) : Nat := field s.win.bs 28 4
def State.restWin (s : State) : Int := (field s.win.rw 0 7 * 4000 : Nat)

/-! ### The insertion count of a BS cell (R126) -/

/-- The count's origin and the off interval after a change to polarity `pol` at `t`. -/
def bsStep (ref : Int) (x : Option Int × Option Int) (t pol : Int) : Option Int × Option Int :=
  if pol = 0 then (x.1, some (x.2.getD t))
  else
    let fresh := match x.2 with
      | some f => decide (f + ref ≤ t)
      | none => x.1.isNone
    (some (if fresh then t else x.1.getD t), none)

/-- The count and the off interval of cell i at `t`, its planned changes up to `t` included. -/
def State.bsAt (s : State) (i : Nat) (t : Int) : Option Int × Option Int :=
  let c := s.cell i
  (c.fire.plan.filter (fun p => decide (p.t ≤ t))).foldl (fun x p => bsStep s.tRefresh x p.t p.pol) (c.prot.bsFrom, c.prot.offFrom)

/-- When the count that runs at `t` began; none when it has restarted. -/
def State.bsOrigin (s : State) (i : Nat) (t : Int) : Option Int :=
  let x := s.bsAt i t
  match x.2 with
  | some f => if f + s.tRefresh ≤ t then none else x.1
  | none => x.1

/-- The rest of cell i covers `t`. -/
def State.restsAt (s : State) (i : Nat) (t : Int) : Bool :=
  match (s.cell i).prot.rest with
  | some (a, b) => decide (a ≤ t) && decide (t < b)
  | none => false

/-- The rest of cell i covers all of [w0, w1). -/
def State.restsOver (s : State) (i : Nat) (w0 w1 : Int) : Bool :=
  match (s.cell i).prot.rest with
  | some (a, b) => decide (a ≤ w0) && decide (w1 ≤ b)
  | none => false

/-! ### Sorts (R118, R119) -/

/-- Slots and voltages of an arm's usable and RESTING cells by voltage, then slot: what a sort started now will give. -/
def State.sortNow (s : State) (a : Nat) : List (Nat × Nat) :=
  sortBy (fun x y => decide (x.2 < y.2) || (decide (x.2 = y.2) && decide (x.1 < y.1)))
    ((s.availOf a).map (fun i => (i, (s.cell i).tel.vcap)))

/-- The sort of arm a that runs is complete: 2.05 µs for each sort of its unit, arms 0, 2, 4 on the first and 1, 3, 5 on the
second, from the 10 µs frame boundary on (R118). -/
def State.sortDue (s : State) (a : Nat) : Bool :=
  decide (a < 6) && s.win.sortAt.any (fun b => decide (b + 820 * (a / 2 + 1) ≤ s.now))

/-- SORT_COMPLETE (R118): the newest sort and the mean voltage of its usable cells. -/
def execSortComplete (t a : Nat) (s : State) : Host.Outcome State Fault Refusal :=
  let s := s.begin t
  let x := s.arm a
  let us := x.sortNext.filter (fun p => s.usable p.1)
  let v := (mean (us.map (fun p => kvOf p.2))).clear
  .next (if s.sortDue a then (s.setArm a { x with sort := x.sortNext, vAvg := v }).rs .winVavg v.toB32 a else s)

/-! ### Counts and duty (R112-R114) -/

/-- Whole part of a number and the rest. -/
def fracOf (m : Num) : Num := m.sub (Num.ofInt m.floor)

/-- The duty proposed for a reference of `m` levels (R113). -/
def dutyOf (m : Num) (fb : Bool) : Num :=
  let d := fracOf m
  if 0 ≤ m.m then d else if d.m = 0 ∨ ¬ fb then Num.zero else d.sub num1

/-- Count of a reference under duty `d` (R114). -/
def countOf (m d : Num) : Int := ((m.sub d).add half).floor

/-- The reference extrapolated to `t` (R150), in levels. -/
def State.levelAt (s : State) (a : Nat) (t : Int) : Num :=
  let x := s.arm a
  match s.len.pub with
  | none => x.m
  | some p =>
    let ts := s.ticks - shortDiff s.short p.tSample
    ((p.v.getD a Num.zero).add ((p.dv.getD a Num.zero).mul (Num.ofRatio (t - ts) 400))).div x.vAvg

/-- Duty and PWM cell in force at `t` (R165, R168). -/
def State.dutyAt (s : State) (a : Nat) (t : Int) : Num × Option Nat :=
  let x := s.arm a
  match s.nextLoad (.pwm a) with
  | some l => if l ≤ t then (x.dutyProp, x.pwmProp) else (x.duty, x.pwm)
  | none => (x.dutyProp, x.pwmProp)

/-- Count that the extrapolated reference calls for at `t`, under the duty `d` in force at the start of the firm window. -/
def State.countAt (s : State) (a : Nat) (d : Num) (t : Int) : Int := countOf (s.levelAt a t) d

/-- First tick of [lo, lo + 2^fuel) at which `p` holds, for a `p` that stays true once true. -/
def firstTick (p : Int → Bool) : Nat → Int → Int
  | 0, lo => lo
  | k + 1, lo => if p (lo + (2 ^ k : Nat) - 1) then firstTick p k lo else firstTick p k (lo + (2 ^ k : Nat))

/-- The tick of [lo, hi) at which the count first reaches `j`, coming from the other side (R150); none where it stands there
already or does not get there. -/
def State.reach (s : State) (a : Nat) (d : Num) (j : Int) (up : Bool) (lo hi : Int) : Option Int :=
  let p (t : Int) : Bool := if up then decide (j ≤ s.countAt a d t) else decide (s.countAt a d t ≤ j)
  if p lo ∨ ¬ p (hi - 1) then none
  else
    let t := firstTick p 17 lo
    if t < hi then some t else none

/-- The tick at which a predicted change of count falls in [lo, hi): where it is reached, or `lo` where it is reached already
(R152). -/
def State.reachFrom (s : State) (a : Nat) (d : Num) (j : Int) (up : Bool) (lo hi : Int) : Option Int :=
  if (if up then decide (j ≤ s.countAt a d lo) else decide (s.countAt a d lo ≤ j)) then some lo else s.reach a d j up lo hi

/-! ### Direction and keys (R121, R122) -/

/-- The direction for a count n: n ≥ 0 inserts with positive polarity; within the dead band it stays. -/
def State.dirFor (s : State) (a : Nat) (n : Int) : Int :=
  let i := ((s.len.inp.arm.getD a Num.zero).mul (Num.ofRatio 1 1000)).div s.ib
  if ¬ Num.lt (s.bankNum s.len.reg.bank 44) i.abs then (s.arm a).dir
  else if (0 ≤ n) = (0 < i.m) then 1 else -1

/-- Candidates in the order in which they are inserted: key, then slot. `v` is in units of 50 mV and keys are exact, in
units of 2^-149 of that. -/
def State.ordered (s : State) (a : Nat) (n dir : Int) (cand : List (Nat × Nat)) : List Nat :=
  let pol : Int := if n < 0 then -1 else 1
  let w := 20 * b32Scaled (s.rg .lenBank s.len.reg.bank 43)
  let was := (s.arm a).sel
  let key (p : Nat × Nat) : Int :=
    let held := was.contains (p.1, pol) && !(s.cell p.1).fire.blk
    (p.2 : Int) * ((2 ^ 149 : Nat) : Int) - (if held then dir * w else 0)
  let lt (x y : Int × Nat) : Bool :=
    (if 0 < dir then decide (x.1 < y.1) else decide (y.1 < x.1)) || (decide (x.1 = y.1) && decide (x.2 < y.2))
  (sortBy lt (cand.map (fun p => (key p, p.1)))).map (fun x => x.2)

/-! ### Rests (R127, R128) -/

/-- Cell i starts a rest at `w0`. -/
def startRest (i : Nat) (w0 : Int) (s : State) : State :=
  let p := (s.cell i).prot
  s.setProt i { p with rest := some (w0, w0 + s.tRefresh), bsFrom := none, offFrom := some w0, restDue := false, restSent := false }

/-- A deficit rest in arm a (R128). -/
def noteDeficit (a : Nat) (s : State) : State :=
  let was := s.win.episode
  let s := (s.rsat .winDefcnt 0 32 1 a).rsb .winEvt 0 true
  let s := { s with win := { s.win with episode := true, lastDef := s.now } }
  if was then s else faultAt 0x0440 .l1 .winDefcnt a s

/-- Cells of arm a that are rest-due at `w0`, longest count first. -/
def State.restDue (s : State) (a : Nat) (w0 : Int) : List (Nat × Int) :=
  let due := (s.usableOf a).filterMap (fun i =>
    if s.isBs i ∧ (s.cell i).prot.rest.isNone then
      match s.bsOrigin i w0 with
      | some b => if (s.cell i).prot.restDue ∨ s.tBsMax - s.restWin ≤ w0 - b then some (i, b) else none
      | none => none
    else none)
  sortBy (fun x y => decide (x.2 < y.2) || (decide (x.2 = y.2) && decide (x.1 < y.1))) due

/-- Serve the rest-due cells of arm a for the firm window [w0, w1), keeping `need` usable cells. -/
def serveRests (a need : Nat) (w0 w1 : Int) (s : State) : State :=
  (s.restDue a w0).foldl (fun s (x : Nat × Int) =>
    let resting := ((s.slotsOf a).filter (fun i => s.restsAt i w0)).length
    let left := ((s.usableOf a).filter (fun i => !(s.restsAt i w0))).length
    let room := decide (need + 1 ≤ left)
    let forced := decide (x.2 + s.tBsMax < w1)
    if room ∧ resting < s.restPar then startRest x.1 w0 s
    else if forced then (startRest x.1 w0 s).when (!room) (noteDeficit a)
    else s) s

/-! ### Selection (R122, R150) -/

/-- Steps from the insertions `old` to those of `new` (both in the present key order), from the signed count `c0`: exchanges and
forced removals at the start of the window, the others at the counts on the way. -/
def stepsOf (forced old new : List Nat) (oldPol newPol : Int) (timed : Bool) : List Stepping :=
  let same := decide (oldPol = newPol)
  let add := new.filter (fun i => !same || !(old.contains i))
  let rem := (old.filter (fun i => !same || !(new.contains i))).reverse
  let f := rem.filter forced.contains
  let free := rem.filter (fun i => !(forced.contains i))
  let x := if same then min add.length rem.length else 0
  let outs := f ++ free
  let c0 := oldPol * (old.length : Int)
  let down (k : Nat) : Option Int := if timed then some (c0 - oldPol * (k + 1 : Nat)) else none
  let base := if same then c0 else 0
  let up (k : Nat) : Option Int := if timed then some (base + newPol * (k + 1 : Nat)) else none
  let rs := outs.mapIdx (fun k i => (⟨i, 0, if k < max x f.length then none else down (k - x)⟩ : Stepping))
  let as_ := add.mapIdx (fun k i => (⟨i, newPol, if same ∧ k < x then none else up (if same then k - x else k)⟩ : Stepping))
  rs ++ as_

/-- The PWM carrier of arm a at a selection for the window from `w0`: it starts there with the arm's first selection, and a
load boundary that has come is taken before the new proposal stands (R164, R168). -/
def readyPwm (a : Nat) (w0 : Int) (s : State) : State :=
  if (s.car (.pwm a)).origin.isNone then startCarrier (.pwm a) w0 s else takeLoad (.pwm a) s

/-- A load of arm a's PWM carrier falls at or before `w0`: what is proposed now is in force there. -/
def State.loadBy (s : State) (a : Nat) (w0 : Int) : Bool := (s.nextLoad (.pwm a)).any (fun l => decide (l ≤ w0))

/-- The duty that arm a's publication proposes (R113). -/
def State.proposal (s : State) (a : Nat) : Num := (dutyOf (s.arm a).m ((s.usableOf a).any s.isFb)).clear

/-- The selection of arm a for [w0, w1) with count n; `timed` places steps by the reference, `pwm` uses a PWM cell. Where the
proposal is in force at w0 already, its cell is the first candidate beyond the prefix, and the old PWM cell is a candidate. -/
def selectArm (a : Nat) (n dir : Int) (pwm timed : Bool) (w0 w1 : Int) (s : State) : State :=
  let k0 := if pwm then n.natAbs + 1 else n.natAbs
  let s := serveRests a k0 w0 w1 s
  let x := s.arm a
  let ok (i : Nat) : Bool := (s.usable i || decide (s.cst i = 5)) && !(s.restsOver i w0 w1)
    && (decide (s.cst i ≠ 5) || (s.cell i).prot.rest.all (fun r => decide (r.2 < w1)))
  let live := x.sort.filter (fun p => ok p.1)
  let by_ := s.loadBy a w0
  let cur := if pwm && !by_ then x.pwm else none
  let dead := cur.any (fun i => !(s.usable i) || s.restsAt i w0) || (pwm && !by_ && cur.isNone && decide (x.duty.m ≠ 0))
  let cand0 := live.filter (fun p => decide (some p.1 ≠ cur))
  let cand := if n < 0 then cand0.filter (fun p => s.isFb p.1) else cand0
  let ord := s.ordered a n dir cand
  let k := min n.natAbs ord.length
  let next (ng : Bool) (l : List Nat) : Option Nat := l.find? (fun i => (!ng || s.isFb i) && s.usable i && !(s.restsAt i w0))
  let prop := s.proposal a
  let beyond := s.ordered a (if prop.m < 0 then -1 else 1) dir (cand0.filter (fun p => !((ord.take k).contains p.1)))
  let now' := if ¬ pwm then none else if by_ then next (decide (prop.m < 0)) beyond
    else if dead then next (decide (x.duty.m < 0)) beyond else cur
  let spare := (ord.drop k).filter (fun i => decide (some i ≠ now'))
  let sel := (ord.take k).map (fun i => (i, if n < 0 then (-1 : Int) else 1))
  let propCell := if by_ then now' else next (decide (prop.m < 0)) (beyond.filter (fun i => decide (some i ≠ now')))
  let old := (x.sel.map (fun p => p.1)).filter (fun i => decide (some i ≠ now') && decide ((s.cell i).fire.pol ≠ 0))
  let oldPol := ((x.sel.head?).map (fun p => p.2)).getD 1
  let forced := old.filter (fun i => !(live.any (fun p => decide (p.1 = i))) || s.restsAt i w0)
  let old := s.ordered a oldPol dir (old.map (fun i => (i, (s.cell i).tel.vcap)))
  let steps := stepsOf forced old (sel.map (fun p => p.1)) oldPol (if n < 0 then -1 else 1) timed
  let pos := (s.usableOf a).filter (fun i => !(s.restsAt i w0))
  let sum (l : List Nat) : Num := l.foldl (fun v i => v.add (kvOf (s.cell i).tel.vcap)) Num.zero
  let x' : Arm := { x with dir := dir, n := n, sel := sel, rest := spare, steps := steps, selW := some w0,
                           dutyProp := if pwm then prop else Num.zero, pwmProp := if pwm then propCell else none,
                           pwm := if pwm && !by_ then now' else x.pwm }
  let s := s.setArm a x'
  ((s.rs .winVpos (sum pos).toB32 a).rs .winVneg (sum (pos.filter s.isFb)).neg.toB32 a).rs .winDuty (s.arm a).duty.toB32 a

/-- The selection of arm a after a publication: n uses the duty in force at the start of the window (R112, R114). -/
def selectPub (a : Nat) (w0 w1 : Int) (s : State) : State :=
  if ¬ (s.arm a).deblocked ∨ (s.arm a).oc then s
  else
    let s := readyPwm a w0 s
    let x := s.arm a
    let v := (s.len.pub.map (fun p => p.v.getD a Num.zero)).getD Num.zero
    let m := (if x.vAvg.m = 0 then Num.zero else v.div x.vAvg).clear
    let s := s.setArm a { x with m := m }
    let n := countOf m (if s.loadBy a w0 then s.proposal a else x.duty)
    selectArm a n (s.dirFor a n) true true w0 w1 s

/-- The selection of arm a in the Active and Held stages (R110). -/
def selectCharge (a : Nat) (w0 w1 : Int) (s : State) : State :=
  let x := s.arm a
  if ¬ x.deblocked ∨ x.oc then s else selectArm a ((x.npc / 10 : Nat) : Int) 1 false false w0 w1 (readyPwm a w0 s)

/-- The LENPUB record (R276). -/
def lenPub (p : Pub) (s : State) : State :=
  let b := recHead 4 0 72 p.flags p.tPub ++ leBytes 4 p.tSample.toNat
    ++ leBytes 4 (p.seq % 65536 + 65536 * (p.region + 16 * p.bank + 256 * p.gdp))
    ++ (p.v ++ p.dv).flatMap (fun x => leBytes 4 x.toB32.toNat)
    ++ leBytes 4 (s.rg .lenRd 0).toNat ++ leBytes 4 s.len.lim.sum.toB32.toNat
  dataRec 2 1 p.tPub b s

/-- PUBLICATION (R97, R98): the pending publication is issued and every arm is selected from it. -/
def publish (s : State) : State :=
  match s.len.pend with
  | none => s
  | some p =>
    let s := lenPub p (s.setLen { s.len with pend := none, pub := some p })
    let w0 := s.winStart
    (List.range 6).foldl (fun s a => selectPub a w0 (w0 + (s.framePeriod : Int)) s) s

/-- The instant of the pending publication has come: its launch and the compute time of R97 have passed. -/
def State.pubDue (s : State) : Bool :=
  s.len.launched.any (fun b => decide (b + (s.rf .lenTcomp 0 16 * 4 + 4) / 5 ≤ s.now))

def execPublication (t : Nat) (s : State) : Host.Outcome State Fault Refusal :=
  let s := s.begin t
  .next (if s.pubDue then publish s else s)

/-- LOAD_BOUNDARY (R165): target 0-5 is an arm's PWM carrier, 6-11 its FIXED carrier, 12 + i a cell's own. -/
def execLoadBoundary (t a : Nat) (s : State) : Host.Outcome State Fault Refusal :=
  let s := s.begin t
  let x : Target := if a < 6 then .pwm a else if a < 12 then .fixed (a - 6) else .own (a - 12)
  .next (takeLoad x s)

/-! ### Rests as events -/

/-- STALE_EXCL (R120). -/
def execStaleExcl (t i : Nat) (s : State) : Host.Outcome State Fault Refusal :=
  let s := s.begin t
  let x := (s.cell i).tel
  .next (if s.cst i ≠ 0 ∧ s.rf .winCtrl 0 8 ≤ x.stale ∧ ¬ x.excl then
    (s.setTel i { x with excl := true }).rsb .winEvt 2 true
  else s)

/-- REST_DUE (R127). -/
def execRestDue (t i : Nat) (s : State) : Host.Outcome State Fault Refusal :=
  let s := s.begin t
  .next (match s.bsOrigin i s.ticks with
    | some b =>
      if s.isBs i ∧ s.running ∧ (s.cell i).prot.rest.isNone ∧ s.tBsMax - s.restWin ≤ s.ticks - b then
        s.setProt i { (s.cell i).prot with restDue := true }
      else s
    | none => s)

/-- A cell whose rest has begun is RESTING (R127). -/
def enterRest (i : Nat) (s : State) : State :=
  if (s.cell i).prot.st = 4 ∧ s.restsAt i s.ticks then moveCell i 5 s else s

/-- FORCED_REST (R127): a deferred rest starts with the firm window being built when that is the last one that starts at or
before the count's limit; one that the selection has started already begins. -/
def execForcedRest (t i : Nat) (s : State) : Host.Outcome State Fault Refusal :=
  let s := s.begin t
  let a := s.armOf i
  let w0 := s.winStart
  .next (match s.bsOrigin i w0 with
    | some b =>
      if s.isBs i ∧ s.running ∧ s.usable i ∧ (s.cell i).prot.rest.isNone ∧ b + s.tBsMax < w0 + s.framePeriod then
        let left := ((s.usableOf a).filter (fun j => !(s.restsAt j w0))).length
        let need := (s.arm a).n.natAbs + (if (s.arm a).pwm.isSome then 1 else 0)
        enterRest i ((startRest i w0 s).when (decide (left < need + 1)) (noteDeficit a))
      else enterRest i s
    | none => enterRest i s)

/-- The second 10 µs boundary strictly after `t` (R129). -/
def secondBoundary (t : Int) : Int := nextGrid 4000 t + 4000

/-- A rest that is over ends: the cell is eligible again and its next reports are examined (R129). -/
def endRest (i : Nat) (s : State) : State :=
  let p := (s.cell i).prot
  match p.rest with
  | some (_, b) =>
    if b ≤ s.ticks then
      s.setProt i { p with rest := none, st := if p.st = 5 then 4 else p.st, restCheck := some (secondBoundary b) }
    else s
  | none => s

/-- REST_END (R127). -/
def execRestEnd (t i : Nat) (s : State) : Host.Outcome State Fault Refusal := .next (endRest i (s.begin t))

/-- DEFICIT_EPISODE_END (R128). -/
def execDeficitEpisodeEnd (t : Nat) (s : State) : Host.Outcome State Fault Refusal :=
  let s := s.begin t
  .next (if s.win.episode ∧ s.win.lastDef + 40000000 ≤ s.now then { s with win := { s.win with episode := false } } else s)

/-- FIXED_REST (R117): a BS cell under a FIXED pattern has reached t_bs_max. -/
def execFixedRest (t i : Nat) (s : State) : Host.Outcome State Fault Refusal :=
  let s := s.begin t
  .next (match s.bsOrigin i s.ticks with
    | some b =>
      if s.isBs i ∧ s.bench ∧ s.rb .winFixen (s.armOf i) ∧ s.cst i = 4 ∧ b + s.tBsMax ≤ s.ticks then
        let at_ := b + s.tBsMax
        let p := (s.cell i).prot
        (s.setProt i { p with st := 5, rest := some (at_, at_ + s.tRefresh), bsFrom := none, offFrom := some at_ }).rsb .winEvt 3 true
      else s
    | none => s)

end Sys2Proof.Machine
end

