-- ==== Sys2Proof/Machine/Firing.lean ====
section
/-!
DEFINITION. The firing scheduler and the downlink (R133-R155, R160-R170, R178-R185, R220, R223, R335): what each cell is to
do in a firm window, the entries that tell it so, the mirror of its queue, and the frame.
-/
namespace Sys2Proof.Machine

/-! ### Carrier pulses (R151, R164-R168) -/

/-- An interval of insertion: from, to, polarity. -/
abbrev Span := Int × Int × Int

/-- The pulse of a carrier period (R151). -/
def pulseOf (minp c p on pol : Int) : List Span :=
  if on < minp ∨ pol = 0 then [] else if p - on < minp then [(c, c + p, pol)] else [(c + (p - on) / 2, c + (p + on) / 2, pol)]

/-- The pulses of the carrier periods from `c0` that touch [lo, hi). -/
def pulsesIn (minp c0 p on pol lo hi : Int) : List Span :=
  if p ≤ 0 ∨ hi ≤ c0 then []
  else
    let j0 := max 0 ((lo - c0) / p)
    let c1 := c0 + j0 * p
    ((List.range ((hi - c1) / p + 1).toNat).flatMap (fun k => pulseOf minp (c1 + (k : Int) * p) p on pol)).filter
      (fun x => decide (x.1 < hi) && decide (lo < x.2.1))

/-- Adjacent intervals of one polarity joined. -/
def joinSpans (l : List Span) : List Span :=
  l.foldr (fun x acc => match acc with
    | y :: r => if x.2.1 = y.1 ∧ x.2.2 = y.2.2 then (x.1, y.2.1, x.2.2) :: r else x :: acc
    | [] => [x]) []

/-- Intervals without [a, b). -/
def cutSpans (a b : Int) (l : List Span) : List Span :=
  l.flatMap (fun x =>
    (if x.1 < min x.2.1 a then [(x.1, min x.2.1 a, x.2.2)] else []) ++ (if max x.1 b < x.2.1 then [(max x.1 b, x.2.1, x.2.2)] else []))

/-- Minimum pulse in ticks. -/
def State.minPulse (s : State) : Int := (s.rf .fscDtcfg 16 7 * 40 : Nat)

/-- Pulses of the PWM carrier of arm a for cell i in [lo, hi): the duty and cell in force up to the next load, the newest
proposal from there on. -/
def State.pwmSpans (s : State) (a i : Nat) (lo hi : Int) : List Span :=
  let x := s.arm a
  match s.nextLoad (.pwm a) with
  | none => []
  | some l =>
    let on (d : Num) (p : Nat) : Int := (d.abs.mul (Num.ofInt p)).round
    let pol (d : Num) : Int := if d.m < 0 then -1 else if d.m = 0 then 0 else 1
    let p' := (s.shadow (.pwm a)).1
    let c := x.pwmCar
    (if x.pwm = some i then pulsesIn s.minPulse c.last c.period (on x.duty c.period) (pol x.duty) lo (min hi l) else [])
      ++ (if x.pwmProp = some i then pulsesIn s.minPulse l p' (on x.dutyProp p') (pol x.dutyProp) (max lo l) hi else [])

/-- Arm a runs FIXED modulation (R116). -/
def State.fixedArm (s : State) (a : Nat) : Bool := s.bench && s.rb .winFixen a

/-- FIXED pulses of a carrier in [lo, hi). -/
def State.fixSpans (s : State) (x : Target) (lo hi : Int) : List Span :=
  match s.nextLoad x with
  | none => []
  | some l =>
    let c := s.car x
    let (p', _, on', _) := s.shadow x
    let on2 := min p' (if c.wroteOn then on' else c.on)
    pulsesIn s.minPulse c.last c.period c.on 1 lo (min hi l) ++ pulsesIn s.minPulse l p' on2 1 (max lo l) hi

/-- Intervals in which a carrier inserts cell i, rests cut out; a FIXED pattern also stops where the cell's count reaches
t_bs_max (R117). -/
def State.cellSpans (s : State) (i : Nat) (lo hi : Int) : List Span :=
  let a := s.armOf i
  let fixed := s.fixedArm a
  let own := (s.cell i).fire.own
  let raw := if fixed then s.fixSpans (if own.use ∧ own.origin.isSome then .own i else .fixed a) lo hi else s.pwmSpans a i lo hi
  let l := match (s.cell i).prot.rest with
    | some (r0, r1) => cutSpans r0 r1 raw
    | none => raw
  let l := if fixed ∧ s.isBs i then
      (match s.bsOrigin i lo with
       | some b => cutSpans (b + s.tBsMax) (b + s.tBsMax + s.tRefresh) l
       | none => l)
    else l
  joinSpans l

/-- Polarity that intervals give at `t`. -/
def polAt (l : List Span) (t : Int) : Int :=
  match l.find? (fun x => decide (x.1 ≤ t) && decide (t < x.2.1)) with
  | some x => x.2.2
  | none => 0

/-- Changes of the intervals strictly after `lo` and before `hi`. -/
def spanChanges (dt : Nat) (lo hi : Int) (l : List Span) : List Chg :=
  l.flatMap (fun x =>
    (if lo < x.1 ∧ x.1 < hi then [(⟨x.1, 0, x.2.2, none, dt, true⟩ : Chg)] else [])
      ++ (if lo < x.2.1 ∧ x.2.1 < hi then [(⟨x.2.1, x.2.2, 0, none, dt, true⟩ : Chg)] else []))

/-! ### What a cell does in a window (R150) -/

/-- A change from `p` to `q` at `t`, through the not-inserted state (R138). -/
def change (dt : Nat) (t p q : Int) (target : Option Int) : List Chg :=
  if p = q then []
  else if p = 0 ∨ q = 0 then [⟨t, p, q, target, dt, false⟩]
  else [⟨t, p, 0, target, dt, false⟩, ⟨t + dt, 0, q, target, dt, false⟩]

/-- Changes of a cell in sequence from polarity `p`. -/
def chain (dt : Nat) : Int → List (Int × Int × Option Int) → List Chg
  | _, [] => []
  | p, (t, q, g) :: r => change dt t p q g ++ chain dt q r

/-- Polarity that the arm's selection gives cell i. -/
def Arm.polOf (x : Arm) (i : Nat) : Int :=
  match x.sel.find? (fun p => decide (p.1 = i)) with
  | some p => p.2
  | none => 0

/-- The times of the frame: base, firm window, horizon, receipt of the slot's entry. -/
structure FrameAt where
  t0 : Int
  w0 : Int
  w1 : Int
  hor : Int
  rho : Int
  prov : Nat
deriving DecidableEq, Repr

/-- No change earlier than `rho` (R149); changes moved up to it keep their dead times between them. -/
def notBefore : Int → List Chg → List Chg
  | _, [] => []
  | rho, c :: r => if rho ≤ c.t then c :: r else { c with t := rho } :: notBefore (rho + (c.dt : Int)) r

/-- The changes of cell i for the firm window, and the polarity it is left with; `p` is the polarity before. A step whose count
the newest publication reaches in the revision window is missing there, and is placed in it from the fence on (R150). -/
def State.wanted (s : State) (i : Nat) (p : Int) (f : FrameAt) : List Chg × Int :=
  let w0 := f.w0
  let w1 := f.w1
  let a := s.armOf i
  let x := s.arm a
  let dt := (s.deadTime i).1
  let spans := s.cellSpans i w0 w1
  let sc := spanChanges dt w0 w1 spans
  let endPol (l : List Chg) (q : Int) : Int := l.foldl (fun _ c => c.pol) q
  if s.fixedArm a ∨ (s.dutyAt a w0).2 = some i then
    let q := polAt spans w0
    let l := (change dt w0 p q none).map (fun c => { c with car := true }) ++ sc
    (l, endPol l p)
  else
    let goal := x.polOf i
    let d := (s.dutyAt a w0).1
    let steps := if x.selW = some w0 then x.steps.filter (fun g => decide (g.slot = i)) else []
    let place (q r : Int) (g : Option Int) : Int := match g with
      | none => w0
      | some j =>
        let up := decide (q < r)
        match s.reach a d j up w0 w1 with
        | some t => t
        | none => match s.reach a d j up f.t0 w0 with
          | some t => if max t (f.rho + 600) + 200 < w0 then max t (f.rho + 600) else w0
          | none => w0
    let rested := match (s.cell i).prot.rest with
      | some (r0, r1) => if r0 ≤ w0 ∧ w0 < r1 then some r1 else none
      | none => none
    let seq : List (Int × Int × Option Int) := match rested with
      | some r1 => (w0, 0, none) :: (if r1 < w1 ∧ goal ≠ 0 then [(r1, goal, none)] else [])
      | none =>
        if steps.isEmpty then [(w0, goal, none)]
        else (steps.foldl (fun (y : List (Int × Int × Option Int) × Int) g =>
          (y.1 ++ [(place y.2 g.pol g.target, g.pol, g.target)], g.pol)) ([], p)).1
    let l := chain dt p seq ++ sc
    (l, endPol l p)

/-! ### Edges (R136-R138, R160) -/

/-- The pair of edges of a change. -/
def Chg.edges (c : Chg) : List Edge :=
  let neg := decide (c.pol < 0) || decide (c.was < 0)
  let (off, on) : Nat × Nat := if c.pol = 0 then (if neg then (6, 7) else (2, 3)) else (if neg then (8, 5) else (4, 1))
  [⟨c.t, off, true⟩, ⟨c.t + c.dt, on, true⟩]

/-- On-edges that lead a blocked cell to a polarity. -/
def fromBlocked (fb : Bool) (t pol : Int) : List Edge :=
  let acts : List Nat := if pol < 0 then [3, 5] else (if pol = 0 then [3] else [1]) ++ (if fb then [7] else [])
  acts.map (fun a => ⟨t, a, true⟩)

/-- An action under override bits INV:SWAP. -/
def overridden (ovr act : Nat) : Nat :=
  if act = 0 ∨ 8 < act then act
  else
    let k := act - 1
    let k := if ovr.testBit 0 then Nat.xor k 4 else k
    (if ovr.testBit 1 then Nat.xor k 2 else k) + 1

/-- The bytes of an edge in a frame of base time `t0`. -/
def Edge.bytes (t0 : Int) (e : Edge) : List Byte :=
  let o := (e.t - t0).toNat
  leBytes 2 o ++ [BitVec.ofNat 8 (o / 65536 % 16 + 16 * e.act)]

/-- An entry of `n` edges, the rest NONE. -/
def entryBytes (t0 : Int) (n : Nat) (l : List Edge) : List Byte :=
  (List.range n).flatMap (fun k => match l[k]? with
    | some e => e.bytes t0
    | none => [0, 0, 0])

/-- Two edges with the same action no more than 0.5 µs apart (R150). -/
def sameEdge (a b : Edge) : Bool := decide (a.act = b.act) && decide ((a.t - b.t).natAbs ≤ 200)

/-- Edges in time order; an off-edge before an on-edge (R144). -/
def byTime (l : List Edge) : List Edge :=
  sortBy (fun a b => decide (a.t < b.t) || (decide (a.t = b.t) && decide (a.act % 2 < b.act % 2))) l

/-! ### The entry of a slot -/

/-- What a slot's entry leaves: the cell, the firm edges, revision, the provisional edges, insertion changes, edges newly
withheld. -/
structure Entry where
  cell : Cell
  firm : List Edge
  rev : Bool
  prov : List Edge
  changes : Nat
  withheld : Nat
deriving DecidableEq, Repr

/-- An entry that only carries given firm edges. -/
def plainEntry (c : Cell) (firm : List Edge) : Entry := ⟨c, firm, false, [], 0, 0⟩

/-- Changes that really change the polarity, from polarity `p`. -/
def settleChg : Int → List Chg → List Chg
  | _, [] => []
  | p, c :: r => if c.pol = p then settleChg p r else { c with was := p } :: settleChg c.pol r

/-- The planned changes of the revision window as the newest publication and the carriers place them: only those whose first
edge lies beyond the fence move (R149, R150, R165). -/
def State.revised (s : State) (i : Nat) (f : FrameAt) (plan : List Chg) (pol : Int) : List Chg :=
  let a := s.armOf i
  let d := (s.dutyAt a f.t0).1
  let lo := max f.t0 (f.rho + 600)
  let moved := plan.map (fun c => match c.target with
    | none => c
    | some j =>
      if c.t < f.rho + 600 then c
      else
        let t := max f.rho ((s.reach a d j (decide (c.was < c.pol)) f.t0 f.w0).getD f.t0)
        if (t - c.t).natAbs ≤ 200 ∨ f.w0 ≤ t then c else { c with t := t })
  let new := spanChanges (s.deadTime i).1 (lo - 1) f.w0 (s.cellSpans i lo f.w0)
  if plan.any (fun c => c.car) || !new.isEmpty then
    settleChg (((plan.head?).map (fun c => c.was)).getD pol)
      (sortBy (fun x y => decide (x.t < y.t)) (moved.filter (fun c => !c.car || decide (c.t < lo) || decide (f.w0 ≤ c.t)) ++ new))
  else moved

/-- Changes of count that the reference predicts for cell i beyond the firm window (R152): away from zero to the cells beyond
the prefix, towards zero to the last cells of the prefix, and past zero to the FB cells beyond it. -/
def State.predicted (s : State) (i : Nat) (f : FrameAt) (dt : Nat) : List Chg :=
  let a := s.armOf i
  let x := s.arm a
  let sgn : Int := if x.n < 0 then -1 else 1
  let d := (s.dutyAt a f.w0).1
  let at_ (j : Int) (up : Bool) (p q : Int) : List Chg := match s.reachFrom a d j up f.w1 f.hor with
    | some t => [⟨t, p, q, none, dt, false⟩]
    | none => []
  if s.len.pub.isNone ∨ s.mode = .precharge ∨ x.selW ≠ some f.w0 then []
  else match x.rest.idxOf? i, x.sel.reverse.findIdx? (fun p => decide (p.1 = i)) with
    | some r, _ =>
      at_ (x.n + sgn * (r + 1 : Nat)) (decide (0 < sgn)) 0 sgn
        ++ (match (x.rest.filter (fun j => decide (sgn < 0) || s.isFb j)).idxOf? i with
          | some q => at_ (-sgn * (q + 1 : Nat)) (decide (sgn < 0)) 0 (-sgn)
          | none => [])
    | none, some r => at_ (x.n - sgn * (r + 1 : Nat)) (decide (sgn < 0)) sgn 0
    | none, none => []

/-- The entry of a cell that is modulated. -/
def State.modEntry (s : State) (i : Nat) (f : FrameAt) : Entry :=
  let c := s.cell i
  let r := c.fire
  let dt := (s.deadTime i).1
  let fb := s.isFb i
  let plan' := if r.blk then r.plan else s.revised i f r.plan r.pol
  let p0 := if r.blk then 0 else ((plan'.getLast?).map (fun g => g.pol)).getD (((r.plan.head?).map (fun g => g.was)).getD r.pol)
  let w := s.wanted i p0 f
  let early := w.1.filter (fun g => decide (g.t < f.w0))
  let inW := notBefore f.rho (w.1.filter (fun g => decide (f.w0 ≤ g.t)))
  let start := (w.1.filter (fun g => decide (g.t ≤ f.w0))).foldl (fun _ g => g.pol) p0
  let want := s.ovrWanted i
  let swap := decide (want ≠ r.ovr) && decide (p0 = 0) && early.isEmpty
  let ovr := if swap then want else r.ovr
  let enc (l : List Edge) : List Edge := l.map (fun e => { e with act := overridden ovr e.act })
  let queue := r.queue.filter (fun e => decide (f.rho ≤ e.t))
  let inRev (e : Edge) : Bool := decide (f.rho ≤ e.t) && decide (f.t0 ≤ e.t) && decide (e.t < f.w0)
  let owed := if swap ∨ r.blk then [] else r.left.map (fun e => { e with t := max f.rho e.t })
  let wantR := (enc (byTime ((plan' ++ early).flatMap Chg.edges))).filter inRev
  let haveR := queue.filter (fun e => e.firm && inRev e)
  let lost := wantR.filter (fun e => !(haveR.any (sameEdge e)) && !(owed.any (sameEdge e)))
  let stray := haveR.filter (fun e => decide (f.rho + 600 ≤ e.t) && !(wantR.any (sameEdge e)))
  let rev := !r.blk && !swap && (!lost.isEmpty || !stray.isEmpty || !owed.isEmpty)
  let revAll := if rev then owed ++ wantR.filter (fun e => (decide (f.rho + 600 ≤ e.t) || lost.contains e) && !(owed.any (sameEdge e)))
    else []
  let revEdges := revAll.take 2
  let plan := if rev then plan' ++ early else r.plan
  let later := (plan.flatMap Chg.edges).filter (fun e => decide (f.w0 ≤ e.t))
  let mine := if r.blk then fromBlocked fb (max f.rho f.w0) start
      ++ (inW.filter (fun g => decide (f.w0 < g.t))).flatMap Chg.edges
    else inW.flatMap Chg.edges
  let all := enc (byTime (later ++ mine))
  let rest := match c.prot.rest with
    | some (r0, r1) => if r0 ≤ f.w0 ∧ f.w0 < r1 ∧ ¬ c.prot.restSent then [(⟨max f.rho f.w0, 9, true⟩ : Edge)] else []
    | none => []
  let kept := (queue.filter (fun e =>
    !(rev && e.firm && inRev e && decide (f.rho + 600 ≤ e.t)))).filter (fun e => !(decide (f.w0 ≤ e.t) && decide (e.t < f.w1)))
  let winAll := (all.filter (fun e => decide (e.t < f.w1))) ++ rest
  let slots := min winAll.length (2 - revEdges.length)
  let winEdges := winAll.take (min slots (16 - kept.length - revEdges.length))
  let left := (revAll.drop 2 ++ winAll.drop winEdges.length).filter (fun e => decide (e.act ≠ 9))
  let q := kept ++ revEdges ++ winEdges
  let beyond := all.filter (fun e => decide (f.w1 ≤ e.t))
  let spans := s.cellSpans i f.w1 f.hor
  let pulses := spanChanges dt (f.w1 - 1) f.hor spans
  let guess := enc ((pulses ++ s.predicted i f dt).flatMap Chg.edges)
  let offer := (byTime (beyond ++ guess)).filter (fun e =>
    decide (f.w1 ≤ e.t) && decide (e.t < f.hor) && !(q.any (sameEdge e)))
  let fit := offer.take (min f.prov (16 - q.length))
  let kept' := r.held.filter (fun e => decide (f.w1 ≤ e.t) && decide (f.rho ≤ e.t))
  let held := if 16 - q.length < f.prov then (offer.drop fit.length).take (f.prov - fit.length) else []
  let newly := held.filter (fun e => !(kept'.any (sameEdge e)))
  let prov := fit.map (fun e => { e with firm := false })
  let changes := early ++ (if r.blk then inW.filter (fun g => decide (f.w0 < g.t)) else inW)
  let next := plan ++ (if r.blk then inW.filter (fun g => decide (f.w0 < g.t)) else if rev then inW else changes)
  let live := next.filter (fun g => decide (f.w0 ≤ g.t + g.dt))
  let gone := next.filter (fun g => decide (g.t + g.dt < f.w0))
  let bs := gone.foldl (fun x g => bsStep s.tRefresh x g.t g.pol) (c.prot.bsFrom, c.prot.offFrom)
  let bs := if r.blk ∧ start ≠ 0 then bsStep s.tRefresh bs f.w0 start else bs
  let fire : CellFire := { r with queue := byTime (q ++ prov), held := kept' ++ newly, left := left, plan := live, pol := w.2,
                                  blk := false, ovr := ovr }
  let prot : CellSt := { c.prot with bsFrom := bs.1, offFrom := bs.2, restSent := c.prot.restSent || winEdges.any (fun e => decide (e.act = 9)) }
  ⟨⟨c.tel, prot, fire⟩, revEdges ++ winEdges, rev, prov, changes.length, newly.length + (slots - winEdges.length)⟩

/-- The resumption pair of a cell in the first frame after a takeover (R335). -/
def State.firstEntry (s : State) (i : Nat) (f : FrameAt) : Entry :=
  let c := s.cell i
  let dt := (s.deadTime i).1
  let goal := (s.arm (s.armOf i)).polOf i
  let t := max f.rho f.w0
  let ch : Chg := if goal ≠ 0 then ⟨t, 0, goal, none, dt, false⟩ else ⟨t, if c.fire.pol < 0 then -1 else 1, 0, none, dt, false⟩
  let es := ch.edges.map (fun e => { e with act := overridden c.fire.ovr e.act })
  let firm := es.filter (fun e => decide (e.t < f.w1))
  ⟨⟨c.tel, c.prot, { c.fire with queue := firm, held := [], left := [], plan := [ch], pol := goal, blk := false }⟩, firm, false, [], 1, 0⟩

/-- Cells of the arm get modulation edges (R19, R110, R116, R224). -/
def State.modulates (s : State) (a : Nat) : Bool :=
  decide (a < 6) && (s.arm a).deblocked && !(s.arm a).oc && (s.running || s.fixedArm a)

/-- The entry of slot i in an EDGE frame. -/
def State.slotEntry (s : State) (i : Nat) (f : FrameAt) : Entry :=
  let c := s.cell i
  let bypass : List Edge := [⟨max f.rho f.w0, 10, true⟩]
  let block : List Edge := [⟨max f.rho f.w0, 11, true⟩]
  let ovr := if c.fire.blk ∨ c.fire.pol = 0 then s.ovrWanted i else c.fire.ovr
  let quiet (firm : List Edge) : Entry :=
    plainEntry ⟨c.tel, c.prot, { c.fire with queue := firm, held := [], left := [], plan := [], pol := 0, blk := true, ovr := ovr }⟩ firm
  if s.tableUe i ∧ c.prot.st ≠ 0 then quiet (if s.running then bypass else block)
  else match c.prot.st with
    | 0 => plainEntry c []
    | 6 => quiet bypass
    | 7 => quiet []
    | 8 =>
      if c.fire.quar = 0 then quiet []
      else
        let e := quiet (if s.running then bypass else block)
        { e with cell := { e.cell with fire := { e.cell.fire with quar := c.fire.quar - 1 } } }
    | 1 | 2 => quiet []
    | _ =>
      if s.modulates (s.armOf i) then (if s.red.firstFrame then s.firstEntry i f else s.modEntry i f)
      else if s.red.firstFrame then quiet block
      else if c.fire.blk then quiet []
      else
        let e := quiet block
        { e with cell := { e.cell with prot := { e.cell.prot with offFrom := some (c.prot.offFrom.getD f.w0) } } }

/-! ### Frames (R178, R181, R182) -/

/-- The header of R181. -/
def frameHead (s : State) (l : Nat) (edge : Bool) (sof : Int) (txn : Nat) (apply cancel : Nat) : List Byte :=
  let k := s.link l
  let b := s.gridPoint
  let p : Int := s.framePeriod
  let z (w : Word) : Word := if edge then w else 0
  [BitVec.ofNat 8 (16 + (if edge then 1 else 2)),
   BitVec.ofNat 8 ((if s.len.bur.on then 1 else 0) + (if k.key.isSome then 2 else 0) + (if txn ≠ 0 then 4 else 0)),
   BitVec.ofNat 8 s.len.reg.gdp, BitVec.ofNat 8 l] ++ leBytes 4 (z (s.rg .redEpoch)).toNat ++ leBytes 4 (z (wordOf (b + 24000))).toNat
    ++ leBytes 4 (wordOf sof).toNat ++ leBytes 4 (z (wordOf (s.winStart - p))).toNat ++ leBytes 3 (lowBits 24 (s.delayOf l))
    ++ leBytes 1 (s.rf .lnkCtrl 24 7) ++ leBytes 2 k.fseq ++ leBytes 2 k.ackSeq ++ leBytes 1 apply ++ leBytes 1 cancel
    ++ leBytes 1 txn ++ [0]

/-- The bytes of a transaction request (R197). -/
def Txn.bytes (x : Txn) : List Byte :=
  leBytes 1 (x.tid + 16 * x.op) ++ leBytes 1 x.slot ++ leBytes 1 x.len ++ leBytes 1 x.prep ++ leBytes 4 x.addr.toNat
    ++ (if x.op = 1 then [] else x.data)

/-- The next request of a link takes a free TID and leaves (R197); none at burst rate. -/
def takeTxn (l : Nat) (s : State) : State × List Byte :=
  let k := s.link l
  match k.waiting, (List.range 16).find? (fun t => !(k.flight.any (fun x => decide (x.tid = t)))) with
  | x :: r, some t =>
    if s.len.bur.on then (s, [])
    else
      let x := { x with tid := t, sent := s.now }
      (s.setLink l { k with waiting := r, flight := k.flight ++ [x] }, x.bytes)
  | _, _ => (s, [])

/-- Tags and checks on a link whose session has a key. -/
def linkTag (k : Link) (m : List Byte) : List Byte := match k.key with
  | some key => frameTag key m
  | none => []

/-- A frame that an injection makes fail at a cause (R455). -/
def spoil (cause : Nat) (b : List Byte) : List Byte :=
  match cause with
  | 3 => b.modify 0 (fun x => x ||| 0x0F)
  | _ => b.modify (b.length - 1) (fun x => x ^^^ 1)

/-- The pending injection of a link and direction takes one frame. -/
def useInjection (l : Nat) (up : Bool) (s : State) : State × Option Nat :=
  match s.flt.inj.find? (fun x => decide (x.link = l) && decide (x.up = up)) with
  | none => (s, none)
  | some j =>
    let r := removeFirst (fun x => decide (x = j)) s.flt.inj
    ({ s with flt := { s.flt with inj := if j.count ≤ 1 then r else { j with count := j.count - 1 } :: r } }, some j.cause)

/-- Instants of the frame on link l: its SOF (R178) and the start of its firm section, which is the instant of the command
within the bounds the manual sets, in ticks of S. -/
def State.frameTimes (s : State) (l : Nat) : Int × Int :=
  let b := s.gridPoint
  let sof := max (b + ((s.len.launch * 4 / 5 : Nat) : Int) - 40) (s.link l).eof
  let lo := sof + 218
  (sof, max lo (min s.ticks (b + ((s.len.launch * 4 / 5 : Nat) : Int) + 388)))

/-- Entries of the 24 slots in order. -/
def buildSlots (l : Nat) (f : Nat → FrameAt) (s : State) : State × List Entry :=
  (List.range 24).foldl (fun (x : State × List Entry) k =>
    let i := 24 * l + k
    let e := x.1.slotEntry i (f k)
    let a := x.1.armOf i
    let s := x.1.setCell i e.cell
    let s := if e.changes = 0 ∨ 6 ≤ a then s else s.rs .winSwcnt (s.rg .winSwcnt a + BitVec.ofNat 32 e.changes) a
    let s := if e.withheld = 0 then s else (s.rsat .fscQlimcnt 0 32 e.withheld).rsb .fscStat 2 true
    (s, x.2 ++ [e])) (s, [])

/-- An EDGE frame (R182). -/
def edgeFrame (l : Nat) (s : State) : State :=
  let (sof, start) := s.frameTimes l
  let p : Int := s.framePeriod
  let w0 := s.winStart
  let k := s.link l
  let d := s.delayOf l / 16 + (if s.delayOf l % 16 = 0 then 0 else 1)
  let f (j : Nat) : FrameAt :=
    let done : Int := if k.key.isSome then 1127 else ((j + 1) * 448 + 9 : Nat) / 10
    ⟨w0 - p, w0, w0 + p, w0 + 64000, start + done + d + 40, if s.len.bur.on then 1 else 2⟩
  let seq := k.eseq % 128
  let (s, es) := buildSlots l f s
  let s := es.mapIdx (fun j e => (j, e)) |>.foldl (fun s (x : Nat × Entry) =>
    let i := 24 * l + x.1
    if s.cst i = 0 then s
    else
      let r := (s.cell i).fire
      s.setFire i { r with sent := ((seq + (if x.2.rev then 128 else 0)) :: r.sent).take 127 }) s
  let (s, txn) := takeTxn l s
  let k := s.link l
  let head := frameHead s l true sof txn.length (k.apply.headD 0) (k.cancel.headD 0)
  let firm := es.flatMap (fun e => BitVec.ofNat 8 (seq + (if e.rev then 128 else 0)) :: entryBytes (w0 - p) 2 e.firm)
  let b := head ++ firm
  let b := b ++ leBytes 4 (crc32c b).toNat
  let b := b ++ linkTag k b
  let b := b ++ es.flatMap (fun e => entryBytes (w0 - p) (if s.len.bur.on then 1 else 2) e.prov) ++ txn
  let b := b ++ leBytes 4 (crc32c b).toNat
  let b := b ++ linkTag k b
  let len : Int := (((b.length - 32 + 1) * 64 + 9) / 10 : Nat)
  let (s, bad) := useInjection l false s
  let b := match bad with
    | some c => spoil c b
    | none => b
  let sofs := ((k.fseq, sof) :: k.sofs).take 65536
  (s.setLink l { k with fseq := (k.fseq + 1) % 65536, eseq := (k.eseq + 1) % 128, eof := start + len, sofs := sofs
                        apply := k.apply.drop 1, cancel := k.cancel.drop 1 }).put (.frame l b)

/-- A LISTEN frame (R182). -/
def listenFrame (l : Nat) (s : State) : State :=
  let (sof, _) := s.frameTimes l
  let (s, txn) := takeTxn l s
  let k := s.link l
  let b := frameHead s l false sof txn.length 0 0 ++ txn
  let b := b ++ leBytes 4 (crc32c b).toNat
  let b := b ++ linkTag k b
  let len : Int := (((b.length + 3) * 64 + 9) / 10 : Nat)
  let (s, bad) := useInjection l false s
  let b := match bad with
    | some c => spoil c b
    | none => b
  (s.setLink l { k with fseq := (k.fseq + 1) % 65536, eof := sof + len, sofs := ((k.fseq, sof) :: k.sofs).take 65536 }).put (.frame l b)

/-- After B_c + 90 µs of a handover the old holder only listens (R337). -/
def State.handedOver (s : State) : Bool :=
  match s.red.hand with
  | some h => decide (((h + 36000 : Nat) : Int) < (s.now : Int) - (s.ticks - s.gridPoint))
  | none => false

/-- Whether link l carries EDGE frames (R182, R200, R205, R207, R326, R333, R457). -/
def State.sendsEdges (s : State) (l : Nat) : Bool :=
  let k := s.link l
  s.awn && !s.handedOver && s.red.restoredAt.isNone && !s.bistListen && (decide (k.stage = 2) || (decide (k.stage = 3) && decide (0 < k.quarFrames) && s.running))

/-- DOWNLINK_FRAME (R178). `ue` names damaged memories: 0 the link buffer, 1 the edge queue mirror (R427); the frame is then
not sent. -/
def downlinkFrame (l : Nat) (ue : List Nat) (s : State) : State :=
  if s.links ≤ l ∨ ¬ s.rb .lnkLctrl 0 l ∨ s.mode = .off ∨ s.rb .clkStat 1 then s
  else if ue ≠ [] then ue.foldl (fun s k => memFault (if k = 0 then 3 else 6) .l1 3 l none s) s
  else if s.sendsEdges l then
    let s := edgeFrame l s
    s.setLink l { s.link l with quarFrames := (s.link l).quarFrames - 1 }
  else listenFrame l s

def execDownlinkFrame (t l : Nat) (ue : List Nat) (s : State) : Host.Outcome State Fault Refusal :=
  .next (downlinkFrame l ue (s.begin t))

end Sys2Proof.Machine
end

