-- ==== Sys2Proof/Machine/Frame.lean ====
section
/-!
DEFINITION. The frame boundary (R64, R118-R120, R216-R219, R322) and converter protection (R104, R129, R218-R227).
-/
namespace Sys2Proof.Machine

/-! ### Cell faults (R218-R222) -/

/-- A cell fault: FAULTED with its cause, bypass commanded, the fault raised with those of the same clock. -/
def cellFault (i cause code : Nat) (lvl : Level) (evt : Option Nat) (s : State) : State :=
  let s := match evt with
    | some k => s.rsb .celEvt k true
    | none => s
  holdAt code lvl .celState i (faultCell i cause s)

/-- The arm's overcurrent window holds the record of cell i sampled at `b` (R224). -/
def State.inOcWindow (s : State) (i : Nat) (b : Word) : Bool :=
  match (s.arm (s.armOf i)).ocFrame with
  | some f =>
    let d := shortDiff b (s.shortOf f)
    decide (0 ≤ d) && decide (d < 12000)
  | none => false

/-- The arm of cell i is short of margin once the cell is removed (R104, R218). -/
def State.shortWithout (s : State) (i : Nat) : Bool :=
  decide (s.armOf i ≤ 5) && decide ((((s.availOf (s.armOf i)).filter (fun j => decide (j ≠ i))).length : Int) < s.nMin)

/-- Reports of a record that are faults whatever the state: full queues, late edges (R173), and over-temperature (R218). -/
def edgeReports (i status : Nat) (s : State) : State :=
  let p := (s.cell i).prot
  let b (k : Nat) : Bool := status.testBit k
  let s := s.when (b 2) (holdAt 0x0350 .l1 .celState i)
  let s := s.when (b 1) (holdAt 0x0351 .l1 .celState i)
  if b 12 then
    let due := !p.ot || p.otClear.any (fun t => decide (t + 400000000 ≤ s.now))
    let s := s.setProt i { (s.cell i).prot with ot := true, otClear := none }
    if due then holdAt 0x0376 .l0 .celState i (s.rsb .celEvt 6 true) else s
  else if p.ot then s.setProt i { (s.cell i).prot with otClear := some (p.otClear.getD s.now) }
  else s

/-- Bits of a record that the record before it did not have. -/
def newBits (status prev : Nat) : Nat := status - Nat.land status prev

/-- Both switches of a leg are reported, each first in this record or in the one before it (R218): `n` and `p` are the bits
first set in them. -/
def through (n p u l : Nat) : Bool :=
  (n.testBit u && (n.testBit l || p.testBit l)) || (n.testBit l && p.testBit u)

/-- Count desaturation reports that are not cell faults. -/
def countDesat (i n : Nat) (s : State) : State :=
  let p := (s.cell i).prot
  s.setProt i { p with des := min 255 (p.des + n) }

/-- Counts of consecutive records (R216, R218) with one more record of voltage `v` and status `x`: ready, low, invalid,
undervoltage. -/
def recordCounts (s : State) (i v x : Nat) : CellTel :=
  let c := (s.cell i).tel
  let b (k : Nat) : Bool := x.testBit k
  let lvl := (s.rnum .lenBase 4).mul (Num.ofRatio (s.rf .celCtrl 0 8) 100)
  let meas := decide (v ≠ 0xFFFF)
  let ok := meas && Num.le lvl (kvOf v) && !(b 7 || b 8 || b 9 || b 10 || b 11 || b 13 || b 14)
  let low := meas && Num.lt (kvOf v) (lvl.mul (Num.ofRatio 8 10))
  let resting := decide (s.cst i = 5) && s.isBs i
  let up (y : Bool) (n : Nat) : Nat := if y then min 3 (n + 1) else 0
  { c with rdy := up ok c.rdy, low := up low c.low, inv := up (!(b 15)) c.inv, uv := up (b 11 && !resting) c.uv, prev := x,
           prevNew := newBits x c.prev }

/-- The evaluation of one record of a cell, sampled at `bj` (R216, R218, R219, R129). -/
def evalRecord (i : Nat) (r : Word × Nat × Nat) (s : State) : State :=
  let bj := r.1
  let x := r.2.2
  let before := (s.cell i).tel
  let n := newBits x before.prev
  let s := edgeReports i x (s.setTel i (recordCounts s i r.2.1 x))
  let st := s.cst i
  let tel := (s.cell i).tel
  let p := (s.cell i).prot
  let new (k : Nat) : Bool := n.testBit k
  let des := ([7, 8, 9, 10].filter new).length
  if st = 0 ∨ st = 8 then s
  else if st = 6 then
    let s := countDesat i des s
    if x.testBit 6 ∧ p.bypAt.isSome then
      s.setProt i { (s.cell i).prot with st := 7, unconf := false, bypAt := none }
    else s
  else if st = 7 then countDesat i des s
  else
    let checked : Bool := p.restCheck.any (fun b => decide (bj = wordOf b))
    let s := if checked then s.setProt i { (s.cell i).prot with restCheck := none } else s
    let live := decide (2 ≤ st)
    if x.testBit 6 then
      let s := s.setProt i { (s.cell i).prot with st := 7, cause := 6, unconf := false, bypAt := none }
      holdAt 0x0374 .l1 .celState i (s.rsb .celEvt 4 true)
    else if through n before.prevNew 7 8 ∨ through n before.prevNew 9 10 then
      cellFault i 2 0x0371 (if s.shortWithout i then .l2 else .l1) (some 1) s
    else if des ≠ 0 ∧ ¬ s.inOcWindow i bj then cellFault i 1 0x0370 .l1 (some 0) s
    else
      let s := countDesat i des s
      if new 13 then cellFault i 4 0x0372 .l1 (some 2) s
      else if new 14 ∨ (live ∧ 3 ≤ tel.inv) then cellFault i 5 0x0373 .l1 (some 3) s
      else if checked ∧ x.testBit 11 then
        cellFault i 3 0x0340 .l1 none (s.rsb .winEvt 1 true)
      else if 3 ≤ tel.uv then cellFault i 3 0x0340 .l1 none s
      else if st = 1 ∧ s.armOf i ≤ 5 ∧ x.testBit 15 then moveCell i 2 s
      else if st = 2 ∧ 3 ≤ tel.rdy then moveCell i 3 s
      else if st = 3 ∧ 3 ≤ tel.low then moveCell i 2 s
      else s

/-- The records of a cell accepted since the last boundary are evaluated, oldest first. -/
def evalCell (i : Nat) (s : State) : State :=
  let x := (s.cell i).tel
  let s := s.setTel i { x with due := [] }
  if s.cst i = 0 ∨ s.cst i = 8 then s else x.due.foldl (fun s r => evalRecord i r s) s

/-- Changes that follow the arm and the rests (R216). -/
def followArm (i : Nat) (s : State) : State :=
  let s := enterRest i (endRest i s)
  let st := s.cst i
  let on := s.modulates (s.armOf i)
  let hit := (s.cell i).fire.hit
  let s := if hit then s.setFire i { (s.cell i).fire with hit := false } else s
  if st = 3 ∧ on ∧ ¬ (s.cell i).fire.blk then moveCell i 4 s
  else if (st = 4 ∨ st = 5) ∧ (¬ on ∨ hit) then s.setProt i { (s.cell i).prot with st := 3, rest := none }
  else s

/-- The evaluation of every cell at a frame boundary, on the module that holds the awn (R217). -/
def evalCells (s : State) : State :=
  if ¬ s.awn then s
  else (s.cells.map (fun p => p.1)).foldl (fun s i =>
    followArm i (if (s.cell i).tel.due.isEmpty then s else evalCell i s)) s

/-- The stale count of every cell advances once per 10 µs (R120); fresh telemetry ends an exclusion. -/
def countStale (s : State) : State :=
  let f (_ : Nat) (c : Cell) : Cell :=
    if c.prot.st = 0 then c
    else if c.tel.fresh then { c with tel := { c.tel with fresh := false, stale := 0, excl := false } }
    else { c with tel := { c.tel with stale := min 65535 (c.tel.stale + 1) } }
  { s with cells := Tab.mapv (fun _ => Cell.init) f s.cells }

/-- Arms that have become short of margin (R104): the event bit is set in any state, the fault raised in PRECHARGE, RUN and
STOPPING. -/
def watchShort (s : State) : State :=
  (List.range 6).foldl (fun s a =>
    let x := s.arm a
    let short := s.isShort a
    let s' := s.setArm a { x with short := short }
    if short ∧ ¬ x.short then
      let s' := s'.rsb .winEvt 5 true
      if s.running ∧ s.awn then holdAt 0x0442 .l2 .winArmstat a s' else s'
    else s') s

/-! ### Arm overcurrent (R224-R226) -/

/-- Start of the 10 µs frame that holds instant `t` of the model's clock. -/
def State.frameOf (s : State) (t : Nat) : Nat := t - (((s.stAt (t - s.c0)).fdiv 65536) % 4000).toNat

/-- The comparator of arm a at an edge at the present instant, on the latest 32 bits, the newest being bit 0 (R246): from 32
clock periods after the engine's start, |x| is beyond T_int. -/
def State.comparator (s : State) (a : Nat) (bits : BitVec 32) : Bool :=
  let e := s.fil.eng
  let x := privOut ((List.range 32).map (fun i => if bits.getLsbD i then (1 : Int) else -1))
  s.win.occ.getLsbD a && e.run && decide (e.start + (16 * a + 640 : Nat) ≤ s.ticks)
    && decide (s.tInt (s.win.octh.getD a 0) a < (x.natAbs : Int))

/-- Several arms operated in one frame: a phase-leg or DC-pole fault, in place of their overcurrents (R226), raised with the
faults of the same clock. -/
def legFault (a : Nat) (s : State) : State :=
  let s := ((s.rsb .celEvt 7 true).rsb .celEvt 8 true).rsb .celLastoc 3 true
  holdFault { code := 0x0471, base := .l3, acc := 3, addr := regAddr .celOcth a, index := a } true s

/-- The operations of the frame that began at `f` close (R224, R226). -/
def closeFrame (ops : List (Nat × Nat)) (f : Nat) (s : State) : State :=
  match ((ops.filter (fun o => decide (o.2 = f))).map (fun o => o.1)).eraseDups with
  | [] => s
  | [a] => holdAt 0x0470 .l1 .celOcth a (s.rsb .celEvt 7 true)
  | a :: _ => legFault a s

/-- At a 10 µs boundary the frames before it close; their operations stand for those of the same frames that are still to
arrive, which the comparator's 0.75 µs allows. -/
def closeOps (s : State) : State :=
  let cur := s.frameOf s.now
  let shut := s.win.ops.filter (fun o => decide (o.2 < cur))
  let s : State := { s with win := { s.win with ops := s.win.ops.filter (fun o => decide (cur ≤ o.2)), opsShut := shut } }
  if ¬ s.awn then s else ((shut.map (fun o => o.2)).eraseDups).foldl (fun s f => closeFrame shut f s) s

/-- The block order of an operation and its note (R224): every link when another arm operated in the same frame (R226). -/
def orderBlock (a tc : Nat) (others : Bool) (s : State) : State :=
  let x := s.arm a
  let ls := (s.mappedTo a).map linkOf
  let s := if others then blockAll s else blockLinks (fun l => ls.contains l) (fun i => decide (s.armOf i = a)) s
  let s := s.setArm a { x with oc := true, ocFirst := if x.oc then x.ocFirst else tc, ocLast := tc
                               ocFrame := some (s.frameOf tc), ocRaised := x.oc && x.ocRaised }
  (s.rs .celLastoc (fld 0 a ||| bitAt 3 others)).rs .celLastoct (s.shortOf tc)

/-- The comparator of arm a operates on a crossing at `tc`, in a frame still open or one already closed (R225, R226). -/
def operate (a tc : Nat) (s : State) : State :=
  let f := s.frameOf tc
  let other (l : List (Nat × Nat)) : Bool := l.any (fun o => decide (o.1 ≠ a) && decide (o.2 = f))
  let closed := decide (f < s.frameOf s.now) && s.tim.frameAt.any (fun b => decide (s.frameOf s.now ≤ b))
  let others := other s.win.ops || other s.win.opsShut
  let s := orderBlock a tc others s
  if ¬ closed then { s with win := { s.win with ops := s.win.ops ++ [(a, f)] } }
  else
    let s := { s with win := { s.win with opsShut := s.win.opsShut ++ [(a, f)] } }
    if others then raiseHeld (legFault a s) else faultAt 0x0470 .l1 .celOcth a (s.rsb .celEvt 7 true)

/-- ARM_OVERCURRENT (R224, R246): at an edge of its clock the comparator of arm a looks at the latest 32 bits; when it
operates, the crossing lies 0.75 µs before the edge. -/
def execArmOvercurrent (t a : Nat) (bits : BitVec 32) (s : State) : Host.Outcome State Fault Refusal :=
  let s := s.begin t
  .next (if s.awn ∧ a < 6 ∧ s.comparator a bits then operate a (s.now - 300) s else s)

/-- The arms that a privileged sample of the frame just past found at or beyond their release level, where there was a sample
(R225): at a boundary, before or after it has been taken. -/
def State.frameHigh (s : State) : Option Nat :=
  if s.tim.frameAt = some s.now then s.win.relPrev
  else if s.onGrid s.framePeriod ∧ s.win.relSeen then some s.win.relHigh else none

/-- ARM_DEBLOCK (R225): at a frame boundary, T_REL after the latest crossing, the current having stayed below the release level
for the whole frame before it. -/
def execArmDeblock (t a : Nat) (s : State) : Host.Outcome State Fault Refusal :=
  let s := s.begin t
  let x := s.arm a
  .next (if a < 6 ∧ x.oc ∧ x.ocLast + field s.win.occ 8 8 * 4000 ≤ s.now ∧ s.frameHigh.any (fun m => !(m.testBit a)) then
    s.setArm a { x with oc := false, ocRaised := false }
  else s)

/-- OVERCURRENT_PERSIST (R225): 2 ms after the first crossing of the block. -/
def execOvercurrentPersist (t a : Nat) (s : State) : Host.Outcome State Fault Refusal :=
  let s := s.begin t
  let x := s.arm a
  .next (if a < 6 ∧ x.oc ∧ ¬ x.ocRaised ∧ x.ocFirst + 800000 ≤ s.now ∧ s.awn then
    faultAt 0x0472 .l3 .celOcth a ((s.setArm a { x with ocRaised := true }).rsb .celEvt 9 true)
  else s)

/-- BYPASS_FAIL (R221): no confirmation within T_CONF. -/
def execBypassFail (t i : Nat) (s : State) : Host.Outcome State Fault Refusal :=
  let s := s.begin t
  let p := (s.cell i).prot
  .next (match p.bypAt with
    | some b =>
      if p.st = 6 ∧ s.awn ∧ b + s.rf .celCtrl 8 8 * 400000 ≤ s.now then
        faultAt 0x0375 .l3 .celState i ((s.setProt i { p with bypAt := none }).rsb .celEvt 5 true)
      else s
    | none => s)

/-! ### The boundary -/

/-- Settings that take effect at a frame boundary (R70, R130, R234). -/
def latchSettings (s : State) : State :=
  let w := { s.win with occ := s.rg .celOccfg, octh := (List.range 6).map (fun a => s.rg .celOcth a), bs := s.rg .winBscfg
                        rw := s.rg .winRestwin }
  { s with win := w, len := { s.len with launch := s.rf .lenLaunch 0 12 } }

/-- Sorts start (R118); damaged scratch discards an arm's sort (R427). -/
def startSorts (ue : List Nat) (s : State) : State :=
  (List.range 6).foldl (fun s a =>
    let s : State := { s with win := { s.win with sortAt := some s.now } }
    let x := s.arm a
    if ue.contains a then memFault 6 .l1 3 a none (s.setArm a { x with sortNext := x.sort })
    else s.setArm a { x with sortNext := s.sortNow a }) s

/-- The carriers of the cells of a FIXED arm start at the arm's C (R164). -/
def startOwn (a : Nat) (c0 : Int) (s : State) : State :=
  (s.slotsOf a).foldl (fun s i => if (s.cell i).fire.own.origin.isSome then s else startCarrier (.own i) c0 s) s

/-- A BS cell of a FIXED arm whose count has passed t_bs_max before the window from `w0`, as a lowered T_BS_MAX leaves it, rests
from there (R117, R130). -/
def restOverdue (a : Nat) (w0 : Int) (s : State) : State :=
  (s.slotsOf a).foldl (fun s i =>
    if s.isBs i ∧ s.cst i = 4 ∧ (s.cell i).prot.rest.isNone ∧ (s.bsOrigin i w0).any (fun b => decide (b + s.tBsMax < w0)) then
      (startRest i w0 s).rsb .winEvt 3 true
    else s) s

/-- FIXED modulation of the arms in SERVICE and FACTORY_TEST (R116, R164, R169). -/
def followFixed (s : State) : State :=
  if ¬ s.bench then s
  else (List.range 6).foldl (fun s a =>
    let x := s.arm a
    let w0 := s.winStart
    if s.rb .winFixen a then
      let s := if x.deblocked then s else startCarrier (.fixed a) w0 (s.setArm a { x with deblocked := true })
      restOverdue a w0 (startOwn a ((s.arm a).fixCar.origin.getD w0) s)
    else if x.deblocked then
      (s.slotsOf a).foldl (fun s i => s.setFire i { (s.cell i).fire with own := { (s.cell i).fire.own with origin := none } })
        (s.setArm a { x with deblocked := false, fixCar := { x.fixCar with origin := none } })
    else s) s

/-- The payload of a beat (R322). -/
def State.beatBytes (s : State) : List Byte :=
  let flags := (s.slotId % 2) + (if s.awn then 2 else 0) + (if s.ready then 4 else 0)
    + (if s.red.sent.any (fun b => b.handover) && s.red.hand.isSome then 8 else 0) + (if s.red.resyncReq then 16 else 0)
  [BitVec.ofNat 8 0x11, BitVec.ofNat 8 flags, BitVec.ofNat 8 (modeCode s.mode + 16 * (if s.mode = .run then subCode s.sub else 0)), 0]
    ++ leBytes 4 (if s.awn then s.rg .redEpoch else s.rg .redEpochseen).toNat
    ++ leBytes 4 (if s.awn then (wordOf (s.gridPoint + 24000)).toNat else 0) ++ leBytes 4 s.red.bseq
    ++ leBytes 4 (s.rg .redCkseq).toNat ++ leBytes 4 s.cfgDigest.toNat ++ leBytes 8 (lowBits 64 s.ticks)

/-- A beat leaves. -/
def sendBeat (s : State) : State :=
  if ¬ s.rb .redCtrl 0 ∨ s.mode = .off ∨ s.mode = .init then s
  else { s.put (.beat s.beatBytes) with red := { s.red with bseq := (s.red.bseq + 1) % 2 ^ 32 } }

/-- FRAME_BOUNDARY: sorts, evaluation and beats; the faults detected in it are of one clock (R450); `ue` names the arms whose sort met damaged scratch. -/
def frameBoundary (ue : List Nat) (s : State) : State :=
  let grid := s.onGrid 4000 || decide (s.tim.stepAt = some s.now)
  let s := slewStep { s with tim := { s.tim with frameAt := some s.now } }
  let s := latchSettings s
  let w := s.win
  let s := { s with red := { s.red with firstFrame := false },
                    win := { w with relPrev := if w.relSeen then some w.relHigh else none, relHigh := 0, relSeen := false } }
  let s := if grid then closeOps s else s
  let s := followFixed (readTables s)
  let s := evalCells s
  let s := if grid then startSorts ue (countStale s) else s
  let s := watchReady (raiseHeld (watchShort s))
  let w0 := s.winStart
  let s := if s.mode = .precharge ∧ 2 ≤ s.win.stage then
      (List.range 6).foldl (fun s a => selectCharge a w0 (w0 + (s.framePeriod : Int)) s) s
    else s
  let s := if s.awn ∧ ¬ s.handedOver then s.rs .redLease (wordOf (s.gridPoint + 24000)) else s
  sendPdelay (ppsFall (if grid then sendBeat s else s))

def execFrameBoundary (t : Nat) (ue : List Nat) (s : State) : Host.Outcome State Fault Refusal :=
  let s := s.begin t
  .next (if s.atFrame then frameBoundary ue s else s)

end Sys2Proof.Machine
end

