-- ==== Sys2Proof/Machine/SheafCore.lean ====
section
/-!
DEFINITION. Sheaves (R341-R358): entries, validation, the prepare phase, the apply, and the outcomes.
-/
namespace Sys2Proof.Machine

/-! ### Entries (R341-R344) -/

/-- The TYPE that an address takes under a mask; none where no TYPE does (R342). -/
def entryKind (r : Reg) (mask : Word) : Option Nat :=
  match r.name with
  | .lenProf | .lenBiq | .lenRegn | .lenBank | .filCoef | .celIdl | .celIdh | .fscOvr | .fscFxcell => some 2
  | .celCfg => if mask = 0x00018000 then some 5 else if mask &&& 0x00018000 = 0 then some 2 else none
  | .fscGdp | .fscGdmap => some 5
  | _ => match r.unit with
    | 9 | 10 | 11 | 12 | 13 | 14 | 15 | 17 => some 1
    | _ => none

/-- What refuses an entry when it is added (R344); `kind` holds bytes 0-3. -/
def entryCheck (s : State) (e : SheafEntry) : Check :=
  let no : Check := some ⟨.badParam, true⟩
  match e.kind with
  | 3 | 4 => refuse (decide (e.addr ≠ 0) || decide (e.mask ≠ 0xFFFFFFFF)
      || decide ((if e.kind = 3 then 16 else 65536) ≤ e.value.toNat)) no
  | _ => match regAt e.addr with
    | none => no
    | some r =>
      let p := r.name.spec
      firstOf [refuse (decide (e.mask = 0) || decide (entryKind r e.mask ≠ some e.kind) || !r.name.writable
          || ((decide (p.w1c ≠ 0) || decide (p.wo ≠ 0)) && decide (e.mask ≠ 0xFFFFFFFF))) no,
        refuse (s.absentReg r) (some ⟨.unitAbsent, true⟩)]

/-- The word an entry writes over `old` (R341). -/
def entryWord (e : SheafEntry) (old : Word) : Word := (old &&& ~~~ e.mask) ||| (e.value &&& e.mask)

/-- How an entry reaches its register. -/
def entryHow (e : SheafEntry) : How := if e.kind = 5 then .gdp else .sheaf

/-- One entry over the values left so far: the values after it, and the register with the word written. -/
def entryStep (x : State × List (Option (Reg × Word))) (e : SheafEntry) : State × List (Option (Reg × Word)) :=
  if e.kind = 3 ∨ e.kind = 4 then (x.1, x.2 ++ [none])
  else match regAt e.addr with
    | none => (x.1, x.2 ++ [none])
    | some r =>
      let v := entryWord e (x.1.rg r.name r.i r.j)
      (if r.unit = 11 then lenWrite r v x.1 else storeReg r v x.1, x.2 ++ [some (r, v)])

/-- The values a whole sheaf leaves, and what each entry writes. -/
def entryWords (es : List SheafEntry) (s : State) : State × List (Option (Reg × Word)) := es.foldl entryStep (s, [])

/-! ### Validation (R349, R350) -/

/-- Index of the first element that satisfies `p`. -/
def firstIdx {α : Type} (p : α → Bool) (l : List α) : Option Nat := l.findIdx? p

/-- An entry that a module without the awn may not carry (check 4). -/
def needsAwn (e : SheafEntry) : Bool :=
  decide (3 ≤ e.kind) || (match regAt e.addr with
    | some r => r.name.replicated
    | none => false)

/-- Check 6 for one entry of sheaf n, whose owner is m; `w` holds the values the whole sheaf leaves. -/
def entryRule (s w : State) (n m : Nat) (e : SheafEntry) (x : Option (Reg × Word)) : Check :=
  match e.kind, x with
  | 3, _ => refuse (w.rb .lenCtrl 5 || (w.rb .lenBankctl 4 && decide (w.rf .lenBankctl 0 4 = e.value.toNat))) badState
  | 4, _ => firstOf [refuse (!(s.mayAccess m true ⟨.celCmd, 0, 0⟩)) denied, refuse (s.cellHeld (some n) (field e.value 0 12)) busyNow,
      cellCmdCheck s (field e.value 0 12) (field e.value 12 4)]
  | _, some (r, v) => firstOf [refuse (!(s.mayAccess m true r)) denied, writeCheck s w (entryHow e) m r v]
  | _, none => bad

/-- Index and status of the first entry that check 6 refuses. -/
def firstRule (s w : State) (n m : Nat) : Nat → List SheafEntry → List (Option (Reg × Word)) → Option (Nat × Status)
  | i, e :: es, x :: xs => match entryRule s w n m e x with
    | some d => some (i, d.st)
    | none => firstRule s w n m (i + 1) es xs
  | _, _, _ => none

/-- Checks 4 and 6: status and detail of the first failure. -/
def State.sheafRules (s : State) (n : Nat) (x : Sheaf) : Option (Status × Nat) :=
  match (if s.awn then none else firstIdx needsAwn x.es) with
  | some i => some (.notAwnHolder, 0x1000 + i)
  | none =>
    let w := entryWords x.es s
    (firstRule s w.1 n x.owner 0 x.es w.2).map (fun p => (p.2, 0x1000 + p.1))

/-- Check 5: the first entry whose address others wrote or hold. -/
def State.sheafConflict (s : State) (n : Nat) (x : Sheaf) : Option Nat :=
  firstIdx (fun e => decide (e.kind ≠ 3) && decide (e.kind ≠ 4)
    && (x.wrote.contains e.addr || s.heldBySheaf (some n) e.addr)) x.es

/-- Check 3: another sheaf with GDP entries has its boundary within 40 µs of `b`. -/
def State.sheafNear (s : State) (n : Nat) (b : Int) : Option Nat :=
  (s.shf.use.find? (fun p => decide (p.1 ≠ n) && p.2.hasGdp && decide (2 ≤ p.2.state) && (match p.2.due with
    | some d => decide ((d - b).natAbs ≤ 16000)
    | none => false))).map (fun p => p.1)

/-! ### Outcomes (R354, R357, R358) -/

/-- Queue a cancel on a link, after `wait` frames at least (R356). -/
def queueCancel (wait id : Nat) (k : Link) : Link :=
  { k with cancel := k.cancel ++ List.replicate (wait - k.cancel.length) 0 ++ [id] }

/-- Cancel the set of a sheaf on every link that was sent a request; requests still waiting are dropped. -/
def cancelSet (x : Sheaf) (s : State) : State :=
  x.links.foldl (fun s p =>
    let k := s.link p.1
    let mine (y : Txn) : Bool := decide (y.op = 5) && decide (y.prep = x.prep)
    let left := (k.waiting.filter mine).length
    let k := { k with waiting := k.waiting.filter (fun y => !mine y) }
    s.setLink p.1 (if left < p.2 then queueCancel 0 x.prep k else k)) s

/-- The outcome of sheaf n: the handle is free, the registers and the commit's reply say how it ended. -/
def endSheaf (n : Nat) (st : Status) (detail : Nat) (data : List Byte) (s : State) : State :=
  let s := { s with shf := { s.shf with use := Tab.erase s.shf.use n } }
  let s := s.rs .shfSres (fld 0 (statusCode st) ||| fld 16 detail) n
  let s := if st = .ok then (s.rsb .shfEvt 0 true).rsat .shfCommitcnt 0 32 1
    else (s.rsb .shfEvt (if st = .sheafConflict then 2 else 1) true).rsat .shfAbortcnt 0 32 1
  answerAll (fun w => decide (w = .sheaf n)) st detail data s

/-- A sheaf ends without effect. -/
def abortSheaf (n : Nat) (st : Status) (detail : Nat) (s : State) : State :=
  match s.sheaf n with
  | none => s
  | some x => endSheaf n st detail [0, 0, 0, 0] (if x.prep = 0 then s else cancelSet x s)

/-- Every sheaf is lost with the awn; its commit is never answered (R335, R357). -/
def loseSheaves (s : State) : State :=
  let s := { s with shf := { s.shf with use := [] } }
  [0, 1, 2, 3].foldl (fun s q =>
    let p := s.path q
    s.setPath q { p with outst := p.outst.filter (fun o => match o.wait with
      | .sheaf _ | .mode _ => false
      | _ => true) }) s

/-! ### The prepare phase (R349, R352-R354) -/

/-- The first boundary of `period` at or after `b` that check 3 admits. -/
def State.freeBoundary (s : State) (n period : Nat) (gdp : Bool) : Nat → Int → Int
  | 0, b => b
  | fuel + 1, b => if gdp && (s.sheafNear n b).isSome then s.freeBoundary n period gdp fuel (b + period) else b

/-- Sheaf n is READY; where its commit left the boundary open, it is chosen now. -/
def readySheaf (n : Nat) (s : State) : State :=
  match s.sheaf n with
  | none => s
  | some x =>
    let period := if x.how = 2 then 40000 else 4000
    let least := s.ticks + (if x.hasGdp then 16000 else 8000)
    let due := x.due.getD (s.freeBoundary n period x.hasGdp 64 (nextGrid period (least - 1)))
    (s.setSheaf n { x with state := 3, due := some due }).rs .shfStime (wordOf due) n

/-- The next PREP_ID that no CGT may hold. -/
def State.nextPrep (s : State) : Nat :=
  let held := s.heldPreps
  (((List.range 255).map (fun k => (s.shf.prepLast + k) % 255 + 1)).find? (fun i => !held.contains i)).getD 1

/-- Write images of the entries for the cell in slot k of its link: address in the CGT and bytes, ascending (R199, R352). -/
def cellImages (w : State) (es : List SheafEntry) (i : Nat) : List (Nat × List Byte) :=
  let k := i % 24
  let has (n : RName) (p : Nat) : Bool := es.any (fun e => decide (e.kind = 5) && decide (e.addr = regAddr n p))
  ((List.range 16).filter (has .fscGdp)).map (fun p => (cgtAddr k (0x40 + 4 * p), leBytes 4 (w.rg .fscGdp p).toNat))
    ++ ((List.range 16).filter (has .fscGdmap)).map (fun p => (cgtAddr k (0x80 + 2 * p), leBytes 2 (w.rg .fscGdmap p).toNat))
    ++ (if has .celCfg i then [(cgtAddr k 0xC0, leBytes 4 (w.rf .celCfg 15 2 i))] else [])

/-- Pack images into requests of at most 64 bytes; no image spans two. -/
def packImages : List Byte → List (Nat × List Byte) → List (List Byte)
  | cur, [] => if cur.isEmpty then [] else [cur]
  | cur, (a, d) :: r =>
    let img := leBytes 4 a ++ leBytes 1 d.length ++ d
    if 64 < cur.length + img.length then cur :: packImages img r else packImages (cur ++ img) r

/-- Start the prepare phase of sheaf n. -/
def prepareSheaf (n : Nat) (s : State) : State :=
  match s.sheaf n with
  | none => s
  | some x =>
    let w := (entryWords x.es s).1
    let id := s.nextPrep
    let cells := s.enrolled.filter (fun i => !(cellImages w x.es i).isEmpty)
    let links := ((List.range 128).filter (fun l => cells.any (fun i => decide (linkOf i = l)))).map (fun l =>
      (l, packImages [] ((cells.filter (fun i => decide (linkOf i = l))).flatMap (cellImages w x.es))))
    let s := { s with shf := { s.shf with prepLast := id } }
    let s := s.setSheaf n { x with state := 2, prep := id, links := links.map (fun p => (p.1, p.2.length)), cells := cells
                                   waitOk := (links.map (fun p => p.2.length)).sum }
    let s := links.foldl (fun s p => p.2.foldl (fun s d => pushTxn p.1 5 31 id 0 d d.length (.prepare n) s) s) s
    if links.isEmpty then readySheaf n s else s

/-- A PREPARE request of sheaf n has been answered. -/
def prepareAnswer (n : Nat) (x : Txn) (l : Nat) (ok : Bool) (s : State) : State :=
  match s.sheaf n with
  | none => s
  | some h =>
    if h.state ≠ 2 ∨ h.prep ≠ x.prep then s
    else if ¬ ok ∨ h.due.any (fun d => decide (d - 16000 < s.ticks)) then abortSheaf n .aborted (0x2000 + l) s
    else
      let s := s.setSheaf n { h with waitOk := h.waitOk - 1 }
      if h.waitOk ≤ 1 then readySheaf n s else s

/-- A PREPARE request has timed out: with a boundary chosen the deadline decides (R354), else the sheaf ends now. -/
def prepareTimeout (n : Nat) (x : Txn) (l : Nat) (s : State) : State :=
  match s.sheaf n with
  | none => s
  | some h => if h.state = 2 ∧ h.prep = x.prep ∧ h.due.isNone then abortSheaf n .aborted (0x2000 + l) s else s

/-- A cell has enrolled: a set prepared before does not reach it (R354). -/
def forgetPrepared (i : Nat) (s : State) : State :=
  { s with shf := { s.shf with use := s.shf.use.map (fun p => (p.1, { p.2 with cells := p.2.cells.filter (fun j => decide (j ≠ i)) })) } }

/-- Links that a request of a sheaf's set waits for or is in flight on. -/
def State.openLinks (s : State) (x : Sheaf) : List Nat :=
  (x.links.map (fun p => p.1)).filter (fun l => ((s.link l).waiting ++ (s.link l).flight).any (fun y =>
    decide (y.op = 5) && decide (y.prep = x.prep)))

/-- PREPARE_DEADLINE (R354): the deadline of a chosen boundary, or, where none is chosen, no request left to answer. -/
def execPrepareDeadline (t n : Nat) (s : State) : Host.Outcome State Fault Refusal :=
  let s := s.begin t
  .next (match s.sheaf n with
    | some x =>
      let late : Bool := match x.due with
        | some d => decide (d - 16000 ≤ s.ticks)
        | none => (s.openLinks x).isEmpty
      if x.state = 2 ∧ late then
        abortSheaf n .aborted (0x2000 + (s.openLinks x).headD ((x.links.map (fun p => p.1)).headD 0)) s
      else s
    | none => s)

/-- SHEAF_TIMEOUT (R347). -/
def execSheafTimeout (t n : Nat) (s : State) : Host.Outcome State Fault Refusal :=
  let s := s.begin t
  let lim := s.rf .shfCtrl 0 8
  .next (match s.sheaf n with
    | some x =>
      if x.state = 1 ∧ lim ≠ 0 ∧ x.opened + lim * 400000000 ≤ s.now then
        ({ s with shf := { s.shf with use := Tab.erase s.shf.use n } } : State).rsb .shfEvt 4 true
      else s
    | none => s)

/-! ### The apply (R355, R356) -/

/-- One entry takes effect; bank selections follow the other entries. -/
def applyEntry (n m : Nat) (s : State) (e : SheafEntry) : State :=
  match e.kind with
  | 3 => s
  | 4 => cellCmd (field e.value 0 12) (field e.value 12 4) s
  | _ => match regAt e.addr with
    | none => s
    | some r =>
      let v := entryWord e (s.rg r.name r.i r.j)
      let s := if e.kind = 5 then storeReg r v s else (writeEffect m r v s).1
      afterWrite (some n) m e.addr r s

/-- Bank selections of a sheaf (R343). -/
def applyBanks (es : List SheafEntry) (s : State) : State :=
  es.foldl (fun s e => if e.kind ≠ 3 then s
    else
      let s := changeBank e.value.toNat s
      s.setLen { s.len with reg := { s.len.reg with override := true } }) s

/-- The three downloads of R158 for one cell. -/
def downloadCell (s : State) (i : Nat) : State := sendMaps i (sendProfiles i (sendGroup i s))

/-- APPLY_ID goes out with the next three frames, the cancel after them; cells without the set are downloaded to. -/
def applySet (x : Sheaf) (due : Int) (s : State) : State :=
  let s := x.links.foldl (fun s p =>
    if ¬ s.linkUp p.1 then s
    else
      let k := s.link p.1
      s.setLink p.1 { queueCancel 3 x.prep k with apply := List.replicate 3 x.prep
                                                  watch := some (wordOf (due + 12000), s.rf .lnkLstat 16 8 p.1) }) s
  let w := s
  ((s.enrolled.filter (fun i => !(x.cells.contains i))).filter (fun i => !(cellImages w x.es i).isEmpty)).foldl downloadCell s

/-- Sheaf n takes effect at its boundary (R355). -/
def applySheaf (n : Nat) (s : State) : State :=
  match s.sheaf n with
  | some x => match x.due with
    | some d =>
      if x.state ≠ 3 ∨ s.ticks < d then s
      else match s.sheafRules n x with
        | some f => abortSheaf n f.1 f.2 s
        | none =>
          let b := s.len.reg.bank
          let old := s
          let s := x.es.foldl (applyEntry n x.owner) s
          let touched := x.es.any (fun e => decide (e.kind = 2) && (match regAt e.addr with
            | some r => decide (r.name = .lenBank) && decide (r.i = b)
            | none => false))
          let s := if touched ∧ s.running then bankRewritten (fun j => old.bankNum b j) s else s
          let s := applyBanks x.es s
          let s := if x.hasGdp then applySet x d s else s
          endSheaf n .ok 0 (leBytes 4 (wordOf d).toNat) s
    | none => s
  | none => s

/-- The sheaves that commit at this instant, in commit order. -/
def State.dueSheaves (s : State) : List Nat :=
  let due := s.shf.use.filter (fun p => decide (p.2.state = 3) && p.2.due.any (fun d => decide (d ≤ s.ticks)))
  (sortBy (fun p q => decide (p.2.order < q.2.order)) due).map (fun p => p.1)

/-- Sheaves that share n's boundary and were committed before it are applied before it (R355). -/
def applyBefore (n : Nat) (s : State) : State :=
  if s.dueSheaves.contains n then
    (s.dueSheaves.takeWhile (fun k => decide (k ≠ n))).foldl (fun s k => applySheaf k s) s
  else s

/-- SHEAF_APPLY (R355). -/
def execSheafApply (t n : Nat) (s : State) : Host.Outcome State Fault Refusal :=
  .next (applySheaf n (applyBefore n (s.begin t)))

/-- The uplink after the three APPLY_ID frames: a CHAFF count that has moved repeats the download (R356). -/
def watchApply (l chaff : Nat) (s : State) : State :=
  match (s.link l).watch with
  | none => s
  | some (w, c) =>
    if shortDiff (s.bOf l) w < 0 then s
    else
      let s := s.setLink l { s.link l with watch := none }
      if chaff = c then s
      else
        let s := (s.enrolled.filter (fun i => decide (linkOf i = l))).foldl downloadCell s
        faultAt 0x0BC0 .l0 .lnkLstat l (s.rsb .shfEvt 5 true)

end Sys2Proof.Machine
end

