-- ==== Sys2Proof/Machine/Boundary.lean ====
section
/-!
DEFINITION. The outer boundary as a command (R64, R89): the sheaves that commit at it, its measurement, decision and control
laws; and the timed changes of sub-mode as commands of their own (R36, R46-R58, R61).
-/
namespace Sys2Proof.Machine

/-! ### The boundary (R89) -/

/-- The first steps of an outer boundary, once: its sheaves are applied, the global parameters are taken over, and in a running
state the power and sequence measurement runs on what the boundary frame still uses (R65, R89, R102). -/
def openBoundary (s : State) : State :=
  if s.tim.openAt = some s.now then s
  else
    let s := s.dueSheaves.foldl (fun s n => applySheaf n s) s
    let s : State := { s with tim := { s.tim with openAt := some s.now },
                              len := { s.len with glob := (List.range 32).map (fun i => s.rg .lenGlob i) } }
    if s.running then outerMeasure (noteOld s) else s

/-- OUTER_BOUNDARY (R89). `ue` names damaged coefficient words by their address, and by 0 the checkpoint buffer (R427). -/
def outerBoundary (ue : List Nat) (s : State) : State :=
  let s := openBoundary (coefUe (ue.filter (fun a => decide (a ≠ 0))) s)
  let s := if s.awn ∨ ¬ s.rb .redCtrl 0 then deadTimes s else s
  let s := startHandover s
  let s := if s.running then outerRunning s else decideMode s
  let s : State := budgetTick { s with tim := { s.tim with outAt := some s.now } }
  sendCheckpoint (ue.contains 0) (cellRecs (lenOut (readouts s)))

/-- Every tenth frame boundary is an outer boundary (R64). -/
def execOuterBoundary (t : Nat) (ue : List Nat) (s : State) : Host.Outcome State Fault Refusal :=
  let s := s.begin t
  .next (if s.atOuter then outerBoundary ue s else s)

/-! ### Timed changes of sub-mode -/

/-- A timed cause seen by a row of its own: at an outer boundary that has not run yet, and only where it is the highest
cause there (R36, R39). The rest of the boundary is left to OUTER_BOUNDARY. -/
def boundaryCause (cs : List Cause) (s : State) : State :=
  if ¬ s.atOuter then s
  else
    let b := openBoundary s
    match b.cause with
    | some c => if cs.contains c then takeCause c b else s
    | none => s

/-- DEBLOCK (R36, R37). -/
def execDeblock (s : State) : Host.Outcome State Fault Refusal := .next (boundaryCause [.deblock] (s.begin s.now))

/-- FRT_EXIT (R46). -/
def execFrtExit (s : State) : Host.Outcome State Fault Refusal := .next (boundaryCause [.frtExit] (s.begin s.now))

/-- FRT_TIMEOUT (R48): T_MAX since entry. -/
def execFrtTimeout (s : State) : Host.Outcome State Fault Refusal :=
  .next (boundaryCause [.frtTrip, .frtStop] (s.begin s.now))

/-- AUTO_ISLANDING (R50). -/
def execAutoIslanding (s : State) : Host.Outcome State Fault Refusal := .next (boundaryCause [.autoIsland] (s.begin s.now))

/-- CLOSURE_DETECTED (R53). -/
def execClosureDetected (t : Nat) (s : State) : Host.Outcome State Fault Refusal :=
  .next (boundaryCause [.closure] (s.begin t))

/-- BLACKSTART_DONE (R57). -/
def execBlackstartDone (s : State) : Host.Outcome State Fault Refusal := .next (boundaryCause [.bsDone] (s.begin s.now))

/-- BLACKSTART_FAIL (R56). -/
def execBlackstartFail (s : State) : Host.Outcome State Fault Refusal := .next (boundaryCause [.bsFail] (s.begin s.now))

/-- RESYNC_PERMIT_ON (R52): the three conditions have held for T_PERM. -/
def execResyncPermitOn (t : Nat) (s : State) : Host.Outcome State Fault Refusal :=
  let s := s.begin t
  let r := s.len.rs
  .next (match r.ok with
    | some b =>
      if r.on ∧ ¬ r.paused ∧ ¬ r.permit ∧ b + msTicks (s.gl 18) ≤ s.now then
        emit 0 4 0 (s.setLen { s.len with rs := { r with permit := true } })
      else s
    | none => s)

/-- RESYNC_TIMEOUT (R54). -/
def execResyncTimeout (t : Nat) (s : State) : Host.Outcome State Fault Refusal :=
  let s := s.begin t
  let r := s.len.rs
  .next (if r.on ∧ r.started + secTicks (s.gl 19) ≤ s.now then emit 0 6 0 (stopResync s) else s)

/-- STOP_TIMEOUT (R58): T_STOP after entry. -/
def execStopTimeout (t : Nat) (s : State) : Host.Outcome State Fault Refusal :=
  let s := s.begin t
  .next (if s.mode = .stopping ∧ s.len.run.stopEnd ≤ s.now then enterArmed (blockAll s) else s)

/-- DC_GUARD_END (R61): V_dc back in its band for 100 ms. -/
def execDcGuardEnd (t : Nat) (s : State) : Host.Outcome State Fault Refusal :=
  let s := s.begin t
  let r := s.len.run
  .next (match r.guardBack with
    | some b =>
      if r.guard ∧ b + 40000000 ≤ s.now then
        s.setLen { s.len with run := { r with guard := false, guardBack := none } }
      else s
    | none => s)

end Sys2Proof.Machine
end

