-- ==== Sys2Proof/Machine/Operands.lean ====
section
/-!
DEFINITION. Command packets: the operations that hosts ask for, their payloads (R345, R376, R380, R414, R455, R459), and the
packet around them (R365).
-/
namespace Sys2Proof.Machine

/-- A host operation with the fields of its payload. -/
inductive HostOp where
  | ping
  | sysStatus
  | sysIdent
  | eventSub (mask : Nat)
  | pathReset
  | regRead (addr n : Nat)
  | regWrite (addr : Nat) (ws : List Word)
  | regRmw (addr : Nat) (mask value : Word)
  | memRead (addr len : Nat)
  | memWrite (addr : Nat) (data : List Byte)
  | memFill (addr len : Nat) (pat : BitVec 64)
  | precharge
  | start
  | blackStart
  | island
  | resync (cancel : Bool)
  | stop
  | tieStatus (closed ac : Bool) (time : Word)
  | resetTrip (service : Bool)
  | serviceEnter
  | serviceLeave
  | sheafOpen
  | sheafAdd (n : Nat) (es : List SheafEntry)
  | sheafCommit (n mode : Nat) (time : Word)
  | sheafDiscard (n : Nat)
  | cellCmd (cell cmd : Nat)
  | cellTxn (link slot op : Nat) (addr : Word) (data : List Byte)
  | linkBlock (link : Nat) (all : Bool)
  | recStatus
  | safConfigWrite (img : List Byte)
  | safConfigConfirm (lane : Nat) (crc : Word)
  | safStatus
  | safReset
  | pairClaim
  | pairSwitchover
  | pairResync
  | timeGet
  | timeStepAbs (sec ns frac : Nat)
  | timeStepRel (amount : Int)
  | timeStepToRef
  | bistRun (mask : Word)
  | bistResult (mask : Word)
  | faultAck (mask : Nat)
  | faultLogRead (first count : Nat)
  | factoryEnter
  | faultInject (code : Nat) (addr : Word)
  | memInject (addr a : Nat) (b : Option Nat)
  | linkInject (link cause count : Nat) (up : Bool)
  | injClear
  | factoryLeave
deriving DecidableEq, Repr

/-- The opcode of an operation (R345, R376, R414, R455, R459). -/
def HostOp.opcode : HostOp → Nat
  | .ping => 0x0001
  | .sysStatus => 0x0002
  | .sysIdent => 0x0003
  | .eventSub _ => 0x0004
  | .pathReset => 0x0005
  | .regRead _ _ => 0x0100
  | .regWrite _ _ => 0x0101
  | .regRmw _ _ _ => 0x0102
  | .memRead _ _ => 0x0200
  | .memWrite _ _ => 0x0201
  | .memFill _ _ _ => 0x0202
  | .precharge => 0x0300
  | .start => 0x0301
  | .blackStart => 0x0302
  | .island => 0x0303
  | .resync _ => 0x0304
  | .stop => 0x0305
  | .tieStatus _ _ _ => 0x0306
  | .resetTrip _ => 0x0307
  | .serviceEnter => 0x0308
  | .serviceLeave => 0x0309
  | .sheafOpen => 0x0400
  | .sheafAdd _ _ => 0x0401
  | .sheafCommit _ _ _ => 0x0402
  | .sheafDiscard _ => 0x0403
  | .cellCmd _ _ => 0x0500
  | .cellTxn _ _ _ _ _ => 0x0501
  | .linkBlock _ _ => 0x0502
  | .recStatus => 0x0600
  | .safConfigWrite _ => 0x0700
  | .safConfigConfirm _ _ => 0x0701
  | .safStatus => 0x0702
  | .safReset => 0x0703
  | .pairClaim => 0x0800
  | .pairSwitchover => 0x0801
  | .pairResync => 0x0802
  | .timeGet => 0x0900
  | .timeStepAbs _ _ _ | .timeStepRel _ | .timeStepToRef => 0x0901
  | .bistRun _ => 0x0A00
  | .bistResult _ => 0x0A01
  | .faultAck _ => 0x0A02
  | .faultLogRead _ _ => 0x0A03
  | .factoryEnter => 0x0F00
  | .faultInject _ _ => 0x0F01
  | .memInject _ _ _ => 0x0F02
  | .linkInject _ _ _ _ => 0x0F03
  | .injClear => 0x0F04
  | .factoryLeave => 0x0F05

/-- A flag as a byte. -/
def flagByte (b : Bool) : List Byte := [if b then 1 else 0]

/-- The 16 bytes of a sheaf entry (R341). -/
def sheafBytes (e : SheafEntry) : List Byte :=
  leBytes 4 e.kind ++ leBytes 4 e.addr ++ leBytes 4 e.value.toNat ++ leBytes 4 e.mask.toNat

/-- The payload of an operation. -/
def HostOp.payload : HostOp → List Byte
  | .eventSub m => leBytes 1 m ++ [0, 0, 0]
  | .regRead a n => leBytes 4 a ++ leBytes 2 n ++ [0, 0]
  | .regWrite a ws => leBytes 4 a ++ leBytes 2 ws.length ++ [0, 0] ++ ws.flatMap (fun w => leBytes 4 w.toNat)
  | .regRmw a m v => leBytes 4 a ++ leBytes 4 m.toNat ++ leBytes 4 v.toNat
  | .memRead a n => leBytes 4 a ++ leBytes 2 n ++ [0, 0]
  | .memWrite a d => leBytes 4 a ++ leBytes 2 d.length ++ [0, 0] ++ d
  | .memFill a n p => leBytes 4 a ++ leBytes 4 n ++ leBytes 8 p.toNat
  | .resync c => flagByte c ++ [0, 0, 0]
  | .tieStatus c a w => flagByte c ++ flagByte a ++ [0, 0] ++ leBytes 4 w.toNat
  | .resetTrip x => flagByte x ++ [0, 0, 0]
  | .sheafOpen => [0, 0, 0, 0]
  | .sheafAdd n es => leBytes 1 n ++ [0, 0, 0] ++ es.flatMap sheafBytes
  | .sheafCommit n m w => leBytes 1 n ++ leBytes 1 m ++ [0, 0] ++ leBytes 4 w.toNat
  | .sheafDiscard n => leBytes 1 n ++ [0, 0, 0]
  | .cellCmd i c => leBytes 2 i ++ leBytes 1 c ++ [0]
  | .cellTxn l k o a d => leBytes 2 l ++ leBytes 1 k ++ leBytes 1 o ++ leBytes 4 a.toNat ++ leBytes 1 d.length ++ [0, 0, 0] ++ d
  | .linkBlock l a => leBytes 1 l ++ flagByte a ++ [0, 0]
  | .safConfigWrite im => im
  | .safConfigConfirm l c => leBytes 1 l ++ [0, 0, 0] ++ leBytes 4 c.toNat
  | .timeStepAbs x n f => [0, 0, 0, 0] ++ leBytes 6 x ++ leBytes 4 n ++ leBytes 2 f
  | .timeStepRel v => [1, 0, 0, 0] ++ leBytes 8 (lowBits 80 v / 65536) ++ leBytes 2 (lowBits 80 v % 65536) ++ [0, 0]
  | .timeStepToRef => [2, 0, 0, 0]
  | .bistRun m => leBytes 4 m.toNat
  | .bistResult m => leBytes 4 m.toNat
  | .faultAck m => leBytes 2 m ++ [0, 0]
  | .faultLogRead j n => leBytes 1 j ++ leBytes 1 n ++ [0, 0]
  | .faultInject c a => leBytes 2 c ++ [0, 0] ++ leBytes 4 a.toNat
  | .memInject a x y => leBytes 4 a ++ leBytes 1 x ++ leBytes 1 (y.getD 255) ++ [0, 0]
  | .linkInject l c n u => leBytes 1 l ++ leBytes 1 c ++ leBytes 1 n ++ flagByte u
  | .ping | .sysStatus | .sysIdent | .pathReset | .precharge | .start | .blackStart | .island | .stop | .serviceEnter
  | .serviceLeave | .recStatus | .safStatus | .safReset | .pairClaim | .pairSwitchover | .pairResync | .timeGet
  | .factoryEnter | .injClear | .factoryLeave => []

/-- Every field fits its place in the payload. -/
def HostOp.fits : HostOp → Bool
  | .eventSub m => decide (m < 256)
  | .regRead a n | .memRead a n => decide (a < 2 ^ 32) && decide (n < 65536)
  | .regWrite a ws => decide (a < 2 ^ 32) && decide (ws.length < 65536)
  | .regRmw a _ _ => decide (a < 2 ^ 32)
  | .memWrite a d => decide (a < 2 ^ 32) && decide (d.length < 65536)
  | .memFill a n _ => decide (a < 2 ^ 32) && decide (n < 2 ^ 32)
  | .sheafAdd n es => decide (n < 256) && !es.isEmpty && es.all (fun e => decide (e.kind < 2 ^ 32) && decide (e.addr < 2 ^ 32))
  | .sheafCommit n m _ => decide (n < 256) && decide (m < 256)
  | .sheafDiscard n => decide (n < 256)
  | .cellCmd i c => decide (i < 65536) && decide (c < 256)
  | .cellTxn l k o _ d => decide (l < 65536) && decide (k < 256) && decide (o < 256) && decide (d.length < 256)
  | .linkBlock l _ => decide (l < 256)
  | .safConfigWrite im => decide (im.length = 128)
  | .safConfigConfirm l _ => decide (l < 256)
  | .timeStepAbs x n f => decide (x < 2 ^ 48) && decide (n < 2 ^ 32) && decide (f < 65536)
  | .timeStepRel v => decide (-(2 ^ 79) ≤ v) && decide (v < 2 ^ 79)
  | .faultAck m => decide (m < 65536)
  | .faultLogRead j n => decide (j < 256) && decide (n < 256)
  | .faultInject c _ => decide (c < 65536)
  | .memInject a x y => decide (a < 2 ^ 32) && decide (x < 256) && decide (y.getD 0 < 255)
  | .linkInject l c n _ => decide (l < 256) && decide (c < 256) && decide (n < 256)
  | _ => true

/-- Refusal of R368, order 9, which is logged, and of a field that breaks a rule of the opcode, which is not. -/
def lenBad : Deny := ⟨.badParam, true⟩
def fieldBad : Deny := ⟨.badParam, false⟩

/-- A payload of `len` bytes whose bytes at or past `len0` are data; of the bytes before, those that `named` does not name
are reserved. -/
def layout (len len0 : Nat) (named : List Nat) (p : List Byte) (r : Except Deny HostOp) : Except Deny HostOp :=
  if p.length ≠ len then .error lenBad
  else if (List.range len0).any (fun k => !named.contains k && decide (p.getD k 0 ≠ 0)) then .error fieldBad
  else r

/-- A byte that is 0 or 1. -/
def flagAt (p : List Byte) (k : Nat) (f : Bool → Except Deny HostOp) : Except Deny HostOp :=
  if 1 < leAt p k 1 then .error fieldBad else f (decide (leAt p k 1 = 1))

/-- A 32-bit field. -/
def wordAt (p : List Byte) (k : Nat) : Word := BitVec.ofNat 32 (leAt p k 4)

/-- `n` words from byte k. -/
def wordsAt (p : List Byte) (k n : Nat) : List Word := (List.range n).map (fun j => wordAt p (k + 4 * j))

/-- The sheaf entry at byte k. -/
def entryAt (p : List Byte) (k : Nat) : SheafEntry := ⟨leAt p k 4, leAt p (k + 4) 4, wordAt p (k + 8), wordAt p (k + 12)⟩

/-- The three forms of TIME_STEP (R380). -/
def parseStep (p : List Byte) : Except Deny HostOp :=
  let b (lo n : Nat) : List Nat := (List.range n).map (fun k => lo + k)
  match leAt p 0 1 with
  | 0 => layout 16 16 (0 :: b 4 12) p (.ok (.timeStepAbs (leAt p 4 6) (leAt p 10 4) (leAt p 14 2)))
  | 1 => layout 16 16 (0 :: b 4 10) p (.ok (.timeStepRel (signed 80 (leAt p 4 8 * 65536 + leAt p 12 2))))
  | 2 => layout 4 4 [0] p (.ok .timeStepToRef)
  | _ => layout 16 0 [] p (.error fieldBad)

/-- The operation of an opcode with a payload; none where the opcode is not defined or only the module sends it. -/
def parseOp (op : Nat) (p : List Byte) : Option (Except Deny HostOp) :=
  let b (lo n : Nat) : List Nat := (List.range n).map (fun k => lo + k)
  let none_ (o : HostOp) : Option (Except Deny HostOp) := some (layout 0 0 [] p (.ok o))
  match op with
  | 0x0001 => none_ .ping
  | 0x0002 => none_ .sysStatus
  | 0x0003 => none_ .sysIdent
  | 0x0004 => some (layout 4 4 [0] p (.ok (.eventSub (leAt p 0 1))))
  | 0x0005 => none_ .pathReset
  | 0x0100 => some (layout 8 8 (b 0 6) p (.ok (.regRead (leAt p 0 4) (leAt p 4 2))))
  | 0x0101 => some (layout (8 + 4 * leAt p 4 2) 8 (b 0 6) p (.ok (.regWrite (leAt p 0 4) (wordsAt p 8 (leAt p 4 2)))))
  | 0x0102 => some (layout 12 12 (b 0 12) p (.ok (.regRmw (leAt p 0 4) (wordAt p 4) (wordAt p 8))))
  | 0x0200 => some (layout 8 8 (b 0 6) p (.ok (.memRead (leAt p 0 4) (leAt p 4 2))))
  | 0x0201 => some (layout (8 + leAt p 4 2) 8 (b 0 6) p (.ok (.memWrite (leAt p 0 4) (p.drop 8))))
  | 0x0202 => some (layout 16 16 (b 0 16) p (.ok (.memFill (leAt p 0 4) (leAt p 4 4) (BitVec.ofNat 64 (leAt p 8 8)))))
  | 0x0300 => none_ .precharge
  | 0x0301 => none_ .start
  | 0x0302 => none_ .blackStart
  | 0x0303 => none_ .island
  | 0x0304 => some (layout 4 4 [0] p (flagAt p 0 (fun c => .ok (.resync c))))
  | 0x0305 => none_ .stop
  | 0x0306 => some (layout 8 8 (b 0 2 ++ b 4 4) p (flagAt p 0 (fun c => flagAt p 1 (fun a => .ok (.tieStatus c a (wordAt p 4))))))
  | 0x0307 => some (layout 4 4 [0] p (flagAt p 0 (fun x => .ok (.resetTrip x))))
  | 0x0308 => none_ .serviceEnter
  | 0x0309 => none_ .serviceLeave
  | 0x0400 => some (layout 4 4 [0] p (.ok .sheafOpen))
  | 0x0401 => some (if p.length < 20 ∨ p.length % 16 ≠ 4 then .error lenBad
      else layout p.length 4 [0] p (.ok (.sheafAdd (leAt p 0 1)
        ((List.range ((p.length - 4) / 16)).map (fun j => entryAt p (4 + 16 * j))))))
  | 0x0402 => some (layout 8 8 (b 0 2 ++ b 4 4) p (.ok (.sheafCommit (leAt p 0 1) (leAt p 1 1) (wordAt p 4))))
  | 0x0403 => some (layout 4 4 [0] p (.ok (.sheafDiscard (leAt p 0 1))))
  | 0x0500 => some (layout 4 4 (b 0 3) p (.ok (.cellCmd (leAt p 0 2) (leAt p 2 1))))
  | 0x0501 => some (layout (12 + leAt p 8 1) 12 (b 0 9) p (.ok (.cellTxn (leAt p 0 2) (leAt p 2 1) (leAt p 3 1) (wordAt p 4)
      (p.drop 12))))
  | 0x0502 => some (layout 4 4 (b 0 2) p (flagAt p 1 (fun a => .ok (.linkBlock (leAt p 0 1) a))))
  | 0x0600 => none_ .recStatus
  | 0x0700 => some (layout 128 0 [] p (.ok (.safConfigWrite p)))
  | 0x0701 => some (layout 8 8 (0 :: b 4 4) p (.ok (.safConfigConfirm (leAt p 0 1) (wordAt p 4))))
  | 0x0702 => none_ .safStatus
  | 0x0703 => none_ .safReset
  | 0x0800 => none_ .pairClaim
  | 0x0801 => none_ .pairSwitchover
  | 0x0802 => none_ .pairResync
  | 0x0900 => none_ .timeGet
  | 0x0901 => some (parseStep p)
  | 0x0A00 => some (layout 4 4 (b 0 4) p (.ok (.bistRun (wordAt p 0))))
  | 0x0A01 => some (layout 4 4 (b 0 4) p (.ok (.bistResult (wordAt p 0))))
  | 0x0A02 => some (layout 4 4 (b 0 2) p (.ok (.faultAck (leAt p 0 2))))
  | 0x0A03 => some (layout 4 4 (b 0 2) p (.ok (.faultLogRead (leAt p 0 1) (leAt p 1 1))))
  | 0x0F00 => none_ .factoryEnter
  | 0x0F01 => some (layout 8 8 (b 0 2 ++ b 4 4) p (.ok (.faultInject (leAt p 0 2) (wordAt p 4))))
  | 0x0F02 => some (layout 8 8 (b 0 6) p (.ok (.memInject (leAt p 0 4) (leAt p 4 1)
      (if leAt p 5 1 = 255 then none else some (leAt p 5 1)))))
  | 0x0F03 => some (layout 4 4 (b 0 4) p (flagAt p 3 (fun u => .ok (.linkInject (leAt p 0 1) (leAt p 1 1) (leAt p 2 1) u))))
  | 0x0F04 => none_ .injClear
  | 0x0F05 => none_ .factoryLeave
  | 0x0F06 | 0x0F07 | 0x0F08 | 0x0F09 | 0x0F0A | 0x0F0B | 0x0F0C | 0x0F0D | 0x0F0E | 0x0F0F => some (.error fieldBad)
  | _ => none

/-! ### The packet (R365) -/

/-- A request packet: header, payload, check. -/
def packetBytes (h : Hdr) (op : Nat) (p : List Byte) : List Byte :=
  let b := ([0x01, 0x00] : List Byte) ++ leBytes 2 op ++ leBytes 2 h.tag.toNat ++ leBytes 2 p.length ++ [0, 0]
    ++ leBytes 2 h.session.toNat ++ leBytes 4 h.seq.toNat ++ p
  b ++ leBytes 4 (crc32c b).toNat

/-- What a packet holds: its header fields, its opcode without REPLY, whether order 4 of R368 passes, its payload. -/
structure Packet where
  hdr : Hdr
  op : Nat
  headOk : Bool
  payload : List Byte
deriving DecidableEq, Repr

/-- The packet in received bytes; none where order 1 of R368 fails. -/
def parsePacket (q : Path) (via : Via) (b : List Byte) : Option Packet :=
  let n := leAt b 6 2
  if b.length ≠ 20 + n ∨ 4096 < n ∨ wordAt b (16 + n) ≠ crc32c (b.take (16 + n)) then none
  else
    let h : Hdr := ⟨q, via, BitVec.ofNat 16 (leAt b 4 2), BitVec.ofNat 16 (leAt b 10 2), wordAt b 12⟩
    some ⟨h, leAt b 2 2 % 0x8000, decide (leAt b 0 1 = 1) && decide (leAt b 1 1 = 0) && decide (leAt b 2 2 < 0x8000),
      (b.drop 16).take n⟩

end Sys2Proof.Machine
end

