-- ==== Sys2Proof/Machine/Link.lean ====
section
/-!
DEFINITION. The uplink and the life of a link (R190-R207): chaff tests, telemetry, round trips, transaction responses,
training, enrolment, quarantine; and the epochs a module sees (R324, R326).
-/
namespace Sys2Proof.Machine

/-! ### Epochs (R324-R326) -/

/-- The awn is confirmed at the new holder of a deliberate handover (R337). -/
def handoverDone (s : State) : State :=
  let e := (s.rg .redEpochseen).toNat
  let s := stopEngine (blockArms { s with red := { s.red with awn := false, hand := none, takeReq := false } })
  let s := loseSheaves (((s.rs .redEpoch 0).rs .redLease 0).rsb .redEvt 6 true)
  let s := emit 2 2 0 (setMode .standbyCold s.sub s) e
  answerAll (fun w => decide (w = .switchover)) .ok 0 [] s

/-- The awn is given up to a higher epoch (R326). Without a partner another device commands the cells: a block order then goes
out on every UP link, whatever the state. -/
def loseAwn (s : State) : State :=
  let pair := s.rb .redCtrl 0
  let s := stopEngine (blockArms { s with red := { s.red with awn := false, hand := none, takeReq := false } })
  let s := loseSheaves (((s.rs .redEpoch 0).rs .redLease 0).rsb .redEvt 1 true)
  let s := answerAll (fun w => decide (w = .switchover)) .aborted 0 [] s
  if pair then
    fault 0x0CA1 .l1 (if s.mode = .tripped then s else setMode .standbyCold s.sub s)
  else raise { code := 0x0CA1, base := .l3 } (blockAll s) true

/-- An epoch is seen in a beat, an uplink or a checkpoint. -/
def seeEpoch (e : Nat) (s : State) : State :=
  let s := if (s.rg .redEpochseen).toNat < e then s.rs .redEpochseen (BitVec.ofNat 32 e) else s
  if s.awn ∧ (s.rg .redEpoch).toNat < e then (if s.red.hand.isSome then handoverDone s else loseAwn s) else s

/-! ### Training (R200, R202) -/

/-- A fresh nonce. -/
def takeNonce (s : State) : State × BitVec 128 := ({ s with fresh := s.fresh + 1 }, Config.freeNonce s.fresh)

/-- Send KEYX unless it is under way. -/
def sendKeyx (l : Nat) (s : State) : State :=
  let k := s.link l
  if (k.waiting ++ k.flight).any (fun x => decide (x.org = .keyx)) then s
  else
    let (s, n) := takeNonce s
    pushTxn l 4 31 0 0 (bytes128 n) 16 .keyx (s.setLink l { s.link l with nonce := n })

/-- Spread of the round trips in 1/16 tick. -/
def spread (l : List Int) : Int := (l.foldl max (l.headD 0)) - (l.foldl min (l.headD 0))

/-- Stages 2 to 5 of R200: identity known, 64 round trips within 4 ns, the session key, UP. -/
def trainStep (l : Nat) (s : State) : State :=
  let k := s.link l
  if k.stage ≠ 1 ∨ ¬ k.idKnown ∨ k.rtts.length < 64 ∨ 25 < spread k.rtts then s
  else if s.rb .lnkLctrl 1 l ∧ k.key.isNone then sendKeyx l s
  else checkWindow (startEnrol l (setStage l 2 s))

/-! ### Transaction results (R197, R201, R202, R204) -/

/-- LINK IDENTITY (R200, R201). -/
def identityFault (l : Nat) (s : State) : State := faultAt 0x0267 .l1 .lnkLstat l (s.rsb .lnkEvt 8 true)

/-- The CGT identity block has been read (R199, R200). -/
def gotIdentity (l : Nat) (d : List Byte) (s : State) : State :=
  let lo : Word := BitVec.ofNat 32 (leAt d 0 4)
  let hi : Word := BitVec.ofNat 32 (leAt d 4 4)
  let s := (s.rs .lnkCgtidl lo l).rs .lnkCgtidh hi l
  let el := s.rg .lnkExpidl l
  let eh := s.rg .lnkExpidh l
  if (el ≠ 0 ∨ eh ≠ 0) ∧ (el ≠ lo ∨ eh ≠ hi) then
    identityFault l (s.setLink l { s.link l with idBad := some s.now, idKnown := false })
  else
    let held := leAt d 15 1
    let k := { s.link l with idBad := none, idKnown := true, present := leAt d 12 3, held := held }
    let s := s.setLink l k
    let s := if 24 < held ∧ ¬ k.overflow then
        faultAt 0x0266 .l0 .lnkLstat l ((s.setLink l { k with overflow := true }).rsb .lnkEvt 7 true)
      else s
    trainStep l s

/-- The identity and class of a cell have been read (R201, R204, R212, R213). -/
def gotCell (l k : Nat) (d : List Byte) (s : State) : State :=
  let i := 24 * l + k
  let lo : Word := BitVec.ofNat 32 (leAt d 0 4)
  let hi : Word := BitVec.ofNat 32 (leAt d 4 4)
  let cls := leAt d 8 4
  let unset := decide (s.rg .celIdl i = 0) && decide (s.rg .celIdh i = 0)
  let same := (unset || (decide (s.rg .celIdl i = lo) && decide (s.rg .celIdh i = hi)))
    && decide (s.isFb i = cls.testBit 0) && decide (s.isBs i = cls.testBit 1)
  let st := s.cst i
  let was := (s.link l).idMatch
  let s := s.setLink l { s.link l with idMatch := if same then Nat.lor was (2 ^ k) else was - Nat.land was (2 ^ k) }
  if ¬ same then nextEnrol l 25 (identityFault l (if 1 ≤ st ∧ st ≤ 7 then quarantineCell i s else s))
  else if st ≠ 0 ∨ (¬ s.awn ∧ (s.link l).leaseValid) then nextEnrol l 25 s
  else
    let s := if unset then (s.rs .celIdl lo i).rs .celIdh hi i else s
    pushTxn l 3 k 0 0 [] 0 (.enrol k) s

/-- Enrolment of a cell completes (R201, R216, R230). -/
def enrolDone (l k : Nat) (s : State) : State :=
  let i := 24 * l + k
  let c := s.cell i
  let byp := c.tel.status.testBit 6
  let z := Cell.init
  let prot : CellSt := { z.prot with st := if byp then 7 else 1, cause := if byp then c.prot.cause else 0, qTries := c.prot.qTries }
  let tel : CellTel := { c.tel with rdy := 0, low := 0, inv := 0, uv := 0, echoBad := [], volt := 0, trans := 0, transFF := false, dead := none
                                    prev := 0, prevNew := 0, due := [] }
  forgetPrepared i (nextEnrol l 25 (s.setCell i ⟨tel, prot, { z.fire with own := c.fire.own, ovr := c.fire.ovr }⟩))

/-- A request of the module to a CGT has been answered with OK (`ok`) or another result, or has timed out. -/
def moduleTxn (l : Nat) (x : Txn) (ok : Bool) (d : List Byte) (s : State) : State :=
  match x.org with
  | .host _ => s
  | .ident => if ok then gotIdentity l d s else pushTxn l 1 31 0 0 [] 20 .ident s
  | .keyx =>
    if ok then
      let k := s.link l
      let m := ([0x45, 0x44, 0x4C, 0x01] : List Byte) ++ bytes128 k.nonce ++ bytesAt d 0 16
      let key : BitVec 128 := BitVec.ofNat 128 (ofLe (cmac (bytes128 k.keyReg) m))
      trainStep l (s.setLink l { k with key := some key })
    else sendKeyx l s
  | .cellId k => if ok then gotCell l k d s else nextEnrol l 25 s
  | .enrol k => if ok then sendGroup (24 * l + k) s else nextEnrol l 25 s
  | .group k =>
    if s.cst (24 * l + k) ≠ 0 then (if ok then s else sendGroup (24 * l + k) s)
    else if ok then sendProfiles (24 * l + k) s else nextEnrol l 25 s
  | .profiles k =>
    if s.cst (24 * l + k) ≠ 0 then (if ok then s else sendProfiles (24 * l + k) s)
    else if ok then sendMaps (24 * l + k) s else nextEnrol l 25 s
  | .maps k =>
    if s.cst (24 * l + k) ≠ 0 then (if ok then s else sendMaps (24 * l + k) s)
    else if ok then enrolDone l k s else nextEnrol l 25 s
  | .prepare n => prepareAnswer n x l ok s
  | .gone => s

/-- A READ that covers the identity or the class of slot k returned bytes that differ from those enrolled (R204). -/
def State.readDiffers (s : State) (x : Txn) (i k : Nat) (d : List Byte) : Bool :=
  let ident := leBytes 4 (s.rg .celIdl i).toNat ++ leBytes 4 (s.rg .celIdh i).toNat
  let base := cgtAddr k 0
  (d.take x.len).zipIdx.any (fun p =>
    let a := x.addr.toNat + p.2
    if base ≤ a ∧ a < base + 8 then decide (ident.getD (a - base) 0 ≠ p.1)
    else decide (a = base + 8) && (decide (p.1.toNat.testBit 0 ≠ s.isFb i) || decide (p.1.toNat.testBit 1 ≠ s.isBs i)))

/-- A READ passed through for a host also shows the identity and class of the cells it covers (R204). -/
def watchRead (l : Nat) (x : Txn) (result : Nat) (d : List Byte) (s : State) : State :=
  if x.op = 1 ∧ result = 0 then
    (List.range 24).foldl (fun s k =>
      if s.readDiffers x (24 * l + k) k d then quarantineCell (24 * l + k) s else s) s
  else s

/-- A response with TID `tid` (R197): one that names no request in flight is counted. -/
def txnDone (l tid result : Nat) (d : List Byte) (s : State) : State :=
  let k := s.link l
  match k.flight.find? (fun x => decide (x.tid = tid)) with
  | none => s.rsat .lnkTxn 5 11 1 l
  | some x =>
    let s := s.setLink l { k with flight := removeFirst (fun y => decide (y.tid = tid)) k.flight }
    match x.org with
    | .host h => watchRead l x result d (answer ⟨h, 0x0501, .txn l 0⟩ .ok 0 (leBytes 4 result ++ d) s)
    | _ => moduleTxn l x (decide (result = 0)) d s

/-- TXN_RESPONSE (R197). -/
def execTxnResponse (t l tid result : Nat) (data : List Byte) (s : State) : Host.Outcome State Fault Refusal :=
  let s := s.begin t
  .next (if s.links ≤ l ∨ (s.link l).stage = 0 ∨ (s.link l).stage = 3 then s else txnDone l tid result data s)

/-- TXN_TIMEOUT (R197): timers stand still at burst rate. -/
def execTxnTimeout (t l tid : Nat) (s : State) : Host.Outcome State Fault Refusal :=
  let s := s.begin t
  let k := s.link l
  .next (match k.flight.find? (fun x => decide (x.tid = tid)) with
    | some x =>
      if s.len.bur.on ∨ s.now < x.sent + s.rf .lnkTxnto 0 16 * 4000 then s
      else
        let s := s.setLink l { k with flight := removeFirst (fun y => decide (y.tid = tid)) k.flight }
        let s := faultAt 0x0268 .l0 .lnkTxn l ((s.rsat .lnkTxn 16 16 1 l).rsb .lnkEvt 9 true)
        (match x.org with
         | .host h => answer ⟨h, 0x0501, .txn l 0⟩ .timeout 0 [] s
         | .prepare n => prepareTimeout n x l s
         | _ => moduleTxn l x false [] s)
    | none => s)

/-! ### Chaff (R203, R205) -/

/-- Frames counted as chaff within the last 1,000 frame periods. -/
def chaffNow (now : Nat) (l : List (Nat × Bool)) : List (Nat × Bool) := l.filter (fun x => decide (now < x.1 + 4000000))

/-- An uplink frame is rejected under cause 1 CHECK, 2 TAG, 3 MALFORMED, 4 SEQ, 5 EPOCH. -/
def rejectUplink (l cause : Nat) (s : State) : State :=
  let s := match cause with
    | 1 => s.rsat .lnkChaff0 0 16 1 l
    | 2 => s.rsat .lnkChaff0 16 16 1 l
    | 3 => s.rsat .lnkChaff1 0 16 1 l
    | 4 => s.rsat .lnkChaff1 16 16 1 l
    | _ => s.rsat .lnkChaff2 0 16 1 l
  let k := s.link l
  let c := chaffNow s.now k.chaff ++ [(s.now, decide (cause = 2))]
  let s := s.setLink l { k with chaff := c }
  let rate := decide (s.rf .lnkCtrl 0 8 ≤ c.length)
  let tags := decide (8 ≤ (c.filter (fun x => x.2)).length)
  if !s.awn || decide (k.stage = 3) || decide (k.stage = 0) || !(rate || tags) then s
  else
    let s := (quarantineLink l s).when rate (faultAt 0x0262 .l1 .lnkLstat l)
    s.when tags (fun s => faultAt 0x0263 .l1 .lnkLstat l (s.rsb .lnkEvt 4 true))

/-- Signed difference of two 16-bit sequences. -/
def seqDiff (a b : Nat) : Int := signed 16 (a + 65536 - b % 65536)

/-- The first failing test of R203 for a frame, if any. -/
def uplinkTest (s : State) (l : Nat) (damaged : Bool) (b : List Byte) : Option Nat :=
  let k := s.link l
  let b0 := leAt b 0 1
  let b1 := leAt b 1 1
  let auth := b1.testBit 0
  let tail := if auth then 8 else 4
  let body := b.take (b.length - tail)
  let crcOk := decide (tail ≤ b.length) && decide (leAt b (b.length - tail) 4 = (crc32c body).toNat)
  let tagOk : Bool := match k.key with
    | none => true
    | some key => auth && decide (b.drop (b.length - 4) = frameTag key (b.take (b.length - 4)))
  let txn := leAt b 21 1
  let formed := decide (b0 = 0x18) && decide (b1 < 64) && decide (leAt b 3 1 = l) && decide (txn ≤ 72)
    && decide (b.length = 320 + txn + tail) && decide (b.length ≤ 400) && decide (leAt b 22 10 = 0)
    && (decide (txn < 8) || (decide (leAt b 321 1 < 32) && decide (leAt b 323 1 = 0)))
  let epoch := leAt b 4 4
  let last := if b1.testBit 2 then k.rxSeq1 else k.rxSeq0
  let ahead : Bool := match last with
    | none => true
    | some q => decide (0 < seqDiff (leAt b 16 2) q)
  let wasReset := decide (epoch = 0) && decide (k.epochCur ≠ 0)
  if damaged ∨ ¬ crcOk then some 1
  else if ¬ tagOk then some 2
  else if ¬ formed then some 3
  else if wasReset then none
  else if ¬ ahead then some 4
  else if epoch < k.epochCur ∧ epoch ≠ 0 then some 5
  else none

/-! ### An accepted frame -/

/-- The round trip of an accepted frame (R195, R196); `sof` is its time stamp in 1/16 tick. -/
def takeRtt (l : Nat) (sof : Int) (b : List Byte) (s : State) : State :=
  let k := s.link l
  match k.sofs.find? (fun x => decide (x.1 = leAt b 18 2)) with
  | none => s
  | some (_, se) =>
    let rtt := sof - 16 * se - (leAt b 12 4 : Nat)
    let s := s.rs .lnkRtt (BitVec.ofNat 32 (lowBits 24 rtt)) l
    let far := !k.rtts.isEmpty && decide ((rtt * (k.rtts.length : Int) - k.rtts.sum).natAbs > 128 * k.rtts.length)
    let before := s.delayOf l
    if far then
      if 8 ≤ k.outl.length + 1 then
        let s := s.setLink l { k with rtts := ([rtt] ++ k.outl).take 64, outl := [] }
        checkWindow (faultAt 0x0265 .l1 .lnkDelay l (s.rsb .lnkEvt 6 true))
      else s.setLink l { k with outl := rtt :: k.outl }
    else
      let s := s.setLink l { k with rtts := (rtt :: k.rtts).take 64, outl := [] }
      if k.stage = 2 ∧ s.delayOf l ≠ before then checkWindow s else s

/-- The record of one slot reaches the table (R191, R204). -/
def takeRecord (l k : Nat) (b : List Byte) (s : State) : State :=
  let i := 24 * l + k
  let r := bytesAt b (32 + 12 * k) 12
  let c := s.cell i
  if c.prot.st = 8 ∨ (c.prot.st = 0 ∧ ofLe r = 0) then s
  else
    let v := leAt r 0 2
    let x := leAt r 2 2
    let tr := leAt r 4 1
    let echo := leAt r 7 1
    let vb := (s.rnum .lenBase 4).mul (Num.ofRatio 3 2)
    let strange := (decide (v = 0xFFFF) && x.testBit 15) || (decide (v ≠ 0xFFFF) && Num.lt vb (kvOf v) && !(x.testBit 13))
    let volt := if strange then c.tel.volt + 1 else 0
    let wrong := !c.fire.sent.isEmpty && !(c.fire.sent.contains echo)
    let bad := c.tel.echoBad.filter (fun t => decide (s.now < t + 4000000)) ++ (if wrong then [s.now] else [])
    let due : List (Word × Nat × Nat) := if s.awn then c.tel.due ++ [(s.bOf l, v, x)] else []
    let tel : CellTel := { c.tel with vcap := v, temp := leAt r 5 1, gsv := leAt r 6 1, status := x, fresh := true, rxAt := s.now, due := due
                                      prev := if s.awn then c.tel.prev else x, prevNew := if s.awn then c.tel.prevNew else 0
                                      excl := false, volt := min 3 volt, echoBad := bad
                                      trans := if tr = 0xFF then c.tel.trans else max tr c.tel.trans
                                      transFF := c.tel.transFF || decide (tr = 0xFF) }
    let s := s.setTel i tel
    let s := s.when (x.testBit 0) (fun s => s.rsat .fscRejcnt 0 32 1)
    if 3 ≤ bad.length ∨ 3 ≤ volt then quarantineCell i s else s

/-- Everything an accepted frame brings. -/
def acceptUplink (l : Nat) (sof : Int) (b : List Byte) (s : State) : State :=
  let k := s.link l
  let b1 := leAt b 1 1
  let fseq := leAt b 16 2
  let epoch := leAt b 4 4
  let last := if b1.testBit 2 then k.rxSeq1 else k.rxSeq0
  let gap : Nat := match last with
    | some q => (seqDiff fseq q - 1).toNat
    | none => 0
  let wasReset := decide (epoch = 0) && decide (k.epochCur ≠ 0)
  let port := if b1.testBit 2 then 1 else 0
  let k' := { k with rxSeq0 := if port = 0 then some fseq else k.rxSeq0, rxSeq1 := if port = 1 then some fseq else k.rxSeq1
                     ackSeq := fseq, rxAt := s.now, epochCur := epoch, leaseValid := b1.testBit 5, upSof := BitVec.ofNat 32 (leAt b 8 4)
                     awnPort := decide (b1.testBit 3 = b1.testBit 2), lastUp := if b1.testBit 5 then s.now else k.lastUp }
  let s := s.setLink l k'
  let s := if wasReset then s else s.rsat .lnkGap 0 32 gap l
  let s := ((s.rsb .lnkLstat 2 false l).rsb .lnkLstat 3 (b1.testBit 4) l).rsf .lnkLstat 16 8 (leAt b 20 1) l
  let s := watchApply l (leAt b 20 1) (takeRtt l sof b s)
  let lateBy := shortDiff s.short (s.bOf l)
  let s := if 4000 < lateBy then
      let n := (s.link l).late + 1
      let s := (s.setLink l { s.link l with late := n }).rsat .lnkChaff2 16 16 1 l
      if n = 10 then faultAt 0x0269 .l0 .lnkLstat l (s.rsb .lnkEvt 10 true) else s
    else s.setLink l { s.link l with late := 0 }
  let s := (List.range 24).foldl (fun s j => takeRecord l j b s) s
  let s := if 8 ≤ leAt b 21 1 then
      let x := bytesAt b 320 (leAt b 21 1)
      txnDone l (leAt x 0 1 % 16) (leAt x 0 1 / 16) (bytesAt x 8 (min (leAt x 2 1) (leAt b 21 1 - 8))) s
    else s
  let s := seeEpoch epoch s
  if wasReset then enterTrain l s else trainStep l s

/-- UPLINK_FRAME (R203): `portErr` a code error inside the frame, `sof` its time stamp in 1/16 tick, `ue` a damaged word of
the link buffer (R427). -/
def execUplinkFrame (t l : Nat) (portErr : Bool) (sof : Nat) (bytes : List Byte) (ue : Bool) (s : State) :
    Host.Outcome State Fault Refusal :=
  let s := s.begin t
  .next (if s.links ≤ l ∨ (s.link l).stage = 0 then s
  else
    let s := if ue then memFault 3 .l1 3 l none s else s
    match uplinkTest s l (portErr || ue) bytes with
    | some c => rejectUplink l c s
    | none =>
      if (s.link l).stage = 3 then s
      else
        let (s, inj) := useInjection l true s
        match inj with
        | some c => rejectUplink l c s
        | none => acceptUplink l (sof : Int) bytes s)

/-! ### Events of a link -/

/-- LINK_TRAIN (R200). -/
def execLinkTrain (t l : Nat) (s : State) : Host.Outcome State Fault Refusal :=
  let s := s.begin t
  .next (if s.links ≤ l ∨ ¬ s.rb .lnkLctrl 0 l ∨ s.mode = .off then s
  else
    let s := s.rsb .lnkLstat 2 false l
    if (s.link l).stage = 0 then enterTrain l s else s)

/-- TRAIN_FAIL (R200): 50 ms in TRAIN; it keeps trying. -/
def execTrainFail (t l : Nat) (s : State) : Host.Outcome State Fault Refusal :=
  let s := s.begin t
  let k := s.link l
  .next (if k.stage = 1 ∧ ¬ k.raisedFail ∧ k.trainAt + 20000000 ≤ s.now then
    faultAt 0x0261 .l1 .lnkLstat l ((s.setLink l { k with raisedFail := true }).rsb .lnkEvt 1 true)
  else s)

/-- IDENTITY_RETRY (R200). -/
def execIdentityRetry (t l : Nat) (s : State) : Host.Outcome State Fault Refusal :=
  let s := s.begin t
  let k := s.link l
  .next (match k.idBad with
    | some b => if k.stage = 1 ∧ b + 400000000 ≤ s.now then pushTxn l 1 31 0 0 [] 20 .ident (s.setLink l { k with idBad := none }) else s
    | none => s)

/-- CODE_ERRORS (R200). -/
def execCodeErrors (t l : Nat) (s : State) : Host.Outcome State Fault Refusal :=
  let s := s.begin t
  .next (if (s.link l).stage = 2 then linkDown l s else s)

/-- LOSS_OF_LIGHT (R200). -/
def execLossOfLight (t l : Nat) (s : State) : Host.Outcome State Fault Refusal :=
  let s := s.begin t
  .next (if s.links ≤ l then s else
    linkDown l ((s.rsb .lnkLstat 2 true l).rsf .lnkOpt 0 8 0x80 l))

/-- REENROL (R206): a link, or slot `cell` of it. One that was quarantined after the attempts of an hour stays so until its
release. -/
def execReenrol (t l : Nat) (cell : Option Nat) (s : State) : Host.Outcome State Fault Refusal :=
  let s := s.begin t
  let k := s.link l
  let wait := s.rf .lnkCtrl 8 8 * 400000000
  let top := s.rf .lnkCtrl 16 4
  .next (match cell with
    | none =>
      let tries := triesNow s.now k.tries
      if k.stage = 3 ∧ k.quarAt + wait ≤ s.now ∧ k.quarLeft < top then
        reenrolLink l (s.setLink l { k with tries := tries ++ [s.now] })
      else s
    | some j =>
      let i := 24 * l + j
      let p := (s.cell i).prot
      let tries := triesNow s.now p.qTries
      if j < 24 ∧ p.st = 8 ∧ k.stage ≠ 3 ∧ p.qAt + wait ≤ s.now ∧ p.qLeft < top then
        enrolSlot i (s.setProt i { p with st := 0, qTries := tries ++ [s.now] })
      else s)

/-- LANE_MARGIN (R209): a measurement of received power and margin; below the threshold for 10 s it raises the fault, which
may come again once the margin has recovered for 10 s. -/
def execLaneMargin (t l : Nat) (pwr : BitVec 8) (margin : Nat) (s : State) : Host.Outcome State Fault Refusal :=
  let s := s.begin t
  .next (if s.links ≤ l then s
  else
    let s := s.rs .lnkOpt (fld 0 pwr.toNat ||| fld 8 (margin % 256)) l
    let k := s.link l
    if margin % 256 < s.rf .lnkMargin 0 8 then
      let since := k.lowSince.getD s.now
      let due := decide (since + 4000000000 ≤ s.now) && !k.marginRaised
      let s := s.setLink l { k with lowSince := some since, okSince := none, marginRaised := k.marginRaised || due }
      if due then replaceCause 1 (faultAt 0x0264 .l1 .lnkOpt l (s.rsb .lnkEvt 5 true)) else s
    else
      let since := k.okSince.getD s.now
      let back := decide (since + 4000000000 ≤ s.now)
      s.setLink l { k with lowSince := none, okSince := some since, marginRaised := k.marginRaised && !back })

end Sys2Proof.Machine
end

