-- ==== Sys2Proof/Machine/Pair.lean ====
section
/-!
DEFINITION. The redundant pair as the surroundings drive it (R306, R318-R337): beats, checkpoints, takeover, handover;
and the end of INIT (R468).
-/
namespace Sys2Proof.Machine

/-- Put the pair. -/
def State.setRed (s : State) (r : RedSt) : State := { s with red := r }

/-! ### Claiming the awn (R324, R325) -/

/-- The smallest epoch of the module's own parity above every epoch seen. -/
def State.nextEpoch (s : State) : Nat :=
  let m := max (s.rg .redEpoch).toNat (s.rg .redEpochseen).toNat
  if (m + 1) % 2 = s.slotId % 2 then m + 1 else m + 2

/-- Claim the awn, unless the epochs are exhausted. From then on S runs from the module's own domain (R306). -/
def claimAwn (s : State) : State :=
  let e := s.nextEpoch
  if 2 ^ 32 ≤ e then fault 0x0CA5 .l3 s
  else
    let s := (s.rs .redEpoch (BitVec.ofNat 32 e)).rs .redEpochseen (BitVec.ofNat 32 e)
    let s := (s.rsat .redTakecnt 0 32 1).rs .redLasttake s.short
    let s := settleDelta (s.setRed { s.red with awn := true, resync := false, resyncReq := false, waitCk := [], ck := none })
    let follows := s.tim.follow
    { s with tim := { s.tim with follow := false, blend := s.tim.blend || follows, diffSince := none } }

/-! ### Times of another module's clock -/

/-- An instant of the partner's clock on the module's own, `d` ticks apart. -/
def shiftBy (d : Int) (t : Nat) : Nat := ((t : Int) + d).toNat

/-- The loop engine of a checkpoint on the module's own clock; θ stands for the boundary, at counter value `c` (R334). -/
def LenSt.toLocal (l : LenSt) (d : Int) (fb : Num) (cnt c : Nat) : LenSt :=
  let f := Option.map (shiftBy d)
  let r := l.run
  let run := { r with bsAt := shiftBy d r.bsAt, bsLast := shiftBy d r.bsLast, bsOk := f r.bsOk, stopAt := shiftBy d r.stopAt
                      stopEnd := shiftBy d r.stopEnd, guardBack := f r.guardBack, estAt := f r.estAt, islSince := f r.islSince
                      moved := none }
  { l with
    launched := f l.launched, outerAt := shiftBy d l.outerAt, old := none, pend := none
    lim := { l.lim with start := f l.lim.start, below := f l.lim.below, budgetAt := shiftBy d l.lim.budgetAt }
    emf := { l.emf with th := l.emf.angleAt fb cnt, thAt := c, blendAt := f l.emf.blendAt }
    frt := { l.frt with entered := shiftBy d l.frt.entered, hold := f l.frt.hold }
    rs := { l.rs with started := shiftBy d l.rs.started, ok := f l.rs.ok, close := f l.rs.close }
    run := run
    reg := { l.reg with blendAt := f l.reg.blendAt }
    bur := { l.bur with reqAt := shiftBy d l.bur.reqAt }
    ene := { l.ene with dev := l.ene.dev.map f, devIn := f l.ene.devIn } }

/-- An arm of a checkpoint on the module's own clock. -/
def Arm.toLocal (d : Int) (x : Arm) : Arm :=
  { x with ocFirst := shiftBy d x.ocFirst, ocLast := shiftBy d x.ocLast, ocFrame := x.ocFrame.map (shiftBy d) }

/-- The protection part of a cell of a checkpoint on the module's own clock. -/
def CellSt.toLocal (d : Int) (p : CellSt) : CellSt :=
  { p with otClear := p.otClear.map (shiftBy d), bypAt := p.bypAt.map (shiftBy d), qAt := shiftBy d p.qAt
           qTries := p.qTries.map (shiftBy d) }

/-- A checkpoint on the module's own clock. -/
def CkBody.toLocal (s : State) (b : CkBody) : CkBody :=
  let age := s.ticks - b.takenAt
  let d := (s.now : Int) - age - b.clock
  let c := ((s.cnt : Int) - age).toNat
  { b with len := b.len.toLocal d s.fb b.cnt c, arms := Tab.mapv (fun _ => Arm.init) (fun _ x => x.toLocal d) b.arms
           cells := Tab.mapv (fun _ => Cell.init) (fun _ x => { x with prot := x.prot.toLocal d }) b.cells
           win := { b.win with readySince := b.win.readySince.map (shiftBy d), ops := [], opsShut := [] }, clock := shiftBy d b.clock, cnt := c }

/-! ### Checkpoints on the standby (R217, R329, R330) -/

/-- The cell table of a checkpoint: states, insertion and F of the sender, the module's own telemetry. -/
def takeCells (t : Tab Cell) (s : State) : State :=
  let z := Cell.init
  let s := { s with cells := Tab.mapv (fun _ => z) (fun _ c => ⟨{ c.tel with dead := none }, z.prot, z.fire⟩) s.cells }
  t.foldl (fun s p =>
    s.setCell p.1 ⟨{ (s.cell p.1).tel with dead := p.2.tel.dead }, p.2.prot, { p.2.fire with sent := [] }⟩) s

/-- Configuration writes of a checkpoint; a full resynchronisation brings every replicated register. -/
def takeCfg (full : Bool) (l : List (Nat × Word)) (s : State) : State :=
  let keep (p : Nat × Word) : Bool := match decodeReg p.1 with
    | some r => !r.name.replicated
    | none => true
  let s := if full then { s with regs := s.regs.filter keep } else s
  l.foldl (fun s p => if keep p then s else { s with regs := Tab.set regReset s.regs p.1 p.2 }) s

/-- Ask for a full resynchronisation. -/
def askResync (s : State) : State :=
  s.setRed { s.red with synced := false, resync := true, resyncReq := true, fullNext := 0, waitCk := [] }

/-- The digests of the two modules are compared after a checkpoint (R330). -/
def compareDigest (s : State) : State :=
  if s.cfgDigest = s.rg .redPcfgdig then s.setRed { s.red with cfgBad := false }
  else
    let was := s.red.cfgBad
    let s := askResync (s.setRed { s.red with cfgBad := true })
    if was then s else fault 0x0CA3 .l1 (s.rsb .redEvt 9 true)

/-- Apply a checkpoint. -/
def applyCk (b : CkBody) (s : State) : State :=
  let late := decide (60000 < s.ticks - b.takenAt)
  let s := takeCells (b.toLocal s).cells (takeCfg b.full b.cfg s)
  let s := s.setRed { s.red with ck := some (b.toLocal s), ckLate := late, lostRun := 0 }
  compareDigest (seeEpoch b.epoch (s.rs .redCkseq (BitVec.ofNat 32 b.seq)))

/-- A checkpoint is complete; while a full resynchronisation runs it waits (R330). -/
def completeCk (b : CkBody) (s : State) : State :=
  if s.red.synced then applyCk b s else s.setRed { s.red with waitCk := s.red.waitCk ++ [b], lostRun := 0 }

/-- A full resynchronisation is complete; the checkpoints that waited follow it. -/
def completeFull (b : CkBody) (s : State) : State :=
  let wait := s.red.waitCk.filter (fun x => decide (b.seq < x.seq))
  let s := s.setRed { s.red with synced := true, resync := false, resyncReq := false, waitCk := [] }
  let s := emit 2 3 0 ((applyCk b s).rsb .redEvt 5 true) b.epoch
  wait.foldl (fun s x => applyCk x s) s

/-- A checkpoint is discarded; two in a row call for a full resynchronisation (R329, R330). -/
def loseCk (s : State) : State :=
  let s := (s.rsat .redCklost 0 32 1).rsb .redEvt 4 true
  let n := s.red.lostRun + 1
  let s := s.setRed { s.red with lostRun := n, segNext := 0 }
  if 2 ≤ n ∧ ¬ s.red.resync then askResync s else s

/-- A segment of a checkpoint. A segment that opens another checkpoint ends an incomplete one. -/
def ckSegment (g : CkSegment) (ue : Bool) (s : State) : State :=
  let fresh := decide (g.idx = 0) || decide (g.seq ≠ s.red.segSeq)
  let s := if fresh ∧ s.red.segNext ≠ 0 then loseCk s else s
  let follows := if fresh then decide (g.idx = 0) else decide (s.red.segNext ≠ 0) && decide (g.idx = s.red.segNext)
  let s := if fresh then s.setRed { s.red with segSeq := g.seq, segNext := 1 }
    else if follows then s.setRed { s.red with segNext := g.idx + 1 } else s
  if ue then loseCk s
  else if ¬ (follows ∧ g.last) then s
  else match g.body with
    | some b => if g.crcOk then completeCk b (s.setRed { s.red with segNext := 0 }) else loseCk s
    | none => loseCk s

/-- A segment of a full resynchronisation; a damaged transfer is asked for again. -/
def fullSegment (g : CkSegment) (ue : Bool) (s : State) : State :=
  if ¬ s.red.resync then s
  else
    let follows := decide (g.idx = 0) || (decide (g.seq = s.red.fullSeq) && decide (g.idx = s.red.fullNext))
    if ue ∨ ¬ follows then s.setRed { s.red with fullNext := 0 }
    else
      let s := s.setRed { s.red with fullSeq := g.seq, fullNext := g.idx + 1 }
      if ¬ g.last then s
      else
        let s := s.setRed { s.red with fullNext := 0 }
        match g.body with
        | some b => if g.crcOk then completeFull b s else s
        | none => s

/-- CHECKPOINT_SEGMENT (R329); `ue` marks a damaged word of the checkpoint buffer (R427). -/
def execCheckpointSegment (t : Nat) (seg : CkSegment) (ue : Bool) (s : State) : Host.Outcome State Fault Refusal :=
  let s := s.begin t
  .next (if ¬ (s.rb .redCtrl 0 ∧ s.red.linkUp ∧ s.mode = .standbyCold) ∨ s.awn then s
    else
      let s := if ue then memFault 3 .l1 3 (regAddr .redCkseq) none s else s
      if seg.full then fullSegment seg ue s else ckSegment seg ue s)

/-! ### Beats (R306, R320, R322, R323) -/

/-- The fields of a beat; none where a reserved bit is set or the type is another. -/
def parseBeat (b : List Byte) (now : Nat) : Option Beat :=
  let x (k n : Nat) : Nat := leAt b k n
  let f := x 1 1
  if b.length ≠ 32 ∨ x 0 1 ≠ 0x11 ∨ 32 ≤ f ∨ x 3 1 ≠ 0 then none
  else some ⟨f.testBit 0, f.testBit 1, f.testBit 2, f.testBit 3, f.testBit 4, x 2 1 % 16, x 2 1 / 16, x 4 4, BitVec.ofNat 32 (x 8 4),
    x 12 4, x 16 4, BitVec.ofNat 32 (x 20 4), x 24 8, now⟩

/-- The follower's difference to the partner, in 2^-16 tick, for a beat received at `rx` (R306). -/
def followTime (tx rx : Nat) (s : State) : State :=
  let d := s.stAt (rx - s.c0) - (signed 64 tx) * 65536
  let s := settleDelta s
  let t := { s.tim with follow := true, blend := false }
  let t : TimSt :=
    if 400 * 65536 < d.natAbs then { t with delta := clampDelta (t.delta - d), slope := 0 }
    else match slewLaw 200 262144 (s.rf .timSlewcfg 0 8 * 1000) t.slope d with
      | some v => { t with slope := v }
      | none => { t with delta := t.delta - d, slope := 0 }
  let far := decide (20 * 65536 < d.natAbs)
  let s := s.rs .timPairdiff (wordOf (divNearest (-d) 4096))
  { s with tim := { t with diffSince := if far then some (t.diffSince.getD s.now) else none, pairRaised := far && t.pairRaised } }

/-- An accepted beat. -/
def acceptBeat (b : Beat) (rx : Nat) (s : State) : State :=
  let r := s.red
  let acc := r.acc + 1
  let lease := if b.awn then some (s.ticks + shortDiff b.leaseEnd s.short) else r.holderLease
  let s := s.setRed { r with beat := some b, lastBeat := s.now, acc := acc, holderLease := lease }
  let s := s.rs .redPcfgdig b.cfgdig
  let s := if b.awn ∧ ¬ s.awn then s.rs .redLease b.leaseEnd else s
  let s := if ¬ r.linkUp ∧ 3 ≤ acc then
      let s := (s.setRed { s.red with linkUp := true, synced := false, segNext := 0 }).rsb .redEvt 3 true
      if s.awn then s else askResync s
    else s
  let s := seeEpoch b.epoch s
  let s := if s.awn ∧ b.resyncReq then s.setRed { s.red with sendFull := true } else s
  if ¬ s.awn ∧ s.red.linkUp then followTime b.txTime rx s else s

/-- BEAT_RECEIVED: a beat that cannot be taken breaks the run of R323; one of the same side never counts. -/
def execBeatReceived (t : Nat) (bytes : List Byte) (rxAt : Nat) (s : State) : Host.Outcome State Fault Refusal :=
  let s := s.begin t
  let r := s.red
  let broken := if r.linkUp then s else s.setRed { r with acc := 0 }
  .next (if s.mode = .off ∨ ¬ s.rb .redCtrl 0 then s
    else match parseBeat bytes s.now with
      | none => broken
      | some b =>
        let acc := if r.linkUp ∨ s.now < r.lastBeat + 12800 then r.acc else 0
        let ahead : Bool := match r.beat with
          | some p => decide (acc = 0) || decide (0 < signed 32 (b.bseq + 2 ^ 32 - p.bseq))
          | none => true
        if b.side = s.slotId.testBit 0 then
          let s := s.setRed { r with acc := 0, sideClash := true }
          if r.sideClash then s else fault 0x0CA3 .l1 (s.rsb .redEvt 9 true)
        else if ¬ ahead then broken
        else acceptBeat b rxAt (s.setRed { r with acc := acc, sideClash := false }))

/-- PAIR_LINK_DOWN (R323): 32 µs without a beat; master 11 is reset (R374). Δ of a follower then goes on from where it is,
blended to its own domain (R306). -/
def execPairLinkDown (t : Nat) (s : State) : Host.Outcome State Fault Refusal :=
  let s := s.begin t
  let r := s.red
  .next (if r.linkUp ∧ r.lastBeat + 12800 ≤ s.now then
    let ready := s.ready
    let s := s.setRed { r with linkUp := false, acc := 0, synced := false, resync := false, resyncReq := false, waitCk := [], segNext := 0
                               fullNext := 0, wasReady := ready }
    let s := settleDelta s
    let tim := { s.tim with follow := false, diffSince := none, pairRaised := false, blend := s.tim.blend || s.tim.follow }
    let s := { s with tim := tim }
    fault 0x0CA0 .l1 (resetMaster 11 (s.rsb .redEvt 2 true))
  else s)

/-- PAIR_TIME (R306): the difference has been above 50 ns for 1 s. -/
def execPairTime (t : Nat) (s : State) : Host.Outcome State Fault Refusal :=
  let s := s.begin t
  .next (match s.tim.diffSince with
    | some b =>
      if s.tim.follow ∧ ¬ s.tim.pairRaised ∧ b + 400000000 ≤ s.now then
        fault 0x0612 .l1 (({ s with tim := { s.tim with pairRaised := true } } : State).rsb .timEvt 9 true)
      else s
    | none => s)

/-! ### Takeover (R332-R336) -/

/-- Ramps of the outer loop over one boundary that nobody ran (R334); integrators do not advance. -/
def skipBoundary (s : State) : State :=
  let x := s.len.emf.xdc
  let r := s.len.run
  let r := if r.guard then r else { r with guardAdd := (rampTo r.guardAdd Num.zero ((s.gl 8).mul tOut)).clear }
  let s := setpoints (s.setLen { s.len with run := r })
  let s := if s.len.rs.on then s else rampOffsets s
  s.setLen { s.len with emf := { s.len.emf with xdc := x }, reg := { s.len.reg with dwell := s.len.reg.dwell - 1 } }

/-- The control state of a checkpoint goes on from now (R333, R334). -/
def restoreCk (b : CkBody) (s : State) : State :=
  let l := b.len
  let run := decide (b.mode = .precharge) || decide (b.mode = .run) || decide (b.mode = .stopping)
  let inp := { s.len.inp with miss := List.replicate 15 0, stale := List.replicate 15 false }
  let emf := { l.emf with th := l.emf.angleAt s.fb s.cnt, thAt := s.cnt }
  let glob := (List.range 32).map (fun i => s.rg .lenGlob i)
  let burst := l.bur.on
  let ask := burst && s.prfFlag l.frt.prof 2
  let own := s.arms
  let w := s.win
  let s := setMode b.mode b.sub { s with arms := b.arms, win := { b.win with occ := w.occ, octh := w.octh, bs := w.bs, rw := w.rw } }
  let s := s.setLen { l with launch := s.len.launch, inp := inp, emf := emf, glob := glob, bur := ⟨false, ask, s.now⟩ }
  let s := if burst then rateChanged false s else s
  let s := (List.range 6).foldl (fun s a =>
    let o := Tab.get (fun _ => Arm.init) own a
    s.setArm a { s.arm a with sort := o.sort, sortNext := o.sortNext }) s
  let s := if run then (List.range ((s.ticks - b.takenAt) / 40000).toNat).foldl (fun s _ => skipBoundary s) s else s
  let s := (List.range s.links).foldl (fun s k =>
    if s.linkUp k then s.setLink k { s.link k with apply := [], cancel := b.prep } else s) s
  s.setRed { s.red with restoredAt := some s.now, firstFrame := false }

/-- A ready standby takes the awn and the control state of its last checkpoint (R333). -/
def takeReady (b : CkBody) (s : State) : State :=
  let s := restoreCk b (claimAwn s)
  emit 2 1 0 (s.rsb .redEvt 0 true) (s.rg .redEpoch).toNat

/-- A standby that is not ready takes the awn and trips (R336). -/
def takeUnready (s : State) : State :=
  let s := claimAwn s
  let s := setMode .tripped s.sub s
  fault 0x0CA2 .l3 (blockAll (s.rsb .redEvt 8 true))

/-- More than half of the UP links with mapped cells confirm that the lease has lapsed (R332). -/
def State.confirmed (s : State) (lease : Int) : Bool :=
  let ls := s.mappedLinks.filter s.linkUp
  let ok (l : Nat) : Bool := decide (lease < s.ticks + shortDiff (s.link l).upSof s.short) && !(s.link l).leaseValid
  decide (ls.length < 2 * (ls.filter ok).length)

/-- TAKEOVER (R332, R333, R336). -/
def execTakeover (t : Nat) (s : State) : Host.Outcome State Fault Refusal :=
  let s := s.begin t
  .next (match s.red.holderLease with
    | none => s
    | some lease =>
      if ¬ (s.rb .redCtrl 0 ∧ s.rb .redCtrl 1 ∧ s.mode = .standbyCold) ∨ s.awn ∨ s.red.linkUp ∨ s.ticks < lease + 4000
          ∨ (s.rb .redCtrl 2 ∧ ¬ s.confirmed lease) then s
      else if 2 ^ 32 ≤ s.nextEpoch then claimAwn s
      else match s.red.ck with
        | some b => if s.red.wasReady then takeReady b s else takeUnready s
        | none => takeUnready s)

/-- FIRST_EDGE_FRAME (R333, R335): the 10 µs boundary from which the new holder sends EDGE frames. -/
def execFirstEdgeFrame (s : State) : Host.Outcome State Fault Refusal :=
  let s := s.begin s.now
  .next (if s.red.restoredAt.isSome ∧ s.ticks % 4000 = 0 then
    let s := s.setRed { s.red with restoredAt := none, firstFrame := true }
    s.rs .redLease (wordOf (s.gridPoint + 24000))
  else s)

/-! ### Handover (R337) -/

/-- HANDOVER_CLAIM: the standby holds the handover checkpoint and 100 µs have passed since its boundary. -/
def execHandoverClaim (t : Nat) (s : State) : Host.Outcome State Fault Refusal :=
  let s := s.begin t
  .next (match s.red.ck with
    | some b =>
      if b.handover ∧ s.rb .redCtrl 0 ∧ s.mode = .standbyCold ∧ ¬ s.awn ∧ b.takenAt + 40000 ≤ s.ticks
          ∧ (s.rg .redEpochseen).toNat ≤ b.epoch then
        if 2 ^ 32 ≤ s.nextEpoch then claimAwn s else takeReady b s
      else s
    | none => s)

/-- HANDOVER_ABORT: no confirmation by B_c + 130 µs; the old holder claims again and goes on. -/
def execHandoverAbort (t : Nat) (s : State) : Host.Outcome State Fault Refusal :=
  let s := s.begin t
  .next (match s.red.hand with
    | some b =>
      if s.awn ∧ b + 52000 ≤ s.now then
        let s := claimAwn (s.setRed { s.red with hand := none })
        let s := fault 0x0CA4 .l1 (s.rsb .redEvt 7 true)
        answerAll (fun w => decide (w = .switchover)) .aborted 0 [] s
      else s
    | none => s)

/-! ### End of INIT (R468) -/

/-- INIT_END: firmware runs, no self-test failed, the stored configuration is sound. The mailboxes are bound and locked
(R383), the bootloader's identity ends (R374), and the module leaves INIT. -/
def execInitEnd (t : Nat) (s : State) : Host.Outcome State Fault Refusal :=
  let s := s.begin t
  .next (if s.mode ≠ .init ∨ ¬ (s.pwr.boot = 2 ∨ s.pwr.boot = 3) ∨ s.bistFailed ∨ ¬ s.pwr.cfgOk ∨ s.bst.running then s
    else
      let s := resetMaster 12 (s.rsb .mbxCtrl 0 true)
      let s := s.setPwr { s.pwr with trialActive := decide (s.pwr.boot = 3) }
      let s := s.setLen { s.len with lim := { s.len.lim with budget := s.budgetMax, budgetAt := s.now } }
      if s.rb .redCtrl 0 then setMode .standbyCold s.sub s
      else
        let s := claimAwn s
        if s.awn then setMode .armed s.sub s else s)

end Sys2Proof.Machine
end

