-- ==== Sys2Proof/Machine/Host.lean ====
section
/-!
DEFINITION. What the host operations do (R345-R357, R376-R380, R414, R428, R455-R459): each answers at once or waits for an
outcome (R369).
-/
namespace Sys2Proof.Machine

/-- How an operation is answered. -/
inductive Ans where
  | now (st : Status) (detail : Nat) (data : List Byte)
  | wait (w : Wait)
deriving DecidableEq, Repr

/-- Answered with OK and reply data. -/
def accept (s : State) (data : List Byte := []) : State × Ans := (s, .now .ok 0 data)

/-- Answered with a status and a detail. -/
def refused (st : Status) (s : State) (detail : Nat := 0) : State × Ans := (s, .now st detail [])

/-- Answered with the status of a check, which is logged where its rule calls for it. -/
def denyOp (d : Deny) (op m : Nat) (s : State) : State × Ans := refused d.st (deny d 4 op m s)

/-- The word that a register shows. -/
def State.word (s : State) (n : RName) (i : Nat := 0) : List Byte := leBytes 4 (s.regWord ⟨n, i, 0⟩).toNat

/-! ### Groups 0x00, 0x06, 0x09: status (R376) -/

/-- SYS_STATUS. -/
def State.sysStatus (s : State) : List Byte :=
  let sub := if s.mode = .run then subCode s.sub else 0
  let flags := (if s.awn then 1 else 0) + (if s.rg .fltReplace = 0 then 0 else 2) + (if s.rg .fltUnack = 0 then 0 else 4) + 16 * s.hilvl
  leBytes 1 (modeCode s.mode + 16 * sub) ++ leBytes 1 flags ++ [0, 0] ++ leBytes 4 s.sysCap.toNat ++ leBytes 4 s.short.toNat
    ++ leBytes 4 Config.fwVersion.toNat

/-- SYS_IDENT. -/
def State.sysIdent (s : State) : List Byte :=
  leBytes 8 Config.serial.toNat ++ leBytes 4 Config.fwVersion.toNat ++ leBytes 1 s.pwr.runBank ++ [Config.hwIssue]

/-- TIME_GET: station time in wire form and TIM_STAT [7:0]. -/
def State.timeGet (s : State) : List Byte :=
  let w := wireOf s.st
  leBytes 6 w.1 ++ leBytes 4 w.2.1 ++ leBytes 2 w.2.2 ++ (s.word .timStat).take 1

/-- REC_STATUS. -/
def State.recStatus (s : State) : List Byte :=
  s.word .recStat ++ s.word .recFill ++ s.word .recHwr ++ (List.range 6).flatMap (fun g => s.word .recGaptot g)

/-! ### Groups 0x01 and 0x02: registers and memories (R377, R428) -/

/-- Read `n` words from word k of a REG_READ; where one fails, its index and status. -/
def readRegs (m addr : Nat) : Nat → Nat → State → State × List Byte × Option (Nat × Status)
  | 0, _, s => (s, [], none)
  | n + 1, k, s =>
    let r := readReg m (addr + 4 * k) s
    if r.2.1 = .ok then
      let q := readRegs m addr n (k + 1) r.1
      (q.1, leBytes 4 r.2.2.toNat ++ q.2.1, q.2.2)
    else (r.1, [], some (k, r.2.1))

/-- Write words from word k of a REG_WRITE; where one is refused, its index and status. -/
def writeRegs (m addr : Nat) : List Word → Nat → State → State × Option (Nat × Status)
  | [], _, s => (s, none)
  | w :: ws, k, s =>
    let r := writeReg m (addr + 4 * k) w s
    if r.2 = .ok then writeRegs m addr ws (k + 1) r.1 else (r.1, some (k, r.2))

/-- REG_READ. -/
def regRead (m addr n : Nat) (s : State) : State × Ans :=
  if n = 0 ∨ 1023 < n then refused .badParam s
  else
    let r := readRegs m addr n 0 s
    match r.2.2 with
    | none => accept r.1 r.2.1
    | some (k, st) => (r.1, .now st k r.2.1)

/-- REG_WRITE. -/
def regWrite (m addr : Nat) (ws : List Word) (s : State) : State × Ans :=
  if ws.isEmpty ∨ 1022 < ws.length then refused .badParam s
  else
    let r := writeRegs m addr ws 0 s
    match r.2 with
    | none => accept r.1
    | some (k, st) => refused st r.1 k

/-- REG_RMW: the previous value. -/
def regRmw (m addr : Nat) (mask value : Word) (s : State) : State × Ans :=
  let r := readReg m addr s
  if r.2.1 ≠ .ok then refused r.2.1 r.1
  else
    let old := r.2.2
    let w := writeReg m addr ((old &&& ~~~ mask) ||| (value &&& mask)) r.1
    if w.2 = .ok then accept w.1 (leBytes 4 old.toNat) else refused w.2 w.1

/-- Log and answer a refused range of a memory window. -/
def denyMem (d : Deny) (acc addr m : Nat) (s : State) : State × Ans := refused d.st (deny d acc addr m s)

/-- MEM_READ. -/
def memRead (m addr len : Nat) (s : State) : State × Ans :=
  if len = 0 ∨ 4092 < len then refused .badParam s
  else match s.window m addr len with
    | .error d => denyMem d 0 addr m s
    | .ok (dram, off) =>
      let r := readRange dram m addr (len / 8 + 2) 0 off len s
      match r.2.2 with
      | none => accept r.1 r.2.1
      | some k => (r.1, .now .memUe k r.2.1)

/-- Where a range that master m may write lies; R421 names the masters that are held to MEM_HOSTWIN. -/
def State.writeWindow (s : State) (m addr len : Nat) : Except Deny (Bool × Nat) :=
  match s.window m addr len with
  | .error d => .error d
  | .ok (dram, off) => if !dram && !(s.mayWriteSram m off len) then .error ⟨.accessDenied, true⟩ else .ok (dram, off)

/-- MEM_WRITE. -/
def memWrite (m addr : Nat) (data : List Byte) (s : State) : State × Ans :=
  if data.isEmpty ∨ 4088 < data.length then refused .badParam s
  else match s.writeWindow m addr data.length with
    | .error d => denyMem d 1 addr m s
    | .ok (dram, off) =>
      let r := writeRange dram m addr (data.length / 8 + 2) 0 off data s
      match r.2 with
      | none => accept r.1
      | some k => refused .memUe r.1 k

/-- MEM_FILL starts; a range of the DRAM is kept with bit 40 set. -/
def memFill (h : Hdr) (m addr len : Nat) (pat : BitVec 64) (s : State) : State × Ans :=
  if addr % 4 = 0 ∧ (addr % 8 ≠ 0 ∨ len % 8 ≠ 0 ∨ len = 0 ∨ 2 ^ 31 < len) then refused .badParam s
  else match s.writeWindow m addr len with
    | .error d => denyMem d 1 addr m s
    | .ok (dram, off) =>
      let f : Fill := ⟨h, (if dram then 2 ^ 40 else 0) + off, len, pat⟩
      ({ s with mem := { s.mem with fills := s.mem.fills ++ [f] } }, .wait .fill)

/-- MEM_FILL_DONE (R428): the oldest fill completes and is answered. -/
def execMemFillDone (t : Nat) (s : State) : Host.Outcome State Fault Refusal :=
  let s := s.begin t
  .next (match s.mem.fills with
    | [] => s
    | f :: rest =>
      let dram := decide (2 ^ 40 ≤ f.addr)
      let s := fillWords dram f.pat (f.len / 8) (f.addr % 2 ^ 40 / 8) { s with mem := { s.mem with fills := rest } }
      match (s.path (pathIndex f.hdr.path)).outst.find? (fun o => decide (o.hdr = f.hdr) && decide (o.wait = .fill)) with
      | some o => answer o .ok 0 [] s
      | none => s)

/-! ### Group 0x03: module state and mode requests (R20, R36-R38, R376, R378) -/

/-- The AC breaker is open: by its feedback where there are lanes, else by the latest report (R378). -/
def State.acOpen (s : State) : Bool :=
  if s.hasSaf then s.saf.brk else (match s.len.run.ac with
    | some (closed, _) => !closed
    | none => false)

/-- The AC breaker is closed. -/
def State.acClosed (s : State) : Bool :=
  if s.hasSaf then !s.saf.brk else (match s.len.run.ac with
    | some (closed, _) => closed
    | none => false)

/-- The conditions to enter PRECHARGE (R16, R69, R71, R135, R158, R227, R246, R252, R303, R404; WIN_CCELL). -/
def State.mayPrecharge (s : State) : Bool :=
  let arms := List.range 6
  let ins := (List.range 9).filter (fun k => s.rb .lenInsel 8 k)
  arms.all (fun a => !(s.mappedTo a).isEmpty) && [0, 1, 2, 6, 7].all (fun k => s.rb .lenInsel 8 k)
    && (List.range 5).all (fun k => decide (s.rg .lenBase k ≠ 0)) && decide (s.rg .winCcell ≠ 0)
    && !(s.mappedLinks.any (s.late135 (s.rf .lenLaunch 0 12))) && !s.gdpBusy
    && arms.all (fun a => !(s.rb .celOccfg a) || (decide (s.rg .celOcth a ≠ 0) && decide (s.tInt (s.rg .celOcth a) a < 256)))
    && s.pRuns && ins.all (fun k => s.nRuns (s.rf .lenInsel 0 5 k) && !(s.nCfg (s.rf .lenInsel 0 5 k)).wide)
    && (s.tim.isSet || s.rb .timCtrl 3) && !(s.hasSaf && s.saf.sf1)

/-- A state change that cannot be made now: ABORTED in the frame of a trip (R20), else STATE. -/
def notNow (s : State) : State × Ans := refused (if s.justTripped then .aborted else .state) s

/-- PRECHARGE. -/
def askPrecharge (s : State) : State × Ans :=
  if ¬ s.awn then refused .notAwnHolder s
  else if s.mode = .armed ∧ s.mayPrecharge then accept (enterPrecharge s)
  else notNow s

/-- A mode request that waits for its boundary when `ok` holds (R38). -/
def askMode (op : Nat) (ok : Bool) (f : State → State) (s : State) : State × Ans :=
  if ¬ s.awn then refused .notAwnHolder s
  else if ok then (f s, .wait (.mode op))
  else notNow s

/-- RUN in one of the sub-modes given. -/
def State.runs (s : State) (l : List Sub) : Bool := decide (s.mode = .run) && l.contains s.sub

/-- START is accepted: the estimate of R37 begins. -/
def beginEstimate (s : State) : State :=
  s.setLen { s.len with run := { s.len.run with estAt := some s.now, estV := [] } }

/-- PRECHARGE with ready cells and no estimate running. -/
def State.canStart (s : State) : Bool := decide (s.mode = .precharge) && s.win.ready && s.len.run.estAt.isNone

/-- START. -/
def askStart (s : State) : State × Ans :=
  askMode opStart (s.canStart && s.acClosed && Num.le (Num.ofRatio 85 100) s.len.emf.v1m) beginEstimate s

/-- BLACK_START. -/
def askBlack (s : State) : State × Ans :=
  askMode opBlack (s.canStart && Num.lt s.len.emf.v1m (Num.ofRatio 1 10) && Num.le (Num.ofRatio 9 10) s.len.emf.vdcPu) id s

/-- ISLAND. -/
def askIsland (s : State) : State × Ans := askMode opIsland (s.runs [.gf]) id s

/-- RESYNC, start or cancel (R51, R54, R70). -/
def askResyncMode (cancel : Bool) (s : State) : State × Ans :=
  if cancel then askMode opCancel (s.runs [.island]) id s
  else askMode opResync (s.runs [.island] && s.rb .lenInsel 8 3) id s

/-- STOP. -/
def askStop (s : State) : State × Ans :=
  askMode opStop (decide (s.mode = .precharge) || s.runs [.gf, .island, .blackstart]) id s

/-- TIE_STATUS (R378): stored; a report of the tie calls for a decision in RUN. -/
def tieStatus (closed ac : Bool) (time : Word) (s : State) : State × Ans :=
  if ¬ s.pastOk time then refused .badParam s
  else
    let r := s.len.run
    let r : RunSt := if ac then { r with ac := some (closed, time) }
      else { r with tie := some (closed, time), tieReq := if s.awn ∧ s.mode = .run then some closed else r.tieReq }
    accept (s.setLen { s.len with run := r })

/-- RESET_TRIP (R20, R378): TRIG_OUT0 is released with TRIPPED (R228). -/
def resetTrip (service : Bool) (s : State) : State × Ans :=
  if s.justTripped ∨ s.mode ≠ .tripped ∨ ¬ s.acOpen ∨ (service ∧ s.rb .redCtrl 0) then notNow s
  else
    accept (setMode (if service then .service else if s.awn then .armed else .standbyCold) s.sub s)

/-- SERVICE_ENTER (R318, R376). -/
def serviceEnter (s : State) : State × Ans :=
  if s.mode = .armed ∧ ¬ s.rb .redCtrl 0 then accept (setMode .service s.sub s) else notNow s

/-- SERVICE_LEAVE (R458): arms that FIXED modulation drove are blocked (R116). -/
def serviceLeave (s : State) : State × Ans :=
  if s.mode ≠ .service ∨ s.bistFailed then notNow s
  else if s.bst.running then refused .busy s
  else accept (setMode .armed s.sub (blockArms (s.when (decide (s.rf .winFixen 0 6 ≠ 0)) blockAll)))

/-! ### Group 0x04: sheaves (R345-R349, R357) -/

/-- SHEAF_OPEN. -/
def sheafOpen (m : Nat) (s : State) : State × Ans :=
  match (List.range 8).find? (fun n => (s.sheaf n).isNone) with
  | none => refused .sheafLimit (s.rsb .shfEvt 3 true)
  | some n =>
    accept (s.setSheaf n ⟨m, 1, s.now, [], [], none, 0, none, 0, 0, [], [], 0⟩) (leBytes 1 n)

/-- The sheaf that master m names, or the refusal (R345). -/
def ownSheaf (n m : Nat) (s : State) : Except Deny Sheaf :=
  match s.sheaf n with
  | none => .error ⟨.badParam, false⟩
  | some x => if x.owner = m then .ok x else .error ⟨.accessDenied, true⟩

/-- Append entries up to the first refused one: the sheaf, how many were added, the refusal. -/
def addEntries (s : State) : List SheafEntry → Sheaf → Nat → Sheaf × Nat × Check
  | [], x, k => (x, k, none)
  | e :: es, x, k =>
    if 512 ≤ x.es.length then (x, k, bad)
    else match entryCheck s e with
      | some d => (x, k, some d)
      | none => addEntries s es { x with es := x.es ++ [e] } (k + 1)

/-- SHEAF_ADD. -/
def sheafAdd (n m : Nat) (es : List SheafEntry) (s : State) : State × Ans :=
  match ownSheaf n m s with
  | .error d => denyOp d 0x0401 m s
  | .ok x =>
    if x.state ≠ 1 then refused .state s
    else
      let r := addEntries s es x 0
      let s := s.setSheaf n r.1
      match r.2.2 with
      | none => (s, .now .ok r.2.1 [])
      | some d => (deny d 4 0x0401 m s, .now d.st r.2.1 [])

/-- Checks 1 to 3 of R349 for a boundary `b` chosen by the host. -/
def atCheck (n : Nat) (x : Sheaf) (time : Word) (s : State) : Option (Status × Nat) :=
  let b := s.ticks + shortDiff time s.short
  let least : Int := if x.hasGdp then 80000 else 8000
  if b % 4000 ≠ 0 ∨ ¬ s.futureOk time then some (.badParam, 0xF001)
  else if b < s.ticks + least then some (.badParam, 0xF002)
  else if x.hasGdp then (s.sheafNear n b).map (fun k => (.busy, 0x3000 + k))
  else none

/-- What checks 4 to 6 of R349 find. -/
def State.sheafFails (s : State) (n : Nat) (x : Sheaf) : Option (Status × Nat) :=
  let owned := s.awn || (firstIdx needsAwn x.es).isNone
  match (if owned then s.sheafConflict n x else none) with
  | some i => some (.sheafConflict, 0x1000 + i)
  | none => s.sheafRules n x

/-- SHEAF_COMMIT: `mode` 0 AT, 1 NEXT, 2 NEXT_OUTER. -/
def sheafCommit (h : Hdr) (n m mode : Nat) (time : Word) (s : State) : State × Ans :=
  let zero : List Byte := [0, 0, 0, 0]
  match ownSheaf n m s with
  | .error d => denyOp d 0x0402 m s
  | .ok x =>
    if 2 < mode ∨ (mode ≠ 0 ∧ time ≠ 0) then refused .badParam s
    else if x.state ≠ 1 then refused .state s
    else match (if mode = 0 then atCheck n x time s else none) with
      | some f => (s.rsat .shfAbortcnt 0 32 1, .now f.1 f.2 zero)
      | none => match s.sheafFails n x with
        | some f => (endSheaf n f.1 f.2 [] s, .now f.1 f.2 zero)
        | none =>
          let due : Option Int := if mode = 0 then some (s.ticks + shortDiff time s.short) else none
          let s := { s with shf := { s.shf with order := s.shf.order + 1 } }
          let s := s.setSheaf n { x with hdr := some h, how := mode, due := due, order := s.shf.order }
          let s := s.when (decide (mode = 0)) (fun s => s.rs .shfStime time n)
          (if x.hasGdp then prepareSheaf n s else readySheaf n s, .wait (.sheaf n))

/-- SHEAF_DISCARD (R357). -/
def sheafDiscard (n m : Nat) (s : State) : State × Ans :=
  match ownSheaf n m s with
  | .error d => denyOp d 0x0403 m s
  | .ok x =>
    if x.state = 1 then accept { s with shf := { s.shf with use := Tab.erase s.shf.use n } }
    else if x.due.any (fun b => decide (b - 16000 < s.ticks)) then refused .state s
    else accept (abortSheaf n .aborted 0xF003 s)

/-! ### Group 0x05: cells and links (R189, R229, R379) -/

/-- CELL_CMD, as a write of CEL_CMD. -/
def cellCommand (m cell cmd : Nat) (s : State) : State × Ans :=
  if s.slots ≤ cell then denyOp ⟨.unitAbsent, true⟩ 0x0500 m s
  else if 16 ≤ cmd then refused .badParam s
  else
    let r := writeReg m (regAddr .celCmd) (fld 0 cell ||| fld 12 cmd) s
    refused r.2 r.1

/-- CELL_TXN. -/
def cellTxn (h : Hdr) (m l slot op : Nat) (addr : Word) (data : List Byte) (s : State) : State × Ans :=
  if s.links ≤ l then denyOp ⟨.unitAbsent, true⟩ 0x0501 m s
  else if ¬ (op = 1 ∨ op = 2 ∨ op = 7) ∨ 64 < data.length ∨ ¬ (slot < 24 ∨ slot = 31) then refused .badParam s
  else if op = 2 ∧ ¬ s.awn then refused .notAwnHolder s
  else if ¬ s.linkUp l ∨ (op = 2 ∧ s.running) then refused .state s
  else (pushTxn l op slot 0 addr.toNat (if op = 1 then [] else data) data.length (.host h) s, .wait (.txn l 0))

/-- LINK_BLOCK, as a write of LNK_BLKCMD. -/
def linkBlock (m link : Nat) (all : Bool) (s : State) : State × Ans :=
  if s.links ≤ link ∧ ¬ all then denyOp ⟨.unitAbsent, true⟩ 0x0502 m s
  else
    let r := writeReg m (regAddr .lnkBlkcmd) (fld 0 (link % 128) ||| bitAt 7 all) s
    refused r.2 r.1

/-! ### Groups 0x07 and 0x08: safety and the pair (R327, R330, R337, R404, R413, R414) -/

/-- SAF_CONFIG_WRITE. -/
def safWriteImage (im : List Byte) (s : State) : State × Ans :=
  let r := safConfigWrite im s
  refused r.2.1 r.1 r.2.2

/-- SAF_CONFIG_CONFIRM. -/
def safConfirmImage (lane : Nat) (crc : Word) (s : State) : State × Ans :=
  if 1 < lane then refused .badParam s
  else
    let r := safConfirm lane crc s
    refused r.2 r.1

/-- SAF_STATUS. -/
def State.safStatus (s : State) : List Byte :=
  [RName.safStat, .safCause, .safInstat, .safOutstat, .safCfgcrc, .safPendcrca, .safPendcrcb].flatMap (fun n => s.word n)

/-- SAF_RESET. -/
def safReset (s : State) : State × Ans :=
  if s.resetOk then accept (releaseSf1 s) else refused .state s (field s.causeWord 0 16)

/-- The conditions of a claim by command (R327): nobody shows a lease. -/
def State.mayClaim (s : State) : Bool :=
  decide (s.mode = .standbyCold) && ((match s.red.beat with
      | some b => !b.awn
      | none => false)
    || (!s.red.linkUp && (List.range s.links).all (fun l => !(s.linkUp l) || decide ((s.link l).lastUp = 0)
      || decide ((s.link l).lastUp + 40000 ≤ s.now))))

/-- PAIR_CLAIM. -/
def askClaim (s : State) : State × Ans :=
  if ¬ s.mayClaim then refused .state s
  else
    let s := claimAwn s
    if s.awn then accept (setMode .armed s.sub { s with red := { s.red with sendFull := true } }) else refused .state s

/-- PAIR_SWITCHOVER. -/
def askSwitchover (s : State) : State × Ans :=
  if (s.mode = .armed ∨ s.mode = .precharge ∨ s.mode = .run) ∧ s.awn ∧ s.pairReady then (s, .wait .switchover)
  else refused .state s

/-- PAIR_RESYNC. -/
def askPairResync (s : State) : State × Ans :=
  if s.rb .redCtrl 0 ∧ s.mode = .standbyCold ∧ ¬ s.awn then accept (askResync s) else refused .state s

/-! ### Group 0x09: a time step (R304, R380) -/

/-- TIME_STEP passes its checks and waits for the boundary. -/
def askStep (x : Step) (s : State) : State × Ans :=
  let take : State × Ans := ({ s with tim := { s.tim with steps := s.tim.steps ++ [x] } }, .wait .timeStep)
  match s.mode with
  | .init | .factoryTest => take
  | .armed | .service | .tripped => if s.awn then take else refused .notAwnHolder s
  | .standbyCold => refused .notAwnHolder s
  | _ => refused .state s

/-- TIME_STEP of form ABS. -/
def askStepAbs (sec ns frac : Nat) (s : State) : State × Ans :=
  if 999999999 < ns then refused .badParam s else askStep (.abs (ofWire sec ns frac)) s

/-! ### Groups 0x0A and 0x0F: self-test, faults, factory (R451-R459) -/

/-- BIST_RUN. -/
def askBist (mask : Word) (s : State) : State × Ans :=
  let c := bistCheck mask.toNat s
  if c.1 = .ok then (bistStart mask.toNat s, .wait .bist) else refused c.1 s c.2

/-- BIST_RESULT. -/
def askBistResult (mask m : Nat) (s : State) : State × Ans :=
  if 2 ^ 18 ≤ mask ∨ mask.testBit 6 ∨ mask.testBit 7 then refused .badParam s
  else if (bistUnits mask).any (fun u => !(s.bistHas u)) then denyOp ⟨.unitAbsent, true⟩ 0x0A01 m s
  else accept s (s.word .bstDone ++ (bistUnits mask).flatMap (fun u => s.word .bstSig u ++ s.word .bstRef u ++ s.word .bstDet u))

/-- FAULT_ACK: the classes that were unacknowledged. -/
def askAck (mask : Nat) (s : State) : State × Ans :=
  if mask % 2 = 1 ∨ 2 ^ 14 ≤ mask then refused .badParam s
  else accept (ackMask mask s) (leBytes 2 (s.rg .fltUnack).toNat)

/-- FAULT_LOG_READ. -/
def readLog (first count : Nat) (s : State) : State × Ans :=
  if count = 0 ∨ 255 < count then refused .badParam s
  else accept s (leBytes 1 (s.rf .fltLogptr 0 8) ++ [0] ++ leBytes 2 (s.rf .fltLogptr 16 16)
    ++ (List.range count).flatMap (fun k => (List.range 4).flatMap (fun j => leBytes 4 (s.rg .fltLog ((first + k) % 256) j).toNat)))

/-- FACTORY_ENTER (R318, R454); a failed self-test keeps the module in INIT (R458). -/
def factoryEnter (s : State) : State × Ans :=
  if ((s.mode = .init ∧ ¬ s.bistFailed) ∨ s.mode = .service) ∧ ¬ s.rb .redCtrl 0 then accept (setMode .factoryTest s.sub s) else refused .state s

/-- An injection with its status. -/
def injected (r : State × Status) : State × Ans := refused r.2 r.1

/-! ### Every operation -/

/-- What an operation of master m does, apart from the resets that follow the replies of PATH_RESET and FACTORY_LEAVE. -/
def runOp (h : Hdr) (m : Nat) (o : HostOp) (s : State) : State × Ans :=
  match o with
  | .ping => accept s
  | .sysStatus => accept s s.sysStatus
  | .sysIdent => accept s s.sysIdent
  | .eventSub mask =>
    let p := s.path (pathIndex h.path)
    accept (s.setPath (pathIndex h.path) { p with sub := mask })
  | .pathReset => if h.path = .pcie then refused .badParam s else accept s
  | .regRead a n => regRead m a n s
  | .regWrite a ws => regWrite m a ws s
  | .regRmw a k v => regRmw m a k v s
  | .memRead a n => memRead m a n s
  | .memWrite a d => memWrite m a d s
  | .memFill a n p => memFill h m a n p s
  | .precharge => askPrecharge s
  | .start => askStart s
  | .blackStart => askBlack s
  | .island => askIsland s
  | .resync c => askResyncMode c s
  | .stop => askStop s
  | .tieStatus c a w => tieStatus c a w s
  | .resetTrip x => resetTrip x s
  | .serviceEnter => serviceEnter s
  | .serviceLeave => serviceLeave s
  | .sheafOpen => sheafOpen m s
  | .sheafAdd n es => sheafAdd n m es s
  | .sheafCommit n k w => sheafCommit h n m k w s
  | .sheafDiscard n => sheafDiscard n m s
  | .cellCmd i c => cellCommand m i c s
  | .cellTxn l k x a d => cellTxn h m l k x a d s
  | .linkBlock l a => linkBlock m l a s
  | .recStatus => accept s s.recStatus
  | .safConfigWrite im => safWriteImage im s
  | .safConfigConfirm l c => safConfirmImage l c s
  | .safStatus => accept s s.safStatus
  | .safReset => safReset s
  | .pairClaim => askClaim s
  | .pairSwitchover => askSwitchover s
  | .pairResync => askPairResync s
  | .timeGet => accept s s.timeGet
  | .timeStepAbs x n f => askStepAbs x n f s
  | .timeStepRel v => askStep (.rel v) s
  | .timeStepToRef => askStep .toRef s
  | .bistRun k => askBist k s
  | .bistResult k => askBistResult k.toNat m s
  | .faultAck k => askAck k s
  | .faultLogRead j n => readLog j n s
  | .factoryEnter => factoryEnter s
  | .faultInject c a => injected (injectFault c a s)
  | .memInject a x y => injected (injectMem a x y s)
  | .linkInject l c n u => injected (injectLink l c n u s)
  | .injClear => accept { s with flt := { s.flt with inj := [] } }
  | .factoryLeave => accept s

end Sys2Proof.Machine
end

