-- ==== Sys2Proof/Machine/Net.lean ====
section
/-!
DEFINITION. The host paths: ingress of packets (R361-R373), command mailboxes (R383), rings, ports and PCIe (R362-R364),
events and replies (R370, R374, R375, R384), and the rows of the host operations.
-/
namespace Sys2Proof.Machine

/-! ### Ingress (R361, R368-R370, R373) -/

/-- Firmware runs and serves every path. -/
def State.fwUp (s : State) : Bool := decide (s.mode ≠ .off) && (decide (s.pwr.boot = 2) || decide (s.pwr.boot = 3))

/-- A station port takes packets while its EN is set (R390); the ring, and the service port, which answers before any
configuration is loaded (R468), always do. -/
def State.portOpen (s : State) (q : Path) : Bool :=
  match q with
  | .portA => s.rb .netPcfg 0 0
  | .portB => s.rb .netPcfg 0 1
  | .pcie | .service => true

/-- A path is served: by the firmware, where its port is open or the packet came in a mailbox (R383), or by the boot ROM on
the service port where no image is valid (R469). -/
def State.serves (s : State) (q : Path) (via : Via := .port) : Bool :=
  (s.fwUp && (s.portOpen q || decide (via ≠ .port))) || (decide (s.mode ≠ .off) && decide (s.pwr.boot = 4) && decide (q = .service))

/-- Opcodes that only read (R373, master 10). -/
def readsOnly (op : Nat) : Bool :=
  [0x0100, 0x0200, 0x0600, 0x0702, 0x0900, 0x0A01, 0x0A03].contains op

/-- Whether master m may use an opcode (R373). -/
def State.mayUse (s : State) (m op : Nat) : Bool :=
  match m with
  | 10 => decide (op / 256 = 0) || readsOnly op || s.svcRw
  | 12 => decide (op / 256 = 1) || decide (op / 256 = 2)
  | _ => true

/-- Orders 4 to 9 of R368. -/
def State.admission (s : State) (m op : Nat) (headOk : Bool) (body : Option (Except Deny HostOp)) : Except Status HostOp :=
  if ¬ headOk then .error .badParam
  else match body with
    | none => .error .badOpcode
    | some b =>
      if op / 256 = 15 ∧ (m ≠ 13 ∨ (op ≠ 0x0F00 ∧ s.mode ≠ .factoryTest)) then .error .factoryOnly
      else if op / 256 = 7 ∧ ¬ s.hasSaf then .error .unitAbsent
      else if ¬ s.mayUse m op then .error .accessDenied
      else match b with
        | .ok o => .ok o
        | .error d => .error d.st

/-- A refusal at order 10 rather than 9: it is not logged (R368). -/
def Deny.quiet (b : Option (Except Deny HostOp)) (st : Status) : Bool :=
  match b with
  | some (.error d) => !d.log && decide (st = .badParam)
  | _ => false

/-- Send a reply that belongs to no outstanding command; without room it waits. -/
def sendReply (r : Reply) (s : State) : State :=
  if s.replyRoom r then deliver r s else { s with ringWait := s.ringWait ++ [r] }

/-- A reply to a header. -/
def replyTo (h : Hdr) (op m : Nat) (st : Status) (detail : Nat) : Reply :=
  ⟨h.path, h.via, op, h.tag, h.session, h.seq, m, st, detail, []⟩

/-- What R370 finds for a packet with a session: nothing, a cached reply, or an outstanding command; with its opcode. -/
def State.duplicate (s : State) (h : Hdr) : Option (Nat × Option Reply) :=
  let p := s.path (pathIndex h.path)
  if h.session = 0 then none
  else match p.cache.find? (fun c => decide (c.reply.session = h.session) && decide (c.reply.seq = h.seq)) with
    | some c => some (c.opcode, some c.reply)
    | none =>
      (p.outst.find? (fun o => decide (o.hdr.session = h.session) && decide (o.hdr.seq = h.seq))).map (fun o => (o.opcode, none))

/-- The counted outcome of a duplicate (R370). -/
def repeated (h : Hdr) (op m : Nat) (d : Nat × Option Reply) (s : State) : State :=
  let s := s.rsat .netDup 0 32 1 (pathIndex h.path)
  if d.1 ≠ op then sendReply (replyTo h op m .badParam 1) s
  else match d.2 with
    | some r => sendReply { r with via := h.via } s
    | none => s

/-- Put what an outstanding command waits for. -/
def setWait (o : Outst) (w : Wait) (s : State) : State :=
  let q := pathIndex o.hdr.path
  let p := s.path q
  s.setPath q { p with outst := p.outst.map (fun x => if x = o then { x with wait := w } else x) }

/-- What follows a reply of PATH_RESET (R374) or FACTORY_LEAVE (R455). -/
def afterReply (h : Hdr) (o : HostOp) (s : State) : State :=
  match o with
  | .pathReset => if h.path = .pcie then s else pathReset (pathIndex h.path) (resetMaster (pathIndex h.path + 7) s)
  | .factoryLeave => resetModule s
  | _ => s

/-- A packet that passed order 1 of R368. -/
def ingress (h : Hdr) (op : Nat) (headOk : Bool) (body : Option (Except Deny HostOp)) (s : State) : State :=
  let m := s.masterOf h.path
  let q := pathIndex h.path
  match s.duplicate h with
  | some d => repeated h op m d s
  | none =>
    if 256 ≤ (s.path q).outst.length then
      let s := violation 4 op m .busy (s.rsat .netBusy 0 32 1 q)
      sendReply (replyTo h op m .busy 0) s
    else
      let o : Outst := ⟨h, op, .ring⟩
      let s := s.setPath q { s.path q with outst := (s.path q).outst ++ [o] }
      match s.admission m op headOk body with
      | .error st => answer o st 0 [] (s.when (!(Deny.quiet body st)) (violation 4 op m st))
      | .ok x =>
        let r := runOp h m x s
        match r.2 with
        | .wait w => setWait o w r.1
        | .now st detail data => afterReply h x (answer o st detail data r.1)

/-- The link that a packet arrived on is up. -/
def noteLink (q : Path) (s : State) : State :=
  match q with
  | .pcie => s.rsf .netStat 3 5 (1 + 2 * (Config.pcieTrained.1 % 3 + 1) + 8 * (Config.pcieTrained.2 % 3))
  | .portA => s.rsb .netStat 0 true
  | .portB => s.rsb .netStat 1 true
  | .service => s.rsb .netStat 2 true

/-- A packet as it arrives on a path: order 1 of R368 drops and counts it. -/
def packet (q : Path) (via : Via) (b : List Byte) (s : State) : State :=
  if ¬ s.serves q via then s
  else match parsePacket q via b with
    | none => s.rsat .netDrop 0 32 1 (pathIndex q)
    | some p => ingress p.hdr p.op p.headOk (parseOp p.op p.payload) s

/-! ### Command mailboxes (R383) -/

/-- Whether channel c (24, 26, 28) holds a command. -/
def State.mailWaits (s : State) (c : Nat) : Bool :=
  s.bindEn c && decide (s.bindSrc c = 7 + (c - 24) / 2) && decide (s.bindDst c = 0) && !(s.chan c).msgs.isEmpty

/-- The supervisor takes the oldest message of channel c as a packet and acknowledges it. -/
def serveChannel (c : Nat) (s : State) : State :=
  match (s.chan c).msgs with
  | [] => s
  | g :: _ => packet (pathOfIndex ((c - 24) / 2)) (.mailbox c) g.bytes (mailAck c s)

/-- Serve up to `n` messages. -/
def serveMail : Nat → State → State
  | 0, s => s
  | n + 1, s =>
    match [24, 26, 28].find? s.mailWaits with
    | some c => serveMail n (serveChannel c s)
    | none => s

/-- What the supervisor does after any access: it serves its command channels, and replies that waited for room leave. -/
def settle (s : State) : State :=
  if s.fwUp then
    let s := serveMail 64 s
    drainReplies s.ringWait s
  else s

/-! ### The rows of the host operations -/

/-- The operation as a packet brings it: what fails order 9 of R368 is refused there. -/
def HostOp.checked (o : HostOp) : Except Deny HostOp :=
  match o with
  | .sheafAdd _ [] => .error lenBad
  | .safConfigWrite im => if im.length = 128 then .ok o else .error lenBad
  | _ => .ok o

/-- A host operation arrives on its path at time t. -/
def hostRow (t : Nat) (h : Hdr) (o : HostOp) (s : State) : Host.Outcome State Fault Refusal :=
  let s := s.begin t
  .next (if s.serves h.path h.via then settle (ingress h o.opcode true (some o.checked) (noteLink h.path s)) else s)

def execPing (t : Nat) (h : Hdr) (s : State) : Host.Outcome State Fault Refusal := hostRow t h .ping s
def execSysStatus (t : Nat) (h : Hdr) (s : State) : Host.Outcome State Fault Refusal := hostRow t h .sysStatus s
def execSysIdent (t : Nat) (h : Hdr) (s : State) : Host.Outcome State Fault Refusal := hostRow t h .sysIdent s
def execEventSub (t : Nat) (h : Hdr) (mask : Nat) (s : State) : Host.Outcome State Fault Refusal := hostRow t h (.eventSub mask) s
def execPathReset (t : Nat) (h : Hdr) (s : State) : Host.Outcome State Fault Refusal := hostRow t h .pathReset s
def execRegRead (t : Nat) (h : Hdr) (addr n : Nat) (s : State) : Host.Outcome State Fault Refusal := hostRow t h (.regRead addr n) s
def execRegWrite (t : Nat) (h : Hdr) (addr : Nat) (ws : List Word) (s : State) : Host.Outcome State Fault Refusal :=
  hostRow t h (.regWrite addr ws) s
def execRegRmw (t : Nat) (h : Hdr) (addr : Nat) (mask value : Word) (s : State) : Host.Outcome State Fault Refusal :=
  hostRow t h (.regRmw addr mask value) s
def execMemRead (t : Nat) (h : Hdr) (addr len : Nat) (s : State) : Host.Outcome State Fault Refusal := hostRow t h (.memRead addr len) s
def execMemWrite (t : Nat) (h : Hdr) (addr : Nat) (data : List Byte) (s : State) : Host.Outcome State Fault Refusal :=
  hostRow t h (.memWrite addr data) s
def execMemFill (t : Nat) (h : Hdr) (addr len : Nat) (pat : BitVec 64) (s : State) : Host.Outcome State Fault Refusal :=
  hostRow t h (.memFill addr len pat) s
def execPrecharge (t : Nat) (h : Hdr) (s : State) : Host.Outcome State Fault Refusal := hostRow t h .precharge s
def execStart (t : Nat) (h : Hdr) (s : State) : Host.Outcome State Fault Refusal := hostRow t h .start s
def execBlackStart (t : Nat) (h : Hdr) (s : State) : Host.Outcome State Fault Refusal := hostRow t h .blackStart s
def execIsland (t : Nat) (h : Hdr) (s : State) : Host.Outcome State Fault Refusal := hostRow t h .island s
def execResyncStart (t : Nat) (h : Hdr) (s : State) : Host.Outcome State Fault Refusal := hostRow t h (.resync false) s
def execResyncCancel (t : Nat) (h : Hdr) (s : State) : Host.Outcome State Fault Refusal := hostRow t h (.resync true) s
def execStop (t : Nat) (h : Hdr) (s : State) : Host.Outcome State Fault Refusal := hostRow t h .stop s
def execTieStatus (t : Nat) (h : Hdr) (closed ac : Bool) (time : Word) (s : State) : Host.Outcome State Fault Refusal :=
  hostRow t h (.tieStatus closed ac time) s
def execResetTrip (t : Nat) (h : Hdr) (service : Bool) (s : State) : Host.Outcome State Fault Refusal := hostRow t h (.resetTrip service) s
def execServiceEnter (t : Nat) (h : Hdr) (s : State) : Host.Outcome State Fault Refusal := hostRow t h .serviceEnter s
def execServiceLeave (t : Nat) (h : Hdr) (s : State) : Host.Outcome State Fault Refusal := hostRow t h .serviceLeave s
def execSheafOpen (t : Nat) (h : Hdr) (s : State) : Host.Outcome State Fault Refusal := hostRow t h .sheafOpen s
def execSheafAdd (t : Nat) (h : Hdr) (n : Nat) (es : List SheafEntry) (s : State) : Host.Outcome State Fault Refusal :=
  hostRow t h (.sheafAdd n es) s
def execSheafCommit (t : Nat) (h : Hdr) (n mode : Nat) (time : Word) (s : State) : Host.Outcome State Fault Refusal :=
  hostRow t h (.sheafCommit n mode time) s
def execSheafDiscard (t : Nat) (h : Hdr) (n : Nat) (s : State) : Host.Outcome State Fault Refusal := hostRow t h (.sheafDiscard n) s
def execBypass (t : Nat) (h : Hdr) (cell : Nat) (s : State) : Host.Outcome State Fault Refusal := hostRow t h (.cellCmd cell 1) s
def execRestore (t : Nat) (h : Hdr) (cell : Nat) (s : State) : Host.Outcome State Fault Refusal := hostRow t h (.cellCmd cell 2) s
def execRelease (t : Nat) (h : Hdr) (cell : Nat) (s : State) : Host.Outcome State Fault Refusal := hostRow t h (.cellCmd cell 3) s
def execCellTxn (t : Nat) (h : Hdr) (link slot op : Nat) (addr : Word) (data : List Byte) (s : State) :
    Host.Outcome State Fault Refusal := hostRow t h (.cellTxn link slot op addr data) s
def execLinkBlock (t : Nat) (h : Hdr) (link : Nat) (all : Bool) (s : State) : Host.Outcome State Fault Refusal :=
  hostRow t h (.linkBlock link all) s
def execRecStatus (t : Nat) (h : Hdr) (s : State) : Host.Outcome State Fault Refusal := hostRow t h .recStatus s
def execSafConfigWrite (t : Nat) (h : Hdr) (img : List Byte) (s : State) : Host.Outcome State Fault Refusal :=
  hostRow t h (.safConfigWrite img) s
def execSafConfigConfirm (t : Nat) (h : Hdr) (lane : Nat) (crc : Word) (s : State) : Host.Outcome State Fault Refusal :=
  hostRow t h (.safConfigConfirm lane crc) s
def execSafStatus (t : Nat) (h : Hdr) (s : State) : Host.Outcome State Fault Refusal := hostRow t h .safStatus s
def execSafReset (t : Nat) (h : Hdr) (s : State) : Host.Outcome State Fault Refusal := hostRow t h .safReset s
def execPairClaim (t : Nat) (h : Hdr) (s : State) : Host.Outcome State Fault Refusal := hostRow t h .pairClaim s
def execPairSwitchover (t : Nat) (h : Hdr) (s : State) : Host.Outcome State Fault Refusal := hostRow t h .pairSwitchover s
def execPairResync (t : Nat) (h : Hdr) (s : State) : Host.Outcome State Fault Refusal := hostRow t h .pairResync s
def execTimeGet (t : Nat) (h : Hdr) (s : State) : Host.Outcome State Fault Refusal := hostRow t h .timeGet s
def execTimeStepAbs (t : Nat) (h : Hdr) (sec ns frac : Nat) (s : State) : Host.Outcome State Fault Refusal :=
  hostRow t h (.timeStepAbs sec ns frac) s
def execTimeStepRel (t : Nat) (h : Hdr) (amount : Int) (s : State) : Host.Outcome State Fault Refusal :=
  hostRow t h (.timeStepRel amount) s
def execTimeStepToRef (t : Nat) (h : Hdr) (s : State) : Host.Outcome State Fault Refusal := hostRow t h .timeStepToRef s
def execBistRun (t : Nat) (h : Hdr) (mask : Word) (s : State) : Host.Outcome State Fault Refusal := hostRow t h (.bistRun mask) s
def execBistResult (t : Nat) (h : Hdr) (mask : Word) (s : State) : Host.Outcome State Fault Refusal := hostRow t h (.bistResult mask) s
def execFaultAck (t : Nat) (h : Hdr) (mask : Nat) (s : State) : Host.Outcome State Fault Refusal := hostRow t h (.faultAck mask) s
def execFaultLogRead (t : Nat) (h : Hdr) (first count : Nat) (s : State) : Host.Outcome State Fault Refusal :=
  hostRow t h (.faultLogRead first count) s
def execFactoryEnter (t : Nat) (h : Hdr) (s : State) : Host.Outcome State Fault Refusal := hostRow t h .factoryEnter s
def execFaultInject (t : Nat) (h : Hdr) (code : Nat) (addr : Word) (s : State) : Host.Outcome State Fault Refusal :=
  hostRow t h (.faultInject code addr) s
def execMemInject (t : Nat) (h : Hdr) (addr a : Nat) (b : Option Nat) (s : State) : Host.Outcome State Fault Refusal :=
  hostRow t h (.memInject addr a b) s
def execLinkInject (t : Nat) (h : Hdr) (link cause count : Nat) (up : Bool) (s : State) : Host.Outcome State Fault Refusal :=
  hostRow t h (.linkInject link cause count up) s
def execInjClear (t : Nat) (h : Hdr) (s : State) : Host.Outcome State Fault Refusal := hostRow t h .injClear s
def execFactoryLeave (t : Nat) (h : Hdr) (s : State) : Host.Outcome State Fault Refusal := hostRow t h .factoryLeave s

/-- UNDEFINED_OPCODE (R368): a packet as it is received, whatever it holds. -/
def execUndefinedOpcode (t : Nat) (q : Path) (bytes : List Byte) (s : State) : Host.Outcome State Fault Refusal :=
  let s := s.begin t
  .next (if s.serves q then settle (packet q .port bytes (noteLink q s)) else s)

/-! ### PCIe (R362, R363, R374) -/

/-- The address that a refused access through a BAR logs: the module address of BAR0 and BAR2; BAR4 maps the DRAM by its
offset (R362, R420), which has no module address, and logs that offset (the model's choice: log 21). -/
def barAddr (bar off : Nat) : Nat := if bar = 2 then 0x10000000 + off else off

/-- Read words through BAR0 or bytes through BAR2 and BAR4: the data and whether the completion is poisoned. -/
def barRead (bar off len : Nat) (s : State) : State × List Byte × Bool :=
  let zero : List Byte := List.replicate len 0
  let mem (dram : Bool) (base : Nat) : State × List Byte × Bool :=
    let r := readRange dram 7 (base + off) (len / 8 + 2) 0 off len s
    (r.1, r.2.1 ++ List.replicate (len - r.2.1.length) 0, r.2.2.isSome)
  if off % 4 ≠ 0 then (violation 0 (barAddr bar off) 7 .badParam s, zero, false)
  else match bar with
  | 0 =>
    if len % 4 ≠ 0 then (violation 0 off 7 .badParam s, zero, false)
    else (List.range (len / 4)).foldl (fun (x : State × List Byte × Bool) k =>
      let r := readReg 7 (off + 4 * k) x.1
      (r.1, x.2.1 ++ leBytes 4 (if r.2.1 = .ok then r.2.2.toNat else 0), x.2.2 || decide (r.2.1 = .memUe))) (s, [], false)
  | 2 => if off + len ≤ 0x1800000 then mem false 0x10000000 else (violation 0 (0x10000000 + off) 7 .badParam s, zero, false)
  | _ =>
    if ¬ s.hasDram then (violation 0 off 7 .unitAbsent s, zero, false)
    else if off + len ≤ 0x1FC000000 then mem true 0x40000000
    else (violation 0 off 7 .badParam s, zero, false)

/-- PCIE_MEM_READ: refused reads complete with 0; poisoned data carry the EP mark, shown as MEM_UE. -/
def execPcieMemRead (t bar off len : Nat) (s : State) : Host.Outcome State Fault Refusal :=
  let s := s.begin t
  .next (if ¬ s.serves .pcie ∨ ¬ (bar = 0 ∨ bar = 2 ∨ bar = 4) then s
    else
      let r := barRead bar off len (noteLink .pcie s)
      let s := r.1.put (.pcieData r.2.1)
      settle (if r.2.2 then s.put (.wrote .memUe) else s))

/-- Write through a BAR; what is refused is discarded. -/
def barWrite (bar off : Nat) (d : List Byte) (s : State) : State :=
  if off % 4 ≠ 0 then violation 1 (barAddr bar off) 7 .badParam s
  else match bar with
  | 0 =>
    if d.length % 4 ≠ 0 then violation 1 off 7 .badParam s
    else (List.range (d.length / 4)).foldl (fun s k => (writeReg 7 (off + 4 * k) (wordAt d (4 * k)) s).1) s
  | 2 =>
    if 0x1800000 < off + d.length then violation 1 (0x10000000 + off) 7 .badParam s
    else if ¬ s.mayWriteSram 7 off d.length then violation 1 (0x10000000 + off) 7 .accessDenied s
    else (writeRange false 7 (0x10000000 + off) (d.length / 8 + 2) 0 off d s).1
  | _ =>
    if ¬ s.hasDram then violation 1 off 7 .unitAbsent s
    else if 0x1FC000000 < off + d.length then violation 1 off 7 .badParam s
    else (writeRange true 7 (0x40000000 + off) (d.length / 8 + 2) 0 off d s).1

/-- PCIE_MEM_WRITE. -/
def execPcieMemWrite (t bar off : Nat) (data : List Byte) (s : State) : Host.Outcome State Fault Refusal :=
  let s := s.begin t
  .next (if ¬ s.serves .pcie ∨ ¬ (bar = 0 ∨ bar = 2 ∨ bar = 4) then s else settle (barWrite bar off data (noteLink .pcie s)))

/-- Copy command slots from NET_CQHEAD on, up to `n` of them (R363). -/
def copySlots : Nat → List (List Byte) → State → State
  | n + 1, b :: r, s =>
    let size := max 1 (s.rf .netCqsize 0 11)
    let s := s.rsf .netCqhead 0 10 ((s.rf .netCqhead 0 10 + 1) % size)
    copySlots n r (packet .pcie .port b s)
  | _, _, s => s

/-- CQ_TAIL_WRITE (R363): the tail is written, then the slots it hands over are copied in order. -/
def execCqTailWrite (t : Nat) (m : Master) (v : Word) (slots : List (List Byte)) (s : State) : Host.Outcome State Fault Refusal :=
  let s := s.begin t
  .next (if ¬ s.serves .pcie then s
    else
      let r := writeReg m.toNat (regAddr .netCqtail) v s
      let s := r.1.put (.wrote r.2)
      if r.2 ≠ .ok then s
      else
        let size := max 1 (s.rf .netCqsize 0 11)
        let n := (s.rf .netCqtail 0 10 + size - s.rf .netCqhead 0 10 % size) % size
        settle (copySlots n slots (noteLink .pcie s)))

/-- REPLY_RING_ROOM (R363): the write of NET_RQHEAD lets waiting replies leave. -/
def execReplyRingRoom (t : Nat) (m : Master) (v : Word) (s : State) : Host.Outcome State Fault Refusal :=
  .next (settle (writeAs t m (regAddr .netRqhead) v s))

/-- PCIE_RESET (R374). -/
def execPcieReset (t : Nat) (s : State) : Host.Outcome State Fault Refusal :=
  let s := s.begin t
  .next (pathReset 0 (resetMaster 7 (s.rsf .netStat 3 5 0)))

/-! ### Ports (R364, R374) -/

/-- ARP_REQUEST. -/
def execArpRequest (t p : Nat) (ip : Word) (s : State) : Host.Outcome State Fault Refusal :=
  let s := s.begin t
  .next (if s.mode ≠ .off ∧ p < 3 ∧ s.portOpen (pathOfIndex (p + 1)) ∧ ip = s.rg .netIp p then s.put (.arp p (Config.mac p) ip) else s)

/-- ICMP_ECHO. -/
def execIcmpEcho (t p : Nat) (ip : Word) (data : List Byte) (s : State) : Host.Outcome State Fault Refusal :=
  let s := s.begin t
  .next (if s.mode ≠ .off ∧ p < 3 ∧ s.portOpen (pathOfIndex (p + 1)) ∧ ip = s.rg .netIp p then s.put (.icmp p ip data) else s)

/-- REASSEMBLY_TIMEOUT: an incomplete datagram is discarded without a count; the model holds only whole datagrams. -/
def execReassemblyTimeout (t _p _ident : Nat) (s : State) : Host.Outcome State Fault Refusal := .next (s.begin t)

/-- PORT_LINK_DOWN: the port's own master, 8, 9 or 10, is reset (R374); 13 is reset only by leaving FACTORY_TEST. -/
def execPortLinkDown (t p : Nat) (s : State) : Host.Outcome State Fault Refusal :=
  let s := s.begin t
  .next (if p < 3 then
      pathReset (p + 1) (resetMaster (p + 8) (s.rsb .netStat p false))
    else s)

/-! ### Timed events of the paths (R370, R375, R384) -/

/-- REPLY_CACHE_EXPIRY: entries leave 60 s after their reply. -/
def execReplyCacheExpiry (t : Nat) (q : Path) (s : State) : Host.Outcome State Fault Refusal :=
  let s := s.begin t
  let p := s.path (pathIndex q)
  .next (s.setPath (pathIndex q) { p with cache := p.cache.filter (fun c => decide (s.now < c.stamp + 24000000000)) })

/-- Send the oldest records of path q as one packet; where the reply ring is full they are lost and counted. -/
def sendEvents (q : Path) (s : State) : State :=
  let k := pathIndex q
  let p := s.path k
  let recs := p.queue.take 64
  let rest := p.queue.drop 64
  let more := decide (rest ≠ [])
  if q = .pcie ∧ ¬ s.ringRoom then
    let s := s.setPath k { p with queue := rest, lost := satAdd 0xFFFF p.lost recs.length, overflow := more, oldest := s.now }
    if p.overflow then s else overflowFaults 8 1 s
  else
    let s := s.setPath k { p with queue := rest, lost := 0, sent := p.sent + 1, overflow := p.overflow && more, oldest := s.now }
    let s := s.put (.event q p.sent p.lost recs)
    if q = .pcie then ringAdvance 1 s else s

/-- EVENT (R375): 64 records are pending, or the oldest is 1 ms old. -/
def execEvent (t : Nat) (q : Path) (s : State) : Host.Outcome State Fault Refusal :=
  let s := s.begin t
  let p := s.path (pathIndex q)
  .next (if ¬ p.queue.isEmpty ∧ (64 ≤ p.queue.length ∨ p.oldest + 400000 ≤ s.now) then sendEvents q s else s)

/-- MB_CROSS (R384): both channels of an enabled pair have held a message for longer than CROSS_TO. -/
def execMbCross (t a b : Nat) (s : State) : Host.Outcome State Fault Refusal :=
  let s := s.begin t
  let limit := s.rf .mbxCtrl 8 8 * 40000
  let old (c : Nat) : Bool := !(s.chan c).msgs.isEmpty && decide ((s.chan c).since + limit < s.now)
  .next (if a < 32 ∧ b < 32 ∧ a ≠ b ∧ s.bindEn a ∧ s.bindEn b ∧ s.bindSrc a = s.bindDst b ∧ s.bindDst a = s.bindSrc b
      ∧ old a ∧ old b ∧ ¬ (s.chan a).cross then
    let s := [a, b].foldl (fun s c => setNote c ((s.setChan c { s.chan c with cross := true }).rsb .mbxCross c true)) s
    fault 0x0BC1 .l0 s
  else s)

/-- CORE_RESET (R374, R428): `fetch` is the SRAM offset of an uncorrectable instruction word that caused it; the boot ROM
restores its 1 KiB row from flash. -/
def execCoreReset (t : Nat) (m : Master) (fetch : Option Nat) (s : State) : Host.Outcome State Fault Refusal :=
  let s := s.begin t
  .next (if s.mode = .off ∨ 6 < m.toNat ∨ ¬ s.hasMaster m.toNat then s
    else
      let s := match fetch with
        | some a =>
          let w := a / 8
          let x := s.mark false w
          let s := logUe 0 2 x.poison x.syn (some m.toNat) (w * 8) 2 .l2 2 (0x10000000 + a) s
          (List.range 128).foldl (fun s k => setMark false (w / 128 * 128 + k) Mark.clean s) s
        | none => s
      resetMaster m.toNat s)

end Sys2Proof.Machine
end

