-- ==== Sys2Proof/Machine/RegRows.lean ====
section
/-!
DEFINITION. The rows that are accesses to one register by a master (R9, R371): each is that access, with the rules and effects
of its register, and what the supervisor does after it.
-/
namespace Sys2Proof.Machine

/-- A register write by master m at time t. -/
def regRow (t : Nat) (m : Master) (addr : Nat) (v : Word) (s : State) : Host.Outcome State Fault Refusal :=
  .next (if s.mode = .off then s.begin t else settle (writeAs t m addr v s))

/-- A register read by master m at time t. -/
def readRow (t : Nat) (m : Master) (addr : Nat) (s : State) : Host.Outcome State Fault Refusal :=
  .next (if s.mode = .off then s.begin t else settle (readAs t m addr s))

/-- MBX_SEND (R382). -/
def execMbxSend (t : Nat) (m : Master) (c : Nat) (v : Word) (s : State) : Host.Outcome State Fault Refusal :=
  regRow t m (regAddr .mbxSend c) v s

/-- MBX_ACK (R382). -/
def execMbxAck (t : Nat) (m : Master) (c : Nat) (v : Word) (s : State) : Host.Outcome State Fault Refusal :=
  regRow t m (regAddr .mbxAck c) v s

/-- MBX_DBELL_CLEAR (R382). -/
def execMbxDbellClear (t : Nat) (m : Master) (v : Word) (s : State) : Host.Outcome State Fault Refusal :=
  regRow t m (regAddr .mbxDbell) v s

/-- MBX_NOTE_CLEAR (R382). -/
def execMbxNoteClear (t : Nat) (m : Master) (v : Word) (s : State) : Host.Outcome State Fault Refusal :=
  regRow t m (regAddr .mbxNote) v s

/-- MBX_LOCK (R381). -/
def execMbxLock (t : Nat) (m : Master) (v : Word) (s : State) : Host.Outcome State Fault Refusal :=
  regRow t m (regAddr .mbxCtrl) v s

/-- CRC_CFG_WRITE (R435). -/
def execCrcCfgWrite (t : Nat) (m : Master) (u : Nat) (v : Word) (s : State) : Host.Outcome State Fault Refusal :=
  regRow t m (regAddr .crcCfg u) v s

/-- CRC_DATAB (R436). -/
def execCrcDatab (t : Nat) (m : Master) (u : Nat) (v : Word) (s : State) : Host.Outcome State Fault Refusal :=
  regRow t m (regAddr .crcDatab u) v s

/-- CRC_DATAW (R436). -/
def execCrcDataw (t : Nat) (m : Master) (u : Nat) (v : Word) (s : State) : Host.Outcome State Fault Refusal :=
  regRow t m (regAddr .crcDataw u) v s

/-- CRC_DATAD (R436). -/
def execCrcDatad (t : Nat) (m : Master) (u : Nat) (v : Word) (s : State) : Host.Outcome State Fault Refusal :=
  regRow t m (regAddr .crcDatad u) v s

/-- CRC_VALH_WRITE (R437). -/
def execCrcValhWrite (t : Nat) (m : Master) (u : Nat) (v : Word) (s : State) : Host.Outcome State Fault Refusal :=
  regRow t m (regAddr .crcValh u) v s

/-- CRC_VALL_WRITE (R437). -/
def execCrcVallWrite (t : Nat) (m : Master) (u : Nat) (v : Word) (s : State) : Host.Outcome State Fault Refusal :=
  regRow t m (regAddr .crcVall u) v s

/-- CRC_ALIVE (R438). -/
def execCrcAlive (t : Nat) (m : Master) (u : Nat) (v : Word) (s : State) : Host.Outcome State Fault Refusal :=
  regRow t m (regAddr .crcAlive u) v s

/-- CRC_CLAIM (R439). -/
def execCrcClaim (t : Nat) (m : Master) (u : Nat) (v : Word) (s : State) : Host.Outcome State Fault Refusal :=
  regRow t m (regAddr .crcClaim u) v s

/-- CRC_RELEASE (R439). -/
def execCrcRelease (t : Nat) (m : Master) (u : Nat) (v : Word) (s : State) : Host.Outcome State Fault Refusal :=
  regRow t m (regAddr .crcClaim u) v s

/-- MEM_RETIRE (R432). -/
def execMemRetire (t : Nat) (m : Master) (v : Word) (s : State) : Host.Outcome State Fault Refusal :=
  regRow t m (regAddr .memRetire) v s

/-- LEN_FB_WRITE (R71). -/
def execLenFbWrite (t : Nat) (m : Master) (v : Word) (s : State) : Host.Outcome State Fault Refusal :=
  regRow t m (regAddr .lenBase 2) v s

/-- BANK_OPEN (R93). -/
def execBankOpen (t : Nat) (m : Master) (v : Word) (s : State) : Host.Outcome State Fault Refusal :=
  regRow t m (regAddr .lenBankctl) v s

/-- BANK_CLOSE (R93). -/
def execBankClose (t : Nat) (m : Master) (v : Word) (s : State) : Host.Outcome State Fault Refusal :=
  regRow t m (regAddr .lenBankctl) v s

/-- TCOMP_CLEAR (R102). -/
def execTcompClear (t : Nat) (m : Master) (v : Word) (s : State) : Host.Outcome State Fault Refusal :=
  regRow t m (regAddr .lenTcclr) v s

/-- DEF_CLEAR (R132). -/
def execDefClear (t : Nat) (m : Master) (v : Word) (s : State) : Host.Outcome State Fault Refusal :=
  regRow t m (regAddr .winCntclr) v s

/-- SW_CLEAR (R132). -/
def execSwClear (t : Nat) (m : Master) (v : Word) (s : State) : Host.Outcome State Fault Refusal :=
  regRow t m (regAddr .winCntclr) v s

/-- QLIM_CLEAR (R174). -/
def execQlimClear (t : Nat) (m : Master) (v : Word) (s : State) : Host.Outcome State Fault Refusal :=
  regRow t m (regAddr .fscCntclr) v s

/-- REJ_CLEAR (R174). -/
def execRejClear (t : Nat) (m : Master) (v : Word) (s : State) : Host.Outcome State Fault Refusal :=
  regRow t m (regAddr .fscCntclr) v s

/-- CHAFF_CLEAR (R210). -/
def execChaffClear (t : Nat) (m : Master) (v : Word) (s : State) : Host.Outcome State Fault Refusal :=
  regRow t m (regAddr .lnkCntclr) v s

/-- OTHER_CLEAR (R210). -/
def execOtherClear (t : Nat) (m : Master) (v : Word) (s : State) : Host.Outcome State Fault Refusal :=
  regRow t m (regAddr .lnkCntclr) v s

/-- GAP_CLEAR (R289). -/
def execGapClear (t : Nat) (m : Master) (v : Word) (s : State) : Host.Outcome State Fault Refusal :=
  regRow t m (regAddr .recCntclr) v s

/-- MARK_CLEAR (R289). -/
def execMarkClear (t : Nat) (m : Master) (v : Word) (s : State) : Host.Outcome State Fault Refusal :=
  regRow t m (regAddr .recCntclr) v s

/-- SHF_COUNT_CLEAR (R360). -/
def execShfCountClear (t : Nat) (m : Master) (v : Word) (s : State) : Host.Outcome State Fault Refusal :=
  regRow t m (regAddr .shfCntclr) v s

/-- CKLOST_CLEAR (R340). -/
def execCklostClear (t : Nat) (m : Master) (v : Word) (s : State) : Host.Outcome State Fault Refusal :=
  regRow t m (regAddr .redCntclr) v s

/-- TAKE_CLEAR (R340). -/
def execTakeClear (t : Nat) (m : Master) (v : Word) (s : State) : Host.Outcome State Fault Refusal :=
  regRow t m (regAddr .redCntclr) v s

/-- SIZE_CLEAR (R340). -/
def execSizeClear (t : Nat) (m : Master) (v : Word) (s : State) : Host.Outcome State Fault Refusal :=
  regRow t m (regAddr .redCntclr) v s

/-- MEM_COUNT_CLEAR (R442). -/
def execMemCountClear (t : Nat) (m : Master) (v : Word) (s : State) : Host.Outcome State Fault Refusal :=
  regRow t m (regAddr .memCntclr) v s

/-- SAF_COUNT_CLEAR (R418). -/
def execSafCountClear (t : Nat) (m : Master) (v : Word) (s : State) : Host.Outcome State Fault Refusal :=
  regRow t m (regAddr .safCntclr) v s

/-- NET_COUNT_CLEAR (R390). -/
def execNetCountClear (t : Nat) (m : Master) (v : Word) (s : State) : Host.Outcome State Fault Refusal :=
  regRow t m (regAddr .netCntclr) v s

/-- VIOL_CLEAR (R461). -/
def execViolClear (t : Nat) (m : Master) (v : Word) (s : State) : Host.Outcome State Fault Refusal :=
  regRow t m (regAddr .fltCntclr) v s

/-- INJECTION_GO (R455). -/
def execInjectionGo (t : Nat) (m : Master) (v : Word) (s : State) : Host.Outcome State Fault Refusal :=
  regRow t m (regAddr .fltInjctrl) v s

/-- SF1_REQ (R403). -/
def execSf1Req (t : Nat) (m : Master) (v : Word) (s : State) : Host.Outcome State Fault Refusal :=
  regRow t m (regAddr .safCtrl) v s

/-- TRIAL (R470). -/
def execTrial (t : Nat) (m : Master) (v : Word) (s : State) : Host.Outcome State Fault Refusal :=
  regRow t m (regAddr .pwrFwctrl) v s

/-- COMMIT (R349). -/
def execCommit (t : Nat) (m : Master) (v : Word) (s : State) : Host.Outcome State Fault Refusal :=
  regRow t m (regAddr .pwrFwctrl) v s

/-- PROG (R471). -/
def execProg (t : Nat) (m : Master) (v : Word) (s : State) : Host.Outcome State Fault Refusal :=
  regRow t m (regAddr .pwrFwctrl) v s

/-- LINK_RELEASE (R206). -/
def execLinkRelease (t : Nat) (m : Master) (l : Nat) (v : Word) (s : State) : Host.Outcome State Fault Refusal :=
  regRow t m (regAddr .lnkLctrl l) v s

/-- RETRAIN (R200). -/
def execRetrain (t : Nat) (m : Master) (l : Nat) (v : Word) (s : State) : Host.Outcome State Fault Refusal :=
  regRow t m (regAddr .lnkLctrl l) v s

/-- LINK_ENABLE_WRITE (R210). -/
def execLinkEnableWrite (t : Nat) (m : Master) (l : Nat) (v : Word) (s : State) : Host.Outcome State Fault Refusal :=
  regRow t m (regAddr .lnkLctrl l) v s

/-- HRD_WRITE (R279). -/
def execHrdWrite (t : Nat) (m : Master) (v : Word) (s : State) : Host.Outcome State Fault Refusal :=
  regRow t m (regAddr .recHrd) v s

/-- SEQUENCE_START (R264). -/
def execSequenceStart (t : Nat) (m : Master) (v : Word) (s : State) : Host.Outcome State Fault Refusal :=
  regRow t m (regAddr .madCtrl) v s

/-- SEQUENCE_STOP (R264). -/
def execSequenceStop (t : Nat) (m : Master) (v : Word) (s : State) : Host.Outcome State Fault Refusal :=
  regRow t m (regAddr .madCtrl) v s

/-- INJECTED_REQUEST (R265). -/
def execInjectedRequest (t : Nat) (m : Master) (v : Word) (s : State) : Host.Outcome State Fault Refusal :=
  regRow t m (regAddr .madInj) v s

/-- CALIBRATION_REQUEST (R266). -/
def execCalibrationRequest (t : Nat) (m : Master) (v : Word) (s : State) : Host.Outcome State Fault Refusal :=
  regRow t m (regAddr .madCalreq) v s

/-- CHANNEL_START (R250). -/
def execChannelStart (t : Nat) (m : Master) (v : Word) (s : State) : Host.Outcome State Fault Refusal :=
  regRow t m (regAddr .filNrun) v s

/-- CHANNEL_STOP (R250). -/
def execChannelStop (t : Nat) (m : Master) (v : Word) (s : State) : Host.Outcome State Fault Refusal :=
  regRow t m (regAddr .filNrun) v s

/-- PRIV_ENGINE_START (R250). -/
def execPrivEngineStart (t : Nat) (m : Master) (v : Word) (s : State) : Host.Outcome State Fault Refusal :=
  regRow t m (regAddr .filPctrl) v s

/-- PRIV_ENGINE_STOP (R250). -/
def execPrivEngineStop (t : Nat) (m : Master) (v : Word) (s : State) : Host.Outcome State Fault Refusal :=
  regRow t m (regAddr .filPctrl) v s

/-- N_APPLY (R309). -/
def execNApply (t : Nat) (m : Master) (v : Word) (s : State) : Host.Outcome State Fault Refusal :=
  regRow t m (regAddr .clkNfrac) v s

/-- SPLL_ENABLE (R310). -/
def execSpllEnable (t : Nat) (m : Master) (v : Word) (s : State) : Host.Outcome State Fault Refusal :=
  regRow t m (regAddr .clkCtrl) v s

/-- CRC_VALL_READ (R437): the read takes a snapshot for CRC_VALHu. -/
def execCrcVallRead (t : Nat) (m : Master) (u : Nat) (s : State) : Host.Outcome State Fault Refusal :=
  readRow t m (regAddr .crcVall u) s

/-- SAMPLE_SNAPSHOT (R253): word 0 of FIL_POUTk or FIL_NOUTn. -/
def execSampleSnapshot (t : Nat) (m : Master) (priv : Bool) (n : Nat) (s : State) : Host.Outcome State Fault Refusal :=
  readRow t m (if priv then regAddr .filPout n else regAddr .filNout n) s

/-- RESULT_SNAPSHOT (R269): word 0 of a metering result record. -/
def execResultSnapshot (t : Nat) (m : Master) (inj : Bool) (c : Nat) (s : State) : Host.Outcome State Fault Refusal :=
  readRow t m (if inj then regAddr .madInjres else regAddr .madRes c) s

/-- NOW_SNAPSHOT (R316): TIM_NOWTL. -/
def execNowSnapshot (t : Nat) (m : Master) (s : State) : Host.Outcome State Fault Refusal := readRow t m (regAddr .timNowtl) s

/-- LOG_SNAPSHOT (R461): word 0 of FLT_LOGj. -/
def execLogSnapshot (t : Nat) (m : Master) (j : Nat) (s : State) : Host.Outcome State Fault Refusal := readRow t m (regAddr .fltLog j) s

/-- REGISTER_WRITE (R9): any register. -/
def execRegisterWrite (t : Nat) (m : Master) (addr : Nat) (v : Word) (s : State) : Host.Outcome State Fault Refusal :=
  regRow t m addr v s

/-- TIM_OFFSET_WRITE (R301). -/
def execTimOffsetWrite (t : Nat) (m : Master) (addr : Nat) (v : Word) (s : State) : Host.Outcome State Fault Refusal :=
  regRow t m addr v s

end Sys2Proof.Machine
end

