-- ==== Sys2Proof/Machine/Dispatch.lean ====
section
/-!
DEFINITION. The dispatch: one arm per command of the block.
-/
namespace Sys2Proof.Machine

/-- The effect of a command on everything but the queue. -/
def exec (i : Instr) (s : State) : Host.Outcome State Fault Refusal :=
  match i with
  | .ping t h => Sys2Proof.Machine.execPing t h s
  | .sysStatus t h => Sys2Proof.Machine.execSysStatus t h s
  | .sysIdent t h => Sys2Proof.Machine.execSysIdent t h s
  | .eventSub t h mask => Sys2Proof.Machine.execEventSub t h mask s
  | .pathReset t h => Sys2Proof.Machine.execPathReset t h s
  | .regRead t h addr n => Sys2Proof.Machine.execRegRead t h addr n s
  | .regWrite t h addr ws => Sys2Proof.Machine.execRegWrite t h addr ws s
  | .regRmw t h addr mask value => Sys2Proof.Machine.execRegRmw t h addr mask value s
  | .memRead t h addr len => Sys2Proof.Machine.execMemRead t h addr len s
  | .memWrite t h addr data => Sys2Proof.Machine.execMemWrite t h addr data s
  | .memFill t h addr len pat => Sys2Proof.Machine.execMemFill t h addr len pat s
  | .memFillDone t => Sys2Proof.Machine.execMemFillDone t s
  | .precharge t h => Sys2Proof.Machine.execPrecharge t h s
  | .start t h => Sys2Proof.Machine.execStart t h s
  | .blackStart t h => Sys2Proof.Machine.execBlackStart t h s
  | .island t h => Sys2Proof.Machine.execIsland t h s
  | .resyncStart t h => Sys2Proof.Machine.execResyncStart t h s
  | .resyncCancel t h => Sys2Proof.Machine.execResyncCancel t h s
  | .stop t h => Sys2Proof.Machine.execStop t h s
  | .tieStatus t h closed ac time => Sys2Proof.Machine.execTieStatus t h closed ac time s
  | .resetTrip t h service => Sys2Proof.Machine.execResetTrip t h service s
  | .serviceEnter t h => Sys2Proof.Machine.execServiceEnter t h s
  | .serviceLeave t h => Sys2Proof.Machine.execServiceLeave t h s
  | .sheafOpen t h => Sys2Proof.Machine.execSheafOpen t h s
  | .sheafAdd t h n es => Sys2Proof.Machine.execSheafAdd t h n es s
  | .sheafCommit t h n mode time => Sys2Proof.Machine.execSheafCommit t h n mode time s
  | .sheafDiscard t h n => Sys2Proof.Machine.execSheafDiscard t h n s
  | .sheafTimeout t n => Sys2Proof.Machine.execSheafTimeout t n s
  | .prepareDeadline t n => Sys2Proof.Machine.execPrepareDeadline t n s
  | .sheafApply t n => Sys2Proof.Machine.execSheafApply t n s
  | .bypass t h cell => Sys2Proof.Machine.execBypass t h cell s
  | .restore t h cell => Sys2Proof.Machine.execRestore t h cell s
  | .release t h cell => Sys2Proof.Machine.execRelease t h cell s
  | .cellTxn t h link slot op addr data => Sys2Proof.Machine.execCellTxn t h link slot op addr data s
  | .linkBlock t h link all => Sys2Proof.Machine.execLinkBlock t h link all s
  | .recStatus t h => Sys2Proof.Machine.execRecStatus t h s
  | .safConfigWrite t h img => Sys2Proof.Machine.execSafConfigWrite t h img s
  | .safConfigConfirm t h lane crc => Sys2Proof.Machine.execSafConfigConfirm t h lane crc s
  | .safStatus t h => Sys2Proof.Machine.execSafStatus t h s
  | .safReset t h => Sys2Proof.Machine.execSafReset t h s
  | .pairClaim t h => Sys2Proof.Machine.execPairClaim t h s
  | .pairSwitchover t h => Sys2Proof.Machine.execPairSwitchover t h s
  | .pairResync t h => Sys2Proof.Machine.execPairResync t h s
  | .timeGet t h => Sys2Proof.Machine.execTimeGet t h s
  | .timeStepAbs t h sec ns frac => Sys2Proof.Machine.execTimeStepAbs t h sec ns frac s
  | .timeStepRel t h amount => Sys2Proof.Machine.execTimeStepRel t h amount s
  | .timeStepToRef t h => Sys2Proof.Machine.execTimeStepToRef t h s
  | .bistRun t h mask => Sys2Proof.Machine.execBistRun t h mask s
  | .bistComplete t res => Sys2Proof.Machine.execBistComplete t res s
  | .bistResult t h mask => Sys2Proof.Machine.execBistResult t h mask s
  | .faultAck t h mask => Sys2Proof.Machine.execFaultAck t h mask s
  | .faultLogRead t h first count => Sys2Proof.Machine.execFaultLogRead t h first count s
  | .factoryEnter t h => Sys2Proof.Machine.execFactoryEnter t h s
  | .faultInject t h code addr => Sys2Proof.Machine.execFaultInject t h code addr s
  | .memInject t h addr a b => Sys2Proof.Machine.execMemInject t h addr a b s
  | .linkInject t h link cause count up => Sys2Proof.Machine.execLinkInject t h link cause count up s
  | .injClear t h => Sys2Proof.Machine.execInjClear t h s
  | .factoryLeave t h => Sys2Proof.Machine.execFactoryLeave t h s
  | .pcieMemRead t bar off len => Sys2Proof.Machine.execPcieMemRead t bar off len s
  | .pcieMemWrite t bar off data => Sys2Proof.Machine.execPcieMemWrite t bar off data s
  | .arpRequest t p ip => Sys2Proof.Machine.execArpRequest t p ip s
  | .icmpEcho t p ip data => Sys2Proof.Machine.execIcmpEcho t p ip data s
  | .reassemblyTimeout t p ident => Sys2Proof.Machine.execReassemblyTimeout t p ident s
  | .cqTailWrite t m v slots => Sys2Proof.Machine.execCqTailWrite t m v slots s
  | .replyRingRoom t m v => Sys2Proof.Machine.execReplyRingRoom t m v s
  | .replyCacheExpiry t q => Sys2Proof.Machine.execReplyCacheExpiry t q s
  | .event t q => Sys2Proof.Machine.execEvent t q s
  | .pcieReset t => Sys2Proof.Machine.execPcieReset t s
  | .portLinkDown t p => Sys2Proof.Machine.execPortLinkDown t p s
  | .coreReset t m fetch => Sys2Proof.Machine.execCoreReset t m fetch s
  | .mbxSend t m c v => Sys2Proof.Machine.execMbxSend t m c v s
  | .mbxAck t m c v => Sys2Proof.Machine.execMbxAck t m c v s
  | .mbxDbellClear t m v => Sys2Proof.Machine.execMbxDbellClear t m v s
  | .mbxNoteClear t m v => Sys2Proof.Machine.execMbxNoteClear t m v s
  | .mbxLock t m v => Sys2Proof.Machine.execMbxLock t m v s
  | .mbCross t a b => Sys2Proof.Machine.execMbCross t a b s
  | .crcCfgWrite t m u v => Sys2Proof.Machine.execCrcCfgWrite t m u v s
  | .crcDatab t m u v => Sys2Proof.Machine.execCrcDatab t m u v s
  | .crcDataw t m u v => Sys2Proof.Machine.execCrcDataw t m u v s
  | .crcDatad t m u v => Sys2Proof.Machine.execCrcDatad t m u v s
  | .crcValhWrite t m u v => Sys2Proof.Machine.execCrcValhWrite t m u v s
  | .crcVallWrite t m u v => Sys2Proof.Machine.execCrcVallWrite t m u v s
  | .crcVallRead t m u => Sys2Proof.Machine.execCrcVallRead t m u s
  | .crcAlive t m u v => Sys2Proof.Machine.execCrcAlive t m u v s
  | .crcClaim t m u v => Sys2Proof.Machine.execCrcClaim t m u v s
  | .crcRelease t m u v => Sys2Proof.Machine.execCrcRelease t m u v s
  | .memRetire t m v => Sys2Proof.Machine.execMemRetire t m v s
  | .retirementCopyDone t => Sys2Proof.Machine.execRetirementCopyDone t s
  | .gleanWord t dram => Sys2Proof.Machine.execGleanWord t dram s
  | .hardwareFillDone t => Sys2Proof.Machine.execHardwareFillDone t s
  | .sampleSnapshot t m priv n => Sys2Proof.Machine.execSampleSnapshot t m priv n s
  | .resultSnapshot t m inj c => Sys2Proof.Machine.execResultSnapshot t m inj c s
  | .nowSnapshot t m => Sys2Proof.Machine.execNowSnapshot t m s
  | .logSnapshot t m j => Sys2Proof.Machine.execLogSnapshot t m j s
  | .registerWrite t m addr v => Sys2Proof.Machine.execRegisterWrite t m addr v s
  | .lenFbWrite t m v => Sys2Proof.Machine.execLenFbWrite t m v s
  | .bankOpen t m v => Sys2Proof.Machine.execBankOpen t m v s
  | .bankClose t m v => Sys2Proof.Machine.execBankClose t m v s
  | .tcompClear t m v => Sys2Proof.Machine.execTcompClear t m v s
  | .defClear t m v => Sys2Proof.Machine.execDefClear t m v s
  | .swClear t m v => Sys2Proof.Machine.execSwClear t m v s
  | .qlimClear t m v => Sys2Proof.Machine.execQlimClear t m v s
  | .rejClear t m v => Sys2Proof.Machine.execRejClear t m v s
  | .chaffClear t m v => Sys2Proof.Machine.execChaffClear t m v s
  | .otherClear t m v => Sys2Proof.Machine.execOtherClear t m v s
  | .gapClear t m v => Sys2Proof.Machine.execGapClear t m v s
  | .markClear t m v => Sys2Proof.Machine.execMarkClear t m v s
  | .shfCountClear t m v => Sys2Proof.Machine.execShfCountClear t m v s
  | .cklostClear t m v => Sys2Proof.Machine.execCklostClear t m v s
  | .takeClear t m v => Sys2Proof.Machine.execTakeClear t m v s
  | .sizeClear t m v => Sys2Proof.Machine.execSizeClear t m v s
  | .memCountClear t m v => Sys2Proof.Machine.execMemCountClear t m v s
  | .safCountClear t m v => Sys2Proof.Machine.execSafCountClear t m v s
  | .netCountClear t m v => Sys2Proof.Machine.execNetCountClear t m v s
  | .violClear t m v => Sys2Proof.Machine.execViolClear t m v s
  | .injectionGo t m v => Sys2Proof.Machine.execInjectionGo t m v s
  | .sf1Req t m v => Sys2Proof.Machine.execSf1Req t m v s
  | .trial t m v => Sys2Proof.Machine.execTrial t m v s
  | .commit t m v => Sys2Proof.Machine.execCommit t m v s
  | .prog t m v => Sys2Proof.Machine.execProg t m v s
  | .programmingDone t ok => Sys2Proof.Machine.execProgrammingDone t ok s
  | .linkRelease t m l v => Sys2Proof.Machine.execLinkRelease t m l v s
  | .retrain t m l v => Sys2Proof.Machine.execRetrain t m l v s
  | .linkEnableWrite t m l v => Sys2Proof.Machine.execLinkEnableWrite t m l v s
  | .hrdWrite t m v => Sys2Proof.Machine.execHrdWrite t m v s
  | .sequenceStart t m v => Sys2Proof.Machine.execSequenceStart t m v s
  | .sequenceStop t m v => Sys2Proof.Machine.execSequenceStop t m v s
  | .injectedRequest t m v => Sys2Proof.Machine.execInjectedRequest t m v s
  | .calibrationRequest t m v => Sys2Proof.Machine.execCalibrationRequest t m v s
  | .syncCrossing t => Sys2Proof.Machine.execSyncCrossing t s
  | .timerMode t => Sys2Proof.Machine.execTimerMode t s
  | .timerTick t => Sys2Proof.Machine.execTimerTick t s
  | .conversionResult t raw exc => Sys2Proof.Machine.execConversionResult t raw exc s
  | .channelStart t m v => Sys2Proof.Machine.execChannelStart t m v s
  | .channelStop t m v => Sys2Proof.Machine.execChannelStop t m v s
  | .privEngineStart t m v => Sys2Proof.Machine.execPrivEngineStart t m v s
  | .privEngineStop t m v => Sys2Proof.Machine.execPrivEngineStop t m v s
  | .privSampleSet t bits => Sys2Proof.Machine.execPrivSampleSet t bits s
  | .normalSample t n bits => Sys2Proof.Machine.execNormalSample t n bits s
  | .inputStuck t k => Sys2Proof.Machine.execInputStuck t k s
  | .inputRecovered t k => Sys2Proof.Machine.execInputRecovered t k s
  | .frameBoundary t ue => Sys2Proof.Machine.execFrameBoundary t ue s
  | .sortComplete t a => Sys2Proof.Machine.execSortComplete t a s
  | .innerCycle t ue => Sys2Proof.Machine.execInnerCycle t ue s
  | .inputStale t k => Sys2Proof.Machine.execInputStale t k s
  | .publication t => Sys2Proof.Machine.execPublication t s
  | .outerBoundary t ue => Sys2Proof.Machine.execOuterBoundary t ue s
  | .resyncPermitOn t => Sys2Proof.Machine.execResyncPermitOn t s
  | .closureDetected t => Sys2Proof.Machine.execClosureDetected t s
  | .resyncTimeout t => Sys2Proof.Machine.execResyncTimeout t s
  | .episodeEnd t => Sys2Proof.Machine.execEpisodeEnd t s
  | .peakStageEnd t => Sys2Proof.Machine.execPeakStageEnd t s
  | .limitBudgetExhausted t => Sys2Proof.Machine.execLimitBudgetExhausted t s
  | .peakRearm t => Sys2Proof.Machine.execPeakRearm t s
  | .stopTimeout t => Sys2Proof.Machine.execStopTimeout t s
  | .dcGuardEnd t => Sys2Proof.Machine.execDcGuardEnd t s
  | .dwellEnd t => Sys2Proof.Machine.execDwellEnd t s
  | .blendEnd t => Sys2Proof.Machine.execBlendEnd t s
  | .burstForcedExit t => Sys2Proof.Machine.execBurstForcedExit t s
  | .burstAvail t => Sys2Proof.Machine.execBurstAvail t s
  | .energyDeviation t => Sys2Proof.Machine.execEnergyDeviation t s
  | .energyReady t => Sys2Proof.Machine.execEnergyReady t s
  | .staleExcl t k => Sys2Proof.Machine.execStaleExcl t k s
  | .restDue t k => Sys2Proof.Machine.execRestDue t k s
  | .forcedRest t k => Sys2Proof.Machine.execForcedRest t k s
  | .restEnd t k => Sys2Proof.Machine.execRestEnd t k s
  | .deficitEpisodeEnd t => Sys2Proof.Machine.execDeficitEpisodeEnd t s
  | .fixedRest t k => Sys2Proof.Machine.execFixedRest t k s
  | .downlinkFrame t l ue => Sys2Proof.Machine.execDownlinkFrame t l ue s
  | .loadBoundary t a => Sys2Proof.Machine.execLoadBoundary t a s
  | .uplinkFrame t l portErr sof bytes ue => Sys2Proof.Machine.execUplinkFrame t l portErr sof bytes ue s
  | .txnResponse t l tid result data => Sys2Proof.Machine.execTxnResponse t l tid result data s
  | .txnTimeout t l tid => Sys2Proof.Machine.execTxnTimeout t l tid s
  | .linkTrain t l => Sys2Proof.Machine.execLinkTrain t l s
  | .trainFail t l => Sys2Proof.Machine.execTrainFail t l s
  | .identityRetry t l => Sys2Proof.Machine.execIdentityRetry t l s
  | .codeErrors t l => Sys2Proof.Machine.execCodeErrors t l s
  | .lossOfLight t l => Sys2Proof.Machine.execLossOfLight t l s
  | .reenrol t l cell => Sys2Proof.Machine.execReenrol t l cell s
  | .laneMargin t l pwr margin => Sys2Proof.Machine.execLaneMargin t l pwr margin s
  | .armOvercurrent t a bits => Sys2Proof.Machine.execArmOvercurrent t a bits s
  | .armDeblock t a => Sys2Proof.Machine.execArmDeblock t a s
  | .overcurrentPersist t a => Sys2Proof.Machine.execOvercurrentPersist t a s
  | .bypassFail t k => Sys2Proof.Machine.execBypassFail t k s
  | .unitClose t => Sys2Proof.Machine.execUnitClose t s
  | .hostCopy t ue => Sys2Proof.Machine.execHostCopy t ue s
  | .gap t => Sys2Proof.Machine.execGap t s
  | .timeRecord t => Sys2Proof.Machine.execTimeRecord t s
  | .trigInEdge t n rising => Sys2Proof.Machine.execTrigInEdge t n rising s
  | .xtrigAssert t => Sys2Proof.Machine.execXtrigAssert t s
  | .holdOffEnd t u => Sys2Proof.Machine.execHoldOffEnd t u s
  | .pulseEnd t o => Sys2Proof.Machine.execPulseEnd t o s
  | .beatReceived t bytes rxAt => Sys2Proof.Machine.execBeatReceived t bytes rxAt s
  | .pairLinkDown t => Sys2Proof.Machine.execPairLinkDown t s
  | .checkpointSegment t seg ue => Sys2Proof.Machine.execCheckpointSegment t seg ue s
  | .takeover t => Sys2Proof.Machine.execTakeover t s
  | .handoverClaim t => Sys2Proof.Machine.execHandoverClaim t s
  | .handoverAbort t => Sys2Proof.Machine.execHandoverAbort t s
  | .laneCycle t io => Sys2Proof.Machine.execLaneCycle t io s
  | .resetInput t n => Sys2Proof.Machine.execResetInput t n s
  | .darkTest t n low => Sys2Proof.Machine.execDarkTest t n low s
  | .darkTestResult t n low fell => Sys2Proof.Machine.execDarkTestResult t n low fell s
  | .accessDelay t => Sys2Proof.Machine.execAccessDelay t s
  | .telegramSend t => Sys2Proof.Machine.execTelegramSend t s
  | .telegramCopy t p ip udp bytes => Sys2Proof.Machine.execTelegramCopy t p ip udp bytes s
  | .windowClose t alive => Sys2Proof.Machine.execWindowClose t alive s
  | .telegramTimeout t => Sys2Proof.Machine.execTelegramTimeout t s
  | .configTimeout t => Sys2Proof.Machine.execConfigTimeout t s
  | .ioSupplyLoss t => Sys2Proof.Machine.execIoSupplyLoss t s
  | .outputCurrentLimit t n => Sys2Proof.Machine.execOutputCurrentLimit t n s
  | .ocxoFail t => Sys2Proof.Machine.execOcxoFail t s
  | .syncMsg t d msg => Sys2Proof.Machine.execSyncMsg t d msg s
  | .followUp t d seq origin => Sys2Proof.Machine.execFollowUp t d seq origin s
  | .announce t p ann => Sys2Proof.Machine.execAnnounce t p ann s
  | .pdelayReq t p seq rx => Sys2Proof.Machine.execPdelayReq t p seq rx s
  | .pdelayResp t p t1 t2 t3 t4 => Sys2Proof.Machine.execPdelayResp t p t1 t2 t3 t4 s
  | .syncTimeout t d => Sys2Proof.Machine.execSyncTimeout t d s
  | .revert t => Sys2Proof.Machine.execRevert t s
  | .holdoverLimit t => Sys2Proof.Machine.execHoldoverLimit t s
  | .timeSet t => Sys2Proof.Machine.execTimeSet t s
  | .timOffsetWrite t m addr v => Sys2Proof.Machine.execTimOffsetWrite t m addr v s
  | .pairTime t => Sys2Proof.Machine.execPairTime t s
  | .ppsInEdge t => Sys2Proof.Machine.execPpsInEdge t s
  | .ppsinLoss t => Sys2Proof.Machine.execPpsinLoss t s
  | .ppsOut t => Sys2Proof.Machine.execPpsOut t s
  | .syspllLoss t => Sys2Proof.Machine.execSyspllLoss t s
  | .nApply t m v => Sys2Proof.Machine.execNApply t m v s
  | .spllEnable t m v => Sys2Proof.Machine.execSpllEnable t m v s
  | .stationPllLock t => Sys2Proof.Machine.execStationPllLock t s
  | .outputRelease t => Sys2Proof.Machine.execOutputRelease t s
  | .spllUnlock t => Sys2Proof.Machine.execSpllUnlock t s
  | .refLoss t => Sys2Proof.Machine.execRefLoss t s
  | .legGood t leg mv => Sys2Proof.Machine.execLegGood t leg mv s
  | .legLost t leg mv => Sys2Proof.Machine.execLegLost t leg mv s
  | .legOv t leg mv => Sys2Proof.Machine.execLegOv t leg mv s
  | .holdupLow t => Sys2Proof.Machine.execHoldupLow t s
  | .powerGoodLost t => Sys2Proof.Machine.execPowerGoodLost t s
  | .storeFull t => Sys2Proof.Machine.execStoreFull t s
  | .resetRelease t slotId factory => Sys2Proof.Machine.execResetRelease t slotId factory s
  | .bootVerified t okA okB => Sys2Proof.Machine.execBootVerified t okA okB s
  | .initEnd t => Sys2Proof.Machine.execInitEnd t s
  | .tempSample t inlet junc => Sys2Proof.Machine.execTempSample t inlet junc s
  | .undefinedOpcode t q bytes => Sys2Proof.Machine.execUndefinedOpcode t q bytes s
  | .timeStep => Sys2Proof.Machine.execTimeStep s
  | .filterStart => Sys2Proof.Machine.execFilterStart s
  | .deblock => Sys2Proof.Machine.execDeblock s
  | .frtExit => Sys2Proof.Machine.execFrtExit s
  | .frtTimeout => Sys2Proof.Machine.execFrtTimeout s
  | .autoIslanding => Sys2Proof.Machine.execAutoIslanding s
  | .blackstartDone => Sys2Proof.Machine.execBlackstartDone s
  | .blackstartFail => Sys2Proof.Machine.execBlackstartFail s
  | .firstEdgeFrame => Sys2Proof.Machine.execFirstEdgeFrame s

end Sys2Proof.Machine
end

