-- ==== Sys2Proof/Safety.lean ====
section
/-!
DEFINITION. The words in which claims are stated: the canonical form of registers and memories, a safe step, the time of a
command, which commands are packets, register writes or register reads, and when such a command is taken.
-/
namespace Sys2Proof.Machine

/-! ### Canonical form -/

/-- The canonical form of the memories: addresses strictly rise; no SRAM byte, error mark or small block equals what an
unlisted one reads as. An unlisted DRAM byte is a free value (R423), so the DRAM's bytes need only rise. -/
def Memory.wf (m : MemSt) : Bool :=
  Tab.wf (fun _ => 0) m.sram && Tab.sorted m.dram && Tab.wf (fun _ => Mark.clean) m.smark
    && Tab.wf (fun _ => Mark.clean) m.dmark && Tab.wf (fun _ => SmallBlk.clean) m.small

/-- The canonical form of the block: its registers over their reset words, and its memories. -/
def State.canon (s : State) : Prop := Tab.wf regReset s.regs = true ∧ Memory.wf s.mem = true

/-- A safe step: the block goes on. -/
def safeStep (s : State) : Prop := ∃ s', step s = .next s'

/-! ### Commands by kind -/

/-- The time that a command carries; none for the nine that fall at the instant the clock has reached. -/
def stampOf : Instr → Option Nat
  | .ping t _ => some t
  | .sysStatus t _ => some t
  | .sysIdent t _ => some t
  | .eventSub t _ _ => some t
  | .pathReset t _ => some t
  | .regRead t _ _ _ => some t
  | .regWrite t _ _ _ => some t
  | .regRmw t _ _ _ _ => some t
  | .memRead t _ _ _ => some t
  | .memWrite t _ _ _ => some t
  | .memFill t _ _ _ _ => some t
  | .memFillDone t => some t
  | .precharge t _ => some t
  | .start t _ => some t
  | .blackStart t _ => some t
  | .island t _ => some t
  | .resyncStart t _ => some t
  | .resyncCancel t _ => some t
  | .stop t _ => some t
  | .tieStatus t _ _ _ _ => some t
  | .resetTrip t _ _ => some t
  | .serviceEnter t _ => some t
  | .serviceLeave t _ => some t
  | .sheafOpen t _ => some t
  | .sheafAdd t _ _ _ => some t
  | .sheafCommit t _ _ _ _ => some t
  | .sheafDiscard t _ _ => some t
  | .sheafTimeout t _ => some t
  | .prepareDeadline t _ => some t
  | .sheafApply t _ => some t
  | .bypass t _ _ => some t
  | .restore t _ _ => some t
  | .release t _ _ => some t
  | .cellTxn t _ _ _ _ _ _ => some t
  | .linkBlock t _ _ _ => some t
  | .recStatus t _ => some t
  | .safConfigWrite t _ _ => some t
  | .safConfigConfirm t _ _ _ => some t
  | .safStatus t _ => some t
  | .safReset t _ => some t
  | .pairClaim t _ => some t
  | .pairSwitchover t _ => some t
  | .pairResync t _ => some t
  | .timeGet t _ => some t
  | .timeStepAbs t _ _ _ _ => some t
  | .timeStepRel t _ _ => some t
  | .timeStepToRef t _ => some t
  | .bistRun t _ _ => some t
  | .bistComplete t _ => some t
  | .bistResult t _ _ => some t
  | .faultAck t _ _ => some t
  | .faultLogRead t _ _ _ => some t
  | .factoryEnter t _ => some t
  | .faultInject t _ _ _ => some t
  | .memInject t _ _ _ _ => some t
  | .linkInject t _ _ _ _ _ => some t
  | .injClear t _ => some t
  | .factoryLeave t _ => some t
  | .pcieMemRead t _ _ _ => some t
  | .pcieMemWrite t _ _ _ => some t
  | .arpRequest t _ _ => some t
  | .icmpEcho t _ _ _ => some t
  | .reassemblyTimeout t _ _ => some t
  | .cqTailWrite t _ _ _ => some t
  | .replyRingRoom t _ _ => some t
  | .replyCacheExpiry t _ => some t
  | .event t _ => some t
  | .pcieReset t => some t
  | .portLinkDown t _ => some t
  | .coreReset t _ _ => some t
  | .mbxSend t _ _ _ => some t
  | .mbxAck t _ _ _ => some t
  | .mbxDbellClear t _ _ => some t
  | .mbxNoteClear t _ _ => some t
  | .mbxLock t _ _ => some t
  | .mbCross t _ _ => some t
  | .crcCfgWrite t _ _ _ => some t
  | .crcDatab t _ _ _ => some t
  | .crcDataw t _ _ _ => some t
  | .crcDatad t _ _ _ => some t
  | .crcValhWrite t _ _ _ => some t
  | .crcVallWrite t _ _ _ => some t
  | .crcVallRead t _ _ => some t
  | .crcAlive t _ _ _ => some t
  | .crcClaim t _ _ _ => some t
  | .crcRelease t _ _ _ => some t
  | .memRetire t _ _ => some t
  | .retirementCopyDone t => some t
  | .gleanWord t _ => some t
  | .hardwareFillDone t => some t
  | .sampleSnapshot t _ _ _ => some t
  | .resultSnapshot t _ _ _ => some t
  | .nowSnapshot t _ => some t
  | .logSnapshot t _ _ => some t
  | .registerWrite t _ _ _ => some t
  | .lenFbWrite t _ _ => some t
  | .bankOpen t _ _ => some t
  | .bankClose t _ _ => some t
  | .tcompClear t _ _ => some t
  | .defClear t _ _ => some t
  | .swClear t _ _ => some t
  | .qlimClear t _ _ => some t
  | .rejClear t _ _ => some t
  | .chaffClear t _ _ => some t
  | .otherClear t _ _ => some t
  | .gapClear t _ _ => some t
  | .markClear t _ _ => some t
  | .shfCountClear t _ _ => some t
  | .cklostClear t _ _ => some t
  | .takeClear t _ _ => some t
  | .sizeClear t _ _ => some t
  | .memCountClear t _ _ => some t
  | .safCountClear t _ _ => some t
  | .netCountClear t _ _ => some t
  | .violClear t _ _ => some t
  | .injectionGo t _ _ => some t
  | .sf1Req t _ _ => some t
  | .trial t _ _ => some t
  | .commit t _ _ => some t
  | .prog t _ _ => some t
  | .programmingDone t _ => some t
  | .linkRelease t _ _ _ => some t
  | .retrain t _ _ _ => some t
  | .linkEnableWrite t _ _ _ => some t
  | .hrdWrite t _ _ => some t
  | .sequenceStart t _ _ => some t
  | .sequenceStop t _ _ => some t
  | .injectedRequest t _ _ => some t
  | .calibrationRequest t _ _ => some t
  | .syncCrossing t => some t
  | .timerMode t => some t
  | .timerTick t => some t
  | .conversionResult t _ _ => some t
  | .channelStart t _ _ => some t
  | .channelStop t _ _ => some t
  | .privEngineStart t _ _ => some t
  | .privEngineStop t _ _ => some t
  | .privSampleSet t _ => some t
  | .normalSample t _ _ => some t
  | .inputStuck t _ => some t
  | .inputRecovered t _ => some t
  | .frameBoundary t _ => some t
  | .sortComplete t _ => some t
  | .innerCycle t _ => some t
  | .inputStale t _ => some t
  | .publication t => some t
  | .outerBoundary t _ => some t
  | .resyncPermitOn t => some t
  | .closureDetected t => some t
  | .resyncTimeout t => some t
  | .episodeEnd t => some t
  | .peakStageEnd t => some t
  | .limitBudgetExhausted t => some t
  | .peakRearm t => some t
  | .stopTimeout t => some t
  | .dcGuardEnd t => some t
  | .dwellEnd t => some t
  | .blendEnd t => some t
  | .burstForcedExit t => some t
  | .burstAvail t => some t
  | .energyDeviation t => some t
  | .energyReady t => some t
  | .staleExcl t _ => some t
  | .restDue t _ => some t
  | .forcedRest t _ => some t
  | .restEnd t _ => some t
  | .deficitEpisodeEnd t => some t
  | .fixedRest t _ => some t
  | .downlinkFrame t _ _ => some t
  | .loadBoundary t _ => some t
  | .uplinkFrame t _ _ _ _ _ => some t
  | .txnResponse t _ _ _ _ => some t
  | .txnTimeout t _ _ => some t
  | .linkTrain t _ => some t
  | .trainFail t _ => some t
  | .identityRetry t _ => some t
  | .codeErrors t _ => some t
  | .lossOfLight t _ => some t
  | .reenrol t _ _ => some t
  | .laneMargin t _ _ _ => some t
  | .armOvercurrent t _ _ => some t
  | .armDeblock t _ => some t
  | .overcurrentPersist t _ => some t
  | .bypassFail t _ => some t
  | .unitClose t => some t
  | .hostCopy t _ => some t
  | .gap t => some t
  | .timeRecord t => some t
  | .trigInEdge t _ _ => some t
  | .xtrigAssert t => some t
  | .holdOffEnd t _ => some t
  | .pulseEnd t _ => some t
  | .beatReceived t _ _ => some t
  | .pairLinkDown t => some t
  | .checkpointSegment t _ _ => some t
  | .takeover t => some t
  | .handoverClaim t => some t
  | .handoverAbort t => some t
  | .laneCycle t _ => some t
  | .resetInput t _ => some t
  | .darkTest t _ _ => some t
  | .darkTestResult t _ _ _ => some t
  | .accessDelay t => some t
  | .telegramSend t => some t
  | .telegramCopy t _ _ _ _ => some t
  | .windowClose t _ => some t
  | .telegramTimeout t => some t
  | .configTimeout t => some t
  | .ioSupplyLoss t => some t
  | .outputCurrentLimit t _ => some t
  | .ocxoFail t => some t
  | .syncMsg t _ _ => some t
  | .followUp t _ _ _ => some t
  | .announce t _ _ => some t
  | .pdelayReq t _ _ _ => some t
  | .pdelayResp t _ _ _ _ _ => some t
  | .syncTimeout t _ => some t
  | .revert t => some t
  | .holdoverLimit t => some t
  | .timeSet t => some t
  | .timOffsetWrite t _ _ _ => some t
  | .pairTime t => some t
  | .ppsInEdge t => some t
  | .ppsinLoss t => some t
  | .ppsOut t => some t
  | .syspllLoss t => some t
  | .nApply t _ _ => some t
  | .spllEnable t _ _ => some t
  | .stationPllLock t => some t
  | .outputRelease t => some t
  | .spllUnlock t => some t
  | .refLoss t => some t
  | .legGood t _ _ => some t
  | .legLost t _ _ => some t
  | .legOv t _ _ => some t
  | .holdupLow t => some t
  | .powerGoodLost t => some t
  | .storeFull t => some t
  | .resetRelease t _ _ => some t
  | .bootVerified t _ _ => some t
  | .initEnd t => some t
  | .tempSample t _ _ => some t
  | .undefinedOpcode t _ _ => some t
  | .timeStep => none
  | .filterStart => none
  | .deblock => none
  | .frtExit => none
  | .frtTimeout => none
  | .autoIslanding => none
  | .blackstartDone => none
  | .blackstartFail => none
  | .firstEdgeFrame => none

/-- Commands that are packets: the time, the header and the operation (R365, R376). -/
def hostOf : Instr → Option (Nat × Hdr × HostOp)
  | .ping t h => some (t, h, .ping)
  | .sysStatus t h => some (t, h, .sysStatus)
  | .sysIdent t h => some (t, h, .sysIdent)
  | .eventSub t h mask => some (t, h, .eventSub mask)
  | .pathReset t h => some (t, h, .pathReset)
  | .regRead t h addr n => some (t, h, .regRead addr n)
  | .regWrite t h addr ws => some (t, h, .regWrite addr ws)
  | .regRmw t h addr mask value => some (t, h, .regRmw addr mask value)
  | .memRead t h addr len => some (t, h, .memRead addr len)
  | .memWrite t h addr data => some (t, h, .memWrite addr data)
  | .memFill t h addr len pat => some (t, h, .memFill addr len pat)
  | .precharge t h => some (t, h, .precharge)
  | .start t h => some (t, h, .start)
  | .blackStart t h => some (t, h, .blackStart)
  | .island t h => some (t, h, .island)
  | .resyncStart t h => some (t, h, .resync false)
  | .resyncCancel t h => some (t, h, .resync true)
  | .stop t h => some (t, h, .stop)
  | .tieStatus t h closed ac time => some (t, h, .tieStatus closed ac time)
  | .resetTrip t h service => some (t, h, .resetTrip service)
  | .serviceEnter t h => some (t, h, .serviceEnter)
  | .serviceLeave t h => some (t, h, .serviceLeave)
  | .sheafOpen t h => some (t, h, .sheafOpen)
  | .sheafAdd t h n es => some (t, h, .sheafAdd n es)
  | .sheafCommit t h n mode time => some (t, h, .sheafCommit n mode time)
  | .sheafDiscard t h n => some (t, h, .sheafDiscard n)
  | .bypass t h cell => some (t, h, .cellCmd cell 1)
  | .restore t h cell => some (t, h, .cellCmd cell 2)
  | .release t h cell => some (t, h, .cellCmd cell 3)
  | .cellTxn t h link slot op addr data => some (t, h, .cellTxn link slot op addr data)
  | .linkBlock t h link all => some (t, h, .linkBlock link all)
  | .recStatus t h => some (t, h, .recStatus)
  | .safConfigWrite t h img => some (t, h, .safConfigWrite img)
  | .safConfigConfirm t h lane crc => some (t, h, .safConfigConfirm lane crc)
  | .safStatus t h => some (t, h, .safStatus)
  | .safReset t h => some (t, h, .safReset)
  | .pairClaim t h => some (t, h, .pairClaim)
  | .pairSwitchover t h => some (t, h, .pairSwitchover)
  | .pairResync t h => some (t, h, .pairResync)
  | .timeGet t h => some (t, h, .timeGet)
  | .timeStepAbs t h sec ns frac => some (t, h, .timeStepAbs sec ns frac)
  | .timeStepRel t h amount => some (t, h, .timeStepRel amount)
  | .timeStepToRef t h => some (t, h, .timeStepToRef)
  | .bistRun t h mask => some (t, h, .bistRun mask)
  | .bistResult t h mask => some (t, h, .bistResult mask)
  | .faultAck t h mask => some (t, h, .faultAck mask)
  | .faultLogRead t h first count => some (t, h, .faultLogRead first count)
  | .factoryEnter t h => some (t, h, .factoryEnter)
  | .faultInject t h code addr => some (t, h, .faultInject code addr)
  | .memInject t h addr a b => some (t, h, .memInject addr a b)
  | .linkInject t h link cause count up => some (t, h, .linkInject link cause count up)
  | .injClear t h => some (t, h, .injClear)
  | .factoryLeave t h => some (t, h, .factoryLeave)
  | _ => none

/-- Commands that are register writes: the time, the master, the address and the word. -/
def regRowOf : Instr → Option (Nat × Master × Nat × Word)
  | .mbxSend t m c v => some (t, m, regAddr .mbxSend c, v)
  | .mbxAck t m c v => some (t, m, regAddr .mbxAck c, v)
  | .mbxDbellClear t m v => some (t, m, regAddr .mbxDbell, v)
  | .mbxNoteClear t m v => some (t, m, regAddr .mbxNote, v)
  | .mbxLock t m v => some (t, m, regAddr .mbxCtrl, v)
  | .crcCfgWrite t m u v => some (t, m, regAddr .crcCfg u, v)
  | .crcDatab t m u v => some (t, m, regAddr .crcDatab u, v)
  | .crcDataw t m u v => some (t, m, regAddr .crcDataw u, v)
  | .crcDatad t m u v => some (t, m, regAddr .crcDatad u, v)
  | .crcValhWrite t m u v => some (t, m, regAddr .crcValh u, v)
  | .crcVallWrite t m u v => some (t, m, regAddr .crcVall u, v)
  | .crcAlive t m u v => some (t, m, regAddr .crcAlive u, v)
  | .crcClaim t m u v => some (t, m, regAddr .crcClaim u, v)
  | .crcRelease t m u v => some (t, m, regAddr .crcClaim u, v)
  | .memRetire t m v => some (t, m, regAddr .memRetire, v)
  | .registerWrite t m addr v => some (t, m, addr, v)
  | .lenFbWrite t m v => some (t, m, regAddr .lenBase 2, v)
  | .bankOpen t m v => some (t, m, regAddr .lenBankctl, v)
  | .bankClose t m v => some (t, m, regAddr .lenBankctl, v)
  | .tcompClear t m v => some (t, m, regAddr .lenTcclr, v)
  | .defClear t m v => some (t, m, regAddr .winCntclr, v)
  | .swClear t m v => some (t, m, regAddr .winCntclr, v)
  | .qlimClear t m v => some (t, m, regAddr .fscCntclr, v)
  | .rejClear t m v => some (t, m, regAddr .fscCntclr, v)
  | .chaffClear t m v => some (t, m, regAddr .lnkCntclr, v)
  | .otherClear t m v => some (t, m, regAddr .lnkCntclr, v)
  | .gapClear t m v => some (t, m, regAddr .recCntclr, v)
  | .markClear t m v => some (t, m, regAddr .recCntclr, v)
  | .shfCountClear t m v => some (t, m, regAddr .shfCntclr, v)
  | .cklostClear t m v => some (t, m, regAddr .redCntclr, v)
  | .takeClear t m v => some (t, m, regAddr .redCntclr, v)
  | .sizeClear t m v => some (t, m, regAddr .redCntclr, v)
  | .memCountClear t m v => some (t, m, regAddr .memCntclr, v)
  | .safCountClear t m v => some (t, m, regAddr .safCntclr, v)
  | .netCountClear t m v => some (t, m, regAddr .netCntclr, v)
  | .violClear t m v => some (t, m, regAddr .fltCntclr, v)
  | .injectionGo t m v => some (t, m, regAddr .fltInjctrl, v)
  | .sf1Req t m v => some (t, m, regAddr .safCtrl, v)
  | .trial t m v => some (t, m, regAddr .pwrFwctrl, v)
  | .commit t m v => some (t, m, regAddr .pwrFwctrl, v)
  | .prog t m v => some (t, m, regAddr .pwrFwctrl, v)
  | .linkRelease t m l v => some (t, m, regAddr .lnkLctrl l, v)
  | .retrain t m l v => some (t, m, regAddr .lnkLctrl l, v)
  | .linkEnableWrite t m l v => some (t, m, regAddr .lnkLctrl l, v)
  | .hrdWrite t m v => some (t, m, regAddr .recHrd, v)
  | .sequenceStart t m v => some (t, m, regAddr .madCtrl, v)
  | .sequenceStop t m v => some (t, m, regAddr .madCtrl, v)
  | .injectedRequest t m v => some (t, m, regAddr .madInj, v)
  | .calibrationRequest t m v => some (t, m, regAddr .madCalreq, v)
  | .channelStart t m v => some (t, m, regAddr .filNrun, v)
  | .channelStop t m v => some (t, m, regAddr .filNrun, v)
  | .privEngineStart t m v => some (t, m, regAddr .filPctrl, v)
  | .privEngineStop t m v => some (t, m, regAddr .filPctrl, v)
  | .timOffsetWrite t m addr v => some (t, m, addr, v)
  | .nApply t m v => some (t, m, regAddr .clkNfrac, v)
  | .spllEnable t m v => some (t, m, regAddr .clkCtrl, v)
  | _ => none

/-- Commands that are register reads: the time, the master and the address. -/
def readRowOf : Instr → Option (Nat × Master × Nat)
  | .crcVallRead t m u => some (t, m, regAddr .crcVall u)
  | .sampleSnapshot t m priv n => some (t, m, if priv then regAddr .filPout n else regAddr .filNout n)
  | .resultSnapshot t m inj c => some (t, m, if inj then regAddr .madInjres else regAddr .madRes c)
  | .nowSnapshot t m => some (t, m, regAddr .timNowtl)
  | .logSnapshot t m j => some (t, m, regAddr .fltLog j)
  | _ => none

/-! ### Packets that are taken (R361, R368-R370) -/

/-- The state in which a packet's command is carried out: the clock has moved on, the link it came on is up, and the command
stands among the outstanding ones of its path. -/
def State.taken (s : State) (t : Nat) (h : Hdr) (op : Nat) : State :=
  let s := noteLink h.path (s.begin t)
  let q := pathIndex h.path
  s.setPath q { s.path q with outst := (s.path q).outst ++ [⟨h, op, .ring⟩] }

/-- The path is served, the packet repeats no other, and fewer than 256 commands are outstanding (R368, orders 2 and 3). -/
abbrev State.isNew (s : State) (t : Nat) (h : Hdr) : Prop :=
  (s.begin t).serves h.path h.via = true ∧ (noteLink h.path (s.begin t)).duplicate h = none
    ∧ ((noteLink h.path (s.begin t)).path (pathIndex h.path)).outst.length < 256

/-- The packet is fresh and passes orders 4 to 9 of R368. -/
abbrev State.takes (s : State) (t : Nat) (h : Hdr) (o : HostOp) : Prop :=
  s.isNew t h ∧ (s.taken t h o.opcode).admission ((s.begin t).masterOf h.path) o.opcode true (some o.checked) = .ok o

/-- The command is answered at once in state `s`; what waited for room or in a mailbox is then served. -/
def answered (h : Hdr) (o : HostOp) (st : Status) (detail : Nat) (data : List Byte) (s : State) : State :=
  settle (answer ⟨h, o.opcode, .ring⟩ st detail data s)

/-- The command stays outstanding in state `s` until `w` comes about (R369). -/
def left (h : Hdr) (o : HostOp) (w : Wait) (s : State) : State := settle (setWait ⟨h, o.opcode, .ring⟩ w s)

/-! ### Register accesses that are accepted (R3, R4, R8, R9, R328, R351, R373) -/

/-- Master m may write `v` to the register `r` at `addr`, and nothing holds the write back. -/
abbrev State.accepts (s : State) (m : Nat) (addr : Nat) (v : Word) (r : Reg) : Prop :=
  regAt addr = some r ∧ s.absentReg r = false ∧ s.mayAccess m true r = true
    ∧ (r.name.isInj = true → s.mode = .factoryTest) ∧ r.name.writable = true
    ∧ writeCheck s (storeReg r v s) .direct m r v = none
    ∧ s.heldBySheaf none addr = false ∧ (r.name = .celCmd → s.cellHeld none (field v 0 12) = false)
    ∧ ¬ (r.name.replicated = true ∧ s.rb .redCtrl 0 = true ∧ s.awn = false ∧ s.red.linkUp = true ∧ m ≠ 11)

/-- The module is on, and master m's write of `v` at time t, to the register `r` at `addr`, is accepted. -/
abbrev State.writes (s : State) (t : Nat) (m : Master) (addr : Nat) (v : Word) (r : Reg) : Prop :=
  s.mode ≠ .off ∧ (s.begin t).accepts m.toNat addr v r

/-- What follows an accepted write whose own effect and status are `x`: others see the word, and the status stands among the
outputs. -/
def wrote (m : Master) (addr : Nat) (r : Reg) (x : State × Status) : State :=
  settle ((afterWrite none m.toNat addr r x.1).put (.wrote x.2))

/-- What a write of `v` to a clear register leaves of other registers: their addresses and the bits that stay (R102, R132,
R174, R210, R289, R340, R360, R390, R418, R442, R461). -/
def keptBits (n : RName) (v : Word) : List (Nat × Word) :=
  let arr (k : Nat) (x : RName) (keep : Word) : List (Nat × Word) := (List.range k).map (fun i => (regAddr x i, keep))
  let on (b : Nat) (l : List (Nat × Word)) : List (Nat × Word) := if bit v b then l else []
  match n with
  | .lenTcclr => on 0 (arr 1 .lenTcomp 0xFFFF)
  | .winCntclr => on 0 (arr 6 .winDefcnt 0) ++ on 1 (arr 6 .winSwcnt 0)
  | .fscCntclr => on 0 (arr 1 .fscQlimcnt 0) ++ on 1 (arr 1 .fscRejcnt 0)
  | .lnkCntclr => on 0 (arr 128 .lnkChaff0 0 ++ arr 128 .lnkChaff1 0 ++ arr 128 .lnkChaff2 0)
      ++ on 1 (arr 128 .lnkGap 0 ++ arr 128 .lnkTxn 0xFFFF)
  | .recCntclr => on 0 (arr 6 .recGaptot 0) ++ on 1 (arr 1 .recMarklost 0 ++ arr 4 .recTucnt 0)
  | .shfCntclr => on 0 (arr 1 .shfCommitcnt 0 ++ arr 1 .shfAbortcnt 0)
  | .redCntclr => on 0 (arr 1 .redCklost 0) ++ on 1 (arr 1 .redTakecnt 0) ++ on 2 (arr 1 .redCksize 0xFFFF)
  | .memCntclr => on 0 (arr 4 .memCecnt 0 ++ arr 4 .memUecnt 0)
  | .safCntclr => on 0 (arr 2 .safTgerr 0 ++ arr 1 .safTgsingle 0)
  | .netCntclr => on 0 (arr 4 .netDrop 0 ++ arr 4 .netBusy 0 ++ arr 4 .netDup 0)
  | .fltCntclr => on 0 (arr 1 .fltVioldrop 0)
  | _ => []

/-- The clear registers. -/
def RName.clears : RName → Bool
  | .lenTcclr | .winCntclr | .fscCntclr | .lnkCntclr | .recCntclr | .shfCntclr | .redCntclr | .memCntclr | .safCntclr
  | .netCntclr | .fltCntclr => true
  | _ => false

/-- Registers of which a write does no more than store its word: setting registers, and event registers that clear by
writing 1 (R9). -/
def RName.plain : RName → Bool
  | .mbxBind | .netCtrl | .netIp | .netMask | .netGw | .netRingctl | .netCqbasel | .netCqbaseh | .netCqsize | .netRqbasel
  | .netRqbaseh | .netRqsize | .crcPolyl | .crcPolyh | .crcInitl | .crcInith | .crcAlivelast | .crcStat | .memHostwin
  | .memEvt | .clkNint | .clkEvt | .timAsym | .timSlewcfg | .timEvt | .pwrEvt | .safEvt | .madEvt
  | .madSync | .madSettle | .filInevt | .filSatstk | .lenBankctl | .lenBlken | .lenEvt | .lenRegdwell | .winCtrl | .winEvt
  | .winBscfg | .celCtrl | .celOccfg | .celEvt | .lnkCtrl | .lnkTxnto | .lnkMargin | .lnkEvt | .recHrd | .recNmask
  | .recTulevel | .recTuhyst | .recEvt | .redCtrl | .redEvt | .shfCtrl | .shfEvt => true
  | _ => false

end Sys2Proof.Machine
end

