-- ==== Sys2Proof/Certificates/Slice0/Obligations.lean ====
section
/-!
DEFINITION. The statements about the model that are to be proved. Each cites the rules of spec/ it formalises; an event or
request whose condition is a hypothesis says where the command completes.
-/
open Sys2Proof Sys2Proof.Machine


/-! ### The machine as a whole -/

/-- A step carries out the command at the front of the queue on the state with the rest of the queue; with an empty
queue the block idles (the model's reading of a block without a clock of its own: log 1). -/
def Obligations.StepTakesFrontCommand : Prop :=
  (∀ (c : Instr) (rest : List Instr) (s : State), s.pending = c :: rest → step s = exec c { s with pending := rest })
    ∧ ∀ s : State, s.pending = [] → step s = .next s

/-- No command faults and none is refused: each gives a next state, in which the variant and the waiting commands are
as before and the clock has moved on to the command's time, never back (R2, R290). -/
def Obligations.EveryCommandGoesOn : Prop :=
  ∀ (c : Instr) (s : State), ∃ s', exec c s = .next s' ∧ s'.variant = s.variant ∧ s'.pending = s.pending
    ∧ s'.now = max s.now ((stampOf c).getD s.now)

/-- The registers and the memories keep their canonical form through every step, from any state that has it. -/
def Obligations.StepKeepsCanonicalForm : Prop :=
  ∀ s s' : State, s.canon → step s = .next s' → s'.canon

/-- The state after reset has the canonical form. -/
def Obligations.ResetIsCanonical : Prop :=
 State.reset.canon

/-- After reset the module is OFF, every register shows the reset word of its table, no path has a command
outstanding, no mailbox holds a message, no sheaf is open, no link is up, the outputs of the safety unit are open and
SF1 is in force. -/
def Obligations.ResetLeavesModuleOff : Prop :=
  State.reset.mode = .off
    ∧ (∀ (n : RName) (i j : Nat), State.reset.rg n i j = regReset (regAddr n i j))
    ∧ (∀ q, (State.reset.path q).outst = []) ∧ (∀ c, (State.reset.chan c).msgs = [])
    ∧ (∀ n, State.reset.sheaf n = none) ∧ (∀ l < 128, State.reset.linkUp l = false ∧ (State.reset.link l).stage = 0)
    ∧ (∀ k, (State.reset.so k).hi = false ∧ (State.reset.so k).lo = false) ∧ State.reset.saf.sf1 = true
    ∧ State.reset.pending = []

/-! ### Packets and host paths -/

/-- Every operation whose fields fit their places is read back from its payload (R376). -/
def Obligations.PayloadReadsBack : Prop :=
  ∀ o : HostOp, o.fits = true → parseOp o.opcode o.payload = some (.ok o)

/-- A packet's header, opcode and payload are read back from its bytes, on whatever path and by whatever way it comes
(R365). -/
def Obligations.PacketReadsBack : Prop :=
  ∀ (h : Hdr) (op : Nat) (p : List Byte), op < 0x8000 → p.length ≤ 4096 →
    parsePacket h.path h.via (packetBytes h op p) = some ⟨h, op, true, p⟩

/-- A packet received as bytes does what the command that it spells does: all 53 packet commands. -/
def Obligations.ReceivedPacketIsItsCommand : Prop :=
  ∀ (c : Instr) (t : Nat) (h : Hdr) (o : HostOp) (s : State), hostOf c = some (t, h, o) → h.via = .port → o.fits = true →
    o.payload.length ≤ 4096 → exec (.undefinedOpcode t h.path (packetBytes h o.opcode o.payload)) s = exec c s

/-- A packet that repeats one already answered, in its session and sequence number and with its opcode, is not run
again: the cached reply goes out once more and NET_DUP of the path counts it (R370). -/
def Obligations.RepeatedPacketIsNotRunAgain : Prop :=
  ∀ (c : Instr) (t : Nat) (h : Hdr) (o : HostOp) (s : State) (r : Reply), hostOf c = some (t, h, o) →
    (s.begin t).serves h.path h.via = true → (noteLink h.path (s.begin t)).duplicate h = some (o.opcode, some r) →
    exec c s = .next (settle (sendReply { r with via := h.via }
      ((noteLink h.path (s.begin t)).rsat .netDup 0 32 1 (pathIndex h.path))))

/-- With 256 commands outstanding on its path a packet is answered BUSY, logged and counted, and does nothing else
(R369). A fresh packet that fails one of orders 4 to 9 of R368 is answered with the status of that order, is logged as
a violation unless it failed a rule of its opcode's fields, and does nothing else. -/
def Obligations.TurnedAwayPacketIsAnswered : Prop :=
  (∀ (c : Instr) (t : Nat) (h : Hdr) (o : HostOp) (s : State), hostOf c = some (t, h, o) →
      (s.begin t).serves h.path h.via = true → (noteLink h.path (s.begin t)).duplicate h = none →
      256 ≤ ((noteLink h.path (s.begin t)).path (pathIndex h.path)).outst.length →
      exec c s = .next (settle (sendReply (replyTo h o.opcode ((s.begin t).masterOf h.path) .busy 0)
        (violation 4 o.opcode ((s.begin t).masterOf h.path) .busy
          ((noteLink h.path (s.begin t)).rsat .netBusy 0 32 1 (pathIndex h.path))))))
    ∧   (∀ (c : Instr) (t : Nat) (h : Hdr) (o : HostOp) (s : State) (st : Status), hostOf c = some (t, h, o) → s.isNew t h →
      (s.taken t h o.opcode).admission ((s.begin t).masterOf h.path) o.opcode true (some o.checked) = .error st →
      exec c s = .next (settle (answer ⟨h, o.opcode, .ring⟩ st 0 []
        ((s.taken t h o.opcode).when (!(Deny.quiet (some o.checked) st))
          (violation 4 o.opcode ((s.begin t).masterOf h.path) st)))))

/-- A fresh packet whose opcode no row of R376 defines is answered BAD_OPCODE, is logged, and does nothing else (R368,
order 5); the factory group's undefined opcodes up to 0x0F0F are refused as fields of that group instead. -/
def Obligations.UndefinedOpcodeIsRefused : Prop :=
  (∀ (op : Nat) (p : List Byte), (∀ o : HostOp, o.opcode ≠ op) → (op < 0x0F06 ∨ 0x0F0F < op) → parseOp op p = none)
    ∧ ∀ t q bytes s x, parsePacket q .port bytes = some x → x.headOk = true → parseOp x.op x.payload = none →
      s.isNew t x.hdr → exec (.undefinedOpcode t q bytes) s = .next (settle (answer ⟨x.hdr, x.op, .ring⟩ .badOpcode 0 []
        (violation 4 x.op ((s.begin t).masterOf q) .badOpcode (s.taken t x.hdr x.op))))

/-- Other traffic of the host paths (R8, R362-R364, R368, R370, R375): a PCIe read is answered with the bytes that its
BAR gives, and with a failed completion where a memory word is uncorrectable; a PCIe write goes to its BAR; BAR0
reaches one register after the other, BAR2 the SRAM and BAR4 the DRAM; an access that is not aligned or goes beyond
its BAR is refused and logged. ARP and ICMP to the port's own address are answered, those to another are not. A full
or old event queue is sent; the reply cache loses what is 60 s old; bytes that are no packet are dropped and counted,
and those that are one are taken in as the packet they spell. An incomplete datagram is discarded after 20 ms without
a count (R364). The operands of every command hold whole datagrams, so no fragment is ever held, and the discard
leaves all but the time as it was (the model's reading: log 20). -/
def Obligations.HostTrafficTakesEffect : Prop :=
  ((∀ t bar off len s z r, (s.begin t).serves .pcie = true → z = noteLink .pcie (s.begin t) → bar = 0 ∨ bar = 2 ∨ bar = 4 →
        r = barRead bar off len z → exec (.pcieMemRead t bar off len) s
          = .next (settle ((r.1.put (.pcieData r.2.1)).when r.2.2 (fun x => x.put (.wrote .memUe)))))
      ∧ (∀ t bar off (d : List Byte) s, (s.begin t).serves .pcie = true → bar = 0 ∨ bar = 2 ∨ bar = 4 →
        exec (.pcieMemWrite t bar off d) s = .next (settle (barWrite bar off d (noteLink .pcie (s.begin t)))))
      ∧ (∀ off len s, off % 4 = 0 → off + len ≤ 0x1800000 →
        (∀ w, off / 8 ≤ w → w ≤ (off + len - 1) / 8 → (s.mark false w).kind = 0) →
        barRead 2 off len s = (s, (List.range len).map (fun k => s.byteOf false (off + k)), false))
      ∧ (∀ off len s, off % 4 = 0 → s.hasDram = true → off + len ≤ 0x1FC000000 →
        (∀ w, off / 8 ≤ w → w ≤ (off + len - 1) / 8 → (s.mark true w).kind = 0) →
        barRead 4 off len s = (s, (List.range len).map (fun k => s.byteOf true (off + k)), false))
      ∧ (∀ off s r, off % 4 = 0 → r = readReg 7 off s → barRead 0 off 4 s
        = (r.1, leBytes 4 (if r.2.1 = .ok then r.2.2.toNat else 0), decide (r.2.1 = .memUe)))
      ∧ (∀ off (d : List Byte) s, off % 4 = 0 → off + d.length ≤ 0x1800000 → s.mayWriteSram 7 off d.length = true →
        barWrite 2 off d s = (writeRange false 7 (0x10000000 + off) (d.length / 8 + 2) 0 off d s).1)
      ∧ (∀ off (d : List Byte) s, off % 4 = 0 → s.hasDram = true → off + d.length ≤ 0x1FC000000 →
        barWrite 4 off d s = (writeRange true 7 (0x40000000 + off) (d.length / 8 + 2) 0 off d s).1)
      ∧ (∀ off (d : List Byte) s, off % 4 = 0 → d.length = 4 → barWrite 0 off d s = (writeReg 7 off (wordAt d 0) s).1)
      ∧ (∀ bar off len (d : List Byte) s, off % 4 ≠ 0 →
        barRead bar off len s = (violation 0 (barAddr bar off) 7 .badParam s, List.replicate len 0, false)
          ∧ barWrite bar off d s = violation 1 (barAddr bar off) 7 .badParam s)
      ∧ (∀ off len (d : List Byte) s, off % 4 = 0 → 0x1800000 < off + len → d.length = len →
        barRead 2 off len s = (violation 0 (0x10000000 + off) 7 .badParam s, List.replicate len 0, false)
          ∧ barWrite 2 off d s = violation 1 (0x10000000 + off) 7 .badParam s)
      ∧ (∀ t p ip s, s.mode ≠ .off → p < 3 →
        exec (.arpRequest t p ip) s
          = .next (if s.portOpen (pathOfIndex (p + 1)) = true ∧ ip = s.rg .netIp p then (s.begin t).put (.arp p (Config.mac p) ip) else s.begin t))
      ∧ (∀ t p ip data s, s.mode ≠ .off → p < 3 →
        exec (.icmpEcho t p ip data) s = .next (if s.portOpen (pathOfIndex (p + 1)) = true ∧ ip = s.rg .netIp p then (s.begin t).put (.icmp p ip data) else s.begin t))
      ∧ (∀ t q s p more, q ≠ .pcie → p = s.path (pathIndex q) → p.queue ≠ [] → more = decide (p.queue.drop 64 ≠ []) →
        (64 ≤ p.queue.length ∨ p.oldest + 400000 ≤ max s.now t) → exec (.event t q) s
          = .next (((s.begin t).setPath (pathIndex q) { p with queue := p.queue.drop 64, lost := 0, sent := p.sent + 1
                                                               overflow := p.overflow && more, oldest := max s.now t }).put
              (.event q p.sent p.lost (p.queue.take 64))))
      ∧ (∀ t s, (s.path 0).queue ≠ [] → (64 ≤ (s.path 0).queue.length ∨ (s.path 0).oldest + 400000 ≤ max s.now t) →
        exec (.event t .pcie) s = .next (sendEvents .pcie (s.begin t)))
      ∧ (∀ t q s p, p = s.path (pathIndex q) → exec (.replyCacheExpiry t q) s = .next ((s.begin t).setPath (pathIndex q)
        { p with cache := p.cache.filter (fun c => decide (max s.now t < c.stamp + 24000000000)) }))
      ∧ (∀ t q bytes s, (s.begin t).serves q = true → parsePacket q .port bytes = none →
        exec (.undefinedOpcode t q bytes) s
          = .next (settle ((noteLink q (s.begin t)).rsat .netDrop 0 32 1 (pathIndex q))))
      ∧ ∀ t q bytes s x, (s.begin t).serves q = true → parsePacket q .port bytes = some x →
        exec (.undefinedOpcode t q bytes) s
          = .next (settle (ingress x.hdr x.op x.headOk (parseOp x.op x.payload) (noteLink q (s.begin t)))))
    ∧   (∀ t p ident s, exec (.reassemblyTimeout t p ident) s = .next (s.begin t))

/-! ### What the packet commands do once they are taken -/

/-- Status commands (R374-R376, R458, R461): PING, SYS_STATUS, SYS_IDENT, TIME_GET, REC_STATUS, SAF_STATUS,
BIST_RESULT and FAULT_LOG_READ answer OK with their data and change nothing else; EVENT_SUB sets the subscription of
its path; PATH_RESET answers, then resets the master and the path of a port, and is no command of PCIe. -/
def Obligations.StatusCommandsAnswer : Prop :=
  (∀ t h s, s.takes t h .ping → exec (.ping t h) s = .next (answered h .ping .ok 0 [] (s.taken t h 0x0001)))
    ∧ (∀ t h s, s.takes t h .sysStatus →
      exec (.sysStatus t h) s = .next (answered h .sysStatus .ok 0 (s.taken t h 0x0002).sysStatus (s.taken t h 0x0002)))
    ∧ (∀ t h s, s.takes t h .sysIdent →
      exec (.sysIdent t h) s = .next (answered h .sysIdent .ok 0 (s.taken t h 0x0003).sysIdent (s.taken t h 0x0003)))
    ∧ (∀ t h s mask, s.takes t h (.eventSub mask) →
      exec (.eventSub t h mask) s = .next (answered h (.eventSub mask) .ok 0 [] ((s.taken t h 0x0004).setPath (pathIndex h.path)
        { (s.taken t h 0x0004).path (pathIndex h.path) with sub := mask })))
    ∧ (∀ t h s, s.takes t h .pathReset → h.path ≠ .pcie →
      exec (.pathReset t h) s = .next (settle (pathReset (pathIndex h.path) (resetMaster (pathIndex h.path + 7)
        (answer ⟨h, 0x0005, .ring⟩ .ok 0 [] (s.taken t h 0x0005))))))
    ∧ (∀ t h s, s.takes t h .pathReset → h.path = .pcie →
      exec (.pathReset t h) s = .next (answered h .pathReset .badParam 0 [] (s.taken t h 0x0005)))
    ∧ (∀ t h s, s.takes t h .recStatus →
      exec (.recStatus t h) s = .next (answered h .recStatus .ok 0 (s.taken t h 0x0600).recStatus (s.taken t h 0x0600)))
    ∧ (∀ t h s, s.takes t h .safStatus →
      exec (.safStatus t h) s = .next (answered h .safStatus .ok 0 (s.taken t h 0x0702).safStatus (s.taken t h 0x0702)))
    ∧ (∀ t h s, s.takes t h .timeGet →
      exec (.timeGet t h) s = .next (answered h .timeGet .ok 0 (s.taken t h 0x0900).timeGet (s.taken t h 0x0900)))
    ∧ (∀ t h s (mask : Word), s.takes t h (.bistResult mask) → mask.toNat < 2 ^ 18 → mask.getLsbD 6 = false →
      mask.getLsbD 7 = false → (∀ u ∈ bistUnits mask.toNat, s.bistHas u = true) →
      exec (.bistResult t h mask) s = .next (answered h (.bistResult mask) .ok 0
        ((s.taken t h 0x0A01).word .bstDone ++ (bistUnits mask.toNat).flatMap (fun u => (s.taken t h 0x0A01).word .bstSig u
          ++ (s.taken t h 0x0A01).word .bstRef u ++ (s.taken t h 0x0A01).word .bstDet u)) (s.taken t h 0x0A01)))
    ∧ (∀ t h s first count, s.takes t h (.faultLogRead first count) → 1 ≤ count → count ≤ 255 →
      exec (.faultLogRead t h first count) s = .next (answered h (.faultLogRead first count) .ok 0
        (leBytes 1 (s.rf .fltLogptr 0 8) ++ [0] ++ leBytes 2 (s.rf .fltLogptr 16 16) ++ (List.range count).flatMap (fun k =>
          (List.range 4).flatMap (fun j => leBytes 4 (s.rg .fltLog ((first + k) % 256) j).toNat))) (s.taken t h 0x0A03)))

/-- Register commands (R377): REG_READ and REG_WRITE go word by word, stop at the first word that fails and answer
with its status and index; REG_RMW reads, merges under the mask, writes, and answers the old word. -/
def Obligations.RegisterCommandsGoWordByWord : Prop :=
  (∀ t h s addr n, s.takes t h (.regRead addr n) → 1 ≤ n → n ≤ 1023 →
      ∀ r, r = readRegs ((s.begin t).masterOf h.path) addr n 0 (s.taken t h 0x0100) →
        exec (.regRead t h addr n) s = .next (match r.2.2 with
          | none => answered h (.regRead addr n) .ok 0 r.2.1 r.1
          | some (k, st) => answered h (.regRead addr n) st k r.2.1 r.1))
    ∧ (∀ t h s addr ws, s.takes t h (.regWrite addr ws) → 1 ≤ ws.length → ws.length ≤ 1022 →
      ∀ r, r = writeRegs ((s.begin t).masterOf h.path) addr ws 0 (s.taken t h 0x0101) →
        exec (.regWrite t h addr ws) s = .next (match r.2 with
          | none => answered h (.regWrite addr ws) .ok 0 [] r.1
          | some (k, st) => answered h (.regWrite addr ws) st k [] r.1))
    ∧ (∀ t h s addr mask value, s.takes t h (.regRmw addr mask value) →
      ∀ r, r = readReg ((s.begin t).masterOf h.path) addr (s.taken t h 0x0102) → r.2.1 = .ok →
      ∀ w, w = writeReg ((s.begin t).masterOf h.path) addr ((r.2.2 &&& ~~~ mask) ||| (value &&& mask)) r.1 → w.2 = .ok →
        exec (.regRmw t h addr mask value) s
          = .next (answered h (.regRmw addr mask value) .ok 0 (leBytes 4 r.2.2.toNat) w.1))

/-- Memory commands (R377, R421, R428): MEM_READ and MEM_WRITE go through their range of a window word by word, MEM_UE
with the index of the first word that is uncorrectable; MEM_FILL waits, and its completion fills the range and
answers. -/
def Obligations.MemoryCommandsGoThroughTheirRange : Prop :=
  (∀ t h s addr len dram off, s.takes t h (.memRead addr len) → 1 ≤ len → len ≤ 4092 →
      (s.taken t h 0x0200).window ((s.begin t).masterOf h.path) addr len = .ok (dram, off) →
      ∀ r, r = readRange dram ((s.begin t).masterOf h.path) addr (len / 8 + 2) 0 off len (s.taken t h 0x0200) →
        exec (.memRead t h addr len) s = .next (match r.2.2 with
          | none => answered h (.memRead addr len) .ok 0 r.2.1 r.1
          | some k => answered h (.memRead addr len) .memUe k r.2.1 r.1))
    ∧ (∀ t h s addr data dram off, s.takes t h (.memWrite addr data) → 1 ≤ data.length → data.length ≤ 4088 →
      (s.taken t h 0x0201).writeWindow ((s.begin t).masterOf h.path) addr data.length = .ok (dram, off) →
      ∀ r, r = writeRange dram ((s.begin t).masterOf h.path) addr (data.length / 8 + 2) 0 off data (s.taken t h 0x0201) →
        exec (.memWrite t h addr data) s = .next (match r.2 with
          | none => answered h (.memWrite addr data) .ok 0 [] r.1
          | some k => answered h (.memWrite addr data) .memUe k [] r.1))
    ∧ (∀ t h s addr len pat dram off, s.takes t h (.memFill addr len pat) → addr % 8 = 0 → len % 8 = 0 → 1 ≤ len →
      len ≤ 2 ^ 31 → (s.taken t h 0x0202).writeWindow ((s.begin t).masterOf h.path) addr len = .ok (dram, off) →
        exec (.memFill t h addr len pat) s = .next (left h (.memFill addr len pat) .fill
          { s.taken t h 0x0202 with mem := { s.mem with fills := s.mem.fills ++ [⟨h, (if dram then 2 ^ 40 else 0) + off, len, pat⟩] } }))
    ∧ (∀ t (s : State) f rest o, s.mem.fills = f :: rest →
      ((s.path (pathIndex f.hdr.path)).outst.find? (fun o => decide (o.hdr = f.hdr) && decide (o.wait = .fill))) = some o →
        exec (.memFillDone t) s = .next (answer o .ok 0 [] (fillWords (decide (2 ^ 40 ≤ f.addr)) f.pat (f.len / 8)
          (f.addr % 2 ^ 40 / 8) { s.begin t with mem := { s.mem with fills := rest } })))

/-- Mode requests of the awn holder that wait for their outer boundary, and PRECHARGE, which takes effect at once
(R20, R36, R38, R54, R55, R378): each is accepted in the state and under the conditions its rule names. -/
def Obligations.ModeRequestsAreAccepted : Prop :=
  (∀ t h s, s.takes t h .precharge → s.awn = true → s.mode = .armed → (s.taken t h 0x0300).mayPrecharge = true →
      exec (.precharge t h) s = .next (answered h .precharge .ok 0 [] (enterPrecharge (s.taken t h 0x0300))))
    ∧ (∀ t h s, s.takes t h .start → s.awn = true → (s.taken t h 0x0301).canStart = true →
      (s.taken t h 0x0301).acClosed = true → Num.le (Num.ofRatio 85 100) s.len.emf.v1m = true →
      exec (.start t h) s = .next (left h .start (.mode 0x0301) (beginEstimate (s.taken t h 0x0301))))
    ∧ (∀ t h s, s.takes t h .blackStart → s.awn = true → (s.taken t h 0x0302).canStart = true →
      Num.lt s.len.emf.v1m (Num.ofRatio 1 10) = true → Num.le (Num.ofRatio 9 10) s.len.emf.vdcPu = true →
      exec (.blackStart t h) s = .next (left h .blackStart (.mode 0x0302) (s.taken t h 0x0302)))
    ∧ (∀ t h s, s.takes t h .island → s.awn = true → s.mode = .run → s.sub = .gf →
      exec (.island t h) s = .next (left h .island (.mode 0x0303) (s.taken t h 0x0303)))
    ∧ (∀ t h s, s.takes t h (.resync false) → s.awn = true → s.mode = .run → s.sub = .island → s.rb .lenInsel 8 3 = true →
      exec (.resyncStart t h) s = .next (left h (.resync false) (.mode opResync) (s.taken t h 0x0304)))
    ∧ (∀ t h s, s.takes t h (.resync true) → s.awn = true → s.mode = .run → s.sub = .island →
      exec (.resyncCancel t h) s = .next (left h (.resync true) (.mode opCancel) (s.taken t h 0x0304)))
    ∧ (∀ t h s, s.takes t h .stop → s.awn = true → (s.mode = .precharge ∨ (s.mode = .run ∧ s.sub ≠ .frt)) →
      exec (.stop t h) s = .next (left h .stop (.mode 0x0305) (s.taken t h 0x0305)))

/-- TIE_STATUS stores a report not older than 5 s; RESET_TRIP leaves TRIPPED once the breaker is open; SERVICE_ENTER
and SERVICE_LEAVE move between ARMED and SERVICE (R20, R376, R378, R458). -/
def Obligations.ModeReportsTakeEffect : Prop :=
  (∀ t h s closed time, s.takes t h (.tieStatus closed true time) → (s.taken t h 0x0306).pastOk time = true →
      exec (.tieStatus t h closed true time) s = .next (answered h (.tieStatus closed true time) .ok 0 []
        ((s.taken t h 0x0306).setLen { s.len with run := { s.len.run with ac := some (closed, time) } })))
    ∧ (∀ t h s closed time, s.takes t h (.tieStatus closed false time) → (s.taken t h 0x0306).pastOk time = true →
      exec (.tieStatus t h closed false time) s = .next (answered h (.tieStatus closed false time) .ok 0 []
        ((s.taken t h 0x0306).setLen { s.len with run := { s.len.run with
          tie := some (closed, time), tieReq := if s.awn = true ∧ s.mode = .run then some closed else s.len.run.tieReq } })))
    ∧ (∀ t h s service, s.takes t h (.resetTrip service) → s.mode = .tripped → s.acOpen = true →
      ¬ (service = true ∧ (s.taken t h 0x0307).rb .redCtrl 0 = true) → (s.taken t h 0x0307).justTripped = false →
      exec (.resetTrip t h service) s = .next (answered h (.resetTrip service) .ok 0 []
        (setMode (if service then .service else if s.awn then .armed else .standbyCold) s.sub (s.taken t h 0x0307))))
    ∧ (∀ t h s, s.takes t h .serviceEnter → s.mode = .armed → (s.taken t h 0x0308).rb .redCtrl 0 = false →
      exec (.serviceEnter t h) s = .next (answered h .serviceEnter .ok 0 [] (setMode .service s.sub (s.taken t h 0x0308))))
    ∧ (∀ t h s z, s.takes t h .serviceLeave → z = s.taken t h 0x0309 → s.mode = .service → z.bistFailed = false →
      s.bst.running = false → exec (.serviceLeave t h) s = .next (answered h .serviceLeave .ok 0 []
        (setMode .armed s.sub (blockArms (z.when (decide (z.rf .winFixen 0 6 ≠ 0)) blockAll)))))

/-- Sheaf commands (R345-R349, R357): SHEAF_OPEN gives the lowest free handle and SHEAF_LIMIT without one; SHEAF_ADD
appends its entries and answers how many; SHEAF_COMMIT that passes every check prepares or readies the sheaf and
waits; SHEAF_DISCARD removes an open sheaf. -/
def Obligations.SheafCommandsTakeEffect : Prop :=
  (∀ t h s n, s.takes t h .sheafOpen → (List.range 8).find? (fun n => (s.sheaf n).isNone) = some n →
      exec (.sheafOpen t h) s = .next (answered h .sheafOpen .ok 0 (leBytes 1 n) ((s.taken t h 0x0400).setSheaf n
        ⟨(s.begin t).masterOf h.path, 1, max s.now t, [], [], none, 0, none, 0, 0, [], [], 0⟩)))
    ∧ (∀ t h s, s.takes t h .sheafOpen → (∀ n < 8, (s.sheaf n).isSome = true) →
      exec (.sheafOpen t h) s = .next (answered h .sheafOpen .sheafLimit 0 [] ((s.taken t h 0x0400).rsb .shfEvt 3 true)))
    ∧ (∀ t h s n es x y k, s.takes t h (.sheafAdd n es) → s.sheaf n = some x → x.owner = (s.begin t).masterOf h.path →
      x.state = 1 → addEntries (s.taken t h 0x0401) es x 0 = (y, k, none) →
      exec (.sheafAdd t h n es) s = .next (answered h (.sheafAdd n es) .ok k [] ((s.taken t h 0x0401).setSheaf n y)))
    ∧ (∀ t h s n mode x, s.takes t h (.sheafCommit n mode 0) → (mode = 1 ∨ mode = 2) → s.sheaf n = some x →
      x.owner = (s.begin t).masterOf h.path → x.state = 1 → (s.taken t h 0x0402).sheafFails n x = none →
      ∀ s1, s1 = ({ s.taken t h 0x0402 with shf := { s.shf with order := s.shf.order + 1 } } : State).setSheaf n
        { x with hdr := some h, how := mode, due := none, order := s.shf.order + 1 } →
      exec (.sheafCommit t h n mode 0) s = .next (left h (.sheafCommit n mode 0) (.sheaf n)
        (if x.hasGdp then prepareSheaf n s1 else readySheaf n s1)))
    ∧ (∀ t h s n time x, s.takes t h (.sheafCommit n 0 time) → s.sheaf n = some x →
      x.owner = (s.begin t).masterOf h.path → x.state = 1 → atCheck n x time (s.taken t h 0x0402) = none →
      (s.taken t h 0x0402).sheafFails n x = none →
      ∀ s1, s1 = (({ s.taken t h 0x0402 with shf := { s.shf with order := s.shf.order + 1 } } : State).setSheaf n
        { x with hdr := some h, how := 0, due := some ((s.taken t h 0x0402).ticks + shortDiff time (s.taken t h 0x0402).short),
                 order := s.shf.order + 1 }).rs .shfStime time n →
      exec (.sheafCommit t h n 0 time) s = .next (left h (.sheafCommit n 0 time) (.sheaf n)
        (if x.hasGdp then prepareSheaf n s1 else readySheaf n s1)))
    ∧ (∀ t h s n x, s.takes t h (.sheafDiscard n) → s.sheaf n = some x → x.owner = (s.begin t).masterOf h.path →
      x.state = 1 → exec (.sheafDiscard t h n) s = .next (answered h (.sheafDiscard n) .ok 0 []
        { s.taken t h 0x0403 with shf := { s.shf with use := Tab.erase s.shf.use n } }))

/-- Cell and link commands (R189, R197, R229, R379): an accepted BYPASS sets the cell FAULTED with cause COMMAND and
commands its bypass, RESTORE and RELEASE return it to ABSENT and enrol it, LINK_BLOCK sends the block order on its
enabled link or on every link that is UP; CELL_TXN puts its transaction on the link and waits for the response. -/
def Obligations.CellCommandsTakeEffect : Prop :=
  (∀ t h s cell, s.takes t h (.cellCmd cell 1) → cell < 4096 →
      (s.taken t h 0x0500).accepts ((s.begin t).masterOf h.path) (regAddr .celCmd) (fld 0 cell ||| fld 12 1) ⟨.celCmd, 0, 0⟩ →
        exec (.bypass t h cell) s = .next (answered h (.cellCmd cell 1) .ok 0 []
          (noteWritten none (regAddr .celCmd) (faultCell cell 7 (s.taken t h 0x0500)))))
    ∧ (∀ t h s cell, s.takes t h (.cellCmd cell 2) → cell < 4096 →
      (s.taken t h 0x0500).accepts ((s.begin t).masterOf h.path) (regAddr .celCmd) (fld 0 cell ||| fld 12 2) ⟨.celCmd, 0, 0⟩ →
        exec (.restore t h cell) s = .next (answered h (.cellCmd cell 2) .ok 0 []
          (noteWritten none (regAddr .celCmd) (enrolSlot cell (moveCell cell 0 (s.taken t h 0x0500))))))
    ∧ (∀ t h s cell, s.takes t h (.cellCmd cell 3) → cell < 4096 →
      (s.taken t h 0x0500).accepts ((s.begin t).masterOf h.path) (regAddr .celCmd) (fld 0 cell ||| fld 12 3) ⟨.celCmd, 0, 0⟩ →
        exec (.release t h cell) s = .next (answered h (.cellCmd cell 3) .ok 0 []
          (noteWritten none (regAddr .celCmd) (enrolSlot cell ((s.taken t h 0x0500).setProt cell
            { (s.cell cell).prot with st := 0, qTries := [] })))))
    ∧ (∀ t h s link slot op addr data, s.takes t h (.cellTxn link slot op addr data) → link < s.links →
      (op = 1 ∨ op = 7 ∨ (op = 2 ∧ s.awn = true ∧ s.running = false)) → data.length ≤ 64 → (slot < 24 ∨ slot = 31) →
      (s.taken t h 0x0501).linkUp link = true →
      exec (.cellTxn t h link slot op addr data) s = .next (left h (.cellTxn link slot op addr data) (.txn link 0)
        (pushTxn link op slot 0 addr.toNat (if op = 1 then [] else data) data.length (.host h) (s.taken t h 0x0501))))
    ∧ (∀ t h s link, s.takes t h (.linkBlock link false) → link < 128 → (s.taken t h 0x0502).rb .lnkLctrl 0 link = true →
      (s.taken t h 0x0502).accepts ((s.begin t).masterOf h.path) (regAddr .lnkBlkcmd) (fld 0 link) ⟨.lnkBlkcmd, 0, 0⟩ →
        exec (.linkBlock t h link false) s = .next (answered h (.linkBlock link false) .ok 0 []
          (noteWritten none (regAddr .lnkBlkcmd) (blockLink link (s.taken t h 0x0502)))))
    ∧ (∀ t h s link, s.takes t h (.linkBlock link true) →
      (s.taken t h 0x0502).accepts ((s.begin t).masterOf h.path) (regAddr .lnkBlkcmd) (fld 0 (link % 128) ||| 0x80)
        ⟨.lnkBlkcmd, 0, 0⟩ →
        exec (.linkBlock t h link true) s = .next (answered h (.linkBlock link true) .ok 0 []
          (noteWritten none (regAddr .lnkBlkcmd) (blockAll (s.taken t h 0x0502)))))

/-- Safety commands (R404, R413, R414) and pair commands (R327, R330, R337). -/
def Obligations.SafetyAndPairCommandsTakeEffect : Prop :=
  (∀ t h s img, s.takes t h (.safConfigWrite img) → ∀ r, r = safConfigWrite img (s.taken t h 0x0700) →
      exec (.safConfigWrite t h img) s = .next (answered h (.safConfigWrite img) r.2.1 r.2.2 [] r.1))
    ∧ (∀ t h s lane crc, s.takes t h (.safConfigConfirm lane crc) → lane ≤ 1 →
      ∀ r, r = safConfirm lane crc (s.taken t h 0x0701) →
      exec (.safConfigConfirm t h lane crc) s = .next (answered h (.safConfigConfirm lane crc) r.2 0 [] r.1))
    ∧ (∀ t h s, s.takes t h .safReset → (s.taken t h 0x0703).resetOk = true →
      exec (.safReset t h) s = .next (answered h .safReset .ok 0 [] (releaseSf1 (s.taken t h 0x0703))))
    ∧ (∀ t h s, s.takes t h .pairClaim → (s.taken t h 0x0800).mayClaim = true →
      ∀ c, c = claimAwn (s.taken t h 0x0800) → c.awn = true →
      exec (.pairClaim t h) s = .next (answered h .pairClaim .ok 0 []
        (setMode .armed c.sub { c with red := { c.red with sendFull := true } })))
    ∧ (∀ t h s, s.takes t h .pairSwitchover → (s.mode = .armed ∨ s.mode = .precharge ∨ s.mode = .run) → s.awn = true →
      (s.taken t h 0x0801).pairReady = true →
      exec (.pairSwitchover t h) s = .next (left h .pairSwitchover .switchover (s.taken t h 0x0801)))
    ∧ (∀ t h s, s.takes t h .pairResync → (s.taken t h 0x0802).rb .redCtrl 0 = true → s.mode = .standbyCold →
      s.awn = false → exec (.pairResync t h) s = .next (answered h .pairResync .ok 0 [] (askResync (s.taken t h 0x0802))))

/-- Time steps (R304, R380), self-test runs (R457) and acknowledgements (R448, R451). Factory commands (R318, R454,
R455): FACTORY_ENTER from INIT or SERVICE without a pair; the injections; FACTORY_LEAVE answers, then resets the
module. -/
def Obligations.TimeTestAndFactoryCommandsTakeEffect : Prop :=
  ((∀ t h s sec ns frac, s.takes t h (.timeStepAbs sec ns frac) → ns ≤ 999999999 →
        (s.mode = .init ∨ s.mode = .factoryTest ∨ ((s.mode = .armed ∨ s.mode = .service ∨ s.mode = .tripped) ∧ s.awn = true)) →
        exec (.timeStepAbs t h sec ns frac) s = .next (left h (.timeStepAbs sec ns frac) .timeStep
          { s.taken t h 0x0901 with tim := { s.tim with steps := s.tim.steps ++ [.abs (ofWire sec ns frac)] } }))
      ∧ (∀ t h s amount, s.takes t h (.timeStepRel amount) →
        (s.mode = .init ∨ s.mode = .factoryTest ∨ ((s.mode = .armed ∨ s.mode = .service ∨ s.mode = .tripped) ∧ s.awn = true)) →
        exec (.timeStepRel t h amount) s = .next (left h (.timeStepRel amount) .timeStep
          { s.taken t h 0x0901 with tim := { s.tim with steps := s.tim.steps ++ [.rel amount] } }))
      ∧ (∀ t h s, s.takes t h .timeStepToRef →
        (s.mode = .init ∨ s.mode = .factoryTest ∨ ((s.mode = .armed ∨ s.mode = .service ∨ s.mode = .tripped) ∧ s.awn = true)) →
        exec (.timeStepToRef t h) s = .next (left h .timeStepToRef .timeStep
          { s.taken t h 0x0901 with tim := { s.tim with steps := s.tim.steps ++ [.toRef] } }))
      ∧ (∀ t h s (mask : Word), s.takes t h (.bistRun mask) → (bistCheck mask.toNat (s.taken t h 0x0A00)).1 = .ok →
        exec (.bistRun t h mask) s = .next (left h (.bistRun mask) .bist (bistStart mask.toNat (s.taken t h 0x0A00))))
      ∧ (∀ t h s mask, s.takes t h (.faultAck mask) → mask % 2 = 0 → mask < 2 ^ 14 →
        exec (.faultAck t h mask) s = .next (answered h (.faultAck mask) .ok 0
          (leBytes 2 ((s.taken t h 0x0A02).rg .fltUnack).toNat) (ackMask mask (s.taken t h 0x0A02)))))
    ∧   ((∀ t h s, s.takes t h .factoryEnter → (s.mode = .init ∧ (s.taken t h 0x0F00).bistFailed = false) ∨ s.mode = .service →
        (s.taken t h 0x0F00).rb .redCtrl 0 = false →
        exec (.factoryEnter t h) s = .next (answered h .factoryEnter .ok 0 [] (setMode .factoryTest s.sub (s.taken t h 0x0F00))))
      ∧ (∀ t h s code addr, s.takes t h (.faultInject code addr) → ∀ r, r = injectFault code addr (s.taken t h 0x0F01) →
        exec (.faultInject t h code addr) s = .next (answered h (.faultInject code addr) r.2 0 [] r.1))
      ∧ (∀ t h s addr a b, s.takes t h (.memInject addr a b) → ∀ r, r = injectMem addr a b (s.taken t h 0x0F02) →
        exec (.memInject t h addr a b) s = .next (answered h (.memInject addr a b) r.2 0 [] r.1))
      ∧ (∀ t h s link cause count up, s.takes t h (.linkInject link cause count up) →
        ∀ r, r = injectLink link cause count up (s.taken t h 0x0F03) →
        exec (.linkInject t h link cause count up) s = .next (answered h (.linkInject link cause count up) r.2 0 [] r.1))
      ∧ (∀ t h s, s.takes t h .injClear → exec (.injClear t h) s = .next (answered h .injClear .ok 0 []
          { s.taken t h 0x0F04 with flt := { s.flt with inj := [] } }))
      ∧ (∀ t h s, s.takes t h .factoryLeave → exec (.factoryLeave t h) s = .next (settle (resetModule
          (answer ⟨h, 0x0F05, .ring⟩ .ok 0 [] (s.taken t h 0x0F05))))))

/-! ### Registers -/

/-- Every module address holds at most one register, and a register stands at no other address than its own (R8,
R498). -/
def Obligations.RegisterStandsAtItsAddress : Prop :=
  ∀ (addr : Nat) (r : Reg), regAt addr = some r →
    regAddr r.name r.i r.j = addr ∧ addr % 4 = 0 ∧ r.i < r.name.spec.n ∧ r.j < r.name.spec.n2

/-- A register keeps the word put into it, and no other register changes (R9). -/
def Obligations.StoredWordReadsBack : Prop :=
  ∀ (s : State) (n : RName) (v : Word) (i j : Nat), (s.canon → (s.rs n v i j).canon) ∧ (s.rs n v i j).rg n i j = v
    ∧ ∀ (m : RName) (k l : Nat), regAddr m k l ≠ regAddr n i j → (s.rs n v i j).rg m k l = s.rg m k l

/-- A register write that its rules accept has its register's effect, is seen by the small memories, the sheaves and
the pair, and answers the effect's status: all 56 rows that write a register, which are the constructors of regRowOf,
the clear rows named in ClearWriteClearsItsCounters and registerWrite among them. -/
def Obligations.AcceptedWriteTakesEffect : Prop :=
  (∀ (c : Instr) (t : Nat) (m : Master) (addr : Nat) (v : Word) (s : State) (r : Reg), regRowOf c = some (t, m, addr, v) →
    s.writes t m addr v r → exec c s = .next (wrote m addr r (writeEffect m.toNat r v (s.begin t)))) ∧
  (∀ (t : Nat) (m : Master) (addr : Nat) (v : Word) (s : State) (r : Reg), s.writes t m addr v r →
    exec (.registerWrite t m addr v) s = .next (wrote m addr r (writeEffect m.toNat r v (s.begin t))))

/-- Write to a setting register or an event register (R9): its RW bits take the word written, its W1C bits clear where
the word has a 1, its other bits stay; no other register and nothing else changes. -/
def Obligations.PlainWriteChangesOneWord : Prop :=
  ∀ (c : Instr) (t : Nat) (m : Master) (addr : Nat) (v : Word) (s : State) (r : Reg), regRowOf c = some (t, m, addr, v) →
    s.writes t m addr v r → r.name.plain = true → ∃ x, exec c s = .next (wrote m addr r (x, .ok))
      ∧ (∀ k : Nat, k < 32 → (Tab.get regReset x.regs addr).getLsbD k =
          if r.name.spec.w1c.testBit k && v.getLsbD k then false
          else if r.name.spec.rw.testBit k then v.getLsbD k else (Tab.get regReset s.regs addr).getLsbD k)
      ∧ (∀ a, a ≠ addr → Tab.get regReset x.regs a = Tab.get regReset s.regs a) ∧ { x with regs := s.regs } = s.begin t

/-- A write of 1 to a bit of a clear register clears the counters of that bit, and nothing else (R102, R132, R174,
R210, R289, R340, R360, R390, R418, R442, R461): the rows tcompClear, defClear, swClear, qlimClear, rejClear,
chaffClear, otherClear, gapClear, markClear, shfCountClear, cklostClear, takeClear, sizeClear, memCountClear,
safCountClear, netCountClear and violClear, and registerWrite at such a register. -/
def Obligations.ClearWriteClearsItsCounters : Prop :=
  (∀ (c : Instr) (t : Nat) (m : Master) (addr : Nat) (v : Word) (s : State) (r : Reg), regRowOf c = some (t, m, addr, v) →
    s.writes t m addr v r → r.name.clears = true → ∃ x, exec c s = .next (wrote m addr r (x, .ok))
      ∧ (∀ a, Tab.get regReset x.regs a = match (keptBits r.name v).find? (fun p => decide (p.1 = a)) with
          | some p => Tab.get regReset s.regs a &&& p.2
          | none => Tab.get regReset s.regs a) ∧ { x with regs := s.regs } = s.begin t) ∧
  (∀ (t : Nat) (m : Master) (v : Word) (s : State) (p : Instr × RName),
    p ∈ [(Instr.tcompClear t m v, RName.lenTcclr), (.defClear t m v, .winCntclr), (.swClear t m v, .winCntclr),
      (.qlimClear t m v, .fscCntclr), (.rejClear t m v, .fscCntclr), (.chaffClear t m v, .lnkCntclr), (.otherClear t m v, .lnkCntclr),
      (.gapClear t m v, .recCntclr), (.markClear t m v, .recCntclr), (.shfCountClear t m v, .shfCntclr),
      (.cklostClear t m v, .redCntclr), (.takeClear t m v, .redCntclr), (.sizeClear t m v, .redCntclr),
      (.memCountClear t m v, .memCntclr), (.safCountClear t m v, .safCntclr), (.netCountClear t m v, .netCntclr),
      (.violClear t m v, .fltCntclr)] →
    s.writes t m (regAddr p.2) v ⟨p.2, 0, 0⟩ → exec p.1 s = .next (wrote m (regAddr p.2) ⟨p.2, 0, 0⟩
      (writeEffect m.toNat ⟨p.2, 0, 0⟩ v (s.begin t))))

/-- A register read that is allowed returns the register's word and takes its snapshot (R9, R253, R269, R316, R437,
R461): the five rows that read a register, crcVallRead, sampleSnapshot, resultSnapshot, nowSnapshot and logSnapshot.
-/
def Obligations.AllowedReadReturnsWord : Prop :=
  (∀ (c : Instr) (t : Nat) (m : Master) (addr : Nat) (s : State) (r : Reg), readRowOf c = some (t, m, addr) → s.mode ≠ .off →
    regAt addr = some r → (s.begin t).absentReg r = false → (s.begin t).mayAccess m.toNat false r = true →
    mbxReadCheck (s.begin t) m.toNat r = none → smallOf addr = none →
    exec c s = .next (settle ((snapshot r (s.begin t)).put (.readData ((s.begin t).regWord r))))) ∧
  (∀ (t n : Nat) (m : Master) (s : State) (p : Instr × Reg),
    p ∈ [(Instr.sampleSnapshot t m false n, (⟨.filNout, n, 0⟩ : Reg)), (.sampleSnapshot t m true n, ⟨.filPout, n, 0⟩),
      (.resultSnapshot t m false n, ⟨.madRes, n, 0⟩), (.resultSnapshot t m true n, ⟨.madInjres, 0, 0⟩),
      (.nowSnapshot t m, ⟨.timNowtl, 0, 0⟩), (.logSnapshot t m n, ⟨.fltLog, n, 0⟩), (.crcVallRead t m n, ⟨.crcVall, n, 0⟩)] →
    s.mode ≠ .off → p.2.i < p.2.name.spec.n → (s.begin t).absentReg p.2 = false →
    (s.begin t).mayAccess m.toNat false p.2 = true →
    exec p.1 s = .next (settle ((snapshot p.2 (s.begin t)).put (.readData ((s.begin t).regWord p.2)))))

/-- A write that is refused changes no register beyond the violation that its rule logs, and says why: no register
there BAD_PARAM, absent unit UNIT_ABSENT, no right ACCESS_DENIED, injection outside FACTORY_TEST FACTORY_ONLY, a rule
of the unit its status, an address held by a sheaf BUSY; a write to a read-only register is accepted and ignored (R3,
R4, R8, R9, R351, R373, R454). -/
def Obligations.RefusedWriteChangesNothing : Prop :=
  ∀ (c : Instr) (t : Nat) (m : Master) (addr : Nat) (v : Word) (s b : State), regRowOf c = some (t, m, addr, v) →
    s.mode ≠ .off → b = s.begin t →
    (regAt addr = none → exec c s = .next (settle ((violation 1 addr m.toNat .badParam b).put (.wrote .badParam))))
      ∧ (∀ r, regAt addr = some r → b.absentReg r = true →
        exec c s = .next (settle ((violation 1 addr m.toNat .unitAbsent b).put (.wrote .unitAbsent))))
      ∧ (∀ r, regAt addr = some r → b.absentReg r = false → b.mayAccess m.toNat true r = false →
        exec c s = .next (settle ((violation 1 addr m.toNat .accessDenied b).put (.wrote .accessDenied))))
      ∧ (∀ r, regAt addr = some r → b.absentReg r = false → b.mayAccess m.toNat true r = true → r.name.isInj = true →
        s.mode ≠ .factoryTest → exec c s = .next (settle (b.put (.wrote .factoryOnly))))
      ∧ (∀ r, regAt addr = some r → b.absentReg r = false → b.mayAccess m.toNat true r = true →
        (r.name.isInj = true → s.mode = .factoryTest) →
        (r.name.writable = false → exec c s = .next (settle (b.put (.wrote .ok))))
          ∧ (∀ d, r.name.writable = true → writeCheck b (storeReg r v b) .direct m.toNat r v = some d →
            exec c s = .next (settle ((b.when d.log (violation 1 addr m.toNat d.st)).put (.wrote d.st))))
          ∧ (r.name.writable = true → writeCheck b (storeReg r v b) .direct m.toNat r v = none →
            b.heldBySheaf none addr = true → exec c s = .next (settle (b.put (.wrote .busy)))))

/-! ### Mailboxes and check units -/

/-- Writes of the mailboxes (R381, R382, R386, R389): a send queues the message and sets the doorbell; an
acknowledgement takes the oldest message away and, unless it is an orphan, sets the notice; doorbell and notice bits
are cleared by those they are for; MBX_CTRL.LOCK stays set. -/
def Obligations.MailboxWritesTakeEffect : Prop :=
  (∀ t m c v s b, b = s.begin t → s.writes t m (regAddr .mbxSend c) v ⟨.mbxSend, c, 0⟩ →
      exec (.mbxSend t m c v) s = .next (wrote m (regAddr .mbxSend c) ⟨.mbxSend, c, 0⟩
        (mailPush c (((List.range 16).flatMap (fun j => leBytes 4 (s.rg .mbxSdata c j).toNat)).take (v.toNat % 128)) b, .ok)))
    ∧ (∀ t m c v s b g rest, b = s.begin t → s.writes t m (regAddr .mbxAck c) v ⟨.mbxAck, c, 0⟩ → v.getLsbD 0 = true →
      (s.chan c).msgs = g :: rest →
      exec (.mbxAck t m c v) s = .next (wrote m (regAddr .mbxAck c) ⟨.mbxAck, c, 0⟩
        ((endCross c ((b.setChan c { b.chan c with msgs := rest, acked := (b.chan c).acked || !g.orphan }).when rest.isEmpty
          (fun s => s.rsb .mbxDbell c false))).when (!g.orphan) (setNote c), .ok)))
    ∧ (∀ t m v s b, b = s.begin t → s.writes t m (regAddr .mbxDbell) v ⟨.mbxDbell, 0, 0⟩ →
      (∀ c < 32, v.getLsbD c = true → s.bindDst c = m.toNat ∧ s.bindEn c = true) →
      exec (.mbxDbellClear t m v) s = .next (wrote m (regAddr .mbxDbell) ⟨.mbxDbell, 0, 0⟩
        (b.rs .mbxDbell (s.rg .mbxDbell &&& ~~~ v), .ok)))
    ∧ (∀ t m v s b, b = s.begin t → s.writes t m (regAddr .mbxNote) v ⟨.mbxNote, 0, 0⟩ →
      (∀ c < 32, v.getLsbD c = true → s.bindSrc c = m.toNat ∧ s.bindEn c = true) →
      exec (.mbxNoteClear t m v) s = .next (wrote m (regAddr .mbxNote) ⟨.mbxNote, 0, 0⟩ (clearNotes v b, .ok)))
    ∧ (∀ t m v s, s.writes t m (regAddr .mbxCtrl) v ⟨.mbxCtrl, 0, 0⟩ → ∃ x,
      exec (.mbxLock t m v) s = .next (wrote m (regAddr .mbxCtrl) ⟨.mbxCtrl, 0, 0⟩ (x, .ok))
        ∧ x.rb .mbxCtrl 0 = (s.rb .mbxCtrl 0 || v.getLsbD 0) ∧ x.rf .mbxCtrl 8 8 = v.toNat / 256 % 256
        ∧ { x with regs := s.regs } = s.begin t)
    ∧ ∀ t a b s z, z = s.begin t → a < 32 → b < 32 → a ≠ b → s.bindEn a = true → s.bindEn b = true →
      s.bindSrc a = s.bindDst b → s.bindDst a = s.bindSrc b → (s.chan a).cross = false →
      (∀ c, c = a ∨ c = b → (s.chan c).msgs ≠ [] ∧ (s.chan c).since + s.rf .mbxCtrl 8 8 * 40000 < max s.now t) →
      exec (.mbCross t a b) s = .next (fault 0x0BC1 .l0 ([a, b].foldl (fun s c =>
        setNote c ((s.setChan c { s.chan c with cross := true }).rsb .mbxCross c true)) z))

/-- When a master is reset, what it has sent stays and is marked ORPHAN, what waited for it is cleared but for
messages sent in the same clock, and its notices go; the acknowledgement of an orphan sets no notice (R385, R386). -/
def Obligations.MasterResetLeavesOrphans : Prop :=
  (∀ (s : State) (m c : Nat), c < 32 → s.bindEn c = true → s.bindSrc c = m → s.bindDst c ≠ m →
      ((mailReset m s).chan c).msgs = (s.chan c).msgs.map (fun g => { g with orphan := true })
        ∧ (mailReset m s).rb .mbxNote c = false)
    ∧ (∀ (s : State) (m c : Nat), c < 32 → s.bindEn c = true → s.bindDst c = m → (∀ g ∈ (s.chan c).msgs, g.sent < s.now) →
      ((mailReset m s).chan c).msgs = [] ∧ (mailReset m s).rb .mbxDbell c = false)
    ∧ (∀ (s : State) (m c : Nat), c < 32 → s.bindEn c = true → s.bindDst c = m → s.bindSrc c ≠ m →
      ((mailReset m s).chan c).msgs = (s.chan c).msgs.filter (fun g => decide (s.now ≤ g.sent)))
    ∧ (∀ (s : State) (c : Nat) (g : Msg) (rest : List Msg), (s.chan c).msgs = g :: rest → g.orphan = true →
      ((mailAck c s).chan c).msgs = rest ∧ (mailAck c s).rg .mbxNote = s.rg .mbxNote ∧ (cstatWord s c).getLsbD 12 = true)

/-- Data of the check units (R435, R436, R439): a configuration write loads INIT and clears ALIVELAST; data enter VAL
as one byte, as four bytes from bits [7:0], or as four bytes from bits [31:24]; a claim holds the unit for its master
until released. The rows of R437: CRC_VALHu is staged, CRC_VALLu loads both halves, a read of it takes the snapshot.
-/
def Obligations.CrcRowsTakeEffect : Prop :=
  ((∀ t m u v s b, b = s.begin t → s.writes t m (regAddr .crcCfg u) v ⟨.crcCfg, u, 0⟩ →
        exec (.crcCfgWrite t m u v) s = .next (wrote m (regAddr .crcCfg u) ⟨.crcCfg, u, 0⟩
          ((setCrcVal u (s.rg64 .crcInitl .crcInith u) (storeReg ⟨.crcCfg, u, 0⟩ v b)).rs .crcAlivelast 0 u, .ok)))
      ∧ (∀ t m u v s b, b = s.begin t → s.writes t m (regAddr .crcDatab u) v ⟨.crcDatab, u, 0⟩ →
        exec (.crcDatab t m u v) s = .next (wrote m (regAddr .crcDatab u) ⟨.crcDatab, u, 0⟩
          (crcFeed u [BitVec.ofNat 8 v.toNat] b, .ok)))
      ∧ (∀ t m u v s b, b = s.begin t → s.writes t m (regAddr .crcDataw u) v ⟨.crcDataw, u, 0⟩ →
        exec (.crcDataw t m u v) s = .next (wrote m (regAddr .crcDataw u) ⟨.crcDataw, u, 0⟩
          (crcFeed u [BitVec.ofNat 8 v.toNat, BitVec.ofNat 8 (v.toNat / 2 ^ 8), BitVec.ofNat 8 (v.toNat / 2 ^ 16),
            BitVec.ofNat 8 (v.toNat / 2 ^ 24)] b, .ok)))
      ∧ (∀ t m u v s b, b = s.begin t → s.writes t m (regAddr .crcDatad u) v ⟨.crcDatad, u, 0⟩ →
        exec (.crcDatad t m u v) s = .next (wrote m (regAddr .crcDatad u) ⟨.crcDatad, u, 0⟩
          (crcFeed u [BitVec.ofNat 8 (v.toNat / 2 ^ 24), BitVec.ofNat 8 (v.toNat / 2 ^ 16), BitVec.ofNat 8 (v.toNat / 2 ^ 8),
            BitVec.ofNat 8 v.toNat] b, .ok)))
      ∧ (∀ t m u v s b, b = s.begin t → s.writes t m (regAddr .crcClaim u) v ⟨.crcClaim, u, 0⟩ → v.getLsbD 4 = true →
        exec (.crcClaim t m u v) s = .next (wrote m (regAddr .crcClaim u) ⟨.crcClaim, u, 0⟩
          (b.rs .crcClaim (BitVec.ofNat 32 (m.toNat + 16)) u, .ok)))
      ∧ (∀ t m u v s b, b = s.begin t → s.writes t m (regAddr .crcClaim u) v ⟨.crcClaim, u, 0⟩ → v.getLsbD 4 = false →
        exec (.crcRelease t m u v) s = .next (wrote m (regAddr .crcClaim u) ⟨.crcClaim, u, 0⟩ (b.rs .crcClaim 0 u, .ok))))
    ∧   ((∀ t m u v s b, b = s.begin t → s.writes t m (regAddr .crcValh u) v ⟨.crcValh, u, 0⟩ →
        exec (.crcValhWrite t m u v) s = .next (wrote m (regAddr .crcValh u) ⟨.crcValh, u, 0⟩
          (b.setCrcSt u { s.crcSt u with stage := v }, .ok)))
      ∧ (∀ t m u v s b, b = s.begin t → s.writes t m (regAddr .crcVall u) v ⟨.crcVall, u, 0⟩ →
        exec (.crcVallWrite t m u v) s = .next (wrote m (regAddr .crcVall u) ⟨.crcVall, u, 0⟩
          ((b.rs .crcVall v u).rs .crcValh (s.crcSt u).stage u, .ok)))
      ∧ ∀ t m u s b, b = s.begin t → s.mode ≠ .off → u < 4 → b.mayAccess m.toNat false ⟨.crcVall, u, 0⟩ = true →
        exec (.crcVallRead t m u) s = .next (settle
          ((b.setCrcSt u { s.crcSt u with snap := s.rg .crcValh u }).put (.readData (s.rg .crcVall u)))))

/-- R437: a read of CRC_VALLu takes the snapshot that CRC_VALHu then returns; a write to CRC_VALHu is staged, and the
next write to CRC_VALLu loads both halves; a unit whose VAL, CRC_CFGu and CRC_ALIVELASTu were read and are written
back in the order CRC_CFGu, VAL, CRC_ALIVELASTu holds what it held, whatever was written to it meanwhile. -/
def Obligations.ContextSwitchKeepsCrcUnit : Prop :=
  (∀ (s : State) (m u : Nat), u < 4 → s.mayAccess m false ⟨.crcVall, u, 0⟩ = true →
      readReg m (regAddr .crcVall u) s = (crcSnapshot ⟨.crcVall, u, 0⟩ s, .ok, s.rg .crcVall u))
    ∧ (∀ (s : State) (u : Nat), (crcSnapshot ⟨.crcVall, u, 0⟩ s).regWord ⟨.crcValh, u, 0⟩ = s.rg .crcValh u
      ∧ (crcSnapshot ⟨.crcVall, u, 0⟩ s).regWord ⟨.crcVall, u, 0⟩ = s.rg .crcVall u)
    ∧ (∀ (s : State) (m u : Nat) (hi : Word), (writeEffect m ⟨.crcValh, u, 0⟩ hi s).1.regs = s.regs)
    ∧ (∀ (s : State) (m u : Nat) (lo hi : Word),
      ((writeEffect m ⟨.crcVall, u, 0⟩ lo (writeEffect m ⟨.crcValh, u, 0⟩ hi s).1).1.rg .crcVall u,
        (writeEffect m ⟨.crcVall, u, 0⟩ lo (writeEffect m ⟨.crcValh, u, 0⟩ hi s).1).1.rg .crcValh u) = (lo, hi))
    ∧ ∀ (s z : State) (m u : Nat), s.rg .crcCfg u &&& ~~~ 0x3FF = 0 → z.rg .crcCfg u &&& ~~~ 0x3FF = 0 →
      s.rg .crcAlivelast u &&& ~~~ 0x1FFFF = 0 →
      ∀ w, w = (writeEffect m ⟨.crcAlivelast, u, 0⟩ (s.rg .crcAlivelast u) (writeEffect m ⟨.crcVall, u, 0⟩ (s.rg .crcVall u)
        (writeEffect m ⟨.crcValh, u, 0⟩ (s.rg .crcValh u) (writeEffect m ⟨.crcCfg, u, 0⟩ (s.rg .crcCfg u) z).1).1).1).1 →
      w.rg .crcCfg u = s.rg .crcCfg u ∧ w.rg .crcVall u = s.rg .crcVall u ∧ w.rg .crcValh u = s.rg .crcValh u
        ∧ w.rg .crcAlivelast u = s.rg .crcAlivelast u

/-- R438: a counter written to CRC_ALIVEu is folded into VAL as two data bytes, low byte first; with VALID = 1 it sets
ALIVE_REPEAT where it equals the last folded value, and ALIVE_SKIP where it is not one more modulo 2^16; it is then
stored with VALID = 1. The flags clear by writing 1, and they are no faults. -/
def Obligations.AliveCounterIsCompared : Prop :=
  (∀ (s : State) (m u : Nat) (v : Word), ∀ x, x = (writeEffect m ⟨.crcAlive, u, 0⟩ v s).1 →
      x.crcVal u = (crcFeed u [BitVec.ofNat 8 v.toNat, BitVec.ofNat 8 (v.toNat / 2 ^ 8)] s).crcVal u
        ∧ x.rg .crcAlivelast u = BitVec.ofNat 32 (v.toNat % 2 ^ 16 + 2 ^ 16)
        ∧ x.rb .crcStat 0 u = (s.rb .crcStat 0 u
          || (s.rb .crcAlivelast 16 u && decide (v.toNat % 2 ^ 16 = s.rf .crcAlivelast 0 16 u)))
        ∧ x.rb .crcStat 1 u = (s.rb .crcStat 1 u || (s.rb .crcAlivelast 16 u
          && decide (v.toNat % 2 ^ 16 ≠ (s.rf .crcAlivelast 0 16 u + 1) % 2 ^ 16)))
        ∧ x.flt = s.flt ∧ x.cmd = s.cmd)
    ∧ (∀ (s : State) (m u : Nat) (v : Word) (k : Nat), k < 2 → v.getLsbD k = true →
      (writeEffect m ⟨.crcStat, u, 0⟩ v s).1.rb .crcStat k u = false)
    ∧ ∀ t m u v s, s.writes t m (regAddr .crcAlive u) v ⟨.crcAlive, u, 0⟩ →
      exec (.crcAlive t m u v) s = .next (wrote m (regAddr .crcAlive u) ⟨.crcAlive, u, 0⟩
        (writeEffect m.toNat ⟨.crcAlive, u, 0⟩ v (s.begin t)))

/-! ### Memories -/

/-- A write to a range whose words hold no error puts each byte where it belongs and leaves every other byte of that
memory, the registers and everything beyond the memories as they were; a read of such a range returns its bytes and
changes nothing (R424, R428). `dram` chooses the memory, `off` is the offset in it. -/
def Obligations.MemoryReadsWhatWasWritten : Prop :=
  (∀ (dram : Bool) (m addr off : Nat) (data : List Byte) (s : State),
      (∀ w, off / 8 ≤ w → w ≤ (off + data.length - 1) / 8 → (s.mark dram w).kind = 0) →
      ∀ r, r = writeRange dram m addr (data.length / 8 + 2) 0 off data s → r.2 = none
        ∧ (∀ k < data.length, r.1.byteOf dram (off + k) = data.getD k 0)
        ∧ (∀ a, a < off ∨ off + data.length ≤ a → r.1.byteOf dram a = s.byteOf dram a)
        ∧ (∀ a, r.1.byteOf (!dram) a = s.byteOf (!dram) a) ∧ { r.1 with mem := s.mem } = s)
    ∧ ∀ (dram : Bool) (m addr off len : Nat) (s : State),
      (∀ w, off / 8 ≤ w → w ≤ (off + len - 1) / 8 → (s.mark dram w).kind = 0) →
      readRange dram m addr (len / 8 + 2) 0 off len s = (s, (List.range len).map (fun k => s.byteOf dram (off + k)), none)

/-- What an access finds in one word (R424, R425, R428): a single bad bit is corrected, stored back and logged; a word
with more, or a poisoned one, gives no data; a write of all 8 bytes needs no read and leaves a clean word; a partial
write of an uncorrectable word stores it poisoned. A fill writes its pattern over whole words with valid check bits
and nothing else (R428). -/
def Obligations.WordOutcomeFollowsItsCheckBits : Prop :=
  (∀ (dram : Bool) (w m addr : Nat) (s : State),
      ((s.mark dram w).kind = 1 → readWord dram w m addr s = (logCe (memNo dram) 0 (s.mark dram w).syn m (w * 8)
          (setWord dram w (s.wordBytes dram w) Mark.clean s), some (s.wordBytes dram w)))
        ∧ ((s.mark dram w).kind = 2 → (readWord dram w m addr s).2 = none)
        ∧ ((s.mark dram w).kind = 3 → (readWord dram w m addr s).2 = none)
        ∧ (∀ bs, bs.length = 8 → writeWord dram w 0 bs m addr s = (setWord dram w bs Mark.clean s, true)
          ∧ (setWord dram w bs Mark.clean s).mark dram w = Mark.clean ∧ (setWord dram w bs Mark.clean s).wordBytes dram w = bs)
        ∧ (∀ lo bs, 0 < bs.length → lo + bs.length < 8 → 2 ≤ (s.mark dram w).kind → (writeWord dram w lo bs m addr s).2 = false)
        ∧ (setWord dram w (s.wordBytes dram w) ⟨0, true⟩ s).mark dram w = ⟨0, true⟩)
    ∧   (∀ (dram : Bool) (pat : BitVec 64) (n w : Nat) (s : State), ∀ z, z = fillWords dram pat n w s →
      (∀ k, k < 8 * n → z.byteOf dram (8 * w + k) = pat.extractLsb' (8 * (k % 8)) 8)
        ∧ (∀ a, a < 8 * w ∨ 8 * (w + n) ≤ a → z.byteOf dram a = s.byteOf dram a)
        ∧ (∀ k, k < n → z.mark dram (w + k) = Mark.clean) ∧ { z with mem := s.mem } = s)

/-- Masters 7 to 11 write SRAM only inside MEM_HOSTWIN: another range is refused ACCESS_DENIED and logged; reads are
served everywhere in the window (R421). Commands on the memories' upkeep (R422, R428, R430, R432, R433): the hardware
fill clears the SRAM and the small memories and sets FILL_DONE; a retirement asked for is copied and entered; the
glean meets one word and moves on. -/
def Obligations.MemoryUpkeepTakesEffect : Prop :=
  (∀ (s : State) (m off len : Nat), 7 ≤ m → m ≤ 11 → 1 ≤ len → off % 4 = 0 → off + len ≤ 0x1800000 →
      s.window m (0x10000000 + off) len = .ok (false, off)
        ∧ (s.rf .memHostwin 0 15 * 1024 ≤ off → off + len ≤ s.rf .memHostwin 16 15 * 1024 →
          s.writeWindow m (0x10000000 + off) len = .ok (false, off))
        ∧ (off < s.rf .memHostwin 0 15 * 1024 ∨ s.rf .memHostwin 16 15 * 1024 < off + len →
          s.writeWindow m (0x10000000 + off) len = .error ⟨.accessDenied, true⟩))
    ∧   ((∀ t s, s.pwr.boot = 1 → ∃ x, exec (.hardwareFillDone t) s = .next x ∧ x.mem.sram = [] ∧ x.mem.smark = [] ∧ x.mem.small = []
        ∧ x.pwr.fillDone = true ∧ x.rb .memStat 0 = true ∧ x.mode = s.mode ∧ x.mem.dram = s.mem.dram)
      ∧ (∀ t m v s b, b = s.begin t → s.writes t m (regAddr .memRetire) v ⟨.memRetire, 0, 0⟩ →
        v.toNat % 2 ^ 21 < (if v.getLsbD 31 then 2080768 else 24576) → (v.getLsbD 31 = true → s.hasDram = true) →
        s.mem.retire = none → s.isRetired (v.toNat / 2 ^ 31) (v.toNat % 2 ^ 21) = false → s.retCnt < 64 →
        (s.freeSpare (v.toNat / 2 ^ 31)).isSome = true →
        exec (.memRetire t m v) s = .next (wrote m (regAddr .memRetire) ⟨.memRetire, 0, 0⟩
          (({ b with mem := { s.mem with retire := some (v.toNat / 2 ^ 31, v.toNat % 2 ^ 21) } } : State).rs .memRetstat 0, .ok)))
      ∧ (∀ t s k i, s.mem.retire = some (k, i) →
        exec (.retirementCopyDone t) s = .next (enterRetired k i { (List.range (if k = 0 then 128 else 512)).foldl
          (fun s j => copyWord (decide (k = 1)) (i * (if k = 0 then 128 else 512) + j) s) (s.begin t) with
            mem := { ((List.range (if k = 0 then 128 else 512)).foldl
              (fun s j => copyWord (decide (k = 1)) (i * (if k = 0 then 128 else 512) + j) s) (s.begin t)).mem with retire := none } }))
      ∧ (∀ t s w, s.mode ≠ .off → w = (s.rg .memGleanpos).toNat → exec (.gleanWord t false) s
        = .next (((gleanMark false w (s.begin t)).rs .memGleanpos (BitVec.ofNat 32 (if w + 1 = 3145728 then 0 else w + 1))).when
          (decide (w + 1 = 3145728)) gleanSmall))
      ∧ (∀ t s w, s.mode ≠ .off → s.hasDram = true → s.rb .memCtrl 0 = true → w = (s.rg .memGleanposd).toNat →
        exec (.gleanWord t true) s = .next ((gleanMark true w (s.begin t)).rs .memGleanposd
          (BitVec.ofNat 32 (if w + 1 = 1065353216 then 0 else w + 1))))
      ∧ (∀ dram w s, (s.mark dram w).kind = 0 → gleanMark dram w s = s)
      ∧ (∀ t s, s.bst.running = true → s.bst.start + bistTicks s.bst.mask ≤ max s.now t → ∀ res z,
        z = (bistUnits s.bst.mask).foldl (bistResult res)
          { s.begin t with bst := { s.bst with running := false, unit := (bistUnits s.bst.mask).getLastD 0, mask := 0 } } →
        exec (.bistComplete t res) s = .next (answerAll (fun w => decide (w = .bist)) .ok 0 (bistReply s.bst.mask z) z)))

/-! ### Faults -/

/-- Raising a fault (R446, R447, R449): its effective level is the base level, or one more, at most L3, while its
class is unacknowledged; the capture is filled only where the class was acknowledged; the class becomes
unacknowledged; one entry enters the log ring and the pointer moves on. Raising a fault, before its level acts,
touches only the fault collector and the event queues of the paths. Faults detected in one clock are all raised, in
ascending class and code (R450). -/
def Obligations.RaisedFaultIsLogged : Prop :=
  (∀ (f : FaultArg) (s : State), 1 ≤ f.code / 256 → f.code / 256 ≤ 13 → ∀ r, r = raise0 f s →
      r.2.2 = (if s.unack (f.code / 256) then levelUp f.base else f.base)
        ∧ (s.unack (f.code / 256) = true → r.1.rg .fltFecode (f.code / 256) = s.rg .fltFecode (f.code / 256)
          ∧ r.1.rg .fltFeaddr (f.code / 256) = s.rg .fltFeaddr (f.code / 256))
        ∧ (s.unack (f.code / 256) = false → r.1.rf .fltFecode 0 16 (f.code / 256) = f.code
          ∧ r.1.rf .fltFecode 16 2 (f.code / 256) = levelCode f.base ∧ r.1.rb .fltFecode 25 (f.code / 256) = f.master.isNone
          ∧ r.1.rb .fltFecode 26 (f.code / 256) = true
          ∧ r.1.rg .fltFeaddr (f.code / 256) = BitVec.ofNat 32 f.addr
          ∧ r.1.rg64 .fltFetimel .fltFetimeh (f.code / 256) = lowBits 64 s.ticks
          ∧ r.1.rf .fltFecnt 0 16 (f.code / 256) = 1)
        ∧ (∀ c, c < 32 → r.1.unack c = (s.unack c || decide (c = f.code / 256)))
        ∧ r.1.rf .fltLog 0 16 (s.flt.logged % 256) 0 = f.code
        ∧ r.1.rf .fltLog 16 2 (s.flt.logged % 256) 0 = levelCode r.2.2
        ∧ r.1.rf .fltLog 18 2 (s.flt.logged % 256) 0 = levelCode f.base
        ∧ r.1.rb .fltLog 20 (s.flt.logged % 256) 0 = s.unack (f.code / 256)
        ∧ r.1.rb .fltLog 21 (s.flt.logged % 256) 0 = !(s.unack (f.code / 256))
        ∧ r.1.rg .fltLog (s.flt.logged % 256) 1 = BitVec.ofNat 32 f.addr
        ∧ r.1.rg .fltLog (s.flt.logged % 256) 2 = s.short
        ∧ r.1.rf .fltLog 0 16 (s.flt.logged % 256) 3 = s.flt.logged % 65536
        ∧ r.1.rf .fltLog 16 16 (s.flt.logged % 256) 3 = f.index % 65536
        ∧ r.1.flt.logged = s.flt.logged + 1 ∧ r.1.rf .fltLogptr 0 8 = (s.flt.logged + 1) % 256)
    ∧   (∀ (f : FaultArg) (s : State), 1 ≤ f.code / 256 → f.code / 256 ≤ 13 →
      (∀ (n : RName) (i j : Nat), regAddr n i j < 0x10000 ∨ 0x20000 ≤ regAddr n i j → (raise0 f s).1.rg n i j = s.rg n i j)
        ∧ { (raise0 f s).1 with regs := s.regs, flt := s.flt, cmd := s.cmd } = s)
    ∧   (∀ (l : List (FaultArg × Bool)) (s : State), ((inOrder l).map (fun x => x.1.code)).Pairwise (fun a b => a ≤ b) ∧ (inOrder l).Perm l
      ∧ (s.flt.same = [] → raiseHeld (l.foldl (fun s x => holdFault x.1 x.2 s) s)
        = (inOrder l).foldl (fun s x => raise x.1 s x.2) s))

/-- What a fault's effective level does (R20, R21, R228, R445): L0 and L1 nothing; L2 in RUN asks for the orderly
stop, or for the handover where the partner is ready; L2 in PRECHARGE ends in ARMED and in another state does nothing;
L3 trips ARMED, PRECHARGE, RUN, STOPPING and SERVICE, and in INIT, STANDBY_COLD, TRIPPED and FACTORY_TEST leaves the
state and asks for SF1. -/
def Obligations.LevelDecidesTheAction : Prop :=
  (∀ code blocked s, levelAction code .l0 blocked s = s ∧ levelAction code .l1 blocked s = s)
    ∧ (∀ code blocked s, s.mode = .run → s.pairReady = false → levelAction code .l2 blocked s
      = { s with len := { s.len with run := { s.len.run with stopReq := true } } })
    ∧ (∀ code blocked s, s.mode = .run → s.pairReady = true → levelAction code .l2 blocked s
      = { s with red := { s.red with takeReq := true } })
    ∧ (∀ code blocked s, s.mode = .precharge → (levelAction code .l2 blocked s).mode = .armed
      ∧ ∀ a < 6, ((levelAction code .l2 blocked s).arm a).deblocked = false)
    ∧ (∀ code blocked s, s.mode ≠ .run → s.mode ≠ .precharge → levelAction code .l2 blocked s = s)
    ∧ (∀ code blocked s, s.mode = .armed ∨ s.mode = .precharge ∨ s.mode = .run ∨ s.mode = .stopping ∨ s.mode = .service →
      (levelAction code .l3 blocked s).mode = .tripped ∧ (∀ a < 6, ((levelAction code .l3 blocked s).arm a).deblocked = false)
        ∧ (s.hasSaf = true → (levelAction code .l3 blocked s).saf.modReq = true))
    ∧ ∀ code blocked s, s.mode = .init ∨ s.mode = .standbyCold ∨ s.mode = .tripped ∨ s.mode = .factoryTest →
      (levelAction code .l3 blocked s).mode = s.mode
        ∧ (s.hasSaf = true → (levelAction code .l3 blocked s).saf.modReq = true)

/-- At most 64 violations enter the log in any second; those beyond are counted in FLT_VIOLDROP and leave no other
trace; one that is logged carries its status and never makes its class unacknowledged (R448, R452). -/
def Obligations.ViolationsAreCapped : Prop :=
  (∀ (s : State) (acc addr m : Nat) (st : Status), 64 ≤ (s.flt.viol.filter (fun t => decide (s.now < t + 400000000))).length →
      violation acc addr m st s = ({ s with flt := { s.flt with
        viol := s.flt.viol.filter (fun t => decide (s.now < t + 400000000)) } } : State).rsat .fltVioldrop 0 32 1)
    ∧ ∀ (s : State) (acc addr m : Nat) (st : Status),
      (s.flt.viol.filter (fun t => decide (s.now < t + 400000000))).length < 64 → (∀ q < 4, (s.path q).queue.length < 1024) →
      ∀ x, x = violation acc addr m st s → x.flt.logged = s.flt.logged + 1 ∧ x.rf .fltLog 0 16 (s.flt.logged % 256) 0 = 0x0BC3
        ∧ x.rf .fltLog 16 16 (s.flt.logged % 256) 3 = statusCode st ∧ x.rg .fltUnack = s.rg .fltUnack ∧ x.mode = s.mode

/-- An acknowledgement clears the unacknowledged bit, the capture and the count of each class in its mask, and changes
nothing else (R451). Each bit of the replacement request is set once and makes one event record, whatever asks for it
again (R453). -/
def Obligations.AcknowledgementClearsItsClasses : Prop :=
  (∀ (mask : Nat) (s : State), ∀ x, x = ackMask mask s →
      (∀ c, 1 ≤ c → c ≤ 13 → mask.testBit c = true → x.unack c = false ∧ x.rg .fltFecode c = 0 ∧ x.rg .fltFeaddr c = 0
          ∧ x.rg .fltFetimel c = 0 ∧ x.rg .fltFetimeh c = 0 ∧ x.rg .fltFecnt c = 0)
        ∧ (∀ c, 1 ≤ c → c ≤ 13 → mask.testBit c = false → x.unack c = s.unack c ∧ x.rg .fltFecode c = s.rg .fltFecode c
          ∧ x.rg .fltFecnt c = s.rg .fltFecnt c)
        ∧ (∀ n i j, 0x20000 ≤ regAddr n i j → x.rg n i j = s.rg n i j)
        ∧ { x with regs := s.regs, flt := s.flt } = s ∧ x.flt.logged = s.flt.logged ∧ x.flt.viol = s.flt.viol)
    ∧   (∀ (k : Nat) (s : State), k < 5 → (replaceCause k s).rb .fltReplace k = true ∧ (replaceCause k s).mode = s.mode
      ∧ (s.rb .fltReplace k = true → replaceCause k s = s))

/-! ### Power, start-up and clocks -/

/-- Input legs and hold-up (R463-R466, R468, R501): a leg that becomes good asserts power good and ends a hold-up;
with the last good leg lost the module lives from its store and asks for an orderly stop; the store's low mark raises
HOLDUP_LOW; its end takes power good away and resets the module. Temperatures and the burst interval (R472, R473): a
sample is stored; an inlet outside −25 to 55 °C, a junction of 110 °C and one of 125 °C raise their faults once until
they have been back for a minute; 60 s after a burst the next is allowed; a burst ends at the outer boundary at which
its time is over or the inlet or the junction is too hot. -/
def Obligations.PowerAndThermalRowsTakeEffect : Prop :=
  ((∀ t leg mv s, ∃ x, exec (.legGood t leg mv) s = .next x ∧ x.pwr.good = true ∧ x.pwr.holdup = false ∧ x.pwr.leg leg = 1
        ∧ x.pwr.leg (otherLeg leg) = s.pwr.leg (otherLeg leg) ∧ { x with regs := s.regs, pwr := s.pwr } = s.begin t)
      ∧ (∀ t leg mv s, s.pwr.leg leg = 1 → ∃ x, exec (.legLost t leg mv) s = .next x ∧ x.pwr.leg leg = 0
        ∧ (s.pwr.good = true → s.pwr.leg (otherLeg leg) ≠ 1 → x.pwr.holdup = true ∧ x.rb .pwrEvt 1 = true)
        ∧ (s.pwr.good = true → s.pwr.leg (otherLeg leg) = 1 → x.rb .fltReplace 0 = true ∧ x.pwr.holdup = s.pwr.holdup))
      ∧ (∀ t leg mv s, s.pwr.leg leg = 1 → ∃ x, exec (.legOv t leg mv) s = .next x ∧ x.pwr.leg leg = 2
        ∧ (s.pwr.good = true → s.pwr.leg (otherLeg leg) = 1 → x.rb .pwrEvt 3 = true ∧ x.pwr.holdup = s.pwr.holdup)
        ∧ (s.pwr.good = true → s.pwr.leg (otherLeg leg) = 0 → x.pwr.holdup = true ∧ x.rb .pwrEvt 1 = true))
      ∧ (∀ t s, s.pwr.holdup = true → s.mode ≠ .off →
        exec (.holdupLow t) s = .next (fault 0x08F2 .l3 ((s.begin t).rsb .pwrEvt 2 true)))
      ∧ (∀ t s, s.pwr.legA ≠ 1 → s.pwr.legB ≠ 1 → s.pwr.good = true → ∃ x, exec (.powerGoodLost t) s = .next x
        ∧ x.mode = .off ∧ x.pwr.good = false ∧ x.regs = [] ∧ x.mem.sram = [] ∧ x.pwr.prefFlash = s.pwr.prefFlash
        ∧ x.pwr.bistFlash = s.pwr.bistFlash ∧ x.pwr.cfgFlash = s.pwr.cfgFlash ∧ (∀ k, (x.so k).hi = false ∧ (x.so k).lo = false))
      ∧ (∀ t s, s.pwr.legA = 1 ∨ s.pwr.legB = 1 →
        exec (.storeFull t) s = .next { s.begin t with pwr := { s.pwr with storeFull := true } }))
    ∧   ((∀ t inlet junc s, s.mode ≠ .off → ∃ x, exec (.tempSample t inlet junc) s = .next x ∧ x.pwr.inlet = inlet
        ∧ x.pwr.junc = junc ∧ (1100 ≤ junc → x.pwr.juncHigh = true) ∧ (1250 ≤ junc → x.pwr.juncTrip = true)
        ∧ (inlet < -250 ∨ 550 < inlet → x.pwr.inletBad = true)
        ∧ (1100 ≤ junc → s.pwr.juncHigh = false → x.flt.logged ≠ s.flt.logged)
        ∧ (1250 ≤ junc → s.pwr.juncTrip = false → x.flt.logged ≠ s.flt.logged)
        ∧ (inlet < -250 ∨ 550 < inlet → s.pwr.inletBad = false → x.flt.logged ≠ s.flt.logged)
        ∧ (1050 ≤ junc → inlet < -250 ∨ 550 < inlet → s.pwr.juncHigh = true → s.pwr.juncTrip = true → s.pwr.inletBad = true →
          x.flt.logged = s.flt.logged)
        ∧ (∀ a, junc < 1050 → s.pwr.juncOkSince = some a → a + 24000000000 ≤ max s.now t →
          x.pwr.juncHigh = false ∧ x.pwr.juncTrip = false))
      ∧ (∀ t s e, s.pwr.burstEnd = some e → e + 24000000000 ≤ max s.now t →
        exec (.burstAvail t) s = .next { s.begin t with pwr := { s.pwr with burstEnd := none } })
      ∧ ∀ t s a, s.pwr.burstStart = some a → s.len.bur.on = true → (s.begin t).onGrid 40000 = true →
        (a + burstLimit s.pwr.inlet ≤ max s.now t ∨ 550 < s.pwr.inlet ∨ 1100 ≤ s.pwr.junc) →
        exec (.burstForcedExit t) s = .next (fault 0x09F0 .l0 (((leaveBurst (noteOld (s.begin t))).rsb .pwrEvt 4 true).rsat
          .pwrBurstcnt 16 16 1)))

/-- Start-up (R290, R468, R469, R471): with power good the reset is released, the straps are sampled, the counter C
starts at 0 and the module is in INIT; the firmware bank that PREF names, or the other while a trial is pending, runs
where its signature verifies and its programming is not broken off, else the other bank, with a fault, and with
neither the module stays in INIT; programming done is verified and reported; a sound INIT ends in STANDBY_COLD with
pairing on, in ARMED with the awn claimed without it. -/
def Obligations.StartupFollowsItsSteps : Prop :=
  (∀ t slot strap s, s.pwr.good = true → s.mode = .off → ∃ x, exec (.resetRelease t slot strap) s = .next x ∧ x.mode = .init
      ∧ x.cnt = 0 ∧ x.slotId = slot ∧ x.factory = strap ∧ x.pwr.boot = 1)
    ∧ (∀ t okA okB s first ok, s.mode = .init → s.pwr.boot = 1 → s.pwr.fillDone = true →
      first = (if s.pwr.trialPend then 1 - s.pwr.prefFlash else s.pwr.prefFlash) →
      ok = (fun b : Nat => (if b = 0 then okA else okB) && decide (s.pwr.broken ≠ some b)) →
      ∃ x, exec (.bootVerified t okA okB) s = .next x
        ∧ (ok first = true → x.pwr.runBank = first ∧ x.pwr.boot = if s.pwr.trialPend then 3 else 2)
        ∧ (ok first = false → ok (1 - first) = true → x.pwr.runBank = 1 - first ∧ x.pwr.boot = 2
          ∧ x.flt.logged ≠ s.flt.logged)
        ∧ (ok first = false → ok (1 - first) = false → x.pwr.boot = 4 ∧ x.mode = .init ∧ x.flt.logged ≠ s.flt.logged))
    ∧ (∀ t ok s, s.pwr.progBusy = true → s.pwr.runBank = 0 → ∃ x, exec (.programmingDone t ok) s = .next x
      ∧ x.pwr = { s.pwr with progBusy := false, validB := ok, broken := if ok then none else s.pwr.broken } ∧ x.rf .pwrFwstat 16 16 = (if ok then 0 else statusCode .check)
      ∧ { x with regs := s.regs, pwr := s.pwr } = s.begin t)
    ∧ (∀ t ok s, s.pwr.progBusy = true → s.pwr.runBank = 1 → ∃ x, exec (.programmingDone t ok) s = .next x
      ∧ x.pwr = { s.pwr with progBusy := false, validA := ok, broken := if ok then none else s.pwr.broken } ∧ x.rf .pwrFwstat 16 16 = (if ok then 0 else statusCode .check)
      ∧ { x with regs := s.regs, pwr := s.pwr } = s.begin t)
    ∧ (∀ t s, s.mode = .init → s.pwr.boot = 2 ∨ s.pwr.boot = 3 → s.bistFailed = false → s.pwr.cfgOk = true →
      s.bst.running = false → s.rb .redCtrl 0 = true → ∃ x, exec (.initEnd t) s = .next x ∧ x.mode = .standbyCold
        ∧ x.rb .mbxCtrl 0 = true)
    ∧ (∀ t s, s.mode = .init → s.pwr.boot = 2 ∨ s.pwr.boot = 3 → s.bistFailed = false → s.pwr.cfgOk = true →
      s.bst.running = false → s.rb .redCtrl 0 = false → s.nextEpoch < 2 ^ 32 → ∃ x, exec (.initEnd t) s = .next x
        ∧ x.mode = .armed ∧ x.awn = true ∧ x.rb .mbxCtrl 0 = true)

/-- Firmware control and the clock writes (R309-R311, R349, R470, R471): TRIAL, COMMIT and PROG act on the flash; N
and the enable of the station PLL act on its lock; an event of the PLL gates or releases its outputs. -/
def Obligations.ClockAndFirmwareCommandsTakeEffect : Prop :=
  (∀ t m v s b, b = s.begin t → s.writes t m (regAddr .pwrFwctrl) v ⟨.pwrFwctrl, 0, 0⟩ → v.getLsbD 1 = true →
      v.getLsbD 2 = false → v.getLsbD 3 = false →
      exec (.trial t m v) s = .next (wrote m (regAddr .pwrFwctrl) ⟨.pwrFwctrl, 0, 0⟩
        ({ b with pwr := { s.pwr with prefFlash := v.toNat % 2, trialPend := true } }, .ok)))
    ∧ (∀ t m v s b, b = s.begin t → s.writes t m (regAddr .pwrFwctrl) v ⟨.pwrFwctrl, 0, 0⟩ → v.getLsbD 1 = false →
      v.getLsbD 2 = true → v.getLsbD 3 = false →
      exec (.commit t m v) s = .next (wrote m (regAddr .pwrFwctrl) ⟨.pwrFwctrl, 0, 0⟩
        ({ b with pwr := { s.pwr with prefFlash := s.pwr.runBank, trialActive := false } }, .ok)))
    ∧ (∀ t m v s b, b = s.begin t → s.writes t m (regAddr .pwrFwctrl) v ⟨.pwrFwctrl, 0, 0⟩ → v.getLsbD 1 = false →
      v.getLsbD 2 = false → v.getLsbD 3 = true →
      exec (.prog t m v) s = .next (wrote m (regAddr .pwrFwctrl) ⟨.pwrFwctrl, 0, 0⟩
        (startProg { b with pwr := { s.pwr with prefFlash := v.toNat % 2 } })))
    ∧ (∀ t m v s b, b = s.begin t → s.writes t m (regAddr .clkNfrac) v ⟨.clkNfrac, 0, 0⟩ →
      exec (.nApply t m v) s = .next (wrote m (regAddr .clkNfrac) ⟨.clkNfrac, 0, 0⟩
        (applyN (storeReg ⟨.clkNfrac, 0, 0⟩ v b), .ok)))
    ∧ (∀ c t m v s b y z, c = .trial t m v ∨ c = .commit t m v ∨ c = .prog t m v → b = s.begin t →
      s.writes t m (regAddr .pwrFwctrl) v ⟨.pwrFwctrl, 0, 0⟩ →
      y = { b with pwr := { s.pwr with prefFlash := v.toNat % 2, trialPend := s.pwr.trialPend || v.getLsbD 1 } } →
      z = (if v.getLsbD 2 then { y with pwr := { y.pwr with prefFlash := s.pwr.runBank, trialActive := false } } else y) →
      exec c s = .next (wrote m (regAddr .pwrFwctrl) ⟨.pwrFwctrl, 0, 0⟩ (if v.getLsbD 3 then startProg z else (z, .ok))))
    ∧ (∀ t m v s b, b = s.begin t → s.writes t m (regAddr .clkCtrl) v ⟨.clkCtrl, 0, 0⟩ →
      exec (.spllEnable t m v) s = .next (wrote m (regAddr .clkCtrl) ⟨.clkCtrl, 0, 0⟩
        ((storeReg ⟨.clkCtrl, 0, 0⟩ v b).when (v.getLsbD 0 != s.rb .clkCtrl 0
          || (s.rb .clkCtrl 0 && decide (field v 1 2 ≠ s.rf .clkCtrl 1 2))) gateOff, .ok)))
    ∧ (∀ t s, s.mode ≠ .off → s.rb .clkStat 1 = false → exec (.syspllLoss t) s = .next (fault 0x0710 .l3
      ((List.range 128).foldl (fun s l => s.when (s.linkUp l) (fun s => s.put (.dark l)))
        ((((s.begin t).rsb .clkStat 0 false).rsb .clkStat 1 true).rsb .clkEvt 0 true))))
    ∧ (∀ t s, s.rb .clkCtrl 0 = true → s.clk.locking = true → s.bandFor s.clk.nApplied = none →
      exec (.stationPllLock t) s = .next (fault 0x0713 .l1
        (({ s.begin t with clk := { s.clk with locking := false } } : State).rsb .clkEvt 5 true)))
    ∧ (∀ t s k, s.rb .clkCtrl 0 = true → s.clk.locking = true → s.bandFor s.clk.nApplied = some k →
      ∃ x, exec (.stationPllLock t) s = .next x ∧ x.rb .clkStat 2 = true ∧ x.rf .clkStat 6 6 = k % 64 ∧ x.rb .clkEvt 4 = true
        ∧ x.clk.lockFreq = s.clk.nApplied ∧ x.clk.settledFrom = max s.now t ∧ { x with regs := s.regs, clk := s.clk } = s.begin t)
    ∧ (∀ t s, s.rb .clkStat 2 = true → s.rb .clkStat 3 = true →
      s.clk.settledFrom + 64 * (if s.rf .clkCtrl 1 2 = 1 then 400000000 else 40) ≤ max s.now t →
      exec (.outputRelease t) s = .next (((List.range 4).foldl (fun (x : State) c => x.when (x.rb .clkOut 15 c) (startOut c))
        { (s.begin t).rsb .clkStat 3 false with clk := { s.clk with released := true } }).put (.clkGate false)))
    ∧ (∀ t s, s.rb .clkStat 2 = true →
      exec (.spllUnlock t) s = .next (fault 0x0711 .l1 ((gateOff (s.begin t)).rsb .clkEvt 1 true)))
    ∧ (∀ t s, s.rb .clkCtrl 0 = true → s.rf .clkCtrl 1 2 ≠ 1 → exec (.refLoss t) s = .next (fault 0x0712 .l1
      ((gateOff { s.begin t with clk := { s.clk with ref := some false } }).rsb .clkEvt 2 true)))
    ∧ (∀ t s, s.rb .clkCtrl 0 = false ∨ s.rf .clkCtrl 1 2 = 1 →
      exec (.refLoss t) s = .next { s.begin t with clk := { s.clk with ref := some false } })

/-! ### Station time -/

/-- A switch of the selected domain never moves S: at its instant Δ takes up the difference (R299). A switch whose
difference Δ cannot hold is not made (the model's choice, beside R291: log 113). A correction of the domain in use is
absorbed into Δ, so S does not move (R301), however large it is; one that Δ cannot take within 1 s is not made. -/
def Obligations.StationTimeDoesNotJump : Prop :=
  (∀ (d : Nat) (s : State), (switchTo d s).st = s.st ∧ (switchTo d s).now = s.now
      ∧ (s.tim.sel ≠ d → (s.dmn d).st ≠ 5 → (s.tim.isSet = true → clampDelta (s.st - s.dom d) = s.st - s.dom d) →
        (switchTo d s).tim.sel = d
        ∧ (s.tim.isSet = true → (switchTo d s).tim.delta = s.st - s.domAt d s.cnt)))
    ∧   (∀ (d : Nat) (s : State), d < 2 → s.inUse d = true →
      (∀ e : Int, (s.deltaAt s.cnt - e).natAbs ≤ 400000000 * 65536 →
        -(2 ^ 63 * 65536) ≤ s.ofs d + e → s.ofs d + e < 2 ^ 63 * 65536 → (correct d e s).st = s.st)
        ∧ ∀ e : Int, 400000000 * 65536 < (s.deltaAt s.cnt - e).natAbs → (correct d e s).st = s.st)

/-- Station time's forms (R293, R294): a wire time with its nanoseconds and fraction in range is the tick count of its
seconds and nanoseconds, converted back to the same time within 2^-16 ns; short time is the low 32 bits of the ticks,
and the difference of two short times is the true one while it lies within ±(2^31 − 1) ticks. -/
def Obligations.TimeFormsConvert : Prop :=
  (∀ sec ns : Nat, ns < 1000000000 → 2 * ns % 5 = 0 → ofWire sec ns 0 = ((sec * 400000000 + ns * 2 / 5 : Nat) : Int) * 65536
      ∧ wireOf (ofWire sec ns 0) = (sec, ns, 0))
    ∧ (∀ sec ns frac : Nat, ns < 1000000000 → frac < 65536 →
      5 * (ofWire sec ns frac - sec * 400000000 * 65536) - 2 * (ns * 65536 + frac) ≤ 2
        ∧ -2 ≤ 5 * (ofWire sec ns frac - sec * 400000000 * 65536) - 2 * (ns * 65536 + frac))
    ∧ (∀ s : State, s.short.toNat = s.ticks % 2 ^ 32)
    ∧ ∀ x y : Int, -(2 ^ 31) < x - y → x - y < 2 ^ 31 → shortDiff (wordOf x) (wordOf y) = x - y

/-- Time protocol rows (R295-R297): a Sync of the chosen master measures the offset, at once or with its Follow_Up; an
Announce is heard by each enabled domain of its port and number; a Pdelay_Req is answered with both stamps; a
Pdelay_Resp gives the mean path delay. -/
def Obligations.TimeMessagesTakeEffect : Prop :=
  (∀ t d s (m : PtpSync) f z, z = dropMasters d (s.begin t) → d < 2 → (z.dmn d).best = some f → f.ident = m.src →
      2 ≤ (z.dmn d).st → -4 ≤ m.logInt → m.logInt ≤ 0 → m.twoStep = true → ∃ x, exec (.syncMsg t d m) s = .next x
        ∧ (x.dmn d).pend = some (m.seq, m.rx) ∧ (x.dmn d).lastSync = max s.now t ∧ x.rb .timDStat 3 d = true)
    ∧ (∀ t d s (m : PtpSync) f z y, z = dropMasters d (s.begin t) → d < 2 → (z.dmn d).best = some f → f.ident = m.src →
      2 ≤ (z.dmn d).st → -4 ≤ m.logInt → m.logInt ≤ 0 → m.twoStep = false →
      y = (z.setDmn d { z.dmn d with lastSync := z.now, interval := 400000000 / 2 ^ m.logInt.natAbs, pend := none }).rsb
        .timDStat 3 false d → exec (.syncMsg t d m) s = .next (offsetOf d (y.offsetAt d m.rx m.origin) y))
    ∧ (∀ t d seq origin rx s b, b = s.begin t → d < 2 → (s.dmn d).pend = some (seq, rx) →
      exec (.followUp t d seq origin) s
        = .next (offsetOf d (b.offsetAt d rx origin) (b.setDmn d { s.dmn d with pend := none })))
    ∧ (∀ t p (a : PtpAnnounce) s d, d < 2 → s.rb .timDCfg 0 d = true → s.domPort d = p → s.rf .timDCfg 4 8 d = a.domnum →
      (s.dmn d).st ≠ 0 → ∃ x, exec (.announce t p a) s = .next x
        ∧ ∃ f ∈ (x.dmn d).masters, f.ident = a.src ∧ f.gm = a.gm ∧ f.last = max s.now t)
    ∧ (∀ t p seq rx s, s.mode ≠ .off → exec (.pdelayReq t p seq rx) s = .next ((s.begin t).put
      (.pdelayResp p seq (rx + divNearest (2 * Config.ptpCal p) 5)
        ((((s.begin t).cnt * 65536 : Nat) : Int) + divNearest (2 * Config.ptpCal p) 5))))
    ∧ (∀ t p t1 t2 t3 t4 s, ∃ x, exec (.pdelayResp t p t1 t2 t3 t4) s = .next x
      ∧ Tab.get (fun _ => 0) x.tim.mpd p = divNearest (5 * ((t4 - t1) - (t3 - t2))) 4
      ∧ ∀ d < 2, s.domPort d = p → x.rg .timDMpd d = wordOf (divNearest (divNearest (5 * ((t4 - t1) - (t3 - t2))) 4) 4096))

/-- Station time's events (R297-R307, R310): a lost Sync puts a LOCKED domain in HOLDOVER; the preferred domain takes
over again after its delay; a long holdover and a long difference of the pair raise their faults once; S is set at the
first lock with the loop engine stopped, and stepped at a frame boundary; PPS edges are stamped, missed and made. -/
def Obligations.TimeEventsTakeEffect : Prop :=
  (∀ t d s z, z = dropMasters d (s.begin t) → d < 2 → (z.dmn d).st = 3 →
      (z.dmn d).lastSync + 3 * (z.dmn d).interval ≤ z.now ∨ (z.dmn d).best = none → exec (.syncTimeout t d) s
        = .next (reselect (changeRate d ((z.dmn d).meanRate (z.rate d)) (setDomState d 4 z))))
    ∧ (∀ t s b, b = s.begin t → s.rb .timCtrl 1 = true → s.rb .timCtrl 2 = true → s.tim.sel = 1 → s.tim.d0.st = 3 →
      s.tim.d0.lockedAt + s.rf .timCtrl 8 8 * 400000000 ≤ b.now → exec (.revert t) s = .next (switchTo 0 b)
        ∧ (clampDelta (b.st - b.dom 0) = b.st - b.dom 0 → (switchTo 0 b).tim.sel = 0))
    ∧ (∀ t s d b, b = s.begin t → d = s.tim.sel → s.tim.holdover = true → (s.dmn d).hoRaised = false →
      (s.dmn d).hoStart + s.rf .timDCfg 16 8 d * 24000000000 ≤ b.now → exec (.holdoverLimit t) s
        = .next (fault 0x0610 .l1 ((b.setDmn d { s.dmn d with hoRaised := true }).rsb .timEvt 7 true) d))
    ∧ (∀ t s, s.tim.initPend = true → s.tim.isSet = false → s.running = false → (s.begin t).onGrid s.framePeriod = true →
      ∃ x, exec (.timeSet t) s = .next x ∧ x.tim.isSet = true ∧ x.tim.delta = 0 ∧ x.rb .timEvt 4 = true ∧ x.st = x.dom x.tim.sel)
    ∧ (∀ s, s.tim.steps ≠ [] → (s.begin s.now).onGrid s.framePeriod = true →
      exec .timeStep s = .next (applySteps (s.begin s.now)) ∧ (applySteps (s.begin s.now)).tim.steps = [])
    ∧ (∀ t s, ∃ x, exec (.ppsInEdge t) s = .next x ∧ x.rg .timPpsin = (s.begin t).short ∧ x.tim.lastPps = some (max s.now t)
      ∧ x.tim.ppsLost = false ∧ x.clk.ppsOk = true ∧ { x with regs := s.regs, tim := s.tim, clk := s.clk } = s.begin t)
    ∧ (∀ t s e z, s.tim.lastPps = some e → s.tim.ppsLost = false → e + 440000000 ≤ max s.now t →
      z = (timeEvent 6 0 { s.begin t with
        tim := { s.tim with ppsLost := true }, clk := { s.clk with ppsOk := false } }).rsb .clkEvt 3 true →
      exec (.ppsinLoss t) s = .next (if z.rb .clkCtrl 0 = true ∧ z.rf .clkCtrl 1 2 = 1
        then fault 0x0712 .l1 ((gateOff z).rsb .clkEvt 2 true) else z))
    ∧ (∀ t s z, z = ppsFall (s.begin t) → z.ppsOn = true → (z.ticks / 400000000).toNat ≠ z.tim.ppsSec →
      exec (.ppsOut t) s = .next (({ z with tim := { z.tim with
        ppsSec := (z.ticks / 400000000).toNat, ppsHigh := some (z.now + s.rf .timPpsout 8 8 * 400000) } } : State).put (.pps true)))
    ∧ (∀ s e, s.tim.ppsHigh = some e → e ≤ s.now ∨ s.ppsOn = false →
      ppsFall s = ({ s with tim := { s.tim with ppsHigh := none } } : State).put (.pps false))
    ∧ (∀ t s a, s.tim.diffSince = some a → s.tim.follow = true → s.tim.pairRaised = false → a + 400000000 ≤ max s.now t →
      exec (.pairTime t) s = .next (fault 0x0612 .l1
        (({ s.begin t with tim := { s.tim with pairRaised := true } } : State).rsb .timEvt 9 true)))
    ∧ ∀ t m addr v s b d n, b = s.begin t → n = .timDOfsl ∨ n = .timDOfsh ∨ n = .timDOfsf → s.writes t m addr v ⟨n, d, 0⟩ →
      exec (.timOffsetWrite t m addr v) s = .next (wrote m addr ⟨n, d, 0⟩
        (correct d ((storeReg ⟨n, d, 0⟩ v b).ofs d - s.ofs d) b, .ok))

/-! ### Rings and resets -/

/-- Rings of PCIe and resets of paths and masters (R363, R374, R385, R428): the command ring's tail hands over its
slots, room in the reply ring lets waiting replies leave; PERST, a port's lost link and a core's reset reset their
path and master. -/
def Obligations.RingsAndResetsTakeEffect : Prop :=
  (∀ t m v slots s r z, (s.begin t).serves .pcie = true → r = writeReg m.toNat (regAddr .netCqtail) v (s.begin t) → r.2 = .ok →
      z = noteLink .pcie (r.1.put (.wrote .ok)) → exec (.cqTailWrite t m v slots) s = .next (settle (copySlots
        ((z.rf .netCqtail 0 10 + max 1 (z.rf .netCqsize 0 11) - z.rf .netCqhead 0 10 % max 1 (z.rf .netCqsize 0 11))
          % max 1 (z.rf .netCqsize 0 11)) slots z)))
    ∧ (∀ t m v s b, b = s.begin t → b.accepts m.toNat (regAddr .netRqhead) v ⟨.netRqhead, 0, 0⟩ →
      exec (.replyRingRoom t m v) s = .next (wrote m (regAddr .netRqhead) ⟨.netRqhead, 0, 0⟩
        (drainReplies s.ringWait (storeReg ⟨.netRqhead, 0, 0⟩ v b), .ok)))
    ∧ (∀ t s, exec (.pcieReset t) s = .next (pathReset 0 (resetMaster 7 ((s.begin t).rsf .netStat 3 5 0)))
      ∧ (pathReset 0 (resetMaster 7 ((s.begin t).rsf .netStat 3 5 0))).path 0 = PathSt.empty)
    ∧ (∀ t p s, p < 3 → exec (.portLinkDown t p) s
      = .next (pathReset (p + 1) (resetMaster (p + 8) ((s.begin t).rsb .netStat p false))))
    ∧ (∀ t m s, s.mode ≠ .off → m.toNat ≤ 6 → s.hasMaster m.toNat = true → exec (.coreReset t m none) s = .next (resetMaster m.toNat (s.begin t)))
    ∧ (∀ t m s a w b z, b = s.begin t → s.mode ≠ .off → m.toNat ≤ 6 → s.hasMaster m.toNat = true → w = a / 8 →
      z = logUe 0 2 (s.mark false w).poison (s.mark false w).syn (some m.toNat) (w * 8) 2 .l2 2 (0x10000000 + a) b →
      exec (.coreReset t m (some a)) s = .next (resetMaster m.toNat
        ((List.range 128).foldl (fun s k => setMark false (w / 128 * 128 + k) Mark.clean s) z)))

/-! ### Measurement and recorder -/

/-- The metering converter (R261-R267): an accepted zero crossing is stamped and starts a boundary; 25 ms without one
enter timer mode, which makes a boundary every 20 ms; a conversion is delivered when its rundown has ended; sequence,
injected conversion and calibration are asked for by their registers. -/
def Obligations.MeteringRowsTakeEffect : Prop :=
  (∀ t s b x, b = s.begin t → s.mode ≠ .off → s.mad.lastX = some x → x + s.rf .madSync 8 8 * 400000 ≤ b.now →
      exec (.syncCrossing t) s = .next (madBoundary false ({ (b.rs .madPeriod (BitVec.ofNat 32 (min 0xFFFFFF ((b.now - x) / 40)))).rs
        .madLastsync b.short with mad := { s.mad with lastX := some b.now, timer := false } })))
    ∧ (∀ t s b, b = s.begin t → s.mode ≠ .off → s.mad.lastX = none → exec (.syncCrossing t) s = .next (madBoundary false
      ({ b.rs .madLastsync b.short with mad := { s.mad with lastX := some b.now, timer := false } })))
    ∧ (∀ t s x, s.mad.lastX = some x → max s.now t < x + s.rf .madSync 8 8 * 400000 →
      exec (.syncCrossing t) s = .next (s.begin t))
    ∧ (∀ t s b, b = s.begin t → s.mode ≠ .off → s.mad.timer = false → s.mad.lastB + 10000000 ≤ b.now →
      exec (.timerMode t) s = .next (fault 0x0590 .l0 (madBoundary true
        (({ b with mad := { s.mad with timer := true } } : State).rsb .madEvt 3 true))))
    ∧ (∀ t s, s.mode ≠ .off → s.mad.timer = true → s.mad.lastB + 8000000 ≤ max s.now t →
      exec (.timerTick t) s = .next (madBoundary true (s.begin t)))
    ∧ (∀ t raw exc s b c e, b = s.begin t → s.mad.await = none → s.mad.conv = some c → c.rundown = some e → e ≤ b.now →
      exec (.conversionResult t raw exc) s = .next (deliverConv c raw exc { b with mad := { s.mad with conv := none } }))
    ∧ (∀ t raw exc s b c, b = s.begin t → s.mad.await = some c →
      exec (.conversionResult t raw exc) s = .next (deliverConv c raw exc { b with mad := { s.mad with await := none } }))
    ∧ (∀ c raw s, c.src = 0 →
      (deliverConv c raw none s).mres c.ch = mresOf c (s.madValue c.gain raw) false (s.mres c.ch).count)
    ∧ (∀ c raw s, c.src = 1 →
      (deliverConv c raw none s).mad.injRes = mresOf c (s.madValue c.gain raw) false s.mad.injRes.count
        ∧ (deliverConv c raw none s).rb .madEvt 1 = true)
    ∧ (∀ c up s, c.src = 0 → ((deliverConv c 0 (some up) s).mres c.ch).value = (if up then 2097151 else -2097151)
      ∧ (deliverConv c 0 (some up) s).rb .madEvt 4 = true)
    ∧ (∀ t m v s b, b = s.begin t → s.writes t m (regAddr .madCtrl) v ⟨.madCtrl, 0, 0⟩ → v.getLsbD 0 = true →
      s.rb .madCtrl 0 = false → exec (.sequenceStart t m v) s = .next (wrote m (regAddr .madCtrl) ⟨.madCtrl, 0, 0⟩
        ({ storeReg ⟨.madCtrl, 0, 0⟩ v b with mad := { s.mad with pos := 0 } }, .ok)))
    ∧ (∀ t m v s b, b = s.begin t → s.writes t m (regAddr .madCtrl) v ⟨.madCtrl, 0, 0⟩ → v.getLsbD 0 = false →
      s.rb .madCtrl 0 = true → exec (.sequenceStop t m v) s
        = .next (wrote m (regAddr .madCtrl) ⟨.madCtrl, 0, 0⟩ ({ storeReg ⟨.madCtrl, 0, 0⟩ v b with
          mad := { s.mad with conv := if s.mad.conv.any (fun c => decide (c.src = 0)) then none else s.mad.conv } }, .ok)))
    ∧ (∀ t m v s b, b = s.begin t → s.writes t m (regAddr .madInj) v ⟨.madInj, 0, 0⟩ → v.getLsbD 31 = true →
      exec (.injectedRequest t m v) s = .next (wrote m (regAddr .madInj) ⟨.madInj, 0, 0⟩
        ({ storeReg ⟨.madInj, 0, 0⟩ v b with
          mad := { s.mad with inj := some (v.toNat % 16, v.toNat / 16 % 4, v.toNat / 256 % 16 + 1) } }, .ok)))
    ∧ (∀ t m v s b, b = s.begin t → s.writes t m (regAddr .madCalreq) v ⟨.madCalreq, 0, 0⟩ → v.getLsbD 31 = true →
      exec (.calibrationRequest t m v) s = .next (wrote m (regAddr .madCalreq) ⟨.madCalreq, 0, 0⟩
        ({ storeReg ⟨.madCalreq, 0, 0⟩ v b with mad := { s.mad with
            cal := (List.range 3).filter (fun g => v.getLsbD g), calN := v.toNat / 256 % 16 + 1, calPend := true
            calZero := none } }, .ok)))

/-- The filter chain (R245-R254): started channels begin at the next boundary of their grid, samples pass through
their channel, stopped ones lose their state; an input that stands still is marked and raises its fault until it moves
for 1 ms. -/
def Obligations.FilterRowsTakeEffect : Prop :=
  (∀ s, exec .filterStart s = .next (startPending (s.begin s.now)))
    ∧ (∀ t bits s, exec (.privSampleSet t bits) s = .next (privSet bits (s.begin t)))
    ∧ (∀ t n bits s, exec (.normalSample t n bits) s = .next (normalSample n bits (s.begin t)))
    ∧ (∀ t i s b, b = s.begin t → i < 24 → (s.inp i).stuck = false → s.mode ≠ .off →
      (∀ l : Int, (s.inp i).lastT = some l → l + ((s.rf .filCtrl 0 8 * 20 : Nat) : Int) ≤ b.ticks) → exec (.inputStuck t i) s
      = .next (stuckFault i ((b.setInp i { s.inp i with stuck := true, since := b.ticks }).rsb .filInevt i true)))
    ∧ (∀ t i s b z, b = s.begin t → z = b.when (decide ((s.inp i).since < b.ticks - 400000)) (transition i (b.ticks - 400000)) →
      i < 24 → (z.inp i).stuck = false → (z.inp i).okFrom ≤ b.ticks - 400000 →
      exec (.inputRecovered t i) s = .next (z.setInp i { z.inp i with muted := false }))
    ∧ (∀ t m v s, s.writes t m (regAddr .filNrun) v ⟨.filNrun, 0, 0⟩ → ∃ x,
      exec (.channelStart t m v) s = .next (wrote m (regAddr .filNrun) ⟨.filNrun, 0, 0⟩ (x, .ok))
        ∧ (∀ n < 18, (v.getLsbD n = true → s.nRuns n = false → (x.nch n).pend = some (max s.now t))
          ∧ (v.getLsbD n = s.nRuns n → x.nch n = s.nch n)) ∧ { x with regs := s.regs, fil := s.fil } = s.begin t)
    ∧ (∀ t m v s, s.writes t m (regAddr .filNrun) v ⟨.filNrun, 0, 0⟩ → ∃ x,
      exec (.channelStop t m v) s = .next (wrote m (regAddr .filNrun) ⟨.filNrun, 0, 0⟩ (x, .ok))
        ∧ (∀ n < 18, v.getLsbD n = false → s.nRuns n = true → x.nch n = { NChan.init with last := (s.nch n).last }) ∧ { x with regs := s.regs, fil := s.fil } = s.begin t)
    ∧ (∀ t m v s b, b = s.begin t → s.writes t m (regAddr .filPctrl) v ⟨.filPctrl, 0, 0⟩ → v.getLsbD 0 = true →
      s.pRuns = false → exec (.privEngineStart t m v) s = .next (wrote m (regAddr .filPctrl) ⟨.filPctrl, 0, 0⟩
        ((storeReg ⟨.filPctrl, 0, 0⟩ v b).setEng { s.fil.eng with pend := some b.now }, .ok)))
    ∧ (∀ t m v s z, z = privRec (storeReg ⟨.filPctrl, 0, 0⟩ v (s.begin t)) → s.writes t m (regAddr .filPctrl) v ⟨.filPctrl, 0, 0⟩ →
      v.getLsbD 0 = false → s.pRuns = true → exec (.privEngineStop t m v) s = .next (wrote m (regAddr .filPctrl)
        ⟨.filPctrl, 0, 0⟩ (z.setEng { PEng.init with last := z.fil.eng.last }, .ok)))

/-- The recorder (R276-R289): a full or old unit is closed; the host copy moves closed units on; a gap and a time
record are placed when they are due; an edge of a trigger input, the cross trigger, the hold-off and the output pulses
act on their trigger unit; REC_HRD takes the host's word. A crossing needs a primed unit and a level between the last
usable sample and this one (R285). -/
def Obligations.RecorderRowsTakeEffect : Prop :=
  ((∀ t s a, s.rcd.curAt = some a → (s.rcd.curLen = 4096 ∨ a + 400000 ≤ max s.now t) →
        exec (.unitClose t) s = .next (closeUnit (s.begin t)))
      ∧ (∀ t ue s b, b = s.begin t → s.rcd.closed = [] → s.streaming = false → b.hostRoom s.rcd.ueOffs.length = true →
        exec (.hostCopy t ue) s = .next (sendGaps s.rcd.sentTo b))
      ∧ (∀ t s b g z u rest, b = s.begin t → s.rcd.closed = u :: rest → b.hostRoom (s.rcd.ueOffs.length + 1) = true →
        g = sendGaps ((u.recs.map recStamp).headD s.rcd.sentTo) b →
        z = sendUnit u.recs u.off { g with rcd := { g.rcd with closed := rest } } → exec (.hostCopy t false) s
          = .next { z with rcd := { z.rcd with sentTo := (u.recs.map recStamp).getLast?.getD z.rcd.sentTo } })
      ∧ (∀ t s b z u rest, b = s.begin t → s.rcd.closed = u :: rest → z = logUe (if s.hasDram then 2 else 3) 3 false
          (Config.syndrome 3) none u.off 3 .l1 3 u.off (b.rsb .recEvt 3 true) → exec (.hostCopy t true) s
          = .next { z with rcd := { z.rcd with closed := rest, ueOffs := z.rcd.ueOffs ++ [u.off] } })
      ∧ (∀ t s b r, b = s.begin t → r = s.rcd → r.loss = true → s.ringUsed + 4194304 ≤ s.ringBytes - 65536 →
        exec (.gap t) s = .next ((List.range 6).foldl (fun s g => s.rsat .recGaptot 0 32 (r.lost.getD g 0) g)
          ((placeRec (gapRec false r.lostFrom r.lostTo r.lost)
            { b with rcd := { r with loss := false, lost := List.replicate 6 0 } }).rsb .recEvt 0 true)))
      ∧ (∀ t s b z, b = s.begin t → s.streaming = true → s.rcd.lastTime + 400000 ≤ b.now →
        z = timeRec false { b with rcd := { s.rcd with lastTime := b.now } } → exec (.timeRecord t) s
          = .next (if z.rcd.live = (z.rf .recCtrl 4 5, z.rf .recNmask 0 18, z.rf .recCellcfg 0 6) then z else contentRec z))
      ∧ (∀ t n rising s b, b = s.begin t → n < 4 → exec (.trigInEdge t n rising) s = .next (fireUnits (edgeMarks (0x20 + n)
        (fun d => decide (d = 2) || decide (d = if rising then 0 else 1)) (b.st - 20 * 65536) 0 b) b))
      ∧ (∀ t s b, b = s.begin t → exec (.xtrigAssert t) s
        = .next (fireUnits (edgeMarks 0x24 (fun _ => true) (b.st - 20 * 65536) 0 b) b))
      ∧ (∀ t u s h, (s.trg u).hold = some h → h ≤ max s.now t →
        exec (.holdOffEnd t u) s = .next ((s.begin t).setTrg u { s.trg u with hold := none }))
      ∧ (∀ t o s e z, s.rcd.pulse.getD o none = some e → e ≤ max s.now t →
        z = { s.begin t with rcd := { s.rcd with pulse := s.rcd.pulse.set o none } } →
        exec (.pulseEnd t o) s = .next (if o = 0 ∧ s.flt.tripTo = true then z else z.put (.trigOut o false)))
      ∧ (∀ t m v s b, b = s.begin t → s.writes t m (regAddr .recHrd) v ⟨.recHrd, 0, 0⟩ → exec (.hrdWrite t m v) s
        = .next (wrote m (regAddr .recHrd) ⟨.recHrd, 0, 0⟩ (storeReg ⟨.recHrd, 0, 0⟩ v b, .ok))))
    ∧   (∀ (u : Nat) (x x1 : Int) (t1 t2 : Word) (s : State), (s.trg u).prev = some (x1, t1) →
      ((crossing u x t2 s).isSome = true ↔
        (s.rf .recTucfg 6 2 u ≠ 1 ∧ (s.trg u).low = true ∧ x1 < (s.rg .recTulevel u).toInt ∧ (s.rg .recTulevel u).toInt ≤ x)
          ∨ (s.rf .recTucfg 6 2 u ≠ 0 ∧ (s.trg u).high = true ∧ (s.rg .recTulevel u).toInt < x1
            ∧ x ≤ (s.rg .recTulevel u).toInt)))

/-- A trigger unit's crossing between two samples (R286): K is the whole 1/256 part of the step at which the level
lies, 0 to 255, the mark's time lies K/256 of the way from the earlier stamp to the later, and INTERP is 1. -/
def Obligations.CrossingTimeIsInterpolated : Prop :=
  ∀ (u : Nat) (x x1 : Int) (t1 t2 : Word) (s : State) (m : MarkInfo), (s.trg u).prev = some (x1, t1) →
    crossing u x t2 s = some m → m.interp = true ∧ m.k ≤ 255
      ∧ (m.k : Int) * (x - x1).natAbs ≤ 256 * ((s.rg .recTulevel u).toInt - x1).natAbs
      ∧ (256 * ((s.rg .recTulevel u).toInt - x1).natAbs < ((m.k : Int) + 1) * (x - x1).natAbs ∨ m.k = 255)
      ∧ m.time * 256 = (s.ticks - shortDiff s.short t1) * 65536 * 256 + m.k * (shortDiff t2 t1 * 65536)

/-! ### Sheaves -/

/-- R347: a sheaf that stays open and uncommitted for SHF_CTRL.OPEN_TO seconds is discarded and SHF_EVT.TIMEOUT is
set; later commands that name its handle answer BAD_PARAM. -/
def Obligations.OpenSheafTimesOut : Prop :=
  (∀ t n s x, s.sheaf n = some x → x.state = 1 → s.rf .shfCtrl 0 8 ≠ 0 →
      x.opened + s.rf .shfCtrl 0 8 * 400000000 ≤ max s.now t → ∃ z, exec (.sheafTimeout t n) s = .next z
        ∧ z.sheaf n = none ∧ (∀ k, k ≠ n → z.sheaf k = s.sheaf k) ∧ z.rb .shfEvt 4 = true
        ∧ { z with regs := s.regs, shf := s.shf } = s.begin t)
    ∧ (∀ t n s, s.rf .shfCtrl 0 8 = 0 → exec (.sheafTimeout t n) s = .next (s.begin t))
    ∧ (∀ t h s n es, s.takes t h (.sheafAdd n es) → s.sheaf n = none →
      ∃ z, exec (.sheafAdd t h n es) s = .next (answered h (.sheafAdd n es) .badParam 0 [] z))
    ∧ (∀ t h s n mode time, s.takes t h (.sheafCommit n mode time) → s.sheaf n = none →
      ∃ z, exec (.sheafCommit t h n mode time) s = .next (answered h (.sheafCommit n mode time) .badParam 0 [] z))
    ∧ ∀ t h s n, s.takes t h (.sheafDiscard n) → s.sheaf n = none →
      ∃ z, exec (.sheafDiscard t h n) s = .next (answered h (.sheafDiscard n) .badParam 0 [] z)

/-- A prepare that misses its deadline aborts its sheaf (R354); at its boundary, once the sheaves committed before it
for the same boundary have been applied, a ready sheaf whose rules still hold applies all its entries, in order,
rescales the controllers where the active bank is among them, changes bank and GDP set where it names one, and answers
OK with the boundary (R94, R355, R357). -/
def Obligations.SheafBoundariesTakeEffect : Prop :=
  (∀ t n s x b k, b = s.begin t → s.sheaf n = some x → x.state = 2 → (∀ d, x.due = some d → d - 16000 ≤ b.ticks) →
      (x.due = none → b.openLinks x = []) → k = 0x2000 + (b.openLinks x).headD ((x.links.map (fun p => p.1)).headD 0) →
      exec (.prepareDeadline t n) s = .next (abortSheaf n .aborted k b) ∧ (abortSheaf n .aborted k b).sheaf n = none)
    ∧ (∀ t n s x d b w y z, b = applyBefore n (s.begin t) → b.sheaf n = some x → x.state = 3 → x.due = some d → d ≤ b.ticks →
      b.sheafRules n x = none → w = x.es.foldl (applyEntry n x.owner) b →
      y = w.when (x.es.any (fun e => decide (e.kind = 2) && (regAt e.addr).any (fun r =>
        decide (r.name = .lenBank) && decide (r.i = b.len.reg.bank))) && w.running)
          (bankRewritten (fun j => b.bankNum b.len.reg.bank j)) →
      z = (applyBanks x.es y).when x.hasGdp (applySet x d) →
      exec (.sheafApply t n) s = .next (endSheaf n .ok 0 (leBytes 4 (wordOf d).toNat) z))
    ∧ (∀ t n s x d f b, b = applyBefore n (s.begin t) → b.sheaf n = some x → x.state = 3 → x.due = some d → d ≤ b.ticks →
      b.sheafRules n x = some f → exec (.sheafApply t n) s = .next (abortSheaf n f.1 f.2 b))
    ∧ (∀ n st detail data s, n < 8 → (endSheaf n st detail data s).sheaf n = none
      ∧ (endSheaf n st detail data s).rf .shfSres 0 16 n = statusCode st
      ∧ (endSheaf n st detail data s).rf .shfSres 16 16 n = detail % 65536)

/-! ### The loop engine -/

/-- Windows and banks (R71, R93): LEN_FB is stored and sets F_SET; opening and closing a coefficient bank is a write
of LEN_BANKCTL; fault injection starts from its registers (R455); a safety request is kept for the lanes (R403). Inner
cycles and limits (R31-R33, R64, R71-R99): a cycle runs the loop; an input that stays away ten times is stale and
raises INPUT_STALE; a limiting episode, its peak stage and its budget end and the stage is armed again when their
times have passed. Regions, energy and precharge (R88, R91, R109, R111): the dwell, the blend and the charge times
end; a deviation of an arm's energy for 100 ms raises ENERGY_DEVIATION once. -/
def Obligations.LoopRowsTakeEffect : Prop :=
  ((∀ t m v s b, b = s.begin t → s.writes t m (regAddr .lenBase 2) v ⟨.lenBase, 2, 0⟩ → ∃ x,
        exec (.lenFbWrite t m v) s = .next (wrote m (regAddr .lenBase 2) ⟨.lenBase, 2, 0⟩ (x, .ok))
          ∧ x.rg .lenBase 2 = b32Flush v ∧ x.rg .lenGlob 6 = b32Flush v ∧ { x with regs := s.regs } = b)
      ∧ (∀ t m v s b, b = s.begin t → s.writes t m (regAddr .lenBankctl) v ⟨.lenBankctl, 0, 0⟩ → v.getLsbD 4 = true →
        exec (.bankOpen t m v) s = .next (wrote m (regAddr .lenBankctl) ⟨.lenBankctl, 0, 0⟩ (storeReg ⟨.lenBankctl, 0, 0⟩ v b, .ok)))
      ∧ (∀ t m v s b, b = s.begin t → s.writes t m (regAddr .lenBankctl) v ⟨.lenBankctl, 0, 0⟩ → v.getLsbD 4 = false →
        exec (.bankClose t m v) s = .next (wrote m (regAddr .lenBankctl) ⟨.lenBankctl, 0, 0⟩ (storeReg ⟨.lenBankctl, 0, 0⟩ v b, .ok)))
      ∧ (∀ t m v s b, b = s.begin t → s.writes t m (regAddr .fltInjctrl) v ⟨.fltInjctrl, 0, 0⟩ → v.getLsbD 31 = true →
        exec (.injectionGo t m v) s
          = .next (wrote m (regAddr .fltInjctrl) ⟨.fltInjctrl, 0, 0⟩ (injectGo m.toNat (storeReg ⟨.fltInjctrl, 0, 0⟩ v b))))
      ∧ (∀ t m v s b, b = s.begin t → s.writes t m (regAddr .safCtrl) v ⟨.safCtrl, 0, 0⟩ → v.getLsbD 0 = true →
        exec (.sf1Req t m v) s = .next (wrote m (regAddr .safCtrl) ⟨.safCtrl, 0, 0⟩
          ({ b with saf := { s.saf with hostReq := true } }, .ok))))
    ∧   ((∀ t ue s b, b = s.begin t → b.launchDue = true → exec (.innerCycle t ue) s = .next (innerCycle ue b))
      ∧ (∀ t k s, s.running = true → k < 15 → 10 ≤ s.len.inp.miss.getD k 0 → s.len.inp.stale.getD k false = false →
        exec (.inputStale t k) s = .next (fault 0x0531 .l2 (({ s.begin t with len := { s.len with inp := { s.len.inp with
          stale := s.len.inp.stale.set k true } } } : State).rsb .lenEvt 3 true) k))
      ∧ (∀ t s z a b, z = budgetTick (s.begin t) → z.len.lim.start = some a → z.len.lim.below = some b → b + 8000000 ≤ z.now →
        ∃ x, exec (.episodeEnd t) s = .next x ∧ x.len.lim.start = none ∧ x.len.lim.active = false ∧ x.len.lim.peak = false
          ∧ x.len.lim.armed = (z.len.lim.armed && !z.len.lim.peak) ∧ x.len.lim.budget = z.len.lim.budget
        ∧ { x with len := s.len } = s.begin t)
      ∧ (∀ t s z a, z = budgetTick (s.begin t) → z.len.lim.start = some a → z.len.lim.peak = true →
        a + ((s.gl 12).mul (Num.ofInt 400000)).round.toNat ≤ z.now → ∃ x, exec (.peakStageEnd t) s = .next x
          ∧ x.len.lim.peak = false ∧ x.len.lim.armed = false ∧ x.len.lim.start = some a ∧ { x with len := s.len } = s.begin t)
      ∧ (∀ t s z a, z = budgetTick (s.begin t) → z.len.lim.start = some a → z.len.lim.budget = 0 → z.len.lim.spent = false →
        exec (.limitBudgetExhausted t) s = .next (fault 0x0522 .l1 { z with len := { z.len with lim := { z.len.lim with
          spent := true, peak := false, armed := z.len.lim.armed && !z.len.lim.peak } } }))
      ∧ (∀ t s z b, z = budgetTick (s.begin t) → z.len.lim.below = some b → b + 80000000 ≤ z.now →
        exec (.peakRearm t) s = .next { z with len := { z.len with lim := { z.len.lim with armed := true } } }))
    ∧   ((∀ t s, s.len.reg.dwell ≤ 1 → s.len.outerAt + 40000 ≤ max s.now t →
        exec (.dwellEnd t) s = .next { s.begin t with len := { s.len with reg := { s.len.reg with dwell := 0 } } })
      ∧ (∀ t s a, s.len.reg.blendAt = some a → a + s.len.reg.blendLen ≤ max s.now t →
        exec (.blendEnd t) s = .next { s.begin t with len := { s.len with reg := { s.len.reg with blendAt := none } } })
      ∧ (∀ t s a, s.mode = .run → some a ∈ s.len.ene.dev → a + 40000000 ≤ max s.now t → s.len.ene.devRaised = false →
        exec (.energyDeviation t) s = .next (fault 0x0441 .l1 (({ s.begin t with
          len := { s.len with ene := { s.len.ene with devRaised := true } } } : State).rsb .winEvt 4 true)))
      ∧ (∀ t s b a, b = s.begin t → s.win.readySince = some a → s.mode = .precharge → b.readyNow = true →
        a + s.rf .winReady 8 8 * 400000 ≤ b.now → exec (.energyReady t) s = .next { b with win := { s.win with ready := true } }))

/-- The moves of the converter's sub-modes (R36, R46-R58, R61): each is made at its instant under the conditions its
rule names, and leaves the state and the sub-mode that the rule gives. -/
def Obligations.SubModeMovesTakeEffect : Prop :=
  (∀ t ue s b, b = s.begin t → b.atOuter = true → exec (.outerBoundary t ue) s = .next (outerBoundary ue b))
    ∧ (∀ s z a, z = openBoundary (s.begin s.now) → (s.begin s.now).atOuter = true → z.mode = .precharge → z.undecided = true →
      z.asked opStop = false → z.len.run.estAt = some a → a + secTicks (num2.div z.fb) ≤ z.now →
      ∃ x, exec .deblock s = .next x ∧ x.mode = .run ∧ x.sub = .gf)
    ∧ (∀ s z h, z = openBoundary (s.begin s.now) → (s.begin s.now).atOuter = true → z.mode = .run → z.sub = .frt →
      z.undecided = true → z.len.run.stopReq = false → (z.red.takeReq = true → z.pairReady = true) → z.len.run.tieReq ≠ some false →
      z.len.frt.hold = some h → h + msTicks (z.prf z.len.frt.prof 6) < z.now → z.recovers z.len.frt.prof = true →
      z.now < z.len.frt.entered + secTicks (z.prf z.len.frt.prof 7) →
      ∃ x, exec .frtExit s = .next x ∧ x.mode = .run ∧ x.sub = .gf)
    ∧ (∀ s z, z = openBoundary (s.begin s.now) → (s.begin s.now).atOuter = true → z.mode = .run → z.sub = .frt →
      z.undecided = true → z.len.frt.entered + secTicks (z.prf z.len.frt.prof 7) ≤ z.now →
      (z.prfFlag z.len.frt.prof 3 = true → exec .frtTimeout s = .next (fault 0x0521 .l3 (noteMove z)))
        ∧ (z.prfFlag z.len.frt.prof 3 = false → z.len.run.stopReq = false → (z.red.takeReq = true → z.pairReady = true) →
          exec .frtTimeout s = .next (fault 0x0520 .l1 (overtake (toStopping z)))))
    ∧ (∀ s z a, z = openBoundary (s.begin s.now) → (s.begin s.now).atOuter = true → z.mode = .run → z.sub = .gf →
      z.undecided = true → z.len.run.stopReq = false → (z.red.takeReq = true → z.pairReady = true) → z.len.run.tieReq ≠ some false →
      z.rb .lenModecfg 1 = true → z.len.run.islSince = some a → a + secTicks (z.gl 16) ≤ z.now →
      exec .autoIslanding s = .next (overtake (toIsland z)))
    ∧ (∀ t s a, s.len.rs.ok = some a → s.len.rs.on = true → s.len.rs.paused = false → s.len.rs.permit = false →
      a + msTicks (s.gl 18) ≤ max s.now t → exec (.resyncPermitOn t) s
        = .next (emit 0 4 0 { s.begin t with len := { s.len with rs := { s.len.rs with permit := true } } }))
    ∧ (∀ t s z a, z = openBoundary (s.begin t) → (s.begin t).atOuter = true → z.mode = .run → z.sub = .island →
      z.undecided = true → z.len.run.stopReq = false → (z.red.takeReq = true → z.pairReady = true) → z.len.run.tieReq ≠ some true →
      z.len.rs.permit = true → z.len.rs.close = some a → a + 8000000 ≤ z.now →
      exec (.closureDetected t) s = .next (overtake (closeTie z)))
    ∧ (∀ t s, s.len.rs.on = true → s.len.rs.started + secTicks (s.gl 19) ≤ max s.now t →
      exec (.resyncTimeout t) s = .next (emit 0 6 0 (stopResync (s.begin t))))
    ∧ (∀ s z a, z = openBoundary (s.begin s.now) → (s.begin s.now).atOuter = true → z.mode = .run → z.sub = .blackstart →
      z.undecided = true → z.len.run.stopReq = false → (z.red.takeReq = true → z.pairReady = true) →
      z.len.run.bsPaused ≤ 2 * secTicks (z.gl 22) + 400000000 → z.len.run.bsOk = some a → a + 40000000 ≤ z.now →
      ∃ x, exec .blackstartDone s = .next x ∧ x.mode = .run ∧ x.sub = .gf ∧ x.rg .lenGlob 7 = z.rg .lenGlob 21)
    ∧ (∀ s z, z = openBoundary (s.begin s.now) → (s.begin s.now).atOuter = true → z.mode = .run → z.sub = .blackstart →
      z.undecided = true → z.len.run.stopReq = false → (z.red.takeReq = true → z.pairReady = true) →
      2 * secTicks (z.gl 22) + 400000000 < z.len.run.bsPaused →
      exec .blackstartFail s = .next (fault 0x0524 .l1 (overtake (toStopping z))))
    ∧ (∀ t s, s.mode = .stopping → s.len.run.stopEnd ≤ max s.now t → ∃ x, exec (.stopTimeout t) s = .next x ∧ x.mode = .armed
      ∧ ∀ a < 6, (x.arm a).deblocked = false)
    ∧ (∀ t s a, s.len.run.guardBack = some a → s.len.run.guard = true → a + 40000000 ≤ max s.now t →
      exec (.dcGuardEnd t) s = .next { s.begin t with len := { s.len with run := { s.len.run with
        guard := false, guardBack := none } } })

/-! ### Cells, frames and links -/

/-- Sorting, selection and rests (R112-R130, R165): a sort's mean is taken over its usable cells; the publication and
the load boundaries act at their instants; a silent cell is excluded; a cell that is due rests, at the latest when its
limit comes, and takes part again afterwards. Frame and protection rows (R133-R140, R218, R221-R227): the frame
boundary and a link's downlink frame do their work; an overcurrent of an arm on the awn holder marks that arm as
blocked and notes the operation with its instant; the block ends once the time to release has passed and the arm's
current was low for a whole frame; one that stays raises its fault once, and so does a bypass that is not confirmed.
-/
def Obligations.CellAndFrameRowsTakeEffect : Prop :=
  ((∀ t a s b v, b = s.begin t → b.sortDue a = true →
        v = (mean (((s.arm a).sortNext.filter (fun p => b.usable p.1)).map (fun p => kvOf p.2))).clear →
        exec (.sortComplete t a) s
          = .next ((b.setArm a { s.arm a with sort := (s.arm a).sortNext, vAvg := v }).rs .winVavg v.toB32 a))
      ∧ (∀ t s b, b = s.begin t → b.pubDue = true → exec (.publication t) s = .next (publish b))
      ∧ (∀ t a s b x n, b = s.begin t → x = (if a < 6 then Target.pwm a else if a < 12 then .fixed (a - 6) else .own (a - 12)) →
        b.nextLoad x = some n → n ≤ b.ticks → exec (.loadBoundary t a) s = .next (loadCarrier x n b))
      ∧ (∀ t i s, (s.begin t).cst i ≠ 0 → s.rf .winCtrl 0 8 ≤ (s.cell i).tel.stale → (s.cell i).tel.excl = false →
        exec (.staleExcl t i) s = .next (((s.begin t).setTel i { (s.cell i).tel with excl := true }).rsb .winEvt 2 true))
      ∧ (∀ t i s b o, b = s.begin t → b.bsOrigin i b.ticks = some o → b.isBs i = true → s.running = true →
        (s.cell i).prot.rest = none → b.tBsMax - b.restWin ≤ b.ticks - o →
        exec (.restDue t i) s = .next (b.setProt i { (s.cell i).prot with restDue := true }))
      ∧ (∀ t i s b o a d, b = s.begin t → a = b.armOf i → b.bsOrigin i b.winStart = some o → b.isBs i = true → s.running = true →
        b.usable i = true → (s.cell i).prot.rest = none → o + b.tBsMax < b.winStart + (b.framePeriod : Int) →
        d = decide (((b.usableOf a).filter (fun j => !(b.restsAt j b.winStart))).length
          < (b.arm a).n.natAbs + (if (b.arm a).pwm.isSome then 1 else 0) + 1) →
        exec (.forcedRest t i) s = .next (enterRest i ((startRest i b.winStart b).when d (noteDeficit a))))
      ∧ (∀ t i s b p w e, b = s.begin t → p = (s.cell i).prot → p.rest = some (w, e) → e ≤ b.ticks →
        exec (.restEnd t i) s = .next (b.setProt i { p with
          rest := none, st := if p.st = 5 then 4 else p.st, restCheck := some (secondBoundary e) }))
      ∧ (∀ t s, s.win.episode = true → s.win.lastDef + 40000000 ≤ max s.now t →
        exec (.deficitEpisodeEnd t) s = .next { s.begin t with win := { s.win with episode := false } })
      ∧ (∀ t i s b o, b = s.begin t → b.bsOrigin i b.ticks = some o → b.isBs i = true → s.bench = true →
        b.rb .winFixen (b.armOf i) = true → b.cst i = 4 → o + b.tBsMax ≤ b.ticks →
        exec (.fixedRest t i) s = .next ((b.setProt i { (s.cell i).prot with
          st := 5, rest := some (o + b.tBsMax, o + b.tBsMax + b.tRefresh), bsFrom := none
          offFrom := some (o + b.tBsMax) }).rsb .winEvt 3 true)))
    ∧   ((∀ t ue s b, b = s.begin t → b.atFrame = true → exec (.frameBoundary t ue) s = .next (frameBoundary ue b))
      ∧ (∀ t l ue s, exec (.downlinkFrame t l ue) s = .next (downlinkFrame l ue (s.begin t)))
      ∧ (∀ t a bits s b, b = s.begin t → s.awn = true → a < 6 → b.comparator a bits = true →
        exec (.armOvercurrent t a bits) s = .next (operate a (b.now - 300) b))
      ∧ (∀ a tc s x, x = operate a tc s → a < 6 → s.frameOf s.now ≤ s.frameOf tc →
        (x.arm a).oc = true ∧ (x.arm a).ocLast = tc ∧ x.win.ops = s.win.ops ++ [(a, s.frameOf tc)]
          ∧ x.rf .celLastoc 0 3 = a ∧ x.rg .celLastoct = s.shortOf tc)
      ∧ (∀ t a s, a < 6 → (s.arm a).oc = true → (s.arm a).ocLast + field s.win.occ 8 8 * 4000 ≤ max s.now t →
        (s.begin t).frameHigh.any (fun m => !(m.testBit a)) = true →
        exec (.armDeblock t a) s = .next ((s.begin t).setArm a { s.arm a with oc := false, ocRaised := false }))
      ∧ (∀ t a s, s.awn = true → a < 6 → (s.arm a).oc = true → (s.arm a).ocRaised = false →
        (s.arm a).ocFirst + 800000 ≤ max s.now t → exec (.overcurrentPersist t a) s = .next (faultAt 0x0472 .l3 .celOcth a
          (((s.begin t).setArm a { s.arm a with ocRaised := true }).rsb .celEvt 9 true)))
      ∧ (∀ t i s a, s.awn = true → (s.cell i).prot.bypAt = some a → (s.cell i).prot.st = 6 →
        a + s.rf .celCtrl 8 8 * 400000 ≤ max s.now t → exec (.bypassFail t i) s = .next (faultAt 0x0375 .l3 .celState i
          (((s.begin t).setProt i { (s.cell i).prot with bypAt := none }).rsb .celEvt 5 true))))

/-- Link rows (R192-R209): uplink frames that pass their test are accepted and others counted by their cause;
transactions end with their response or their timeout; links train, fail to, lose light, degrade and are enrolled
again. Writes of LNK_LCTRLl (R200, R206, R210): enabling and disabling the link, releasing a quarantine, retraining.
-/
def Obligations.LinkRowsTakeEffect : Prop :=
  ((∀ t l sof bytes s b, b = s.begin t → l < s.links → (s.link l).stage = 1 ∨ (s.link l).stage = 2 →
        uplinkTest b l false bytes = none → (useInjection l true b).2 = none → exec (.uplinkFrame t l false sof bytes false) s
          = .next (acceptUplink l (sof : Int) bytes (useInjection l true b).1))
      ∧ (∀ t l portErr sof bytes s b c, b = s.begin t → l < s.links → (s.link l).stage ≠ 0 →
        uplinkTest b l portErr bytes = some c →
        exec (.uplinkFrame t l portErr sof bytes false) s = .next (rejectUplink l c b))
      ∧ (∀ t l sof bytes s b c, b = s.begin t → l < s.links → (s.link l).stage = 1 ∨ (s.link l).stage = 2 →
        uplinkTest b l false bytes = none → (useInjection l true b).2 = some c → exec (.uplinkFrame t l false sof bytes false) s
          = .next (rejectUplink l c (useInjection l true b).1))
      ∧ (∀ t l portErr sof bytes s z c, z = memFault 3 .l1 3 l none (s.begin t) → l < s.links → (s.link l).stage ≠ 0 →
        uplinkTest z l true bytes = some c → exec (.uplinkFrame t l portErr sof bytes true) s = .next (rejectUplink l c z))
      ∧ (∀ t l tid res data s, l < s.links → (s.link l).stage = 1 ∨ (s.link l).stage = 2 →
        exec (.txnResponse t l tid res data) s = .next (txnDone l tid res data (s.begin t)))
      ∧ (∀ l tid res data s x h, (s.link l).flight.find? (fun x => decide (x.tid = tid)) = some x → x.org = .host h →
        txnDone l tid res data s = watchRead l x res data (answer ⟨h, 0x0501, .txn l 0⟩ .ok 0 (leBytes 4 res ++ data)
          (s.setLink l { s.link l with flight := removeFirst (fun y => decide (y.tid = tid)) (s.link l).flight })))
      ∧ (∀ t l tid s b x z, b = s.begin t → (s.link l).flight.find? (fun x => decide (x.tid = tid)) = some x →
        s.len.bur.on = false → x.sent + s.rf .lnkTxnto 0 16 * 4000 ≤ b.now →
        z = faultAt 0x0268 .l0 .lnkTxn l (((b.setLink l { s.link l with
          flight := removeFirst (fun y => decide (y.tid = tid)) (s.link l).flight }).rsat .lnkTxn 16 16 1 l).rsb .lnkEvt 9 true) →
        exec (.txnTimeout t l tid) s = .next (match x.org with
          | .host h => answer ⟨h, 0x0501, .txn l 0⟩ .timeout 0 [] z
          | .prepare n => prepareTimeout n x l z
          | _ => moduleTxn l x false [] z))
      ∧ (∀ t l s b, b = s.begin t → l < s.links → s.rb .lnkLctrl 0 l = true → s.mode ≠ .off → (s.link l).stage = 0 →
        exec (.linkTrain t l) s = .next (enterTrain l (b.rsb .lnkLstat 2 false l)))
      ∧ (∀ t l s, (s.link l).stage = 1 → (s.link l).raisedFail = false → (s.link l).trainAt + 20000000 ≤ max s.now t →
        exec (.trainFail t l) s = .next (faultAt 0x0261 .l1 .lnkLstat l
          (((s.begin t).setLink l { s.link l with raisedFail := true }).rsb .lnkEvt 1 true)))
      ∧ (∀ t l s a, (s.link l).idBad = some a → (s.link l).stage = 1 → a + 400000000 ≤ max s.now t →
        exec (.identityRetry t l) s
          = .next (pushTxn l 1 31 0 0 [] 20 .ident ((s.begin t).setLink l { s.link l with idBad := none })))
      ∧ (∀ t l s, (s.link l).stage = 2 → exec (.codeErrors t l) s = .next (linkDown l (s.begin t)))
      ∧ (∀ l s, (s.link l).stage = 1 ∨ (s.link l).stage = 2 →
        ((s.link l).downs.filter (fun t => decide (s.now < t + 24000000000))).length < 2 →
        ((linkDown l s).link l).stage = 0 ∧ (linkDown l s).linkUp l = false)
      ∧ (∀ t l s, l < s.links → exec (.lossOfLight t l) s
        = .next (linkDown l (((s.begin t).rsb .lnkLstat 2 true l).rsf .lnkOpt 0 8 0x80 l)))
      ∧ (∀ t l s b tries, b = s.begin t → tries = triesNow b.now (s.link l).tries → (s.link l).stage = 3 →
        (s.link l).quarAt + s.rf .lnkCtrl 8 8 * 400000000 ≤ b.now → (s.link l).quarLeft < s.rf .lnkCtrl 16 4 →
        exec (.reenrol t l none) s = .next (reenrolLink l (b.setLink l { s.link l with tries := tries ++ [b.now] })))
      ∧ (∀ t l j s b i tries, b = s.begin t → i = 24 * l + j → tries = triesNow b.now (s.cell i).prot.qTries → j < 24 →
        (s.cell i).prot.st = 8 → (s.link l).stage ≠ 3 → (s.cell i).prot.qAt + s.rf .lnkCtrl 8 8 * 400000000 ≤ b.now →
        (s.cell i).prot.qLeft < s.rf .lnkCtrl 16 4 → exec (.reenrol t l (some j)) s
          = .next (enrolSlot i (b.setProt i { (s.cell i).prot with st := 0, qTries := tries ++ [b.now] })))
      ∧ (∀ t l pwr margin s, l < s.links → margin < 256 → s.rf .lnkMargin 0 8 ≤ margin → ∃ x,
        exec (.laneMargin t l pwr margin) s = .next x ∧ x.rf .lnkOpt 0 8 l = pwr.toNat ∧ x.rf .lnkOpt 8 8 l = margin
          ∧ (x.link l).lowSince = none ∧ { x with regs := s.regs, lnk := s.lnk } = s.begin t)
      ∧ (∀ t l pwr margin s a, l < s.links → margin < s.rf .lnkMargin 0 8 → (s.link l).lowSince = some a →
        a + 4000000000 ≤ max s.now t → (s.link l).marginRaised = false → ∃ x, exec (.laneMargin t l pwr margin) s = .next x
          ∧ x.rb .lnkEvt 5 = true ∧ x.rb .fltReplace 1 = true ∧ (x.link l).marginRaised = true))
    ∧   ((∀ t m l v s b, b = s.begin t → s.writes t m (regAddr .lnkLctrl l) v ⟨.lnkLctrl, l, 0⟩ →
        v.getLsbD 0 = true ∨ s.rb .lnkLctrl 0 l = false → v.getLsbD 2 = false → v.getLsbD 3 = false → exec (.linkEnableWrite t m l v) s
          = .next (wrote m (regAddr .lnkLctrl l) ⟨.lnkLctrl, l, 0⟩ (storeReg ⟨.lnkLctrl, l, 0⟩ v b, .ok)))
      ∧ (∀ t m l v s b, b = s.begin t → s.writes t m (regAddr .lnkLctrl l) v ⟨.lnkLctrl, l, 0⟩ → v.getLsbD 0 = false →
        v.getLsbD 2 = false → v.getLsbD 3 = false → s.rb .lnkLctrl 0 l = true → exec (.linkEnableWrite t m l v) s
          = .next (wrote m (regAddr .lnkLctrl l) ⟨.lnkLctrl, l, 0⟩
            (((setStage l 0 (leaveUp l (storeReg ⟨.lnkLctrl, l, 0⟩ v b))).rsb .lnkLstat 2 true l).put (.dark l), .ok)))
      ∧ (∀ t m l v s b, b = s.begin t → s.writes t m (regAddr .lnkLctrl l) v ⟨.lnkLctrl, l, 0⟩ → v.getLsbD 0 = true →
        v.getLsbD 2 = true → v.getLsbD 3 = false → (s.link l).stage = 3 → exec (.linkRelease t m l v) s
          = .next (wrote m (regAddr .lnkLctrl l) ⟨.lnkLctrl, l, 0⟩
            (reenrolLink l ((storeReg ⟨.lnkLctrl, l, 0⟩ v b).setLink l { s.link l with tries := [], quarLeft := 0 }), .ok)))
      ∧ (∀ t m l v s b, b = s.begin t → s.writes t m (regAddr .lnkLctrl l) v ⟨.lnkLctrl, l, 0⟩ → v.getLsbD 0 = true →
        v.getLsbD 2 = false → v.getLsbD 3 = true → (s.link l).stage = 1 ∨ (s.link l).stage = 2 → exec (.retrain t m l v) s
          = .next (wrote m (regAddr .lnkLctrl l) ⟨.lnkLctrl, l, 0⟩ (enterTrain l (storeReg ⟨.lnkLctrl, l, 0⟩ v b), .ok))))

/-! ### The pair and the safety unit -/

/-- Rows of the pair link (R318-R337): beats and checkpoint segments are taken, a silent link goes down, a standby
takes over once the holder's lease has run out, a handover ends in a claim or is taken back, and the new holder starts
its frames. A claim takes an epoch of the module's own side, above every epoch seen, and S stays where it is (R320,
R324, R325). -/
def Obligations.PairRowsTakeEffect : Prop :=
  ((∀ t seg ue s z, z = (s.begin t).when ue (memFault 3 .l1 3 (regAddr .redCkseq) none) → s.rb .redCtrl 0 = true →
        s.red.linkUp = true → s.mode = .standbyCold → s.awn = false →
        exec (.checkpointSegment t seg ue) s = .next (if seg.full then fullSegment seg ue z else ckSegment seg ue z))
      ∧ (∀ t bytes rx s b p a, b = s.begin t → s.mode ≠ .off → s.rb .redCtrl 0 = true → parseBeat bytes b.now = some p →
        p.side ≠ s.slotId.testBit 0 → a = (if s.red.linkUp = true ∨ b.now < s.red.lastBeat + 12800 then s.red.acc else 0) →
        (∀ q, s.red.beat = some q → a = 0 ∨ 0 < signed 32 (p.bseq + 2 ^ 32 - q.bseq)) →
        exec (.beatReceived t bytes rx) s = .next (acceptBeat p rx { b with red := { s.red with acc := a, sideClash := false } }))
      ∧ (∀ t bytes rx s b p, b = s.begin t → s.mode ≠ .off → s.rb .redCtrl 0 = true → parseBeat bytes b.now = some p →
        p.side = s.slotId.testBit 0 → ∃ x, exec (.beatReceived t bytes rx) s = .next x ∧ x.red.linkUp = s.red.linkUp
          ∧ x.red.acc = 0 ∧ x.red.sideClash = true ∧ (s.red.sideClash = false → x.rb .redEvt 9 = true ∧ s.flt.logged < x.flt.logged))
      ∧ (∀ t s, s.red.linkUp = true → s.red.lastBeat + 12800 ≤ max s.now t → ∃ x, exec (.pairLinkDown t) s = .next x
        ∧ x.red.linkUp = false ∧ x.red.acc = 0 ∧ x.red.wasReady = (s.begin t).ready ∧ x.rb .redEvt 2 = true)
      ∧ (∀ t s b a, b = s.begin t → s.red.holderLease = some a → s.rb .redCtrl 0 = true → s.rb .redCtrl 1 = true →
        (s.rb .redCtrl 2 = true → b.confirmed a = true) → s.mode = .standbyCold → s.awn = false → s.red.linkUp = false →
        a + 4000 ≤ b.ticks → b.nextEpoch < 2 ^ 32 → exec (.takeover t) s = .next (match s.red.ck with
          | some ck => if s.red.wasReady then takeReady ck b else takeUnready b
          | none => takeUnready b))
      ∧ (∀ t s b a, b = s.begin t → s.red.holderLease = some a → s.rb .redCtrl 0 = true → s.rb .redCtrl 1 = true →
        (s.rb .redCtrl 2 = true → b.confirmed a = true) → s.mode = .standbyCold → s.awn = false → s.red.linkUp = false →
        a + 4000 ≤ b.ticks → 2 ^ 32 ≤ b.nextEpoch → exec (.takeover t) s = .next (fault 0x0CA5 .l3 b))
      ∧ (∀ s p, s.red.restoredAt = some p → s.ticks % 4000 = 0 → exec .firstEdgeFrame s = .next (({ s.begin s.now with
        red := { s.red with restoredAt := none, firstFrame := true } } : State).rs .redLease (wordOf (s.gridPoint + 24000))))
      ∧ (∀ t s b ck, b = s.begin t → s.red.ck = some ck → ck.handover = true → s.rb .redCtrl 0 = true → s.mode = .standbyCold →
        s.awn = false → ck.takenAt + 40000 ≤ b.ticks → (s.rg .redEpochseen).toNat ≤ ck.epoch → b.nextEpoch < 2 ^ 32 →
        exec (.handoverClaim t) s = .next (takeReady ck b))
      ∧ (∀ t s b a, b = s.begin t → s.red.hand = some a → s.awn = true → a + 52000 ≤ b.now →
        exec (.handoverAbort t) s = .next (answerAll (fun w => decide (w = .switchover)) .aborted 0 []
          (fault 0x0CA4 .l1 ((claimAwn { b with red := { s.red with hand := none } }).rsb .redEvt 7 true)))))
    ∧   (∀ s : State, (s.nextEpoch % 2 = s.slotId % 2 ∧ (s.rg .redEpoch).toNat < s.nextEpoch ∧ (s.rg .redEpochseen).toNat < s.nextEpoch)
      ∧ (s.nextEpoch < 2 ^ 32 → (claimAwn s).awn = true ∧ ((claimAwn s).rg .redEpoch).toNat = s.nextEpoch
        ∧ ((claimAwn s).rg .redEpochseen).toNat = s.nextEpoch ∧ (claimAwn s).st = s.st)
      ∧ (2 ^ 32 ≤ s.nextEpoch → claimAwn s = fault 0x0CA5 .l3 s))

/-- Rows of the safety unit (R391-R418, R483, R485): the lanes' cycle, the reset input, dark tests, the access delay,
telegrams and their time-outs, and the losses that end in SF1. -/
def Obligations.SafetyRowsTakeEffect : Prop :=
  (∀ t io s, (s.begin t).lanesRun = true → exec (.laneCycle t io) s = .next (laneCycle io (s.begin t)))
    ∧ (∀ t n s b, b = s.begin t → b.lanesRun = true → 1 ≤ n → (s.si (n - 1)).rel = true →
      (setInp (n - 1) { s.si (n - 1) with rel := false } b).resetOk = true → ∃ x, exec (.resetInput t n) s = .next x
        ∧ x.saf.sf1 = false ∧ x.saf.hostReq = false ∧ { x with saf := s.saf } = s.begin t)
    ∧ (∀ t n low s, (s.begin t).lanesRun = true → 1 ≤ n → n ≤ 4 → (s.so (n - 1)).faulted = false → (s.so (n - 1)).hi = true →
      (s.so (n - 1)).lo = true → s.saf.cycle % 240000 = darkSlot (n - 1) low → ∃ x, exec (.darkTest t n low) s = .next x ∧ (x.so (n - 1)).hi = low
        ∧ (x.so (n - 1)).lo = !low ∧ (x.so (n - 1)).test = (if low then 2 else 1) ∧ (x.so (n - 1)).testAt = max s.now t
        ∧ { x with saf := s.saf, out := [] } = s.begin t)
    ∧ (∀ t n low s, (s.begin t).lanesRun = true → 1 ≤ n → n ≤ 4 → (s.so (n - 1)).test = (if low then 2 else 1) →
      exec (.darkTestResult t n low false) s = .next (stuckSo (n - 1) low (s.begin t)))
    ∧ (∀ t n low s, (s.begin t).lanesRun = true → 1 ≤ n → n ≤ 4 → (s.so (n - 1)).test = (if low then 2 else 1) →
      (s.begin t).soWanted (n - 1) = true → ∃ x, exec (.darkTestResult t n low true) s = .next x ∧ (x.so (n - 1)).hi = true
        ∧ (x.so (n - 1)).lo = true ∧ (x.so (n - 1)).test = 0 ∧ { x with saf := s.saf, out := [] } = s.begin t)
    ∧ (∀ t s a, (s.begin t).lanesRun = true → s.saf.accessSince = some a → a + s.img 54 2 * 400000000 ≤ max s.now t →
      exec (.accessDelay t) s = .next { s.begin t with saf := { s.saf with accessOn := true } })
    ∧ (∀ t s, (s.begin t).lanesRun = true → s.saf.image.isSome = true → s.saf.lastSend + s.img 48 1 * 400000 ≤ max s.now t →
      exec (.telegramSend t) s = .next (sendTelegram { s.begin t with saf := { s.saf with lastSend := max s.now t } }))
    ∧ (∀ t p ip udp bytes s, (s.begin t).lanesRun = true → p < 2 →
      exec (.telegramCopy t p ip udp bytes) s = .next (takeCopy p ip udp bytes (s.begin t)))
    ∧ (∀ t alive s, exec (.windowClose t alive) s = .next (flushWindows (s.saf.wins.map (fun w =>
      if w.alive = alive ∧ w.opened + 8000000 ≤ max s.now t then { w with shut := true } else w)) (s.begin t)))
    ∧ (∀ t s, (s.begin t).lanesRun = true → s.saf.image.isSome = true → s.saf.timedOut = false →
      max s.saf.adopted (if s.saf.everRx then s.saf.lastRx else 0) + 16000000 ≤ max s.now t → ∃ x,
      exec (.telegramTimeout t) s = .next x ∧ x.saf.timedOut = true ∧ (s.img 49 1 = 1 → x.saf.sf1 = true)
        ∧ x.rb .safEvt 6 = true)
    ∧ (∀ t s im w, s.saf.pend = some (im, w) → w + 240000000000 ≤ max s.now t → exec (.configTimeout t) s
      = .next (safFault 11 .l0 { s.begin t with saf := { s.saf with pend := none, confA := false, confB := false } }))
    ∧ (∀ t s, (s.begin t).lanesRun = true → s.saf.ioLost = false → ∃ x, exec (.ioSupplyLoss t) s = .next x
      ∧ x.saf.ioLost = true ∧ x.saf.sf1 = true ∧ x.rb .safEvt 9 = true)
    ∧ (∀ t n s, (s.begin t).lanesRun = true → 1 ≤ n → n ≤ 4 → (s.so (n - 1)).faulted = false → ∃ x,
      exec (.outputCurrentLimit t n) s = .next x ∧ (x.so (n - 1)).hi = false ∧ (x.so (n - 1)).lo = false
        ∧ (x.so (n - 1)).faulted = true ∧ (s.soFunc (n - 1) = 1 → x.saf.sf1 = true))
    ∧ (∀ t s, (s.begin t).lanesRun = true → s.saf.ocxo = false → exec (.ocxoFail t) s
      = .next (safFault 10 .l3 { s.begin t with saf := { s.saf with ocxo := true, sf1 := true } }))
end

