-- ==== Sys2Proof/Laws/State.lean ====
section
/-!
SUPPORT. What the primitive updates of State leave, field by field, and the parts of the state that no command changes.
-/
namespace Sys2Proof.Machine

@[simp] theorem State.rs_variant (s : State) (n : RName) (v : Word) (i j : Nat) : (s.rs n v i j).variant = s.variant := rfl
@[simp] theorem State.rs_now (s : State) (n : RName) (v : Word) (i j : Nat) : (s.rs n v i j).now = s.now := rfl
@[simp] theorem State.rs_c0 (s : State) (n : RName) (v : Word) (i j : Nat) : (s.rs n v i j).c0 = s.c0 := rfl
@[simp] theorem State.rs_mode (s : State) (n : RName) (v : Word) (i j : Nat) : (s.rs n v i j).mode = s.mode := rfl
@[simp] theorem State.rs_sub (s : State) (n : RName) (v : Word) (i j : Nat) : (s.rs n v i j).sub = s.sub := rfl
@[simp] theorem State.rs_fresh (s : State) (n : RName) (v : Word) (i j : Nat) : (s.rs n v i j).fresh = s.fresh := rfl
@[simp] theorem State.rs_out (s : State) (n : RName) (v : Word) (i j : Nat) : (s.rs n v i j).out = s.out := rfl
@[simp] theorem State.rs_slotId (s : State) (n : RName) (v : Word) (i j : Nat) : (s.rs n v i j).slotId = s.slotId := rfl
@[simp] theorem State.rs_factory (s : State) (n : RName) (v : Word) (i j : Nat) : (s.rs n v i j).factory = s.factory := rfl
@[simp] theorem State.rs_cmd (s : State) (n : RName) (v : Word) (i j : Nat) : (s.rs n v i j).cmd = s.cmd := rfl
@[simp] theorem State.rs_ringWait (s : State) (n : RName) (v : Word) (i j : Nat) : (s.rs n v i j).ringWait = s.ringWait := rfl
@[simp] theorem State.rs_mbx (s : State) (n : RName) (v : Word) (i j : Nat) : (s.rs n v i j).mbx = s.mbx := rfl
@[simp] theorem State.rs_flt (s : State) (n : RName) (v : Word) (i j : Nat) : (s.rs n v i j).flt = s.flt := rfl
@[simp] theorem State.rs_bst (s : State) (n : RName) (v : Word) (i j : Nat) : (s.rs n v i j).bst = s.bst := rfl
@[simp] theorem State.rs_tim (s : State) (n : RName) (v : Word) (i j : Nat) : (s.rs n v i j).tim = s.tim := rfl
@[simp] theorem State.rs_clk (s : State) (n : RName) (v : Word) (i j : Nat) : (s.rs n v i j).clk = s.clk := rfl
@[simp] theorem State.rs_pwr (s : State) (n : RName) (v : Word) (i j : Nat) : (s.rs n v i j).pwr = s.pwr := rfl
@[simp] theorem State.rs_saf (s : State) (n : RName) (v : Word) (i j : Nat) : (s.rs n v i j).saf = s.saf := rfl
@[simp] theorem State.rs_len (s : State) (n : RName) (v : Word) (i j : Nat) : (s.rs n v i j).len = s.len := rfl
@[simp] theorem State.rs_arms (s : State) (n : RName) (v : Word) (i j : Nat) : (s.rs n v i j).arms = s.arms := rfl
@[simp] theorem State.rs_cells (s : State) (n : RName) (v : Word) (i j : Nat) : (s.rs n v i j).cells = s.cells := rfl
@[simp] theorem State.rs_lnk (s : State) (n : RName) (v : Word) (i j : Nat) : (s.rs n v i j).lnk = s.lnk := rfl
@[simp] theorem State.rs_win (s : State) (n : RName) (v : Word) (i j : Nat) : (s.rs n v i j).win = s.win := rfl
@[simp] theorem State.rs_red (s : State) (n : RName) (v : Word) (i j : Nat) : (s.rs n v i j).red = s.red := rfl
@[simp] theorem State.rs_fil (s : State) (n : RName) (v : Word) (i j : Nat) : (s.rs n v i j).fil = s.fil := rfl
@[simp] theorem State.rs_mad (s : State) (n : RName) (v : Word) (i j : Nat) : (s.rs n v i j).mad = s.mad := rfl
@[simp] theorem State.rs_rcd (s : State) (n : RName) (v : Word) (i j : Nat) : (s.rs n v i j).rcd = s.rcd := rfl
@[simp] theorem State.rs_shf (s : State) (n : RName) (v : Word) (i j : Nat) : (s.rs n v i j).shf = s.shf := rfl
@[simp] theorem State.rs_mem (s : State) (n : RName) (v : Word) (i j : Nat) : (s.rs n v i j).mem = s.mem := rfl
@[simp] theorem State.rs_crc (s : State) (n : RName) (v : Word) (i j : Nat) : (s.rs n v i j).crc = s.crc := rfl
@[simp] theorem State.rs_pending (s : State) (n : RName) (v : Word) (i j : Nat) : (s.rs n v i j).pending = s.pending := rfl

@[simp] theorem State.put_variant (s : State) (o : Out) : (s.put o).variant = s.variant := rfl
@[simp] theorem State.put_now (s : State) (o : Out) : (s.put o).now = s.now := rfl
@[simp] theorem State.put_c0 (s : State) (o : Out) : (s.put o).c0 = s.c0 := rfl
@[simp] theorem State.put_mode (s : State) (o : Out) : (s.put o).mode = s.mode := rfl
@[simp] theorem State.put_sub (s : State) (o : Out) : (s.put o).sub = s.sub := rfl
@[simp] theorem State.put_regs (s : State) (o : Out) : (s.put o).regs = s.regs := rfl
@[simp] theorem State.put_fresh (s : State) (o : Out) : (s.put o).fresh = s.fresh := rfl
@[simp] theorem State.put_slotId (s : State) (o : Out) : (s.put o).slotId = s.slotId := rfl
@[simp] theorem State.put_factory (s : State) (o : Out) : (s.put o).factory = s.factory := rfl
@[simp] theorem State.put_cmd (s : State) (o : Out) : (s.put o).cmd = s.cmd := rfl
@[simp] theorem State.put_ringWait (s : State) (o : Out) : (s.put o).ringWait = s.ringWait := rfl
@[simp] theorem State.put_mbx (s : State) (o : Out) : (s.put o).mbx = s.mbx := rfl
@[simp] theorem State.put_flt (s : State) (o : Out) : (s.put o).flt = s.flt := rfl
@[simp] theorem State.put_bst (s : State) (o : Out) : (s.put o).bst = s.bst := rfl
@[simp] theorem State.put_tim (s : State) (o : Out) : (s.put o).tim = s.tim := rfl
@[simp] theorem State.put_clk (s : State) (o : Out) : (s.put o).clk = s.clk := rfl
@[simp] theorem State.put_pwr (s : State) (o : Out) : (s.put o).pwr = s.pwr := rfl
@[simp] theorem State.put_saf (s : State) (o : Out) : (s.put o).saf = s.saf := rfl
@[simp] theorem State.put_len (s : State) (o : Out) : (s.put o).len = s.len := rfl
@[simp] theorem State.put_arms (s : State) (o : Out) : (s.put o).arms = s.arms := rfl
@[simp] theorem State.put_cells (s : State) (o : Out) : (s.put o).cells = s.cells := rfl
@[simp] theorem State.put_lnk (s : State) (o : Out) : (s.put o).lnk = s.lnk := rfl
@[simp] theorem State.put_win (s : State) (o : Out) : (s.put o).win = s.win := rfl
@[simp] theorem State.put_red (s : State) (o : Out) : (s.put o).red = s.red := rfl
@[simp] theorem State.put_fil (s : State) (o : Out) : (s.put o).fil = s.fil := rfl
@[simp] theorem State.put_mad (s : State) (o : Out) : (s.put o).mad = s.mad := rfl
@[simp] theorem State.put_rcd (s : State) (o : Out) : (s.put o).rcd = s.rcd := rfl
@[simp] theorem State.put_shf (s : State) (o : Out) : (s.put o).shf = s.shf := rfl
@[simp] theorem State.put_mem (s : State) (o : Out) : (s.put o).mem = s.mem := rfl
@[simp] theorem State.put_crc (s : State) (o : Out) : (s.put o).crc = s.crc := rfl
@[simp] theorem State.put_pending (s : State) (o : Out) : (s.put o).pending = s.pending := rfl

@[simp] theorem State.begin_variant (s : State) (t : Nat) : (s.begin t).variant = s.variant := rfl
@[simp] theorem State.begin_c0 (s : State) (t : Nat) : (s.begin t).c0 = s.c0 := rfl
@[simp] theorem State.begin_mode (s : State) (t : Nat) : (s.begin t).mode = s.mode := rfl
@[simp] theorem State.begin_sub (s : State) (t : Nat) : (s.begin t).sub = s.sub := rfl
@[simp] theorem State.begin_regs (s : State) (t : Nat) : (s.begin t).regs = s.regs := rfl
@[simp] theorem State.begin_fresh (s : State) (t : Nat) : (s.begin t).fresh = s.fresh := rfl
@[simp] theorem State.begin_slotId (s : State) (t : Nat) : (s.begin t).slotId = s.slotId := rfl
@[simp] theorem State.begin_factory (s : State) (t : Nat) : (s.begin t).factory = s.factory := rfl
@[simp] theorem State.begin_cmd (s : State) (t : Nat) : (s.begin t).cmd = s.cmd := rfl
@[simp] theorem State.begin_ringWait (s : State) (t : Nat) : (s.begin t).ringWait = s.ringWait := rfl
@[simp] theorem State.begin_mbx (s : State) (t : Nat) : (s.begin t).mbx = s.mbx := rfl
@[simp] theorem State.begin_flt (s : State) (t : Nat) : (s.begin t).flt = s.flt := rfl
@[simp] theorem State.begin_bst (s : State) (t : Nat) : (s.begin t).bst = s.bst := rfl
@[simp] theorem State.begin_tim (s : State) (t : Nat) : (s.begin t).tim = s.tim := rfl
@[simp] theorem State.begin_clk (s : State) (t : Nat) : (s.begin t).clk = s.clk := rfl
@[simp] theorem State.begin_pwr (s : State) (t : Nat) : (s.begin t).pwr = s.pwr := rfl
@[simp] theorem State.begin_saf (s : State) (t : Nat) : (s.begin t).saf = s.saf := rfl
@[simp] theorem State.begin_len (s : State) (t : Nat) : (s.begin t).len = s.len := rfl
@[simp] theorem State.begin_arms (s : State) (t : Nat) : (s.begin t).arms = s.arms := rfl
@[simp] theorem State.begin_cells (s : State) (t : Nat) : (s.begin t).cells = s.cells := rfl
@[simp] theorem State.begin_lnk (s : State) (t : Nat) : (s.begin t).lnk = s.lnk := rfl
@[simp] theorem State.begin_win (s : State) (t : Nat) : (s.begin t).win = s.win := rfl
@[simp] theorem State.begin_red (s : State) (t : Nat) : (s.begin t).red = s.red := rfl
@[simp] theorem State.begin_fil (s : State) (t : Nat) : (s.begin t).fil = s.fil := rfl
@[simp] theorem State.begin_mad (s : State) (t : Nat) : (s.begin t).mad = s.mad := rfl
@[simp] theorem State.begin_rcd (s : State) (t : Nat) : (s.begin t).rcd = s.rcd := rfl
@[simp] theorem State.begin_shf (s : State) (t : Nat) : (s.begin t).shf = s.shf := rfl
@[simp] theorem State.begin_mem (s : State) (t : Nat) : (s.begin t).mem = s.mem := rfl
@[simp] theorem State.begin_crc (s : State) (t : Nat) : (s.begin t).crc = s.crc := rfl
@[simp] theorem State.begin_pending (s : State) (t : Nat) : (s.begin t).pending = s.pending := rfl

@[simp] theorem State.setPath_variant (s : State) (q : Nat) (p : PathSt) : (s.setPath q p).variant = s.variant := rfl
@[simp] theorem State.setPath_now (s : State) (q : Nat) (p : PathSt) : (s.setPath q p).now = s.now := rfl
@[simp] theorem State.setPath_c0 (s : State) (q : Nat) (p : PathSt) : (s.setPath q p).c0 = s.c0 := rfl
@[simp] theorem State.setPath_mode (s : State) (q : Nat) (p : PathSt) : (s.setPath q p).mode = s.mode := rfl
@[simp] theorem State.setPath_sub (s : State) (q : Nat) (p : PathSt) : (s.setPath q p).sub = s.sub := rfl
@[simp] theorem State.setPath_regs (s : State) (q : Nat) (p : PathSt) : (s.setPath q p).regs = s.regs := rfl
@[simp] theorem State.setPath_fresh (s : State) (q : Nat) (p : PathSt) : (s.setPath q p).fresh = s.fresh := rfl
@[simp] theorem State.setPath_out (s : State) (q : Nat) (p : PathSt) : (s.setPath q p).out = s.out := rfl
@[simp] theorem State.setPath_slotId (s : State) (q : Nat) (p : PathSt) : (s.setPath q p).slotId = s.slotId := rfl
@[simp] theorem State.setPath_factory (s : State) (q : Nat) (p : PathSt) : (s.setPath q p).factory = s.factory := rfl
@[simp] theorem State.setPath_ringWait (s : State) (q : Nat) (p : PathSt) : (s.setPath q p).ringWait = s.ringWait := rfl
@[simp] theorem State.setPath_mbx (s : State) (q : Nat) (p : PathSt) : (s.setPath q p).mbx = s.mbx := rfl
@[simp] theorem State.setPath_flt (s : State) (q : Nat) (p : PathSt) : (s.setPath q p).flt = s.flt := rfl
@[simp] theorem State.setPath_bst (s : State) (q : Nat) (p : PathSt) : (s.setPath q p).bst = s.bst := rfl
@[simp] theorem State.setPath_tim (s : State) (q : Nat) (p : PathSt) : (s.setPath q p).tim = s.tim := rfl
@[simp] theorem State.setPath_clk (s : State) (q : Nat) (p : PathSt) : (s.setPath q p).clk = s.clk := rfl
@[simp] theorem State.setPath_pwr (s : State) (q : Nat) (p : PathSt) : (s.setPath q p).pwr = s.pwr := rfl
@[simp] theorem State.setPath_saf (s : State) (q : Nat) (p : PathSt) : (s.setPath q p).saf = s.saf := rfl
@[simp] theorem State.setPath_len (s : State) (q : Nat) (p : PathSt) : (s.setPath q p).len = s.len := rfl
@[simp] theorem State.setPath_arms (s : State) (q : Nat) (p : PathSt) : (s.setPath q p).arms = s.arms := rfl
@[simp] theorem State.setPath_cells (s : State) (q : Nat) (p : PathSt) : (s.setPath q p).cells = s.cells := rfl
@[simp] theorem State.setPath_lnk (s : State) (q : Nat) (p : PathSt) : (s.setPath q p).lnk = s.lnk := rfl
@[simp] theorem State.setPath_win (s : State) (q : Nat) (p : PathSt) : (s.setPath q p).win = s.win := rfl
@[simp] theorem State.setPath_red (s : State) (q : Nat) (p : PathSt) : (s.setPath q p).red = s.red := rfl
@[simp] theorem State.setPath_fil (s : State) (q : Nat) (p : PathSt) : (s.setPath q p).fil = s.fil := rfl
@[simp] theorem State.setPath_mad (s : State) (q : Nat) (p : PathSt) : (s.setPath q p).mad = s.mad := rfl
@[simp] theorem State.setPath_rcd (s : State) (q : Nat) (p : PathSt) : (s.setPath q p).rcd = s.rcd := rfl
@[simp] theorem State.setPath_shf (s : State) (q : Nat) (p : PathSt) : (s.setPath q p).shf = s.shf := rfl
@[simp] theorem State.setPath_mem (s : State) (q : Nat) (p : PathSt) : (s.setPath q p).mem = s.mem := rfl
@[simp] theorem State.setPath_crc (s : State) (q : Nat) (p : PathSt) : (s.setPath q p).crc = s.crc := rfl
@[simp] theorem State.setPath_pending (s : State) (q : Nat) (p : PathSt) : (s.setPath q p).pending = s.pending := rfl

@[simp] theorem State.setChan_variant (s : State) (c : Nat) (x : Chan) : (s.setChan c x).variant = s.variant := rfl
@[simp] theorem State.setChan_now (s : State) (c : Nat) (x : Chan) : (s.setChan c x).now = s.now := rfl
@[simp] theorem State.setChan_c0 (s : State) (c : Nat) (x : Chan) : (s.setChan c x).c0 = s.c0 := rfl
@[simp] theorem State.setChan_mode (s : State) (c : Nat) (x : Chan) : (s.setChan c x).mode = s.mode := rfl
@[simp] theorem State.setChan_sub (s : State) (c : Nat) (x : Chan) : (s.setChan c x).sub = s.sub := rfl
@[simp] theorem State.setChan_regs (s : State) (c : Nat) (x : Chan) : (s.setChan c x).regs = s.regs := rfl
@[simp] theorem State.setChan_fresh (s : State) (c : Nat) (x : Chan) : (s.setChan c x).fresh = s.fresh := rfl
@[simp] theorem State.setChan_out (s : State) (c : Nat) (x : Chan) : (s.setChan c x).out = s.out := rfl
@[simp] theorem State.setChan_slotId (s : State) (c : Nat) (x : Chan) : (s.setChan c x).slotId = s.slotId := rfl
@[simp] theorem State.setChan_factory (s : State) (c : Nat) (x : Chan) : (s.setChan c x).factory = s.factory := rfl
@[simp] theorem State.setChan_cmd (s : State) (c : Nat) (x : Chan) : (s.setChan c x).cmd = s.cmd := rfl
@[simp] theorem State.setChan_ringWait (s : State) (c : Nat) (x : Chan) : (s.setChan c x).ringWait = s.ringWait := rfl
@[simp] theorem State.setChan_flt (s : State) (c : Nat) (x : Chan) : (s.setChan c x).flt = s.flt := rfl
@[simp] theorem State.setChan_bst (s : State) (c : Nat) (x : Chan) : (s.setChan c x).bst = s.bst := rfl
@[simp] theorem State.setChan_tim (s : State) (c : Nat) (x : Chan) : (s.setChan c x).tim = s.tim := rfl
@[simp] theorem State.setChan_clk (s : State) (c : Nat) (x : Chan) : (s.setChan c x).clk = s.clk := rfl
@[simp] theorem State.setChan_pwr (s : State) (c : Nat) (x : Chan) : (s.setChan c x).pwr = s.pwr := rfl
@[simp] theorem State.setChan_saf (s : State) (c : Nat) (x : Chan) : (s.setChan c x).saf = s.saf := rfl
@[simp] theorem State.setChan_len (s : State) (c : Nat) (x : Chan) : (s.setChan c x).len = s.len := rfl
@[simp] theorem State.setChan_arms (s : State) (c : Nat) (x : Chan) : (s.setChan c x).arms = s.arms := rfl
@[simp] theorem State.setChan_cells (s : State) (c : Nat) (x : Chan) : (s.setChan c x).cells = s.cells := rfl
@[simp] theorem State.setChan_lnk (s : State) (c : Nat) (x : Chan) : (s.setChan c x).lnk = s.lnk := rfl
@[simp] theorem State.setChan_win (s : State) (c : Nat) (x : Chan) : (s.setChan c x).win = s.win := rfl
@[simp] theorem State.setChan_red (s : State) (c : Nat) (x : Chan) : (s.setChan c x).red = s.red := rfl
@[simp] theorem State.setChan_fil (s : State) (c : Nat) (x : Chan) : (s.setChan c x).fil = s.fil := rfl
@[simp] theorem State.setChan_mad (s : State) (c : Nat) (x : Chan) : (s.setChan c x).mad = s.mad := rfl
@[simp] theorem State.setChan_rcd (s : State) (c : Nat) (x : Chan) : (s.setChan c x).rcd = s.rcd := rfl
@[simp] theorem State.setChan_shf (s : State) (c : Nat) (x : Chan) : (s.setChan c x).shf = s.shf := rfl
@[simp] theorem State.setChan_mem (s : State) (c : Nat) (x : Chan) : (s.setChan c x).mem = s.mem := rfl
@[simp] theorem State.setChan_crc (s : State) (c : Nat) (x : Chan) : (s.setChan c x).crc = s.crc := rfl
@[simp] theorem State.setChan_pending (s : State) (c : Nat) (x : Chan) : (s.setChan c x).pending = s.pending := rfl

@[simp] theorem State.put_out (s : State) (o : Out) : (s.put o).out = s.out ++ [o] := rfl
@[simp] theorem State.begin_now (s : State) (t : Nat) : (s.begin t).now = max s.now t := rfl
@[simp] theorem State.begin_out (s : State) (t : Nat) : (s.begin t).out = [] := rfl

/-- What no effect of a command changes: the variant, the commands that wait, and, once the command has begun, the clock. -/
def State.base (s : State) : Variant × List Instr × Nat := (s.variant, s.pending, s.now)

@[simp] theorem State.base_mk 
    (x0 x1 x2 x3 x4 x5 x6 x7 x8 x9 x10 x11 x12 x13 x14 x15 x16 x17 x18 x19 x20 x21 x22 x23 x24 x25 x26 x27 x28 x29
    x30 x31) :
    (State.mk x0 x1 x2 x3 x4 x5 x6 x7 x8 x9 x10 x11 x12 x13 x14 x15 x16 x17 x18 x19 x20 x21 x22 x23 x24 x25 x26 x27 x28 x29 x30 x31).base = (x0, x31, x1) := rfl

@[simp] theorem State.base_fold (s : State) : (s.variant, s.pending, s.now) = s.base := rfl

@[simp] theorem State.begin_base (s : State) (t : Nat) : (s.begin t).base = (s.variant, s.pending, max s.now t) := rfl

@[simp] theorem ite_base (c : Prop) [Decidable c] (a b : State) :
    (if c then a else b).base = if c then a.base else b.base := by split <;> rfl

@[simp] theorem ite_fst {β : Type} (c : Prop) [Decidable c] (a b : State × β) :
    (if c then a else b).1 = if c then a.1 else b.1 := by split <;> rfl

@[simp] theorem foldl_base {α : Type} (g : State → α → State) (h : ∀ s x, (g s x).base = s.base) (l : List α) (s : State) :
    (l.foldl g s).base = s.base := by
  induction l generalizing s with
  | nil => rfl
  | cons x r ih => simp [ih, h]

@[simp] theorem foldl_base1 {α β : Type} (g : State × β → α → State × β) (h : ∀ p x, (g p x).1.base = p.1.base) (l : List α)
    (p : State × β) : (l.foldl g p).1.base = p.1.base := by
  induction l generalizing p with
  | nil => rfl
  | cons x r ih => simp [ih, h]

@[simp] theorem State.when_base (s : State) (b : Bool) (f : State → State) (h : ∀ s, (f s).base = s.base) :
    (s.when b f).base = s.base := by
  unfold State.when
  split <;> simp [h]

end Sys2Proof.Machine
end

