-- ==== Sys2Proof/Laws/Base/Ops.lean ====
section
/-!
SUPPORT. No operation of Machine/Ops.lean changes the variant, the waiting commands or the clock.
-/
namespace Sys2Proof.Machine

@[simp] theorem State.rs_base (s x1 x2 x3 x4) : (State.rs s x1 x2 x3 x4).base = s.base := by
  unfold State.rs
  simp

@[simp] theorem State.rsf_base (s x1 x2 x3 x4 x5 x6) : (State.rsf s x1 x2 x3 x4 x5 x6).base = s.base := by
  unfold State.rsf
  simp

@[simp] theorem State.rsb_base (s x1 x2 x3 x4 x5) : (State.rsb s x1 x2 x3 x4 x5).base = s.base := by
  unfold State.rsb
  simp

@[simp] theorem State.rsat_base (s x1 x2 x3 x4 x5 x6) : (State.rsat s x1 x2 x3 x4 x5 x6).base = s.base := by
  unfold State.rsat
  simp

@[simp] theorem State.rclear_base (s x1 x2 x3) : (State.rclear s x1 x2 x3).base = s.base := by
  unfold State.rclear
  simp

@[simp] theorem State.put_base (s x1) : (State.put s x1).base = s.base := by
  unfold State.put
  simp

@[simp] theorem State.setOfs_base (s x1 x2) : (State.setOfs s x1 x2).base = s.base := by
  unfold State.setOfs
  simp

@[simp] theorem State.setRate_base (s x1 x2) : (State.setRate s x1 x2).base = s.base := by
  unfold State.setRate
  simp

@[simp] theorem settleDelta_base (s) : (settleDelta s).base = s.base := by
  unfold settleDelta
  simp

@[simp] theorem State.setPath_base (s x1 x2) : (State.setPath s x1 x2).base = s.base := by
  unfold State.setPath
  simp

@[simp] theorem pushOn_base (x0 x1 s) : (pushOn x0 x1 s).1.base = s.base := by
  unfold pushOn
  simp

@[simp] theorem pushAll_base (x0 s) : (pushAll x0 s).1.base = s.base := by
  unfold pushAll
  simp

@[simp] theorem logEntry_base (x0 x1 x2 x3 s) : (logEntry x0 x1 x2 x3 s).base = s.base := by
  unfold logEntry
  simp

@[simp] theorem capture_base (x0 x1 x2 s) : (capture x0 x1 x2 s).base = s.base := by
  unfold capture
  simp

@[simp] theorem raise0_base (x0 s) : (raise0 x0 s).1.base = s.base := by
  unfold raise0
  simp

@[simp] theorem overflowFaults_base (x0 x1 s) : (overflowFaults x0 x1 s).base = s.base := by
  induction x0 generalizing x1 s with
  | zero => simp [overflowFaults]
  | succ k ih => cases x1 <;> simp [overflowFaults, ih]

@[simp] theorem emit_base (x0 x1 x2 s x4) : (emit x0 x1 x2 s x4).base = s.base := by
  unfold emit
  simp

@[simp] theorem violation_base (x0 x1 x2 x3 s) : (violation x0 x1 x2 x3 s).base = s.base := by
  unfold violation
  simp

@[simp] theorem replaceCause_base (x0 s) : (replaceCause x0 s).base = s.base := by
  unfold replaceCause
  simp

@[simp] theorem State.setChan_base (s x1 x2) : (State.setChan s x1 x2).base = s.base := by
  unfold State.setChan
  simp

@[simp] theorem mailSignal_base (x0 x1 x2 s) : (mailSignal x0 x1 x2 s).base = s.base := by
  unfold mailSignal
  simp

@[simp] theorem ringBell_base (x0 s) : (ringBell x0 s).base = s.base := by
  unfold ringBell
  simp

@[simp] theorem setNote_base (x0 s) : (setNote x0 s).base = s.base := by
  unfold setNote
  simp

@[simp] theorem mailPush_base (x0 x1 s) : (mailPush x0 x1 s).base = s.base := by
  unfold mailPush
  simp

@[simp] theorem endCross_base (x0 s) : (endCross x0 s).base = s.base := by
  unfold endCross
  simp

@[simp] theorem mailReset_base (x0 s) : (mailReset x0 s).base = s.base := by
  unfold mailReset
  simp

@[simp] theorem ringAdvance_base (x0 s) : (ringAdvance x0 s).base = s.base := by
  unfold ringAdvance
  simp

@[simp] theorem deliver_base (x0 s) : (deliver x0 s).base = s.base := by
  unfold deliver
  dsimp only
  (repeat' split) <;> simp

@[simp] theorem cacheReply_base (x0 s) : (cacheReply x0 s).base = s.base := by
  unfold cacheReply
  simp

@[simp] theorem answer_base (x0 x1 x2 x3 s) : (answer x0 x1 x2 x3 s).base = s.base := by
  unfold answer
  simp

@[simp] theorem answerAll_base (x0 x1 x2 x3 s) : (answerAll x0 x1 x2 x3 s).base = s.base := by
  unfold answerAll
  simp

@[simp] theorem drainReplies_base (x0 s) : (drainReplies x0 s).base = s.base := by
  induction x0 generalizing s with
  | nil => rfl
  | cons r l ih => unfold drainReplies; split <;> simp [ih]

@[simp] theorem pathReset_base (x0 s) : (pathReset x0 s).base = s.base := by
  unfold pathReset
  simp

@[simp] theorem logOverride_base (x0 x1 x2 x3 s) : (logOverride x0 x1 x2 x3 s).base = s.base := by
  unfold logOverride
  simp

@[simp] theorem setGlobal_base (x0 x1 s) : (setGlobal x0 x1 s).base = s.base := by
  unfold setGlobal
  simp

@[simp] theorem releaseTrip_base (s) : (releaseTrip s).base = s.base := by
  unfold releaseTrip
  simp

@[simp] theorem setMode_base (x0 x1 s) : (setMode x0 x1 s).base = s.base := by
  unfold setMode
  simp

@[simp] theorem orderOut_base (x0 s) : (orderOut x0 s).base = s.base := by
  unfold orderOut
  simp

@[simp] theorem blockLinks_base (x0 x1 s) : (blockLinks x0 x1 s).base = s.base := by
  unfold blockLinks
  simp

@[simp] theorem blockAll_base (s) : (blockAll s).base = s.base := by
  unfold blockAll
  simp

end Sys2Proof.Machine
end

