-- ==== Sys2Proof/Laws/Base/Record.lean ====
section
/-!
SUPPORT. No operation of Machine/Record.lean changes the variant, the waiting commands or the clock.
-/
namespace Sys2Proof.Machine

@[simp] theorem closeUnit_base (s) : (closeUnit s).base = s.base := by
  unfold closeUnit
  simp

@[simp] theorem placeRec_base (x0 s) : (placeRec x0 s).base = s.base := by
  unfold placeRec
  simp

@[simp] theorem dataRec_base (x0 x1 x2 x3 s) : (dataRec x0 x1 x2 x3 s).base = s.base := by
  unfold dataRec
  simp

@[simp] theorem ctlRec_base (x0 s) : (ctlRec x0 s).base = s.base := by
  unfold ctlRec
  simp

@[simp] theorem timeRec_base (x0 s) : (timeRec x0 s).base = s.base := by
  unfold timeRec
  simp

@[simp] theorem contentRec_base (s) : (contentRec s).base = s.base := by
  unfold contentRec
  simp

@[simp] theorem stepRecs_base (s) : (stepRecs s).base = s.base := by
  unfold stepRecs
  simp

@[simp] theorem State.setTrg_base (s x1 x2) : (State.setTrg s x1 x2).base = s.base := by
  unfold State.setTrg
  simp

@[simp] theorem startPulse_base (x0 s) : (startPulse x0 s).base = s.base := by
  unfold startPulse
  simp

@[simp] theorem fireOutputs_base (x0 s) : (fireOutputs x0 s).base = s.base := by
  unfold fireOutputs
  simp

@[simp] theorem placeMark_base (x0 s) : (placeMark x0 s).base = s.base := by
  unfold placeMark
  simp

@[simp] theorem flushMarks_base (s) : (flushMarks s).base = s.base := by
  unfold flushMarks
  simp

@[simp] theorem markCoinc_base (s) : (markCoinc s).base = s.base := by
  unfold markCoinc
  simp

@[simp] theorem fireOne_base (x0 x1 x2 s) : (fireOne x0 x1 x2 s).base = s.base := by
  unfold fireOne
  simp

@[simp] theorem fireUnits_base (x0 s) : (fireUnits x0 s).base = s.base := by
  unfold fireUnits
  simp

@[simp] theorem prime_base (x0 x1 s) : (prime x0 x1 s).base = s.base := by
  unfold prime
  simp

@[simp] theorem sampleTrigger_base (x0 x1 x2 x3 s) : (sampleTrigger x0 x1 x2 x3 s).base = s.base := by
  unfold sampleTrigger
  simp

end Sys2Proof.Machine
end

