-- ==== Sys2Proof/Laws/Base/Faults.lean ====
section
/-!
SUPPORT. No operation of Machine/Faults.lean changes the variant, the waiting commands or the clock.
-/
namespace Sys2Proof.Machine

@[simp] theorem State.setArm_base (s x1 x2) : (State.setArm s x1 x2).base = s.base := by
  unfold State.setArm
  simp

@[simp] theorem blockArms_base (s) : (blockArms s).base = s.base := by
  unfold blockArms
  simp

@[simp] theorem endBurst_base (s) : (endBurst s).base = s.base := by
  unfold endBurst
  dsimp only
  (repeat' split) <;> simp

@[simp] theorem stopEngine_base (s) : (stopEngine s).base = s.base := by
  unfold stopEngine
  simp

@[simp] theorem enterArmed_base (s) : (enterArmed s).base = s.base := by
  unfold enterArmed
  simp

@[simp] theorem askSf1_base (x0 s) : (askSf1 x0 s).base = s.base := by
  unfold askSf1
  simp

@[simp] theorem driveTrip_base (s) : (driveTrip s).base = s.base := by
  unfold driveTrip
  simp

@[simp] theorem abortBist_base (s) : (abortBist s).base = s.base := by
  unfold abortBist
  simp

@[simp] theorem tripNow_base (x0 x1 s) : (tripNow x0 x1 s).base = s.base := by
  unfold tripNow
  dsimp only
  split <;> simp

@[simp] theorem stopNow_base (s) : (stopNow s).base = s.base := by
  unfold stopNow
  dsimp only
  (repeat' split) <;> simp

@[simp] theorem levelAction_base (x0 x1 x2 s) : (levelAction x0 x1 x2 s).base = s.base := by
  unfold levelAction
  (repeat' split) <;> simp

@[simp] theorem faultTrigger_base (x0 x1 s) : (faultTrigger x0 x1 s).base = s.base := by
  unfold faultTrigger
  simp

@[simp] theorem raise_base (x0 s x2) : (raise x0 s x2).base = s.base := by
  unfold raise
  simp

@[simp] theorem fault_base (x0 x1 s x3) : (fault x0 x1 s x3).base = s.base := by
  unfold fault
  simp

@[simp] theorem faultAt_base (x0 x1 x2 x3 s) : (faultAt x0 x1 x2 x3 s).base = s.base := by
  unfold faultAt
  simp

@[simp] theorem holdFault_base (x0 x1 s) : (holdFault x0 x1 s).base = s.base := by
  unfold holdFault
  simp

@[simp] theorem holdAt_base (x0 x1 x2 x3 s) : (holdAt x0 x1 x2 x3 s).base = s.base := by
  unfold holdAt
  simp

@[simp] theorem raiseHeld_base (s) : (raiseHeld s).base = s.base := by
  unfold raiseHeld
  simp

end Sys2Proof.Machine
end

