-- ==== Sys2Proof/Laws/Base/RegBase.lean ====
section
/-!
SUPPORT. No operation of Machine/RegBase.lean changes the variant, the waiting commands or the clock.
-/
namespace Sys2Proof.Machine

@[simp] theorem storeReg_base (x0 x1 s) : (storeReg x0 x1 s).base = s.base := by
  unfold storeReg
  simp

end Sys2Proof.Machine
end

