-- ==== Sys2Proof/Laws/Base/Fil.lean ====
section
/-!
SUPPORT. No operation of Machine/Fil.lean changes the variant, the waiting commands or the clock.
-/
namespace Sys2Proof.Machine

@[simp] theorem State.setNch_base (s x1 x2) : (State.setNch s x1 x2).base = s.base := by
  unfold State.setNch
  simp

@[simp] theorem State.setInp_base (s x1 x2) : (State.setInp s x1 x2).base = s.base := by
  unfold State.setInp
  simp

@[simp] theorem State.setEng_base (s x1) : (State.setEng s x1).base = s.base := by
  unfold State.setEng
  simp

@[simp] theorem filSnapshot_base (x0 s) : (filSnapshot x0 s).base = s.base := by
  unfold filSnapshot
  dsimp only
  (repeat' split) <;> simp

@[simp] theorem privRec_base (s) : (privRec s).base = s.base := by
  unfold privRec
  dsimp only
  (repeat' split) <;> simp

@[simp] theorem filWrite_base (x0 x1 s) : (filWrite x0 x1 s).base = s.base := by
  unfold filWrite
  dsimp only
  (repeat' split) <;> simp

@[simp] theorem stuckFault_base (x0 s) : (stuckFault x0 s).base = s.base := by
  unfold stuckFault
  simp

@[simp] theorem transition_base (x0 x1 s) : (transition x0 x1 s).base = s.base := by
  unfold transition
  simp

@[simp] theorem transitions_base (x0 x1 s) : (transitions x0 x1 s).base = s.base := by
  unfold transitions
  dsimp only
  (repeat' split) <;> simp

@[simp] theorem normalSample_base (x0 x1 s) : (normalSample x0 x1 s).base = s.base := by
  unfold normalSample
  simp

@[simp] theorem privSet_base (x0 s) : (privSet x0 s).base = s.base := by
  unfold privSet
  simp

@[simp] theorem startPending_base (s) : (startPending s).base = s.base := by
  unfold startPending
  simp

end Sys2Proof.Machine
end

