-- ==== Sys2Proof/Laws/Base/Time.lean ====
section
/-!
SUPPORT. No operation of Machine/Time.lean changes the variant, the waiting commands or the clock.
-/
namespace Sys2Proof.Machine

@[simp] theorem State.setDmn_base (s x1 x2) : (State.setDmn s x1 x2).base = s.base := by
  unfold State.setDmn
  simp

@[simp] theorem timeEvent_base (x0 x1 s) : (timeEvent x0 x1 s).base = s.base := by
  unfold timeEvent
  simp

@[simp] theorem refreshHoldover_base (s) : (refreshHoldover s).base = s.base := by
  unfold refreshHoldover
  simp

@[simp] theorem switchTo_base (x0 s) : (switchTo x0 s).base = s.base := by
  unfold switchTo
  simp

@[simp] theorem wantSet_base (s) : (wantSet s).base = s.base := by
  unfold wantSet
  simp

@[simp] theorem ppsFall_base (s) : (ppsFall s).base = s.base := by
  unfold ppsFall
  simp

@[simp] theorem reselect_base (s) : (reselect s).base = s.base := by
  unfold reselect
  simp

@[simp] theorem setDomState_base (x0 x1 s) : (setDomState x0 x1 s).base = s.base := by
  unfold setDomState
  simp

@[simp] theorem restartDom_base (x0 s) : (restartDom x0 s).base = s.base := by
  unfold restartDom
  simp

@[simp] theorem freezeRate_base (x0 s) : (freezeRate x0 s).base = s.base := by
  unfold freezeRate
  simp

@[simp] theorem atOnce_base (x0 x1 x2 s) (h : ∀ s, (x2 s).base = s.base) : (atOnce x0 x1 x2 s).base = s.base := by
  unfold atOnce
  (repeat' split) <;> simp [h]

@[simp] theorem correct_base (x0 x1 s) : (correct x0 x1 s).base = s.base := by
  unfold correct
  simp

@[simp] theorem changeRate_base (x0 x1 s) : (changeRate x0 x1 s).base = s.base := by
  unfold changeRate
  simp

@[simp] theorem servo_base (x0 x1 s) : (servo x0 x1 s).base = s.base := by
  unfold servo
  simp

@[simp] theorem offsetOf_base (x0 x1 s) : (offsetOf x0 x1 s).base = s.base := by
  unfold offsetOf
  dsimp only
  (repeat' split) <;> simp

@[simp] theorem slewStep_base (s) : (slewStep s).base = s.base := by
  unfold slewStep
  simp

@[simp] theorem restartFilters_base (s) : (restartFilters s).base = s.base := by
  unfold restartFilters
  simp

@[simp] theorem moveS_base (x0 s) : (moveS x0 s).base = s.base := by
  unfold moveS
  simp

@[simp] theorem takeRef_base (x0 s) : (takeRef x0 s).base = s.base := by
  unfold takeRef
  simp

@[simp] theorem applyStep_base (s x1) : (applyStep s x1).base = s.base := by
  unfold applyStep
  dsimp only
  (repeat' split) <;> simp

@[simp] theorem applySteps_base (s) : (applySteps s).base = s.base := by
  unfold applySteps
  simp

@[simp] theorem noteBest_base (x0 s) : (noteBest x0 s).base = s.base := by
  unfold noteBest
  (repeat' split) <;> simp

@[simp] theorem dropMasters_base (x0 s) : (dropMasters x0 s).base = s.base := by
  unfold dropMasters
  simp

@[simp] theorem listenEnd_base (x0 s) : (listenEnd x0 s).base = s.base := by
  unfold listenEnd
  simp

@[simp] theorem hearMaster_base (x0 x1 s) : (hearMaster x0 x1 s).base = s.base := by
  unfold hearMaster
  simp

@[simp] theorem syncMsg_base (x0 x1 s) : (syncMsg x0 x1 s).base = s.base := by
  unfold syncMsg
  simp

@[simp] theorem timSnapshot_base (x0 s) : (timSnapshot x0 s).base = s.base := by
  unfold timSnapshot
  simp

@[simp] theorem timWrite_base (x0 x1 s) : (timWrite x0 x1 s).base = s.base := by
  unfold timWrite
  dsimp only
  (repeat' split) <;> simp

@[simp] theorem sendPdelay_base (s) : (sendPdelay s).base = s.base := by
  unfold sendPdelay
  simp

end Sys2Proof.Machine
end

