-- ==== Sys2Proof/Laws/Base/Clock.lean ====
section
/-!
SUPPORT. No operation of Machine/Clock.lean changes the variant, the waiting commands or the clock.
-/
namespace Sys2Proof.Machine

@[simp] theorem State.setClk_base (s x1) : (State.setClk s x1).base = s.base := by
  unfold State.setClk
  simp

@[simp] theorem State.setOut_base (s x1 x2) : (State.setOut s x1 x2).base = s.base := by
  unfold State.setOut
  simp

@[simp] theorem stopOut_base (x0 s) : (stopOut x0 s).base = s.base := by
  unfold stopOut
  simp

@[simp] theorem runOut_base (x0 x1 s) : (runOut x0 x1 s).base = s.base := by
  unfold runOut
  simp

@[simp] theorem startOut_base (x0 s) : (startOut x0 s).base = s.base := by
  unfold startOut
  simp

@[simp] theorem outWrite_base (x0 x1 s) : (outWrite x0 x1 s).base = s.base := by
  unfold outWrite
  simp

@[simp] theorem gateOff_base (s) : (gateOff s).base = s.base := by
  unfold gateOff
  simp

@[simp] theorem applyN_base (s) : (applyN s).base = s.base := by
  unfold applyN
  simp

@[simp] theorem clkWrite_base (x0 x1 s) : (clkWrite x0 x1 s).base = s.base := by
  unfold clkWrite
  dsimp only
  (repeat' split) <;> simp

@[simp] theorem ppsEdge_base (s) : (ppsEdge s).base = s.base := by
  unfold ppsEdge
  simp

end Sys2Proof.Machine
end

