-- ==== Sys2Proof/Laws/Base/MemCore.lean ====
section
/-!
SUPPORT. No operation of Machine/MemCore.lean changes the variant, the waiting commands or the clock.
-/
namespace Sys2Proof.Machine

@[simp] theorem memFault_base (x0 x1 x2 x3 x4 s) : (memFault x0 x1 x2 x3 x4 s).base = s.base := by
  unfold memFault
  simp

@[simp] theorem elogEntry_base (x0 x1 x2 x3 x4 x5 x6 s) : (elogEntry x0 x1 x2 x3 x4 x5 x6 s).base = s.base := by
  unfold elogEntry
  simp

@[simp] theorem logCe_base (x0 x1 x2 x3 x4 s) : (logCe x0 x1 x2 x3 x4 s).base = s.base := by
  unfold logCe
  simp

@[simp] theorem logUe_base (x0 x1 x2 x3 x4 x5 x6 x7 x8 x9 s) : (logUe x0 x1 x2 x3 x4 x5 x6 x7 x8 x9 s).base = s.base := by
  unfold logUe
  simp

@[simp] theorem setByte_base (x0 x1 x2 s) : (setByte x0 x1 x2 s).base = s.base := by
  unfold setByte
  simp

@[simp] theorem setMark_base (x0 x1 x2 s) : (setMark x0 x1 x2 s).base = s.base := by
  unfold setMark
  simp

@[simp] theorem setWord_base (x0 x1 x2 x3 s) : (setWord x0 x1 x2 x3 s).base = s.base := by
  unfold setWord
  simp

@[simp] theorem readWord_base (x0 x1 x2 x3 s) : (readWord x0 x1 x2 x3 s).1.base = s.base := by
  unfold readWord; dsimp only; split <;> simp

@[simp] theorem writeWord_base (x0 x1 x2 x3 x4 x5 s) : (writeWord x0 x1 x2 x3 x4 x5 s).1.base = s.base := by
  unfold writeWord; dsimp only; split <;> [simp; (split <;> simp)]

@[simp] theorem readRange_base (x0 x1 x2 x3 x4 x5 x6 s) : (readRange x0 x1 x2 x3 x4 x5 x6 s).1.base = s.base := by
  induction x3 generalizing x2 x4 x5 x6 s with
  | zero => rfl
  | succ k ih => unfold readRange; dsimp only; (repeat' split) <;> simp [ih]

@[simp] theorem writeRange_base (x0 x1 x2 x3 x4 x5 x6 s) : (writeRange x0 x1 x2 x3 x4 x5 x6 s).1.base = s.base := by
  induction x3 generalizing x2 x4 x5 x6 s with
  | zero => rfl
  | succ k ih => unfold writeRange; dsimp only; (repeat' split) <;> simp [ih]

@[simp] theorem fillWords_base (x0 x1 x2 x3 s) : (fillWords x0 x1 x2 x3 s).base = s.base := by
  induction x2 generalizing x3 s with
  | zero => rfl
  | succ k ih => simp [fillWords, ih]

@[simp] theorem setBlk_base (x0 x1 s) : (setBlk x0 x1 s).base = s.base := by
  unfold setBlk
  simp

@[simp] theorem touchBlk_base (x0 x1 x2 x3 s) : (touchBlk x0 x1 x2 x3 s).base = s.base := by
  unfold touchBlk; dsimp only; split <;> simp

@[simp] theorem consumerRead_base (x0 s) : (consumerRead x0 s).base = s.base := by
  unfold consumerRead
  dsimp only
  (repeat' split) <;> simp

@[simp] theorem readTables_base (s) : (readTables s).base = s.base := by
  unfold readTables
  simp

@[simp] theorem smallWrite_base (x0 x1 s) : (smallWrite x0 x1 s).base = s.base := by
  unfold smallWrite
  dsimp only
  (repeat' split) <;> simp

@[simp] theorem copyWord_base (x0 x1 s) : (copyWord x0 x1 s).base = s.base := by
  unfold copyWord; extract_lets x; split <;> simp

@[simp] theorem enterRetired_base (x0 x1 s) : (enterRetired x0 x1 s).base = s.base := by
  unfold enterRetired
  simp

@[simp] theorem reenter_base (x0 s) : (reenter x0 s).base = s.base := by
  unfold reenter
  simp

@[simp] theorem retireRequest_base (x0 x1 s) : (retireRequest x0 x1 s).1.base = s.base := by
  unfold retireRequest
  simp

@[simp] theorem retireDone_base (x0 x1 s) : (retireDone x0 x1 s).base = s.base := by
  unfold retireDone
  simp

@[simp] theorem gleanMark_base (x0 x1 s) : (gleanMark x0 x1 s).base = s.base := by
  unfold gleanMark; extract_lets x; split <;> simp

@[simp] theorem gleanSmall_base (s) : (gleanSmall s).base = s.base := by
  unfold gleanSmall
  exact foldl_base _ (fun s p => by split <;> simp) _ _

@[simp] theorem gleanWord_base (x0 s) : (gleanWord x0 s).base = s.base := by
  unfold gleanWord
  simp

end Sys2Proof.Machine
end

