-- ==== Sys2Proof/Laws/Base/CrcUnit.lean ====
section
/-!
SUPPORT. No operation of Machine/CrcUnit.lean changes the variant, the waiting commands or the clock.
-/
namespace Sys2Proof.Machine

@[simp] theorem State.setCrcSt_base (s x1 x2) : (State.setCrcSt s x1 x2).base = s.base := by
  unfold State.setCrcSt
  simp

@[simp] theorem setCrcVal_base (x0 x1 s) : (setCrcVal x0 x1 s).base = s.base := by
  unfold setCrcVal
  simp

@[simp] theorem crcFeed_base (x0 x1 s) : (crcFeed x0 x1 s).base = s.base := by
  unfold crcFeed
  simp

@[simp] theorem crcSnapshot_base (x0 s) : (crcSnapshot x0 s).base = s.base := by
  unfold crcSnapshot
  simp

@[simp] theorem crcAlive_base (x0 x1 s) : (crcAlive x0 x1 s).base = s.base := by
  unfold crcAlive
  simp

@[simp] theorem crcWrite_base (x0 x1 x2 s) : (crcWrite x0 x1 x2 s).base = s.base := by
  unfold crcWrite
  dsimp only
  (repeat' split) <;> simp

@[simp] theorem crcReleaseOf_base (x0 s) : (crcReleaseOf x0 s).base = s.base := by
  unfold crcReleaseOf
  simp

@[simp] theorem resetMaster_base (x0 s) : (resetMaster x0 s).base = s.base := by
  unfold resetMaster
  simp

@[simp] theorem memRegWrite_base (x0 x1 s) : (memRegWrite x0 x1 s).1.base = s.base := by
  unfold memRegWrite
  dsimp only
  (repeat' split) <;> simp

end Sys2Proof.Machine
end

