-- ==== Sys2Proof/Laws/Base/LenReg.lean ====
section
/-!
SUPPORT. No operation of Machine/LenReg.lean changes the variant, the waiting commands or the clock.
-/
namespace Sys2Proof.Machine

@[simp] theorem lenWrite_base (x0 x1 s) : (lenWrite x0 x1 s).base = s.base := by
  unfold lenWrite
  dsimp only
  (repeat' split) <;> simp

@[simp] theorem State.setCell_base (s x1 x2) : (State.setCell s x1 x2).base = s.base := by
  unfold State.setCell
  simp

@[simp] theorem winWrite_base (x0 x1 s) : (winWrite x0 x1 s).base = s.base := by
  unfold winWrite
  dsimp only
  (repeat' split) <;> simp

end Sys2Proof.Machine
end

