-- ==== Sys2Proof/Laws/Base/LinkCore.lean ====
section
/-!
SUPPORT. No operation of Machine/LinkCore.lean changes the variant, the waiting commands or the clock.
-/
namespace Sys2Proof.Machine

@[simp] theorem State.setLink_base (s x1 x2) : (State.setLink s x1 x2).base = s.base := by
  unfold State.setLink
  simp

@[simp] theorem State.setProt_base (s x1 x2) : (State.setProt s x1 x2).base = s.base := by
  unfold State.setProt
  simp

@[simp] theorem State.setTel_base (s x1 x2) : (State.setTel s x1 x2).base = s.base := by
  unfold State.setTel
  simp

@[simp] theorem State.setFire_base (s x1 x2) : (State.setFire s x1 x2).base = s.base := by
  unfold State.setFire
  simp

@[simp] theorem moveCell_base (x0 x1 s) : (moveCell x0 x1 s).base = s.base := by
  unfold moveCell
  simp

@[simp] theorem pushTxn_base (x0 x1 x2 x3 x4 x5 x6 x7 s) : (pushTxn x0 x1 x2 x3 x4 x5 x6 x7 s).base = s.base := by
  unfold pushTxn
  simp

@[simp] theorem readCell_base (x0 x1 s) : (readCell x0 x1 s).base = s.base := by
  unfold readCell
  simp

@[simp] theorem sendGroup_base (x0 s) : (sendGroup x0 s).base = s.base := by
  unfold sendGroup
  simp

@[simp] theorem sendProfiles_base (x0 s) : (sendProfiles x0 s).base = s.base := by
  unfold sendProfiles
  simp

@[simp] theorem sendMaps_base (x0 s) : (sendMaps x0 s).base = s.base := by
  unfold sendMaps
  simp

@[simp] theorem downloadGates_base (x0 s) : (downloadGates x0 s).base = s.base := by
  unfold downloadGates
  simp

@[simp] theorem downloadAll_base (x0 s) (h : ∀ i s, (x0 i s).base = s.base) : (downloadAll x0 s).base = s.base := by
  unfold downloadAll; simp [h]

@[simp] theorem nextEnrol_base (x0 x1 s) : (nextEnrol x0 x1 s).base = s.base := by
  induction x1 generalizing s with
  | zero => rfl
  | succ k ih => unfold nextEnrol; simp [ih]

@[simp] theorem startEnrol_base (x0 s) : (startEnrol x0 s).base = s.base := by
  unfold startEnrol
  simp

@[simp] theorem enrolSlot_base (x0 s) : (enrolSlot x0 s).base = s.base := by
  unfold enrolSlot
  simp

@[simp] theorem setStage_base (x0 x1 s) : (setStage x0 x1 s).base = s.base := by
  unfold setStage
  simp

@[simp] theorem dropTxns_base (x0 s) : (dropTxns x0 s).base = s.base := by
  unfold dropTxns
  simp

@[simp] theorem leaveUp_base (x0 s) : (leaveUp x0 s).base = s.base := by
  unfold leaveUp
  simp

@[simp] theorem enterTrain_base (x0 s) : (enterTrain x0 s).base = s.base := by
  unfold enterTrain
  simp

@[simp] theorem quarantineLink_base (x0 s) : (quarantineLink x0 s).base = s.base := by
  unfold quarantineLink
  simp

@[simp] theorem quarantineCell_base (x0 s) : (quarantineCell x0 s).base = s.base := by
  unfold quarantineCell
  simp

@[simp] theorem linkDown_base (x0 s) : (linkDown x0 s).base = s.base := by
  unfold linkDown
  simp

@[simp] theorem checkWindow_base (s) : (checkWindow s).base = s.base := by
  unfold checkWindow
  simp

@[simp] theorem faultCell_base (x0 x1 s) : (faultCell x0 x1 s).base = s.base := by
  unfold faultCell
  simp

@[simp] theorem cellCmd_base (x0 x1 s) : (cellCmd x0 x1 s).base = s.base := by
  unfold cellCmd
  dsimp only
  (repeat' split) <;> simp

end Sys2Proof.Machine
end

