-- ==== Sys2Proof/Laws/Base/CelReg.lean ====
section
/-!
SUPPORT. No operation of Machine/CelReg.lean changes the variant, the waiting commands or the clock.
-/
namespace Sys2Proof.Machine

@[simp] theorem celWrite_base (x0 x1 s) : (celWrite x0 x1 s).base = s.base := by
  unfold celWrite
  dsimp only
  (repeat' split) <;> simp

@[simp] theorem State.setCar_base (s x1 x2) : (State.setCar s x1 x2).base = s.base := by
  unfold State.setCar
  dsimp only
  (repeat' split) <;> simp

@[simp] theorem loadCarrier_base (x0 x1 s) : (loadCarrier x0 x1 s).base = s.base := by
  unfold loadCarrier
  dsimp only
  (repeat' split) <;> simp

@[simp] theorem startCarrier_base (x0 x1 s) : (startCarrier x0 x1 s).base = s.base := by
  unfold startCarrier
  simp

@[simp] theorem takeLoad_base (x0 s) : (takeLoad x0 s).base = s.base := by
  unfold takeLoad
  (repeat' split) <;> simp

@[simp] theorem lateWrite_base (x0 x1 s) : (lateWrite x0 x1 s).base = s.base := by
  unfold lateWrite
  simp

@[simp] theorem ovrWritten_base (x0 x1 x2 s) : (ovrWritten x0 x1 x2 s).base = s.base := by
  unfold ovrWritten
  simp

@[simp] theorem fscWrite_base (x0 x1 x2 s) : (fscWrite x0 x1 x2 s).base = s.base := by
  unfold fscWrite
  dsimp only
  (repeat' split) <;> simp

@[simp] theorem blockLink_base (x0 s) : (blockLink x0 s).base = s.base := by
  unfold blockLink
  simp

@[simp] theorem reenrolLink_base (x0 s) : (reenrolLink x0 s).base = s.base := by
  unfold reenrolLink
  simp

@[simp] theorem lnkWrite_base (x0 x1 s) : (lnkWrite x0 x1 s).base = s.base := by
  unfold lnkWrite
  dsimp only
  (repeat' split) <;> simp

end Sys2Proof.Machine
end

