-- ==== Sys2Proof/Laws/Base/PairReg.lean ====
section
/-!
SUPPORT. No operation of Machine/PairReg.lean changes the variant, the waiting commands or the clock.
-/
namespace Sys2Proof.Machine

@[simp] theorem redWrite_base (x0 x1 s) : (redWrite x0 x1 s).base = s.base := by
  unfold redWrite
  dsimp only
  (repeat' split) <;> simp

@[simp] theorem State.setSheaf_base (s x1 x2) : (State.setSheaf s x1 x2).base = s.base := by
  unfold State.setSheaf
  simp

@[simp] theorem shfWrite_base (x0 x1 s) : (shfWrite x0 x1 s).base = s.base := by
  unfold shfWrite
  (repeat' split) <;> simp

@[simp] theorem noteWritten_base (x0 x1 s) : (noteWritten x0 x1 s).base = s.base := by
  unfold noteWritten
  simp

end Sys2Proof.Machine
end

