-- ==== Sys2Proof/Laws/Base/Mad.lean ====
section
/-!
SUPPORT. No operation of Machine/Mad.lean changes the variant, the waiting commands or the clock.
-/
namespace Sys2Proof.Machine

@[simp] theorem State.setMad_base (s x1) : (State.setMad s x1).base = s.base := by
  unfold State.setMad
  simp

@[simp] theorem madSnapshot_base (x0 s) : (madSnapshot x0 s).base = s.base := by
  unfold madSnapshot
  (repeat' split) <;> simp

@[simp] theorem madWrite_base (x0 x1 s) : (madWrite x0 x1 s).base = s.base := by
  unfold madWrite
  dsimp only
  (repeat' split) <;> simp

@[simp] theorem startConv_base (x0 s) : (startConv x0 s).base = s.base := by
  unfold startConv; dsimp only; (repeat' split) <;> simp

@[simp] theorem madBoundary_base (x0 s) : (madBoundary x0 s).base = s.base := by
  unfold madBoundary; dsimp only; (repeat' split) <;> simp

@[simp] theorem madRecord_base (x0 x1 s) : (madRecord x0 x1 s).base = s.base := by
  unfold madRecord
  simp

@[simp] theorem deliverConv_base (x0 x1 x2 s) : (deliverConv x0 x1 x2 s).base = s.base := by
  unfold deliverConv
  dsimp only
  (repeat' split) <;> simp

end Sys2Proof.Machine
end

