-- ==== Sys2Proof/Laws/Base/Rec.lean ====
section
/-!
SUPPORT. No operation of Machine/Rec.lean changes the variant, the waiting commands or the clock.
-/
namespace Sys2Proof.Machine

@[simp] theorem recWrite_base (x0 x1 s) : (recWrite x0 x1 s).base = s.base := by
  unfold recWrite
  dsimp only
  (repeat' split) <;> simp

@[simp] theorem sendDgrams_base (x0 x1 x2 s) : (sendDgrams x0 x1 x2 s).base = s.base := by
  induction x2 generalizing s with
  | nil => rfl
  | cons p l ih => obtain ⟨o, b⟩ := p; unfold sendDgrams; simp [ih]

@[simp] theorem sendUnit_base (x0 x1 s) : (sendUnit x0 x1 s).base = s.base := by
  unfold sendUnit
  simp

@[simp] theorem sendGaps_base (x0 s) : (sendGaps x0 s).base = s.base := by
  unfold sendGaps
  simp

@[simp] theorem hostCopy_base (x0 s) : (hostCopy x0 s).base = s.base := by
  unfold hostCopy
  dsimp only
  (repeat' split) <;> simp

end Sys2Proof.Machine
end

