-- ==== Sys2Proof/Laws/Base/Mbx.lean ====
section
/-!
SUPPORT. No operation of Machine/Mbx.lean changes the variant, the waiting commands or the clock.
-/
namespace Sys2Proof.Machine

@[simp] theorem mailAck_base (x0 s) : (mailAck x0 s).base = s.base := by
  unfold mailAck; dsimp only; split <;> simp

@[simp] theorem clearNotes_base (x0 s) : (clearNotes x0 s).base = s.base := by
  unfold clearNotes
  simp

@[simp] theorem mbxWrite_base (x0 x1 x2 s) : (mbxWrite x0 x1 x2 s).base = s.base := by
  unfold mbxWrite
  dsimp only
  (repeat' split) <;> simp

@[simp] theorem netWrite_base (x0 x1 s) : (netWrite x0 x1 s).base = s.base := by
  unfold netWrite
  dsimp only
  (repeat' split) <;> simp

end Sys2Proof.Machine
end

