-- ==== Sys2Proof/Laws/Base/Flt.lean ====
section
/-!
SUPPORT. No operation of Machine/Flt.lean changes the variant, the waiting commands or the clock.
-/
namespace Sys2Proof.Machine

@[simp] theorem ackClass_base (x0 s) : (ackClass x0 s).base = s.base := by
  unfold ackClass
  simp

@[simp] theorem ackMask_base (x0 s) : (ackMask x0 s).base = s.base := by
  unfold ackMask
  simp

@[simp] theorem faultEvt_base (x0 s) : (faultEvt x0 s).base = s.base := by
  unfold faultEvt
  simp

@[simp] theorem injectFault_base (x0 x1 s) : (injectFault x0 x1 s).1.base = s.base := by
  unfold injectFault
  dsimp only
  (repeat' split) <;> simp

@[simp] theorem toggleSmall_base (x0 x1 s) : (toggleSmall x0 x1 s).base = s.base := by
  unfold toggleSmall
  simp

@[simp] theorem injectMem_base (x0 x1 x2 s x4) : (injectMem x0 x1 x2 s x4).1.base = s.base := by
  unfold injectMem; dsimp only; (repeat' split) <;> cases x2 <;> simp

@[simp] theorem injectLink_base (x0 x1 x2 x3 s x5 x6 x7) : (injectLink x0 x1 x2 x3 s x5 x6 x7).1.base = s.base := by
  unfold injectLink
  simp

@[simp] theorem injectGo_base (x0 s) : (injectGo x0 s).1.base = s.base := by
  unfold injectGo
  dsimp only
  (repeat' split) <;> simp

@[simp] theorem fltSnapshot_base (x0 s) : (fltSnapshot x0 s).base = s.base := by
  unfold fltSnapshot
  simp

@[simp] theorem fltWrite_base (x0 x1 x2 s) : (fltWrite x0 x1 x2 s).1.base = s.base := by
  unfold fltWrite
  dsimp only
  (repeat' split) <;> simp

@[simp] theorem bistStart_base (x0 s) : (bistStart x0 s).base = s.base := by
  unfold bistStart
  simp

@[simp] theorem bistClear_base (x0 s) : (bistClear x0 s).base = s.base := by
  unfold bistClear
  dsimp only
  (repeat' split) <;> simp

@[simp] theorem withdraw_base (x0 x1 s) : (withdraw x0 x1 s).base = s.base := by
  unfold withdraw
  simp

@[simp] theorem bistRetire_base (x0 x1 s) : (bistRetire x0 x1 s).1.base = s.base := by
  induction x1 generalizing s with
  | nil => rfl
  | cons i l ih => unfold bistRetire; dsimp only; split <;> simp [ih]

@[simp] theorem bistResult_base (x0 s x2) : (bistResult x0 s x2).base = s.base := by
  unfold bistResult
  simp

@[simp] theorem bstWrite_base (x0 x1 s) : (bstWrite x0 x1 s).1.base = s.base := by
  unfold bstWrite
  dsimp only
  (repeat' split) <;> simp

end Sys2Proof.Machine
end

