-- ==== Sys2Proof/Laws/Base/Saf.lean ====
section
/-!
SUPPORT. No operation of Machine/Saf.lean changes the variant, the waiting commands or the clock.
-/
namespace Sys2Proof.Machine

@[simp] theorem safConfigWrite_base (x0 s) : (safConfigWrite x0 s).1.base = s.base := by
  unfold safConfigWrite
  dsimp only
  (repeat' split) <;> simp

@[simp] theorem setInp_base (x0 x1 s) : (setInp x0 x1 s).base = s.base := by
  unfold setInp
  simp

@[simp] theorem adopt_base (x0 s) : (adopt x0 s).base = s.base := by
  unfold adopt
  simp

@[simp] theorem safConfirm_base (x0 x1 s) : (safConfirm x0 x1 s).1.base = s.base := by
  unfold safConfirm
  dsimp only
  (repeat' split) <;> simp

@[simp] theorem safFault_base (x0 x1 s) : (safFault x0 x1 s).base = s.base := by
  unfold safFault
  simp

@[simp] theorem safHold_base (x0 x1 s) : (safHold x0 x1 s).base = s.base := by
  unfold safHold
  simp

@[simp] theorem releaseSf1_base (s) : (releaseSf1 s).base = s.base := by
  unfold releaseSf1
  simp

@[simp] theorem judgePattern_base (x0 s) : (judgePattern x0 s).base = s.base := by
  unfold judgePattern
  simp

@[simp] theorem judgeInput_base (x0 s) : (judgeInput x0 s).base = s.base := by
  unfold judgeInput
  simp

@[simp] theorem judgePress_base (x0 s) : (judgePress x0 s).base = s.base := by
  unfold judgePress; dsimp only; (repeat' split) <;> simp

@[simp] theorem cycleInput_base (x0 s x2) : (cycleInput x0 s x2).base = s.base := by
  unfold cycleInput
  simp

@[simp] theorem cycleLanes_base (x0 s) : (cycleLanes x0 s).base = s.base := by
  unfold cycleLanes
  simp

@[simp] theorem setSo_base (x0 x1 s) : (setSo x0 x1 s).base = s.base := by
  unfold setSo
  simp

@[simp] theorem driveSo_base (s x1) : (driveSo s x1).base = s.base := by
  unfold driveSo
  simp

@[simp] theorem stuckSo_base (x0 x1 s) : (stuckSo x0 x1 s).base = s.base := by
  unfold stuckSo State.when
  simp only [safFault_base, ite_base, setSo_base, ite_self, State.base_mk, State.base_fold]

@[simp] theorem sendTelegram_base (s) : (sendTelegram s).base = s.base := by
  unfold sendTelegram
  simp

@[simp] theorem updateTrip_base (s) : (updateTrip s).base = s.base := by
  unfold updateTrip
  simp

@[simp] theorem acceptTelegram_base (x0 x1 x2 s) : (acceptTelegram x0 x1 x2 s).base = s.base := by
  unfold acceptTelegram
  simp

@[simp] theorem finishWindow_base (x0 s) : (finishWindow x0 s).base = s.base := by
  unfold finishWindow
  dsimp only
  (repeat' split) <;> simp

@[simp] theorem flushWindows_base (x0 s) : (flushWindows x0 s).base = s.base := by
  induction x0 generalizing s with
  | nil => rfl
  | cons w r ih => unfold flushWindows; split <;> simp [ih]

@[simp] theorem takeCopy_base (x0 x1 x2 x3 s) : (takeCopy x0 x1 x2 x3 s).base = s.base := by
  unfold takeCopy
  simp

@[simp] theorem judgeCauses_base (s) : (judgeCauses s).base = s.base := by
  unfold judgeCauses
  simp

@[simp] theorem judgeAccess_base (s) : (judgeAccess s).base = s.base := by
  unfold judgeAccess
  simp

@[simp] theorem holdTrip_base (s) : (holdTrip s).base = s.base := by
  unfold holdTrip
  simp

@[simp] theorem laneCycle_base (x0 s) : (laneCycle x0 s).base = s.base := by
  unfold laneCycle
  simp

@[simp] theorem safWrite_base (x0 x1 s) : (safWrite x0 x1 s).base = s.base := by
  unfold safWrite
  dsimp only
  (repeat' split) <;> simp

end Sys2Proof.Machine
end

