-- ==== Sys2Proof/Laws/Base/Pwr.lean ====
section
/-!
SUPPORT. No operation of Machine/Pwr.lean changes the variant, the waiting commands or the clock.
-/
namespace Sys2Proof.Machine

@[simp] theorem State.setPwr_base (s x1) : (State.setPwr s x1).base = s.base := by
  unfold State.setPwr
  simp

@[simp] theorem resetModule_base (s) : (resetModule s).base = s.base := by
  unfold resetModule
  simp

@[simp] theorem startProg_base (s) : (startProg s).1.base = s.base := by
  unfold startProg
  simp

@[simp] theorem pwrWrite_base (x0 x1 s) : (pwrWrite x0 x1 s).1.base = s.base := by
  unfold pwrWrite
  dsimp only
  (repeat' split) <;> simp

@[simp] theorem noteVin_base (x0 x1 s) : (noteVin x0 x1 s).base = s.base := by
  unfold noteVin
  simp

@[simp] theorem legLeaves_base (x0 x1 x2 s) : (legLeaves x0 x1 x2 s).base = s.base := by
  unfold legLeaves
  simp

@[simp] theorem loadFirmware_base (s) : (loadFirmware s).base = s.base := by
  unfold loadFirmware
  extract_lets s1 s2 s3 s4
  have h4 : s4.base = s.base := by simp [s1, s2, s3, s4]
  split
  · refine Eq.trans (foldl_base _ ?_ _ _) h4
    intro s x
    rfl
  · simp [h4]

@[simp] theorem startFirmware_base (s) : (startFirmware s).base = s.base := by
  unfold startFirmware
  simp

end Sys2Proof.Machine
end

