-- ==== Sys2Proof/Laws/Base/RegAccess.lean ====
section
/-!
SUPPORT. No operation of Machine/RegAccess.lean changes the variant, the waiting commands or the clock.
-/
namespace Sys2Proof.Machine

@[simp] theorem snapshot_base (x0 s) : (snapshot x0 s).base = s.base := by
  unfold snapshot
  (repeat' split) <;> simp

@[simp] theorem deny_base (x0 x1 x2 x3 s) : (deny x0 x1 x2 x3 s).base = s.base := by
  unfold deny
  simp

@[simp] theorem readReg_base (x0 x1 s) : (readReg x0 x1 s).1.base = s.base := by
  unfold readReg
  cases regAt x1 with
  | none => simp
  | some r =>
    dsimp only
    cases h1 : s.absentReg r <;> cases h2 : s.mayAccess x0 false r <;> cases h3 : mbxReadCheck s x0 r <;>
      cases h4 : smallOf x1 <;> simp [apply_ite Prod.fst]

@[simp] theorem writeEffect_base (x0 x1 x2 s) : (writeEffect x0 x1 x2 s).1.base = s.base := by
  unfold writeEffect
  dsimp only
  (repeat' split) <;> simp

@[simp] theorem afterWrite_base (x0 x1 x2 x3 s) : (afterWrite x0 x1 x2 x3 s).base = s.base := by
  unfold afterWrite
  simp

@[simp] theorem writeReg_base (x0 x1 x2 s) : (writeReg x0 x1 x2 s).1.base = s.base := by
  unfold writeReg
  dsimp only
  (repeat' split) <;> simp

@[simp] theorem writeAs_base (x0 x1 x2 x3 s) : (writeAs x0 x1 x2 x3 s).base = (s.variant, s.pending, max s.now x0) := by
  unfold writeAs; simp

@[simp] theorem readAs_base (x0 x1 x2 s) : (readAs x0 x1 x2 s).base = (s.variant, s.pending, max s.now x0) := by
  unfold readAs; dsimp only; split <;> simp

end Sys2Proof.Machine
end

