-- ==== Sys2Proof/Laws/Base/LoopIn.lean ====
section
/-!
SUPPORT. No operation of Machine/LoopIn.lean changes the variant, the waiting commands or the clock.
-/
namespace Sys2Proof.Machine

@[simp] theorem noteSat_base (x0 s) : (noteSat x0 s).base = s.base := by
  unfold noteSat
  simp

@[simp] theorem measure_base (s) : (measure s).base = s.base := by
  unfold measure
  simp

@[simp] theorem budgetTick_base (s) : (budgetTick s).base = s.base := by
  unfold budgetTick
  simp

@[simp] theorem limiterSee_base (x0 s) : (limiterSee x0 s).base = s.base := by
  unfold limiterSee
  simp

@[simp] theorem takeScale_base (s) : (takeScale s).base = s.base := by
  unfold takeScale
  dsimp only
  (repeat' split) <;> simp

@[simp] theorem controlLaw_base (s) : (controlLaw s).base = s.base := by
  unfold controlLaw
  simp

@[simp] theorem coefUe_base (x0 s) : (coefUe x0 s).base = s.base := by
  unfold coefUe
  simp

@[simp] theorem innerCycle_base (x0 s) : (innerCycle x0 s).base = s.base := by
  unfold innerCycle
  simp

end Sys2Proof.Machine
end

