-- ==== Sys2Proof/Laws/Base/Region.lean ====
section
/-!
SUPPORT. No operation of Machine/Region.lean changes the variant, the waiting commands or the clock.
-/
namespace Sys2Proof.Machine

@[simp] theorem State.setLen_base (s x1) : (State.setLen s x1).base = s.base := by
  unfold State.setLen
  simp

@[simp] theorem noteOld_base (s) : (noteOld s).base = s.base := by
  unfold noteOld
  simp

@[simp] theorem noteRescale_base (x0 s) : (noteRescale x0 s).base = s.base := by
  unfold noteRescale
  simp

@[simp] theorem changeBank_base (x0 s) : (changeBank x0 s).base = s.base := by
  unfold changeBank
  simp

@[simp] theorem bankRewritten_base (x0 s) : (bankRewritten x0 s).base = s.base := by
  unfold bankRewritten
  simp

@[simp] theorem enterRegion_base (x0 s) : (enterRegion x0 s).base = s.base := by
  unfold enterRegion
  simp

@[simp] theorem followEntry_base (s) : (followEntry s).base = s.base := by
  unfold followEntry
  simp

@[simp] theorem evalRegion_base (s) : (evalRegion s).base = s.base := by
  unfold evalRegion; dsimp only; (repeat' split) <;> simp

@[simp] theorem rateChanged_base (x0 s) : (rateChanged x0 s).base = s.base := by
  unfold rateChanged
  simp

@[simp] theorem askBurst_base (s) : (askBurst s).base = s.base := by
  unfold askBurst
  simp

@[simp] theorem leaveBurst_base (s) : (leaveBurst s).base = s.base := by
  unfold leaveBurst
  simp

@[simp] theorem decideBurst_base (s) : (decideBurst s).base = s.base := by
  unfold decideBurst
  simp

@[simp] theorem energyStep_base (s) : (energyStep s).base = s.base := by
  unfold energyStep
  simp

@[simp] theorem prechargeStep_base (s) : (prechargeStep s).base = s.base := by
  unfold prechargeStep; dsimp only; (repeat' split) <;> simp

@[simp] theorem watchReady_base (s) : (watchReady s).base = s.base := by
  unfold watchReady
  simp

end Sys2Proof.Machine
end

