-- ==== Sys2Proof/Laws/Base/LoopOut.lean ====
section
/-!
SUPPORT. No operation of Machine/LoopOut.lean changes the variant, the waiting commands or the clock.
-/
namespace Sys2Proof.Machine

@[simp] theorem outerMeasure_base (s) : (outerMeasure s).base = s.base := by
  unfold outerMeasure
  simp

@[simp] theorem answerMode_base (x0 x1 s) : (answerMode x0 x1 s).base = s.base := by
  unfold answerMode
  simp

@[simp] theorem overtake_base (s) : (overtake s).base = s.base := by
  unfold overtake
  simp

@[simp] theorem noteMove_base (s) : (noteMove s).base = s.base := by
  unfold noteMove
  simp

@[simp] theorem deblockArms_base (s) : (deblockArms s).base = s.base := by
  unfold deblockArms
  simp

@[simp] theorem enterPrecharge_base (s) : (enterPrecharge s).base = s.base := by
  unfold enterPrecharge
  simp

@[simp] theorem enterRun_base (x0 x1 s) : (enterRun x0 x1 s).base = s.base := by
  unfold enterRun
  simp

@[simp] theorem leaveSub_base (s) : (leaveSub s).base = s.base := by
  unfold leaveSub
  simp

@[simp] theorem toStopping_base (s) : (toStopping s).base = s.base := by
  unfold toStopping
  simp

@[simp] theorem toIsland_base (s) : (toIsland s).base = s.base := by
  unfold toIsland
  simp

@[simp] theorem closeTie_base (s) : (closeTie s).base = s.base := by
  unfold closeTie
  simp

@[simp] theorem toFrt_base (s) : (toFrt s).base = s.base := by
  unfold toFrt
  simp

@[simp] theorem demands_base (s) : (demands s).base = s.base := by
  unfold demands
  simp

@[simp] theorem watchRecovery_base (s) : (watchRecovery s).base = s.base := by
  unfold watchRecovery
  simp

@[simp] theorem watchIsland_base (s) : (watchIsland s).base = s.base := by
  unfold watchIsland
  simp

@[simp] theorem guardStep_base (s) : (guardStep s).base = s.base := by
  unfold guardStep
  simp

@[simp] theorem setpoints_base (s) : (setpoints s).base = s.base := by
  unfold setpoints
  simp

@[simp] theorem rampOffsets_base (s) : (rampOffsets s).base = s.base := by
  unfold rampOffsets
  simp

@[simp] theorem resyncStep_base (s) : (resyncStep s).base = s.base := by
  unfold resyncStep
  simp

@[simp] theorem startResync_base (s) : (startResync s).base = s.base := by
  unfold startResync
  simp

@[simp] theorem stopResync_base (s) : (stopResync s).base = s.base := by
  unfold stopResync
  simp

@[simp] theorem blackStep_base (s) : (blackStep s).base = s.base := by
  unfold blackStep
  simp

@[simp] theorem emfStep_base (s) : (emfStep s).base = s.base := by
  unfold emfStep
  simp

@[simp] theorem watchAuto_base (s) : (watchAuto s).base = s.base := by
  unfold watchAuto
  simp

end Sys2Proof.Machine
end

