-- ==== Sys2Proof/Laws/Base/Modes.lean ====
section
/-!
SUPPORT. No operation of Machine/Modes.lean changes the variant, the waiting commands or the clock.
-/
namespace Sys2Proof.Machine

@[simp] theorem stopPrecharge_base (s) : (stopPrecharge s).base = s.base := by
  unfold stopPrecharge
  simp

@[simp] theorem enterBlack_base (s) : (enterBlack s).base = s.base := by
  unfold enterBlack
  simp

@[simp] theorem takeCause_base (x0 s) : (takeCause x0 s).base = s.base := by
  unfold takeCause
  (repeat' split) <;> simp

@[simp] theorem decideMode_base (s) : (decideMode s).base = s.base := by
  unfold decideMode
  (repeat' split) <;> simp

@[simp] theorem deadTimes_base (s) : (deadTimes s).base = s.base := by
  unfold deadTimes
  simp

@[simp] theorem readouts_base (s) : (readouts s).base = s.base := by
  unfold readouts
  simp

@[simp] theorem lenOut_base (s) : (lenOut s).base = s.base := by
  unfold lenOut
  simp

@[simp] theorem cellRec_base (x0 s) : (cellRec x0 s).base = s.base := by
  unfold cellRec
  simp

@[simp] theorem cellRecs_base (s) : (cellRecs s).base = s.base := by
  unfold cellRecs
  simp

@[simp] theorem sendCheckpoint_base (x0 s) : (sendCheckpoint x0 s).base = s.base := by
  unfold sendCheckpoint
  simp

@[simp] theorem startHandover_base (s) : (startHandover s).base = s.base := by
  unfold startHandover
  simp

@[simp] theorem outerPrecharge_base (s) : (outerPrecharge s).base = s.base := by
  unfold outerPrecharge
  simp

@[simp] theorem outerRun_base (s) : (outerRun s).base = s.base := by
  unfold outerRun
  simp

@[simp] theorem outerRunning_base (s) : (outerRunning s).base = s.base := by
  unfold outerRunning
  simp

end Sys2Proof.Machine
end

