-- ==== Sys2Proof/Laws/Base/Select.lean ====
section
/-!
SUPPORT. No operation of Machine/Select.lean changes the variant, the waiting commands or the clock.
-/
namespace Sys2Proof.Machine

@[simp] theorem startRest_base (x0 x1 s) : (startRest x0 x1 s).base = s.base := by
  unfold startRest
  simp

@[simp] theorem noteDeficit_base (x0 s) : (noteDeficit x0 s).base = s.base := by
  unfold noteDeficit
  simp

@[simp] theorem serveRests_base (x0 x1 x2 x3 s) : (serveRests x0 x1 x2 x3 s).base = s.base := by
  unfold serveRests
  simp

@[simp] theorem readyPwm_base (x0 x1 s) : (readyPwm x0 x1 s).base = s.base := by
  unfold readyPwm
  simp

@[simp] theorem selectArm_base (x0 x1 x2 x3 x4 x5 x6 s) : (selectArm x0 x1 x2 x3 x4 x5 x6 s).base = s.base := by
  unfold selectArm
  simp

@[simp] theorem selectPub_base (x0 x1 x2 s) : (selectPub x0 x1 x2 s).base = s.base := by
  unfold selectPub
  simp

@[simp] theorem selectCharge_base (x0 x1 x2 s) : (selectCharge x0 x1 x2 s).base = s.base := by
  unfold selectCharge
  simp

@[simp] theorem lenPub_base (x0 s) : (lenPub x0 s).base = s.base := by
  unfold lenPub
  simp

@[simp] theorem publish_base (s) : (publish s).base = s.base := by
  unfold publish
  dsimp only
  (repeat' split) <;> simp

@[simp] theorem enterRest_base (x0 s) : (enterRest x0 s).base = s.base := by
  unfold enterRest
  simp

@[simp] theorem endRest_base (x0 s) : (endRest x0 s).base = s.base := by
  unfold endRest; dsimp only; (repeat' split) <;> simp

end Sys2Proof.Machine
end

