-- ==== Sys2Proof/Laws/Base/Firing.lean ====
section
/-!
SUPPORT. No operation of Machine/Firing.lean changes the variant, the waiting commands or the clock.
-/
namespace Sys2Proof.Machine

@[simp] theorem takeTxn_base (x0 s) : (takeTxn x0 s).1.base = s.base := by
  unfold takeTxn; dsimp only; split
  · split <;> simp
  · rfl

@[simp] theorem useInjection_base (x0 x1 s) : (useInjection x0 x1 s).1.base = s.base := by
  unfold useInjection
  dsimp only
  (repeat' split) <;> simp

@[simp] theorem buildSlots_base (x0 x1 s) : (buildSlots x0 x1 s).1.base = s.base := by
  unfold buildSlots
  refine foldl_base1 _ (fun p k => ?_) _ _
  dsimp only
  (repeat' split) <;> simp

@[simp] theorem edgeFrame_base (x0 s) : (edgeFrame x0 s).base = s.base := by
  unfold edgeFrame
  rcases s.frameTimes x0 with ⟨sof, start⟩
  dsimp only
  generalize hB : buildSlots x0 _ s = r
  obtain ⟨s1, es⟩ := r
  have h1 : s1.base = s.base := by
    have := congrArg (fun r => r.1.base) hB
    simpa using this.symm
  dsimp only
  generalize hF : List.foldl _ s1 _ = s2
  have h2 : s2.base = s1.base := by
    rw [← hF]
    exact foldl_base _ (fun s x => by split <;> simp) _ _
  generalize hT : takeTxn x0 s2 = r
  obtain ⟨s3, txn⟩ := r
  have h3 : s3.base = s2.base := by
    have := takeTxn_base x0 s2
    rw [hT] at this
    exact this
  dsimp only
  generalize hU : useInjection x0 false s3 = r
  obtain ⟨s4, bad⟩ := r
  have h4 : s4.base = s3.base := by
    have := useInjection_base x0 false s3
    rw [hU] at this
    exact this
  simp [h1, h2, h3, h4]

@[simp] theorem listenFrame_base (x0 s) : (listenFrame x0 s).base = s.base := by
  unfold listenFrame
  simp

@[simp] theorem downlinkFrame_base (x0 x1 s) : (downlinkFrame x0 x1 s).base = s.base := by
  unfold downlinkFrame
  simp

end Sys2Proof.Machine
end

