-- ==== Sys2Proof/Laws/Base/Frame.lean ====
section
/-!
SUPPORT. No operation of Machine/Frame.lean changes the variant, the waiting commands or the clock.
-/
namespace Sys2Proof.Machine

@[simp] theorem cellFault_base (x0 x1 x2 x3 x4 s) : (cellFault x0 x1 x2 x3 x4 s).base = s.base := by
  unfold cellFault
  dsimp only
  (repeat' split) <;> simp

@[simp] theorem edgeReports_base (x0 x1 s) : (edgeReports x0 x1 s).base = s.base := by
  unfold edgeReports
  simp

@[simp] theorem countDesat_base (x0 x1 s) : (countDesat x0 x1 s).base = s.base := by
  unfold countDesat
  simp

@[simp] theorem evalRecord_base (x0 x1 s) : (evalRecord x0 x1 s).base = s.base := by
  unfold evalRecord
  simp

@[simp] theorem evalCell_base (x0 s) : (evalCell x0 s).base = s.base := by
  unfold evalCell
  simp

@[simp] theorem followArm_base (x0 s) : (followArm x0 s).base = s.base := by
  unfold followArm
  simp

@[simp] theorem evalCells_base (s) : (evalCells s).base = s.base := by
  unfold evalCells
  simp

@[simp] theorem countStale_base (s) : (countStale s).base = s.base := by
  unfold countStale
  simp

@[simp] theorem watchShort_base (s) : (watchShort s).base = s.base := by
  unfold watchShort
  simp

@[simp] theorem legFault_base (x0 s) : (legFault x0 s).base = s.base := by
  unfold legFault
  simp

@[simp] theorem closeFrame_base (x0 x1 s) : (closeFrame x0 x1 s).base = s.base := by
  unfold closeFrame
  (repeat' split) <;> simp

@[simp] theorem closeOps_base (s) : (closeOps s).base = s.base := by
  unfold closeOps; dsimp only; split <;> simp

@[simp] theorem orderBlock_base (x0 x1 x2 s) : (orderBlock x0 x1 x2 s).base = s.base := by
  unfold orderBlock
  simp

@[simp] theorem operate_base (x0 x1 s) : (operate x0 x1 s).base = s.base := by
  unfold operate
  simp

@[simp] theorem latchSettings_base (s) : (latchSettings s).base = s.base := by
  unfold latchSettings
  simp

@[simp] theorem startSorts_base (x0 s) : (startSorts x0 s).base = s.base := by
  unfold startSorts
  simp

@[simp] theorem startOwn_base (x0 x1 s) : (startOwn x0 x1 s).base = s.base := by
  unfold startOwn
  simp

@[simp] theorem restOverdue_base (x0 x1 s) : (restOverdue x0 x1 s).base = s.base := by
  unfold restOverdue
  simp

@[simp] theorem followFixed_base (s) : (followFixed s).base = s.base := by
  unfold followFixed
  simp

@[simp] theorem sendBeat_base (s) : (sendBeat s).base = s.base := by
  unfold sendBeat
  simp

@[simp] theorem frameBoundary_base (x0 s) : (frameBoundary x0 s).base = s.base := by
  unfold frameBoundary
  simp

end Sys2Proof.Machine
end

