-- ==== Sys2Proof/Laws/Base/SheafCore.lean ====
section
/-!
SUPPORT. No operation of Machine/SheafCore.lean changes the variant, the waiting commands or the clock.
-/
namespace Sys2Proof.Machine

@[simp] theorem entryStep_base (p e) : (entryStep p e).1.base = p.1.base := by
  unfold entryStep; dsimp only; (repeat' split) <;> simp

@[simp] theorem entryWords_base (x0 s) : (entryWords x0 s).1.base = s.base := by
  unfold entryWords
  exact foldl_base1 _ entryStep_base _ _

@[simp] theorem cancelSet_base (x0 s) : (cancelSet x0 s).base = s.base := by
  unfold cancelSet
  simp

@[simp] theorem endSheaf_base (x0 x1 x2 x3 s) : (endSheaf x0 x1 x2 x3 s).base = s.base := by
  unfold endSheaf
  simp

@[simp] theorem abortSheaf_base (x0 x1 x2 s) : (abortSheaf x0 x1 x2 s).base = s.base := by
  unfold abortSheaf
  (repeat' split) <;> simp

@[simp] theorem loseSheaves_base (s) : (loseSheaves s).base = s.base := by
  unfold loseSheaves
  simp

@[simp] theorem readySheaf_base (x0 s) : (readySheaf x0 s).base = s.base := by
  unfold readySheaf
  dsimp only
  (repeat' split) <;> simp

@[simp] theorem prepareSheaf_base (x0 s) : (prepareSheaf x0 s).base = s.base := by
  unfold prepareSheaf
  dsimp only
  (repeat' split) <;> simp

@[simp] theorem prepareAnswer_base (x0 x1 x2 x3 s) : (prepareAnswer x0 x1 x2 x3 s).base = s.base := by
  unfold prepareAnswer
  dsimp only
  (repeat' split) <;> simp

@[simp] theorem prepareTimeout_base (x0 x1 x2 s) : (prepareTimeout x0 x1 x2 s).base = s.base := by
  unfold prepareTimeout
  (repeat' split) <;> simp

@[simp] theorem forgetPrepared_base (x0 s) : (forgetPrepared x0 s).base = s.base := by
  unfold forgetPrepared
  simp

@[simp] theorem applyEntry_base (x0 x1 s x3) : (applyEntry x0 x1 s x3).base = s.base := by
  unfold applyEntry
  dsimp only
  (repeat' split) <;> simp

@[simp] theorem applyBanks_base (x0 s) : (applyBanks x0 s).base = s.base := by
  unfold applyBanks
  simp

@[simp] theorem downloadCell_base (s x1) : (downloadCell s x1).base = s.base := by
  unfold downloadCell
  simp

@[simp] theorem applySet_base (x0 x1 s) : (applySet x0 x1 s).base = s.base := by
  unfold applySet
  simp

@[simp] theorem applySheaf_base (x0 s) : (applySheaf x0 s).base = s.base := by
  unfold applySheaf
  (repeat' split) <;> simp

@[simp] theorem applyBefore_base (x0 s) : (applyBefore x0 s).base = s.base := by
  unfold applyBefore
  simp

@[simp] theorem watchApply_base (x0 x1 s) : (watchApply x0 x1 s).base = s.base := by
  unfold watchApply
  dsimp only
  (repeat' split) <;> simp

end Sys2Proof.Machine
end

