-- ==== Sys2Proof/Laws/Base/Boundary.lean ====
section
/-!
SUPPORT. No operation of Machine/Boundary.lean changes the variant, the waiting commands or the clock.
-/
namespace Sys2Proof.Machine

@[simp] theorem openBoundary_base (s) : (openBoundary s).base = s.base := by
  unfold openBoundary
  simp

@[simp] theorem outerBoundary_base (x0 s) : (outerBoundary x0 s).base = s.base := by
  unfold outerBoundary
  simp

@[simp] theorem boundaryCause_base (x0 s) : (boundaryCause x0 s).base = s.base := by
  unfold boundaryCause
  dsimp only
  (repeat' split) <;> simp

end Sys2Proof.Machine
end

