-- ==== Sys2Proof/Laws/Base/Link.lean ====
section
/-!
SUPPORT. No operation of Machine/Link.lean changes the variant, the waiting commands or the clock.
-/
namespace Sys2Proof.Machine

@[simp] theorem handoverDone_base (s) : (handoverDone s).base = s.base := by
  unfold handoverDone
  simp

@[simp] theorem loseAwn_base (s) : (loseAwn s).base = s.base := by
  unfold loseAwn
  simp

@[simp] theorem seeEpoch_base (x0 s) : (seeEpoch x0 s).base = s.base := by
  unfold seeEpoch
  simp

@[simp] theorem takeNonce_base (s) : (takeNonce s).1.base = s.base := by
  unfold takeNonce
  simp

@[simp] theorem sendKeyx_base (x0 s) : (sendKeyx x0 s).base = s.base := by
  unfold sendKeyx
  simp

@[simp] theorem trainStep_base (x0 s) : (trainStep x0 s).base = s.base := by
  unfold trainStep
  simp

@[simp] theorem identityFault_base (x0 s) : (identityFault x0 s).base = s.base := by
  unfold identityFault
  simp

@[simp] theorem gotIdentity_base (x0 x1 s) : (gotIdentity x0 x1 s).base = s.base := by
  unfold gotIdentity
  simp

@[simp] theorem gotCell_base (x0 x1 x2 s) : (gotCell x0 x1 x2 s).base = s.base := by
  unfold gotCell
  simp

@[simp] theorem enrolDone_base (x0 x1 s) : (enrolDone x0 x1 s).base = s.base := by
  unfold enrolDone
  simp

@[simp] theorem moduleTxn_base (x0 x1 x2 x3 s) : (moduleTxn x0 x1 x2 x3 s).base = s.base := by
  unfold moduleTxn
  dsimp only
  (repeat' split) <;> simp

@[simp] theorem watchRead_base (x0 x1 x2 x3 s) : (watchRead x0 x1 x2 x3 s).base = s.base := by
  unfold watchRead
  simp

@[simp] theorem txnDone_base (x0 x1 x2 x3 s) : (txnDone x0 x1 x2 x3 s).base = s.base := by
  unfold txnDone; dsimp only; split
  · simp
  · split <;> simp

@[simp] theorem rejectUplink_base (x0 x1 s) : (rejectUplink x0 x1 s).base = s.base := by
  unfold rejectUplink
  dsimp only
  (repeat' split) <;> simp

@[simp] theorem takeRtt_base (x0 x1 x2 s) : (takeRtt x0 x1 x2 s).base = s.base := by
  unfold takeRtt; dsimp only; (repeat' split) <;> simp

@[simp] theorem takeRecord_base (x0 x1 x2 s) : (takeRecord x0 x1 x2 s).base = s.base := by
  unfold takeRecord
  simp

@[simp] theorem acceptUplink_base (x0 x1 x2 s) : (acceptUplink x0 x1 x2 s).base = s.base := by
  unfold acceptUplink
  simp

end Sys2Proof.Machine
end

