-- ==== Sys2Proof/Laws/Base/Pair.lean ====
section
/-!
SUPPORT. No operation of Machine/Pair.lean changes the variant, the waiting commands or the clock.
-/
namespace Sys2Proof.Machine

@[simp] theorem State.setRed_base (s x1) : (State.setRed s x1).base = s.base := by
  unfold State.setRed
  simp

@[simp] theorem claimAwn_base (s) : (claimAwn s).base = s.base := by
  unfold claimAwn
  simp

@[simp] theorem takeCells_base (x0 s) : (takeCells x0 s).base = s.base := by
  unfold takeCells
  simp

@[simp] theorem takeCfg_base (x0 x1 s) : (takeCfg x0 x1 s).base = s.base := by
  unfold takeCfg
  simp

@[simp] theorem askResync_base (s) : (askResync s).base = s.base := by
  unfold askResync
  simp

@[simp] theorem compareDigest_base (s) : (compareDigest s).base = s.base := by
  unfold compareDigest
  simp

@[simp] theorem applyCk_base (x0 s) : (applyCk x0 s).base = s.base := by
  unfold applyCk
  simp

@[simp] theorem completeCk_base (x0 s) : (completeCk x0 s).base = s.base := by
  unfold completeCk
  simp

@[simp] theorem completeFull_base (x0 s) : (completeFull x0 s).base = s.base := by
  unfold completeFull
  simp

@[simp] theorem loseCk_base (s) : (loseCk s).base = s.base := by
  unfold loseCk
  simp

@[simp] theorem ckSegment_base (x0 x1 s) : (ckSegment x0 x1 s).base = s.base := by
  unfold ckSegment
  dsimp only
  (repeat' split) <;> simp

@[simp] theorem fullSegment_base (x0 x1 s) : (fullSegment x0 x1 s).base = s.base := by
  unfold fullSegment
  dsimp only
  (repeat' split) <;> simp

@[simp] theorem followTime_base (x0 x1 s) : (followTime x0 x1 s).base = s.base := by
  unfold followTime
  simp

@[simp] theorem acceptBeat_base (x0 x1 s) : (acceptBeat x0 x1 s).base = s.base := by
  unfold acceptBeat
  simp

@[simp] theorem skipBoundary_base (s) : (skipBoundary s).base = s.base := by
  unfold skipBoundary
  simp

@[simp] theorem restoreCk_base (x0 s) : (restoreCk x0 s).base = s.base := by
  unfold restoreCk
  simp

@[simp] theorem takeReady_base (x0 s) : (takeReady x0 s).base = s.base := by
  unfold takeReady
  simp

@[simp] theorem takeUnready_base (s) : (takeUnready s).base = s.base := by
  unfold takeUnready
  simp

end Sys2Proof.Machine
end

