-- ==== Sys2Proof/Laws/Base/Host.lean ====
section
/-!
SUPPORT. No operation of Machine/Host.lean changes the variant, the waiting commands or the clock.
-/
namespace Sys2Proof.Machine

@[simp] theorem accept_base (s x1) : (accept s x1).1.base = s.base := by
  unfold accept
  simp

@[simp] theorem refused_base (x0 s x2) : (refused x0 s x2).1.base = s.base := by
  unfold refused
  simp

@[simp] theorem denyOp_base (x0 x1 x2 s) : (denyOp x0 x1 x2 s).1.base = s.base := by
  unfold denyOp
  simp

@[simp] theorem readRegs_base (x0 x1 x2 x3 s) : (readRegs x0 x1 x2 x3 s).1.base = s.base := by
  induction x2 generalizing x3 s with
  | zero => rfl
  | succ k ih => unfold readRegs; dsimp only; split <;> simp [ih]

@[simp] theorem writeRegs_base (x0 x1 x2 x3 s) : (writeRegs x0 x1 x2 x3 s).1.base = s.base := by
  induction x2 generalizing x3 s with
  | nil => rfl
  | cons w l ih => unfold writeRegs; dsimp only; split <;> simp [ih]

@[simp] theorem regRead_base (x0 x1 x2 s) : (regRead x0 x1 x2 s).1.base = s.base := by
  unfold regRead; dsimp only; (repeat' split) <;> simp

@[simp] theorem regWrite_base (x0 x1 x2 s) : (regWrite x0 x1 x2 s).1.base = s.base := by
  unfold regWrite; dsimp only; (repeat' split) <;> simp

@[simp] theorem regRmw_base (x0 x1 x2 x3 s) : (regRmw x0 x1 x2 x3 s).1.base = s.base := by
  unfold regRmw; dsimp only; (repeat' split) <;> simp

@[simp] theorem denyMem_base (x0 x1 x2 x3 s) : (denyMem x0 x1 x2 x3 s).1.base = s.base := by
  unfold denyMem
  simp

@[simp] theorem memRead_base (x0 x1 x2 s) : (memRead x0 x1 x2 s).1.base = s.base := by
  unfold memRead; dsimp only; (repeat' split) <;> simp

@[simp] theorem memWrite_base (x0 x1 x2 s) : (memWrite x0 x1 x2 s).1.base = s.base := by
  unfold memWrite; dsimp only; (repeat' split) <;> simp

@[simp] theorem memFill_base (x0 x1 x2 x3 x4 s) : (memFill x0 x1 x2 x3 x4 s).1.base = s.base := by
  unfold memFill
  dsimp only
  (repeat' split) <;> simp

@[simp] theorem notNow_base (s) : (notNow s).1.base = s.base := by
  unfold notNow
  simp

@[simp] theorem askPrecharge_base (s) : (askPrecharge s).1.base = s.base := by
  unfold askPrecharge
  simp

@[simp] theorem askMode_base (a b f s) (h : ∀ s, (f s).base = s.base) : (askMode a b f s).1.base = s.base := by
  unfold askMode; (repeat' split) <;> simp [h]

@[simp] theorem beginEstimate_base (s) : (beginEstimate s).base = s.base := by
  unfold beginEstimate
  simp

@[simp] theorem askStart_base (s) : (askStart s).1.base = s.base := by
  unfold askStart
  simp

@[simp] theorem askBlack_base (s) : (askBlack s).1.base = s.base := by
  unfold askBlack
  simp

@[simp] theorem askIsland_base (s) : (askIsland s).1.base = s.base := by
  unfold askIsland
  simp

@[simp] theorem askResyncMode_base (x0 s) : (askResyncMode x0 s).1.base = s.base := by
  unfold askResyncMode
  simp

@[simp] theorem askStop_base (s) : (askStop s).1.base = s.base := by
  unfold askStop
  simp

@[simp] theorem tieStatus_base (x0 x1 x2 s) : (tieStatus x0 x1 x2 s).1.base = s.base := by
  unfold tieStatus
  simp

@[simp] theorem resetTrip_base (x0 s) : (resetTrip x0 s).1.base = s.base := by
  unfold resetTrip
  simp

@[simp] theorem serviceEnter_base (s) : (serviceEnter s).1.base = s.base := by
  unfold serviceEnter
  simp

@[simp] theorem serviceLeave_base (s) : (serviceLeave s).1.base = s.base := by
  unfold serviceLeave
  simp

@[simp] theorem sheafOpen_base (x0 s) : (sheafOpen x0 s).1.base = s.base := by
  unfold sheafOpen
  (repeat' split) <;> simp

@[simp] theorem sheafAdd_base (x0 x1 x2 s) : (sheafAdd x0 x1 x2 s).1.base = s.base := by
  unfold sheafAdd; dsimp only; (repeat' split) <;> simp

@[simp] theorem sheafCommit_base (x0 x1 x2 x3 x4 s) : (sheafCommit x0 x1 x2 x3 x4 s).1.base = s.base := by
  unfold sheafCommit
  dsimp only
  (repeat' split) <;> simp

@[simp] theorem sheafDiscard_base (x0 x1 s) : (sheafDiscard x0 x1 s).1.base = s.base := by
  unfold sheafDiscard
  dsimp only
  (repeat' split) <;> simp

@[simp] theorem cellCommand_base (x0 x1 x2 s) : (cellCommand x0 x1 x2 s).1.base = s.base := by
  unfold cellCommand
  simp

@[simp] theorem cellTxn_base (x0 x1 x2 x3 x4 x5 x6 s) : (cellTxn x0 x1 x2 x3 x4 x5 x6 s).1.base = s.base := by
  unfold cellTxn
  simp

@[simp] theorem linkBlock_base (x0 x1 x2 s) : (linkBlock x0 x1 x2 s).1.base = s.base := by
  unfold linkBlock
  simp

@[simp] theorem safWriteImage_base (x0 s) : (safWriteImage x0 s).1.base = s.base := by
  unfold safWriteImage
  simp

@[simp] theorem safConfirmImage_base (x0 x1 s) : (safConfirmImage x0 x1 s).1.base = s.base := by
  unfold safConfirmImage
  simp

@[simp] theorem safReset_base (s) : (safReset s).1.base = s.base := by
  unfold safReset
  simp

@[simp] theorem askClaim_base (s) : (askClaim s).1.base = s.base := by
  unfold askClaim
  simp

@[simp] theorem askSwitchover_base (s) : (askSwitchover s).1.base = s.base := by
  unfold askSwitchover
  simp

@[simp] theorem askPairResync_base (s) : (askPairResync s).1.base = s.base := by
  unfold askPairResync
  simp

@[simp] theorem askStep_base (x0 s) : (askStep x0 s).1.base = s.base := by
  unfold askStep
  dsimp only
  (repeat' split) <;> simp

@[simp] theorem askStepAbs_base (x0 x1 x2 s) : (askStepAbs x0 x1 x2 s).1.base = s.base := by
  unfold askStepAbs
  simp

@[simp] theorem askBist_base (x0 s) : (askBist x0 s).1.base = s.base := by
  unfold askBist
  simp

@[simp] theorem askBistResult_base (x0 x1 s) : (askBistResult x0 x1 s).1.base = s.base := by
  unfold askBistResult
  simp

@[simp] theorem askAck_base (x0 s) : (askAck x0 s).1.base = s.base := by
  unfold askAck
  simp

@[simp] theorem readLog_base (x0 x1 s) : (readLog x0 x1 s).1.base = s.base := by
  unfold readLog
  simp

@[simp] theorem factoryEnter_base (s) : (factoryEnter s).1.base = s.base := by
  unfold factoryEnter
  simp

@[simp] theorem injected_base (r) : (injected r).1.base = r.1.base := by simp [injected]

@[simp] theorem runOp_base (x0 x1 x2 s) : (runOp x0 x1 x2 s).1.base = s.base := by
  cases x2 <;> simp [runOp, apply_ite Prod.fst]

end Sys2Proof.Machine
end

