-- ==== Sys2Proof/Laws/Base/Net.lean ====
section
/-!
SUPPORT. No operation of Machine/Net.lean changes the variant, the waiting commands or the clock.
-/
namespace Sys2Proof.Machine

@[simp] theorem sendReply_base (x0 s) : (sendReply x0 s).base = s.base := by
  unfold sendReply
  simp

@[simp] theorem repeated_base (x0 x1 x2 x3 s) : (repeated x0 x1 x2 x3 s).base = s.base := by
  unfold repeated; dsimp only; (repeat' split) <;> simp

@[simp] theorem setWait_base (x0 x1 s) : (setWait x0 x1 s).base = s.base := by
  unfold setWait
  simp

@[simp] theorem afterReply_base (x0 x1 s) : (afterReply x0 x1 s).base = s.base := by
  unfold afterReply
  (repeat' split) <;> simp

@[simp] theorem ingress_base (x0 x1 x2 x3 s) : (ingress x0 x1 x2 x3 s).base = s.base := by
  unfold ingress; dsimp only; (repeat' split) <;> simp_all

@[simp] theorem noteLink_base (x0 s) : (noteLink x0 s).base = s.base := by
  unfold noteLink
  (repeat' split) <;> simp

@[simp] theorem packet_base (x0 x1 x2 s) : (packet x0 x1 x2 s).base = s.base := by
  unfold packet
  (repeat' split) <;> simp

@[simp] theorem serveChannel_base (x0 s) : (serveChannel x0 s).base = s.base := by
  unfold serveChannel
  (repeat' split) <;> simp

@[simp] theorem serveMail_base (x0 s) : (serveMail x0 s).base = s.base := by
  induction x0 generalizing s with
  | zero => rfl
  | succ k ih => unfold serveMail; split <;> simp [ih]

@[simp] theorem settle_base (s) : (settle s).base = s.base := by
  unfold settle
  simp

@[simp] theorem barRead_base (x0 x1 x2 s) : (barRead x0 x1 x2 s).1.base = s.base := by
  unfold barRead; dsimp only; (repeat' split) <;> simp

@[simp] theorem barWrite_base (x0 x1 x2 s) : (barWrite x0 x1 x2 s).base = s.base := by
  unfold barWrite
  (repeat' split) <;> simp

@[simp] theorem copySlots_base (x0 x1 s) : (copySlots x0 x1 s).base = s.base := by
  induction x0 generalizing x1 s with
  | zero => cases x1 <;> rfl
  | succ k ih => cases x1 <;> simp [copySlots, ih]

@[simp] theorem sendEvents_base (x0 s) : (sendEvents x0 s).base = s.base := by
  unfold sendEvents
  simp

end Sys2Proof.Machine
end

