-- ==== Sys2Proof/Laws/Tab.lean ====
section
/-!
SUPPORT. Sparse tables: every operation keeps the canonical form, and what a read gives after a write.
-/
namespace Sys2Proof.Machine

variable {α : Type}

theorem Tab.sorted_iff (t : Tab α) : Tab.sorted t = true ↔ t.Pairwise (fun p q => p.1 < q.1) := by
  induction t with
  | nil => simp [Tab.sorted]
  | cons p r ih =>
    cases r with
    | nil => simp [Tab.sorted]
    | cons q r =>
      simp only [Tab.sorted, Bool.and_eq_true, decide_eq_true_eq, ih, List.pairwise_cons, List.mem_cons]
      constructor
      · rintro ⟨h, hq, hr⟩
        exact ⟨fun x hx => hx.elim (fun e => e ▸ h) (fun m => lt_trans h (hq x m)), hq, hr⟩
      · rintro ⟨h, hq, hr⟩
        exact ⟨h q (.inl rfl), hq, hr⟩

theorem Tab.wf_iff [DecidableEq α] (d : Nat → α) (t : Tab α) :
    Tab.wf d t = true ↔ t.Pairwise (fun p q => p.1 < q.1) ∧ ∀ p ∈ t, p.2 ≠ d p.1 := by
  simp [Tab.wf, Tab.sorted_iff]

theorem Tab.mem_put {t : Tab α} {k : Nat} {v : α} {p : Nat × α} (h : p ∈ Tab.put t k v) : p = (k, v) ∨ p ∈ t := by
  induction t with
  | nil => simpa [Tab.put] using h
  | cons q r ih =>
    unfold Tab.put at h
    split at h
    · simpa using h
    · split at h
      · rcases List.mem_cons.mp h with h | h <;> simp [h]
      · rcases List.mem_cons.mp h with h | h
        · simp [h]
        · rcases ih h with h | h <;> simp [h]

theorem Tab.put_pairwise {t : Tab α} (k : Nat) (v : α) (h : t.Pairwise (fun p q => p.1 < q.1)) :
    (Tab.put t k v).Pairwise (fun p q => p.1 < q.1) := by
  induction t with
  | nil => simp [Tab.put]
  | cons q r ih =>
    rw [List.pairwise_cons] at h
    unfold Tab.put
    split
    · rename_i hk
      refine List.pairwise_cons.mpr ⟨fun p hp => ?_, List.pairwise_cons.mpr h⟩
      rcases List.mem_cons.mp hp with e | m
      · subst e; exact hk
      · exact lt_trans hk (h.1 p m)
    · split
      · rename_i _ e
        exact List.pairwise_cons.mpr ⟨fun p hp => e ▸ h.1 p hp, h.2⟩
      · rename_i h1 h2
        refine List.pairwise_cons.mpr ⟨fun p hp => ?_, ih h.2⟩
        rcases Tab.mem_put hp with e | m
        · subst e; show q.1 < k; omega
        · exact h.1 p m

theorem Tab.erase_sublist (t : Tab α) (k : Nat) : (Tab.erase t k).Sublist t := by
  induction t with
  | nil => exact List.Sublist.refl _
  | cons q r ih =>
    unfold Tab.erase
    split
    · exact ih.cons _
    · exact ih.cons_cons _

theorem Tab.sorted_put (t : Tab α) (k : Nat) (v : α) (h : Tab.sorted t = true) : Tab.sorted (Tab.put t k v) = true :=
  (Tab.sorted_iff _).mpr (Tab.put_pairwise k v ((Tab.sorted_iff _).mp h))

theorem Tab.wf_sublist [DecidableEq α] (d : Nat → α) {t u : Tab α} (hs : u.Sublist t) (h : Tab.wf d t = true) :
    Tab.wf d u = true := by
  rw [Tab.wf_iff] at *
  exact ⟨h.1.sublist hs, fun p hp => h.2 p (hs.subset hp)⟩

theorem Tab.wf_set [DecidableEq α] (d : Nat → α) (t : Tab α) (k : Nat) (v : α) (h : Tab.wf d t = true) :
    Tab.wf d (Tab.set d t k v) = true := by
  unfold Tab.set
  split
  · exact Tab.wf_sublist d (Tab.erase_sublist t k) h
  · rename_i hv
    rw [Tab.wf_iff] at *
    refine ⟨Tab.put_pairwise k v h.1, fun p hp => ?_⟩
    rcases Tab.mem_put hp with e | m
    · subst e; exact hv
    · exact h.2 p m

theorem Tab.wf_filter [DecidableEq α] (d : Nat → α) (t : Tab α) (f : Nat × α → Bool) (h : Tab.wf d t = true) :
    Tab.wf d (t.filter f) = true := Tab.wf_sublist d List.filter_sublist h

theorem Tab.get_put_same (d : Nat → α) (t : Tab α) (k : Nat) (v : α) : Tab.get d (Tab.put t k v) k = v := by
  induction t with
  | nil => simp [Tab.put, Tab.get]
  | cons q r ih =>
    unfold Tab.put
    split
    · simp [Tab.get]
    · split
      · simp [Tab.get]
      · simp [Tab.get, *]

theorem Tab.get_put_other (d : Nat → α) (t : Tab α) (k j : Nat) (v : α) (h : j ≠ k) :
    Tab.get d (Tab.put t k v) j = Tab.get d t j := by
  induction t with
  | nil => simp [Tab.put, Tab.get, Ne.symm h]
  | cons q r ih =>
    unfold Tab.put
    split
    · simp [Tab.get, Ne.symm h]
    · split
      · rename_i _ e; simp [Tab.get, Ne.symm h, e]
      · simp [Tab.get, ih]

theorem Tab.get_erase_same (d : Nat → α) (t : Tab α) (k : Nat) : Tab.get d (Tab.erase t k) k = d k := by
  induction t with
  | nil => rfl
  | cons q r ih =>
    unfold Tab.erase
    split
    · exact ih
    · rename_i e
      simp [Tab.get, e, ih]

theorem Tab.get_erase_other (d : Nat → α) (t : Tab α) (k j : Nat) (h : j ≠ k) :
    Tab.get d (Tab.erase t k) j = Tab.get d t j := by
  induction t with
  | nil => rfl
  | cons q r ih =>
    unfold Tab.erase
    split
    · rename_i e; simp [Tab.get, e, Ne.symm h, ih]
    · simp [Tab.get, ih]

/-- A read after a write at the same key gives the value written. -/
@[simp] theorem Tab.get_set_same [DecidableEq α] (d : Nat → α) (t : Tab α) (k : Nat) (v : α) :
    Tab.get d (Tab.set d t k v) k = v := by
  unfold Tab.set
  split
  · rename_i e; rw [Tab.get_erase_same d t k, e]
  · exact Tab.get_put_same d t k v

/-- A write leaves every other key alone. -/
@[simp] theorem Tab.get_set_other [DecidableEq α] (d : Nat → α) (t : Tab α) (k j : Nat) (v : α) (h : j ≠ k) :
    Tab.get d (Tab.set d t k v) j = Tab.get d t j := by
  unfold Tab.set
  split
  · exact Tab.get_erase_other d t k j h
  · exact Tab.get_put_other d t k j v h

/-! ### Sorting by an order -/

theorem insertBy_perm {α : Type} (lt : α → α → Bool) (x : α) (l : List α) : (insertBy lt x l).Perm (x :: l) := by
  induction l with
  | nil => exact .refl _
  | cons y r ih =>
    unfold insertBy
    split
    · exact (ih.cons y).trans (.swap _ _ _)
    · exact .refl _

/-- Sorting loses nothing and adds nothing. -/
theorem sortBy_perm {α : Type} (lt : α → α → Bool) (l : List α) : (sortBy lt l).Perm l := by
  induction l with
  | nil => exact .refl _
  | cons y r ih => exact (insertBy_perm lt y _).trans (ih.cons y)

end Sys2Proof.Machine
end

