-- ==== Sys2Proof/Laws/CanonForm.lean ====
section
/-!
SUPPORT. The canonical form of registers and memories: what its parts are, and the shared steps of its preservation.
-/
namespace Sys2Proof.Machine

/-- The canonical form as a property of the two parts it looks at. -/
def canonOf (r : Tab Word) (m : MemSt) : Prop := Tab.wf regReset r = true ∧ Memory.wf m = true

/-- The canonical form of the five byte tables. -/
def canonMem (sram dram : Tab Byte) (smark dmark : Tab Mark) (small : Tab SmallBlk) : Prop :=
  Tab.wf (fun _ => 0) sram = true ∧ Tab.sorted dram = true ∧ Tab.wf (fun _ => Mark.clean) smark = true
    ∧ Tab.wf (fun _ => Mark.clean) dmark = true ∧ Tab.wf (fun _ => SmallBlk.clean) small = true

theorem Memory.wf_iff (m : MemSt) : Memory.wf m = true ↔ canonMem m.sram m.dram m.smark m.dmark m.small := by
  simp [Memory.wf, canonMem, and_assoc]

theorem State.canon_iff (s : State) : s.canon ↔ canonOf s.regs s.mem := Iff.rfl

@[simp] theorem State.canon_mk
    (x0 x1 x2 x3 x4 x5 x6 x7 x8 x9 x10 x11 x12 x13 x14 x15 x16 x17 x18 x19 x20 x21 x22 x23 x24 x25 x26 x27 x28 x29 x30 x31) :
    (State.mk x0 x1 x2 x3 x4 x5 x6 x7 x8 x9 x10 x11 x12 x13 x14 x15 x16 x17 x18 x19 x20 x21 x22 x23 x24 x25 x26 x27 x28 x29 x30 x31).canon ↔ canonOf x5 x29 := Iff.rfl

@[simp] theorem canonOf_fold (s : State) : canonOf s.regs s.mem ↔ s.canon := Iff.rfl

@[simp] theorem canonOf_mem (r : Tab Word) (y0 y1 y2 y3 y4 y5 y6 y7 y8 y9 y10) :
    canonOf r (MemSt.mk y0 y1 y2 y3 y4 y5 y6 y7 y8 y9 y10) ↔ Tab.wf regReset r = true ∧ canonMem y0 y1 y2 y3 y5 := by
  simp [canonOf, Memory.wf_iff]

theorem State.canon.wf_regs {s : State} (h : s.canon) : Tab.wf regReset s.regs = true := h.1
theorem State.canon.wf_mem {s : State} (h : s.canon) : canonMem s.mem.sram s.mem.dram s.mem.smark s.mem.dmark s.mem.small :=
  (Memory.wf_iff _).mp h.2

@[simp] theorem State.canon_regs {s : State} (h : s.canon) : Tab.wf regReset s.regs = true := h.1
@[simp] theorem State.canon_mem {s : State} (h : s.canon) :
    canonMem s.mem.sram s.mem.dram s.mem.smark s.mem.dmark s.mem.small := h.wf_mem

@[simp] theorem canonOf_set (s : State) (k : Nat) (v : Word) (h : s.canon) :
    canonOf (Tab.set regReset s.regs k v) s.mem := ⟨Tab.wf_set _ _ _ _ h.1, h.2⟩

theorem ite_canon {c : Prop} [Decidable c] {a b : State} (ha : a.canon) (hb : b.canon) : (if c then a else b).canon := by
  split <;> assumption

@[simp] theorem ite_canon_iff (c : Prop) [Decidable c] (a b : State) :
    (if c then a else b).canon ↔ if c then a.canon else b.canon := by split <;> rfl

@[simp] theorem foldl_canon {α : Type} (g : State → α → State) (h : ∀ s x, s.canon → (g s x).canon) (l : List α) (s : State)
    (hs : s.canon) : (l.foldl g s).canon := by
  induction l generalizing s with
  | nil => exact hs
  | cons x r ih => exact ih _ (h _ _ hs)

@[simp] theorem foldl_canon1 {α β : Type} (g : State × β → α → State × β) (h : ∀ p x, p.1.canon → (g p x).1.canon) (l : List α)
    (p : State × β) (hp : p.1.canon) : (l.foldl g p).1.canon := by
  induction l generalizing p with
  | nil => exact hp
  | cons x r ih => exact ih _ (h _ _ hp)

@[simp] theorem when_canon (s : State) (b : Bool) (f : State → State) (h : ∀ s, s.canon → (f s).canon) (hs : s.canon) :
    (s.when b f).canon := by
  unfold State.when
  split
  · exact h s hs
  · exact hs

end Sys2Proof.Machine
end

