-- ==== Sys2Proof/Laws/Canon/Ops.lean ====
section
/-!
SUPPORT. Every operation of Machine/Ops.lean keeps the canonical form.
-/
namespace Sys2Proof.Machine

@[simp] theorem State.rs_canon (s x1 x2 x3 x4) (h : s.canon) : (State.rs s x1 x2 x3 x4).canon := by
  unfold State.rs
  simp +contextual (maxDischargeDepth := 60) [h]

@[simp] theorem State.rsf_canon (s x1 x2 x3 x4 x5 x6) (h : s.canon) : (State.rsf s x1 x2 x3 x4 x5 x6).canon := by
  unfold State.rsf
  simp +contextual (maxDischargeDepth := 60) [h]

@[simp] theorem State.rsb_canon (s x1 x2 x3 x4 x5) (h : s.canon) : (State.rsb s x1 x2 x3 x4 x5).canon := by
  unfold State.rsb
  simp +contextual (maxDischargeDepth := 60) [h]

@[simp] theorem State.rsat_canon (s x1 x2 x3 x4 x5 x6) (h : s.canon) : (State.rsat s x1 x2 x3 x4 x5 x6).canon := by
  unfold State.rsat
  simp +contextual (maxDischargeDepth := 60) [h]

@[simp] theorem State.rclear_canon (s x1 x2 x3) (h : s.canon) : (State.rclear s x1 x2 x3).canon := by
  unfold State.rclear
  simp +contextual (maxDischargeDepth := 60) [h]

@[simp] theorem State.put_canon (s x1) (h : s.canon) : (State.put s x1).canon := by
  unfold State.put
  simp +contextual (maxDischargeDepth := 60) [h]

@[simp] theorem State.begin_canon (s x1) (h : s.canon) : (State.begin s x1).canon := by
  unfold State.begin
  simp +contextual (maxDischargeDepth := 60) [h]

@[simp] theorem State.setOfs_canon (s x1 x2) (h : s.canon) : (State.setOfs s x1 x2).canon := by
  unfold State.setOfs
  simp +contextual (maxDischargeDepth := 60) [h]

@[simp] theorem State.setRate_canon (s x1 x2) (h : s.canon) : (State.setRate s x1 x2).canon := by
  unfold State.setRate
  simp +contextual (maxDischargeDepth := 60) [h]

@[simp] theorem settleDelta_canon (s) (h : s.canon) : (settleDelta s).canon := by
  unfold settleDelta
  simp +contextual (maxDischargeDepth := 60) [h]

@[simp] theorem State.setPath_canon (s x1 x2) (h : s.canon) : (State.setPath s x1 x2).canon := by
  unfold State.setPath
  simp +contextual (maxDischargeDepth := 60) [h]

@[simp] theorem pushOn_canon (x0 x1 s) (h : s.canon) : (pushOn x0 x1 s).1.canon := by
  unfold pushOn
  simp +contextual (maxDischargeDepth := 60) [h]

@[simp] theorem pushAll_canon (x0 s) (h : s.canon) : (pushAll x0 s).1.canon := by
  unfold pushAll
  simp +contextual (maxDischargeDepth := 60) [h]

@[simp] theorem logEntry_canon (x0 x1 x2 x3 s) (h : s.canon) : (logEntry x0 x1 x2 x3 s).canon := by
  unfold logEntry
  simp +contextual (maxDischargeDepth := 60) [h]

@[simp] theorem capture_canon (x0 x1 x2 s) (h : s.canon) : (capture x0 x1 x2 s).canon := by
  unfold capture
  simp +contextual (maxDischargeDepth := 60) [h]

@[simp] theorem raise0_canon (x0 s) (h : s.canon) : (raise0 x0 s).1.canon := by
  unfold raise0
  simp +contextual (maxDischargeDepth := 60) [h]

@[simp] theorem overflowFaults_canon (x0 x1 s) (h : s.canon) : (overflowFaults x0 x1 s).canon := by
  induction x0 generalizing x1 s with
  | zero => simp +contextual (maxDischargeDepth := 60) [h, overflowFaults]
  | succ k ih => cases x1 <;> simp +contextual (maxDischargeDepth := 60) [h, overflowFaults, ih]

@[simp] theorem emit_canon (x0 x1 x2 s x4) (h : s.canon) : (emit x0 x1 x2 s x4).canon := by
  unfold emit
  simp +contextual (maxDischargeDepth := 60) [h]

@[simp] theorem violation_canon (x0 x1 x2 x3 s) (h : s.canon) : (violation x0 x1 x2 x3 s).canon := by
  unfold violation
  simp +contextual (maxDischargeDepth := 60) [h]

@[simp] theorem replaceCause_canon (x0 s) (h : s.canon) : (replaceCause x0 s).canon := by
  unfold replaceCause
  simp +contextual (maxDischargeDepth := 60) [h]

@[simp] theorem State.setChan_canon (s x1 x2) (h : s.canon) : (State.setChan s x1 x2).canon := by
  unfold State.setChan
  simp +contextual (maxDischargeDepth := 60) [h]

@[simp] theorem mailSignal_canon (x0 x1 x2 s) (h : s.canon) : (mailSignal x0 x1 x2 s).canon := by
  unfold mailSignal
  simp +contextual (maxDischargeDepth := 60) [h]

@[simp] theorem ringBell_canon (x0 s) (h : s.canon) : (ringBell x0 s).canon := by
  unfold ringBell
  simp +contextual (maxDischargeDepth := 60) [h]

@[simp] theorem setNote_canon (x0 s) (h : s.canon) : (setNote x0 s).canon := by
  unfold setNote
  simp +contextual (maxDischargeDepth := 60) [h]

@[simp] theorem mailPush_canon (x0 x1 s) (h : s.canon) : (mailPush x0 x1 s).canon := by
  unfold mailPush
  simp +contextual (maxDischargeDepth := 60) [h]

@[simp] theorem endCross_canon (x0 s) (h : s.canon) : (endCross x0 s).canon := by
  unfold endCross
  simp +contextual (maxDischargeDepth := 60) [h]

@[simp] theorem mailReset_canon (x0 s) (h : s.canon) : (mailReset x0 s).canon := by
  unfold mailReset
  simp +contextual (maxDischargeDepth := 60) [h]

@[simp] theorem ringAdvance_canon (x0 s) (h : s.canon) : (ringAdvance x0 s).canon := by
  unfold ringAdvance
  simp +contextual (maxDischargeDepth := 60) [h]

@[simp] theorem deliver_canon (x0 s) (h : s.canon) : (deliver x0 s).canon := by
  unfold deliver
  dsimp only
  (repeat' split) <;> simp +contextual (maxDischargeDepth := 60) [h]

@[simp] theorem cacheReply_canon (x0 s) (h : s.canon) : (cacheReply x0 s).canon := by
  unfold cacheReply
  simp +contextual (maxDischargeDepth := 60) [h]

@[simp] theorem answer_canon (x0 x1 x2 x3 s) (h : s.canon) : (answer x0 x1 x2 x3 s).canon := by
  unfold answer
  simp +contextual (maxDischargeDepth := 60) [h]

@[simp] theorem answerAll_canon (x0 x1 x2 x3 s) (h : s.canon) : (answerAll x0 x1 x2 x3 s).canon := by
  unfold answerAll
  simp +contextual (maxDischargeDepth := 60) [h]

@[simp] theorem drainReplies_canon (x0 s) (h : s.canon) : (drainReplies x0 s).canon := by
  induction x0 generalizing s with
  | nil => exact h
  | cons r l ih => unfold drainReplies; split <;> simp +contextual (maxDischargeDepth := 60) [h, ih]

@[simp] theorem pathReset_canon (x0 s) (h : s.canon) : (pathReset x0 s).canon := by
  unfold pathReset
  simp +contextual (maxDischargeDepth := 60) [h]

@[simp] theorem logOverride_canon (x0 x1 x2 x3 s) (h : s.canon) : (logOverride x0 x1 x2 x3 s).canon := by
  unfold logOverride
  simp +contextual (maxDischargeDepth := 60) [h]

@[simp] theorem setGlobal_canon (x0 x1 s) (h : s.canon) : (setGlobal x0 x1 s).canon := by
  unfold setGlobal
  simp +contextual (maxDischargeDepth := 60) [h]

@[simp] theorem releaseTrip_canon (s) (h : s.canon) : (releaseTrip s).canon := by
  unfold releaseTrip
  simp +contextual (maxDischargeDepth := 60) [h]

@[simp] theorem setMode_canon (x0 x1 s) (h : s.canon) : (setMode x0 x1 s).canon := by
  unfold setMode
  simp +contextual (maxDischargeDepth := 60) [h]

@[simp] theorem orderOut_canon (x0 s) (h : s.canon) : (orderOut x0 s).canon := by
  unfold orderOut
  simp +contextual (maxDischargeDepth := 60) [h]

@[simp] theorem blockLinks_canon (x0 x1 s) (h : s.canon) : (blockLinks x0 x1 s).canon := by
  unfold blockLinks
  simp +contextual (maxDischargeDepth := 60) [h]

@[simp] theorem blockAll_canon (s) (h : s.canon) : (blockAll s).canon := by
  unfold blockAll
  simp +contextual (maxDischargeDepth := 60) [h]

end Sys2Proof.Machine
end

