-- ==== Sys2Proof/Laws/Canon/Record.lean ====
section
/-!
SUPPORT. Every operation of Machine/Record.lean keeps the canonical form.
-/
namespace Sys2Proof.Machine

@[simp] theorem closeUnit_canon (s) (h : s.canon) : (closeUnit s).canon := by
  unfold closeUnit
  simp +contextual (maxDischargeDepth := 60) [h]

@[simp] theorem placeRec_canon (x0 s) (h : s.canon) : (placeRec x0 s).canon := by
  unfold placeRec
  simp +contextual (maxDischargeDepth := 60) [h]

@[simp] theorem dataRec_canon (x0 x1 x2 x3 s) (h : s.canon) : (dataRec x0 x1 x2 x3 s).canon := by
  unfold dataRec
  simp +contextual (maxDischargeDepth := 60) [h]

@[simp] theorem ctlRec_canon (x0 s) (h : s.canon) : (ctlRec x0 s).canon := by
  unfold ctlRec
  simp +contextual (maxDischargeDepth := 60) [h]

@[simp] theorem timeRec_canon (x0 s) (h : s.canon) : (timeRec x0 s).canon := by
  unfold timeRec
  simp +contextual (maxDischargeDepth := 60) [h]

@[simp] theorem contentRec_canon (s) (h : s.canon) : (contentRec s).canon := by
  unfold contentRec
  simp +contextual (maxDischargeDepth := 60) [h]

@[simp] theorem stepRecs_canon (s) (h : s.canon) : (stepRecs s).canon := by
  unfold stepRecs
  simp +contextual (maxDischargeDepth := 60) [h]

@[simp] theorem State.setTrg_canon (s x1 x2) (h : s.canon) : (State.setTrg s x1 x2).canon := by
  unfold State.setTrg
  simp +contextual (maxDischargeDepth := 60) [h]

@[simp] theorem startPulse_canon (x0 s) (h : s.canon) : (startPulse x0 s).canon := by
  unfold startPulse
  simp +contextual (maxDischargeDepth := 60) [h]

@[simp] theorem fireOutputs_canon (x0 s) (h : s.canon) : (fireOutputs x0 s).canon := by
  unfold fireOutputs
  simp +contextual (maxDischargeDepth := 60) [h]

@[simp] theorem placeMark_canon (x0 s) (h : s.canon) : (placeMark x0 s).canon := by
  unfold placeMark
  simp +contextual (maxDischargeDepth := 60) [h]

@[simp] theorem flushMarks_canon (s) (h : s.canon) : (flushMarks s).canon := by
  unfold flushMarks
  simp +contextual (maxDischargeDepth := 60) [h]

@[simp] theorem markCoinc_canon (s) (h : s.canon) : (markCoinc s).canon := by
  unfold markCoinc
  simp +contextual (maxDischargeDepth := 60) [h]

@[simp] theorem fireOne_canon (x0 x1 x2 s) (h : s.canon) : (fireOne x0 x1 x2 s).canon := by
  unfold fireOne
  simp +contextual (maxDischargeDepth := 60) [h]

@[simp] theorem fireUnits_canon (x0 s) (h : s.canon) : (fireUnits x0 s).canon := by
  unfold fireUnits
  simp +contextual (maxDischargeDepth := 60) [h]

@[simp] theorem prime_canon (x0 x1 s) (h : s.canon) : (prime x0 x1 s).canon := by
  unfold prime
  simp +contextual (maxDischargeDepth := 60) [h]

@[simp] theorem sampleTrigger_canon (x0 x1 x2 x3 s) (h : s.canon) : (sampleTrigger x0 x1 x2 x3 s).canon := by
  unfold sampleTrigger
  simp +contextual (maxDischargeDepth := 60) [h]

end Sys2Proof.Machine
end

