-- ==== Sys2Proof/Laws/Canon/Faults.lean ====
section
/-!
SUPPORT. Every operation of Machine/Faults.lean keeps the canonical form.
-/
namespace Sys2Proof.Machine

@[simp] theorem State.setArm_canon (s x1 x2) (h : s.canon) : (State.setArm s x1 x2).canon := by
  unfold State.setArm
  simp +contextual (maxDischargeDepth := 60) [h]

@[simp] theorem blockArms_canon (s) (h : s.canon) : (blockArms s).canon := by
  unfold blockArms
  simp +contextual (maxDischargeDepth := 60) [h]

@[simp] theorem endBurst_canon (s) (h : s.canon) : (endBurst s).canon := by
  unfold endBurst
  dsimp only
  (repeat' split) <;> simp +contextual (maxDischargeDepth := 60) [h]

@[simp] theorem stopEngine_canon (s) (h : s.canon) : (stopEngine s).canon := by
  unfold stopEngine
  simp +contextual (maxDischargeDepth := 60) [h]

@[simp] theorem enterArmed_canon (s) (h : s.canon) : (enterArmed s).canon := by
  unfold enterArmed
  simp +contextual (maxDischargeDepth := 60) [h]

@[simp] theorem askSf1_canon (x0 s) (h : s.canon) : (askSf1 x0 s).canon := by
  unfold askSf1
  simp +contextual (maxDischargeDepth := 60) [h]

@[simp] theorem driveTrip_canon (s) (h : s.canon) : (driveTrip s).canon := by
  unfold driveTrip
  simp +contextual (maxDischargeDepth := 60) [h]

@[simp] theorem abortBist_canon (s) (h : s.canon) : (abortBist s).canon := by
  unfold abortBist
  simp +contextual (maxDischargeDepth := 60) [h]

@[simp] theorem tripNow_canon (x0 x1 s) (h : s.canon) : (tripNow x0 x1 s).canon := by
  unfold tripNow
  dsimp only
  split <;> simp +contextual (maxDischargeDepth := 60) [h]

@[simp] theorem stopNow_canon (s) (h : s.canon) : (stopNow s).canon := by
  unfold stopNow
  dsimp only
  (repeat' split) <;> simp +contextual (maxDischargeDepth := 60) [h]

@[simp] theorem levelAction_canon (x0 x1 x2 s) (h : s.canon) : (levelAction x0 x1 x2 s).canon := by
  unfold levelAction
  (repeat' split) <;> simp +contextual (maxDischargeDepth := 60) [h]

@[simp] theorem faultTrigger_canon (x0 x1 s) (h : s.canon) : (faultTrigger x0 x1 s).canon := by
  unfold faultTrigger
  simp +contextual (maxDischargeDepth := 60) [h]

@[simp] theorem raise_canon (x0 s x2) (h : s.canon) : (raise x0 s x2).canon := by
  unfold raise
  simp +contextual (maxDischargeDepth := 60) [h]

@[simp] theorem fault_canon (x0 x1 s x3) (h : s.canon) : (fault x0 x1 s x3).canon := by
  unfold fault
  simp +contextual (maxDischargeDepth := 60) [h]

@[simp] theorem faultAt_canon (x0 x1 x2 x3 s) (h : s.canon) : (faultAt x0 x1 x2 x3 s).canon := by
  unfold faultAt
  simp +contextual (maxDischargeDepth := 60) [h]

@[simp] theorem holdFault_canon (x0 x1 s) (h : s.canon) : (holdFault x0 x1 s).canon := by
  unfold holdFault
  simp +contextual (maxDischargeDepth := 60) [h]

@[simp] theorem holdAt_canon (x0 x1 x2 x3 s) (h : s.canon) : (holdAt x0 x1 x2 x3 s).canon := by
  unfold holdAt
  simp +contextual (maxDischargeDepth := 60) [h]

@[simp] theorem raiseHeld_canon (s) (h : s.canon) : (raiseHeld s).canon := by
  unfold raiseHeld
  simp +contextual (maxDischargeDepth := 60) [h]

end Sys2Proof.Machine
end

