-- ==== Sys2Proof/Laws/Canon/RegBase.lean ====
section
/-!
SUPPORT. Every operation of Machine/RegBase.lean keeps the canonical form.
-/
namespace Sys2Proof.Machine

@[simp] theorem storeReg_canon (x0 x1 s) (h : s.canon) : (storeReg x0 x1 s).canon := by
  unfold storeReg
  simp +contextual (maxDischargeDepth := 60) [h]

end Sys2Proof.Machine
end

