-- ==== Sys2Proof/Laws/Canon/Fil.lean ====
section
/-!
SUPPORT. Every operation of Machine/Fil.lean keeps the canonical form.
-/
namespace Sys2Proof.Machine

@[simp] theorem State.setNch_canon (s x1 x2) (h : s.canon) : (State.setNch s x1 x2).canon := by
  unfold State.setNch
  simp +contextual (maxDischargeDepth := 60) [h]

@[simp] theorem State.setInp_canon (s x1 x2) (h : s.canon) : (State.setInp s x1 x2).canon := by
  unfold State.setInp
  simp +contextual (maxDischargeDepth := 60) [h]

@[simp] theorem State.setEng_canon (s x1) (h : s.canon) : (State.setEng s x1).canon := by
  unfold State.setEng
  simp +contextual (maxDischargeDepth := 60) [h]

@[simp] theorem filSnapshot_canon (x0 s) (h : s.canon) : (filSnapshot x0 s).canon := by
  unfold filSnapshot
  dsimp only
  (repeat' split) <;> simp +contextual (maxDischargeDepth := 60) [h]

@[simp] theorem privRec_canon (s) (h : s.canon) : (privRec s).canon := by
  unfold privRec
  dsimp only
  (repeat' split) <;> simp +contextual (maxDischargeDepth := 60) [h]

@[simp] theorem filWrite_canon (x0 x1 s) (h : s.canon) : (filWrite x0 x1 s).canon := by
  unfold filWrite
  dsimp only
  (repeat' split) <;> simp +contextual (maxDischargeDepth := 60) [h]

@[simp] theorem stuckFault_canon (x0 s) (h : s.canon) : (stuckFault x0 s).canon := by
  unfold stuckFault
  simp +contextual (maxDischargeDepth := 60) [h]

@[simp] theorem transition_canon (x0 x1 s) (h : s.canon) : (transition x0 x1 s).canon := by
  unfold transition
  simp +contextual (maxDischargeDepth := 60) [h]

@[simp] theorem transitions_canon (x0 x1 s) (h : s.canon) : (transitions x0 x1 s).canon := by
  unfold transitions
  dsimp only
  (repeat' split) <;> simp +contextual (maxDischargeDepth := 60) [h]

@[simp] theorem normalSample_canon (x0 x1 s) (h : s.canon) : (normalSample x0 x1 s).canon := by
  unfold normalSample
  simp +contextual (maxDischargeDepth := 60) [h]

@[simp] theorem privSet_canon (x0 s) (h : s.canon) : (privSet x0 s).canon := by
  unfold privSet
  dsimp only
  split <;> simp +contextual (maxDischargeDepth := 60) [h]

@[simp] theorem startPending_canon (s) (h : s.canon) : (startPending s).canon := by
  unfold startPending
  simp +contextual (maxDischargeDepth := 60) [h]

end Sys2Proof.Machine
end

