-- ==== Sys2Proof/Laws/Canon/Time.lean ====
section
/-!
SUPPORT. Every operation of Machine/Time.lean keeps the canonical form.
-/
namespace Sys2Proof.Machine

@[simp] theorem State.setDmn_canon (s x1 x2) (h : s.canon) : (State.setDmn s x1 x2).canon := by
  unfold State.setDmn
  simp +contextual (maxDischargeDepth := 60) [h]

@[simp] theorem timeEvent_canon (x0 x1 s) (h : s.canon) : (timeEvent x0 x1 s).canon := by
  unfold timeEvent
  simp +contextual (maxDischargeDepth := 60) [h]

@[simp] theorem refreshHoldover_canon (s) (h : s.canon) : (refreshHoldover s).canon := by
  unfold refreshHoldover
  simp +contextual (maxDischargeDepth := 60) [h]

@[simp] theorem switchTo_canon (x0 s) (h : s.canon) : (switchTo x0 s).canon := by
  unfold switchTo
  simp +contextual (maxDischargeDepth := 60) [h]

@[simp] theorem wantSet_canon (s) (h : s.canon) : (wantSet s).canon := by
  unfold wantSet
  simp +contextual (maxDischargeDepth := 60) [h]

@[simp] theorem ppsFall_canon (s) (h : s.canon) : (ppsFall s).canon := by
  unfold ppsFall
  simp +contextual (maxDischargeDepth := 60) [h]

@[simp] theorem reselect_canon (s) (h : s.canon) : (reselect s).canon := by
  unfold reselect
  simp +contextual (maxDischargeDepth := 60) [h]

@[simp] theorem setDomState_canon (x0 x1 s) (h : s.canon) : (setDomState x0 x1 s).canon := by
  unfold setDomState
  simp +contextual (maxDischargeDepth := 60) [h]

@[simp] theorem restartDom_canon (x0 s) (h : s.canon) : (restartDom x0 s).canon := by
  unfold restartDom
  simp +contextual (maxDischargeDepth := 60) [h]

@[simp] theorem freezeRate_canon (x0 s) (h : s.canon) : (freezeRate x0 s).canon := by
  unfold freezeRate
  simp +contextual (maxDischargeDepth := 60) [h]

@[simp] theorem atOnce_canon (x0 x1 x2 s) (hf : ∀ s, s.canon → (x2 s).canon) (h : s.canon) : (atOnce x0 x1 x2 s).canon := by
  unfold atOnce
  (repeat' split) <;> simp +contextual (maxDischargeDepth := 60) [h, hf]

@[simp] theorem correct_canon (x0 x1 s) (h : s.canon) : (correct x0 x1 s).canon := by
  unfold correct
  simp +contextual (maxDischargeDepth := 60) [h]

@[simp] theorem changeRate_canon (x0 x1 s) (h : s.canon) : (changeRate x0 x1 s).canon := by
  unfold changeRate
  simp +contextual (maxDischargeDepth := 60) [h]

@[simp] theorem servo_canon (x0 x1 s) (h : s.canon) : (servo x0 x1 s).canon := by
  unfold servo
  simp +contextual (maxDischargeDepth := 60) [h]

@[simp] theorem offsetOf_canon (x0 x1 s) (h : s.canon) : (offsetOf x0 x1 s).canon := by
  unfold offsetOf
  dsimp only
  (repeat' split) <;> simp +contextual (maxDischargeDepth := 60) [h]

@[simp] theorem slewStep_canon (s) (h : s.canon) : (slewStep s).canon := by
  unfold slewStep
  simp +contextual (maxDischargeDepth := 60) [h]

@[simp] theorem restartFilters_canon (s) (h : s.canon) : (restartFilters s).canon := by
  unfold restartFilters
  simp +contextual (maxDischargeDepth := 60) [h]

@[simp] theorem moveS_canon (x0 s) (h : s.canon) : (moveS x0 s).canon := by
  unfold moveS
  simp +contextual (maxDischargeDepth := 60) [h]

@[simp] theorem takeRef_canon (x0 s) (h : s.canon) : (takeRef x0 s).canon := by
  unfold takeRef
  simp +contextual (maxDischargeDepth := 60) [h]

@[simp] theorem applyStep_canon (s x1) (h : s.canon) : (applyStep s x1).canon := by
  unfold applyStep
  dsimp only
  (repeat' split) <;> simp +contextual (maxDischargeDepth := 60) [h]

@[simp] theorem applySteps_canon (s) (h : s.canon) : (applySteps s).canon := by
  unfold applySteps
  simp +contextual (maxDischargeDepth := 60) [h]

@[simp] theorem noteBest_canon (x0 s) (h : s.canon) : (noteBest x0 s).canon := by
  unfold noteBest
  (repeat' split) <;> simp +contextual (maxDischargeDepth := 60) [h]

@[simp] theorem dropMasters_canon (x0 s) (h : s.canon) : (dropMasters x0 s).canon := by
  unfold dropMasters
  simp +contextual (maxDischargeDepth := 60) [h]

@[simp] theorem listenEnd_canon (x0 s) (h : s.canon) : (listenEnd x0 s).canon := by
  unfold listenEnd
  simp +contextual (maxDischargeDepth := 60) [h]

@[simp] theorem hearMaster_canon (x0 x1 s) (h : s.canon) : (hearMaster x0 x1 s).canon := by
  unfold hearMaster
  simp +contextual (maxDischargeDepth := 60) [h]

@[simp] theorem syncMsg_canon (x0 x1 s) (h : s.canon) : (syncMsg x0 x1 s).canon := by
  unfold syncMsg
  simp +contextual (maxDischargeDepth := 60) [h]

@[simp] theorem timSnapshot_canon (x0 s) (h : s.canon) : (timSnapshot x0 s).canon := by
  unfold timSnapshot
  simp +contextual (maxDischargeDepth := 60) [h]

@[simp] theorem timWrite_canon (x0 x1 s) (h : s.canon) : (timWrite x0 x1 s).canon := by
  unfold timWrite
  dsimp only
  (repeat' split) <;> simp +contextual (maxDischargeDepth := 60) [h]

@[simp] theorem sendPdelay_canon (s) (h : s.canon) : (sendPdelay s).canon := by
  unfold sendPdelay
  simp +contextual (maxDischargeDepth := 60) [h]

end Sys2Proof.Machine
end

