-- ==== Sys2Proof/Laws/Canon/Clock.lean ====
section
/-!
SUPPORT. Every operation of Machine/Clock.lean keeps the canonical form.
-/
namespace Sys2Proof.Machine

@[simp] theorem State.setClk_canon (s x1) (h : s.canon) : (State.setClk s x1).canon := by
  unfold State.setClk
  simp +contextual (maxDischargeDepth := 60) [h]

@[simp] theorem State.setOut_canon (s x1 x2) (h : s.canon) : (State.setOut s x1 x2).canon := by
  unfold State.setOut
  simp +contextual (maxDischargeDepth := 60) [h]

@[simp] theorem stopOut_canon (x0 s) (h : s.canon) : (stopOut x0 s).canon := by
  unfold stopOut
  simp +contextual (maxDischargeDepth := 60) [h]

@[simp] theorem runOut_canon (x0 x1 s) (h : s.canon) : (runOut x0 x1 s).canon := by
  unfold runOut
  simp +contextual (maxDischargeDepth := 60) [h]

@[simp] theorem startOut_canon (x0 s) (h : s.canon) : (startOut x0 s).canon := by
  unfold startOut
  simp +contextual (maxDischargeDepth := 60) [h]

@[simp] theorem outWrite_canon (x0 x1 s) (h : s.canon) : (outWrite x0 x1 s).canon := by
  unfold outWrite
  simp +contextual (maxDischargeDepth := 60) [h]

@[simp] theorem gateOff_canon (s) (h : s.canon) : (gateOff s).canon := by
  unfold gateOff
  simp +contextual (maxDischargeDepth := 60) [h]

@[simp] theorem applyN_canon (s) (h : s.canon) : (applyN s).canon := by
  unfold applyN
  simp +contextual (maxDischargeDepth := 60) [h]

@[simp] theorem clkWrite_canon (x0 x1 s) (h : s.canon) : (clkWrite x0 x1 s).canon := by
  unfold clkWrite
  dsimp only
  (repeat' split) <;> simp +contextual (maxDischargeDepth := 60) [h]

@[simp] theorem ppsEdge_canon (s) (h : s.canon) : (ppsEdge s).canon := by
  unfold ppsEdge
  simp +contextual (maxDischargeDepth := 60) [h]

end Sys2Proof.Machine
end

