-- ==== Sys2Proof/Laws/Canon/MemCore.lean ====
section
/-!
SUPPORT. Every operation of Machine/MemCore.lean keeps the canonical form.
-/
namespace Sys2Proof.Machine

@[simp] theorem memFault_canon (x0 x1 x2 x3 x4 s) (h : s.canon) : (memFault x0 x1 x2 x3 x4 s).canon := by
  unfold memFault
  simp +contextual (maxDischargeDepth := 60) [h]

@[simp] theorem elogEntry_canon (x0 x1 x2 x3 x4 x5 x6 s) (h : s.canon) : (elogEntry x0 x1 x2 x3 x4 x5 x6 s).canon := by
  unfold elogEntry
  simp +contextual (maxDischargeDepth := 60) [h]

@[simp] theorem logCe_canon (x0 x1 x2 x3 x4 s) (h : s.canon) : (logCe x0 x1 x2 x3 x4 s).canon := by
  unfold logCe
  simp +contextual (maxDischargeDepth := 60) [h]

@[simp] theorem logUe_canon (x0 x1 x2 x3 x4 x5 x6 x7 x8 x9 s) (h : s.canon) : (logUe x0 x1 x2 x3 x4 x5 x6 x7 x8 x9 s).canon := by
  unfold logUe
  simp +contextual (maxDischargeDepth := 60) [h]

@[simp] theorem setByte_canon (x0 x1 x2 s) (h : s.canon) : (setByte x0 x1 x2 s).canon := by
  obtain ⟨m1, m2, m3, m4, m5⟩ := h.wf_mem
  unfold setByte
  split
  · exact ⟨h.1, (Memory.wf_iff _).mpr ⟨m1, Tab.sorted_put _ _ _ m2, m3, m4, m5⟩⟩
  · exact ⟨h.1, (Memory.wf_iff _).mpr ⟨Tab.wf_set _ _ _ _ m1, m2, m3, m4, m5⟩⟩

@[simp] theorem setMark_canon (x0 x1 x2 s) (h : s.canon) : (setMark x0 x1 x2 s).canon := by
  obtain ⟨m1, m2, m3, m4, m5⟩ := h.wf_mem
  unfold setMark
  split
  · exact ⟨h.1, (Memory.wf_iff _).mpr ⟨m1, m2, m3, Tab.wf_set _ _ _ _ m4, m5⟩⟩
  · exact ⟨h.1, (Memory.wf_iff _).mpr ⟨m1, m2, Tab.wf_set _ _ _ _ m3, m4, m5⟩⟩

@[simp] theorem setWord_canon (x0 x1 x2 x3 s) (h : s.canon) : (setWord x0 x1 x2 x3 s).canon := by
  unfold setWord
  simp +contextual (maxDischargeDepth := 60) [h]

@[simp] theorem readWord_canon (x0 x1 x2 x3 s) (h : s.canon) : (readWord x0 x1 x2 x3 s).1.canon := by
  unfold readWord; dsimp only; split <;> simp +contextual (maxDischargeDepth := 60) [h]

@[simp] theorem writeWord_canon (x0 x1 x2 x3 x4 x5 s) (h : s.canon) : (writeWord x0 x1 x2 x3 x4 x5 s).1.canon := by
  unfold writeWord; dsimp only; split <;> [simp +contextual (maxDischargeDepth := 60) [h]; (split <;> simp +contextual (maxDischargeDepth := 60) [h])]

@[simp] theorem readRange_canon (x0 x1 x2 x3 x4 x5 x6 s) (h : s.canon) : (readRange x0 x1 x2 x3 x4 x5 x6 s).1.canon := by
  induction x3 generalizing x2 x4 x5 x6 s with
  | zero => exact h
  | succ k ih => unfold readRange; dsimp only; (repeat' split) <;> simp +contextual (maxDischargeDepth := 60) [h, ih]

@[simp] theorem writeRange_canon (x0 x1 x2 x3 x4 x5 x6 s) (h : s.canon) : (writeRange x0 x1 x2 x3 x4 x5 x6 s).1.canon := by
  induction x3 generalizing x2 x4 x5 x6 s with
  | zero => exact h
  | succ k ih => unfold writeRange; dsimp only; (repeat' split) <;> simp +contextual (maxDischargeDepth := 60) [h, ih]

@[simp] theorem fillWords_canon (x0 x1 x2 x3 s) (h : s.canon) : (fillWords x0 x1 x2 x3 s).canon := by
  induction x2 generalizing x3 s with
  | zero => exact h
  | succ k ih => simp +contextual (maxDischargeDepth := 60) [h, fillWords, ih]

@[simp] theorem setBlk_canon (x0 x1 s) (h : s.canon) : (setBlk x0 x1 s).canon := by
  obtain ⟨m1, m2, m3, m4, m5⟩ := h.wf_mem
  exact ⟨h.1, (Memory.wf_iff _).mpr ⟨m1, m2, m3, m4, Tab.wf_set _ _ _ _ m5⟩⟩

@[simp] theorem touchBlk_canon (x0 x1 x2 x3 s) (h : s.canon) : (touchBlk x0 x1 x2 x3 s).canon := by
  unfold touchBlk; dsimp only; split <;> simp +contextual (maxDischargeDepth := 60) [h]

@[simp] theorem consumerRead_canon (x0 s) (h : s.canon) : (consumerRead x0 s).canon := by
  unfold consumerRead
  dsimp only
  (repeat' split) <;> simp +contextual (maxDischargeDepth := 60) [h]

@[simp] theorem readTables_canon (s) (h : s.canon) : (readTables s).canon := by
  unfold readTables
  simp +contextual (maxDischargeDepth := 60) [h]

@[simp] theorem smallWrite_canon (x0 x1 s) (h : s.canon) : (smallWrite x0 x1 s).canon := by
  unfold smallWrite
  dsimp only
  (repeat' split) <;> simp +contextual (maxDischargeDepth := 60) [h]

@[simp] theorem copyWord_canon (x0 x1 s) (h : s.canon) : (copyWord x0 x1 s).canon := by
  unfold copyWord; extract_lets x; split <;> simp +contextual (maxDischargeDepth := 60) [h]

@[simp] theorem enterRetired_canon (x0 x1 s) (h : s.canon) : (enterRetired x0 x1 s).canon := by
  unfold enterRetired
  simp +contextual (maxDischargeDepth := 60) [h]

@[simp] theorem reenter_canon (x0 s) (h : s.canon) : (reenter x0 s).canon := by
  unfold reenter
  simp +contextual (maxDischargeDepth := 60) [h]

@[simp] theorem retireRequest_canon (x0 x1 s) (h : s.canon) : (retireRequest x0 x1 s).1.canon := by
  unfold retireRequest
  simp +contextual (maxDischargeDepth := 60) [h]

@[simp] theorem retireDone_canon (x0 x1 s) (h : s.canon) : (retireDone x0 x1 s).canon := by
  unfold retireDone
  simp +contextual (maxDischargeDepth := 60) [h]

@[simp] theorem gleanMark_canon (x0 x1 s) (h : s.canon) : (gleanMark x0 x1 s).canon := by
  unfold gleanMark; extract_lets x; split <;> simp +contextual (maxDischargeDepth := 60) [h]

@[simp] theorem gleanSmall_canon (s) (h : s.canon) : (gleanSmall s).canon := by
  unfold gleanSmall
  exact foldl_canon _ (fun s p h => by split <;> simp +contextual (maxDischargeDepth := 60) [h]) _ _ h

@[simp] theorem gleanWord_canon (x0 s) (h : s.canon) : (gleanWord x0 s).canon := by
  unfold gleanWord
  simp +contextual (maxDischargeDepth := 60) [h]

end Sys2Proof.Machine
end

