-- ==== Sys2Proof/Laws/Canon/CrcUnit.lean ====
section
/-!
SUPPORT. Every operation of Machine/CrcUnit.lean keeps the canonical form.
-/
namespace Sys2Proof.Machine

@[simp] theorem State.setCrcSt_canon (s x1 x2) (h : s.canon) : (State.setCrcSt s x1 x2).canon := by
  unfold State.setCrcSt
  simp +contextual (maxDischargeDepth := 60) [h]

@[simp] theorem setCrcVal_canon (x0 x1 s) (h : s.canon) : (setCrcVal x0 x1 s).canon := by
  unfold setCrcVal
  simp +contextual (maxDischargeDepth := 60) [h]

@[simp] theorem crcFeed_canon (x0 x1 s) (h : s.canon) : (crcFeed x0 x1 s).canon := by
  unfold crcFeed
  simp +contextual (maxDischargeDepth := 60) [h]

@[simp] theorem crcSnapshot_canon (x0 s) (h : s.canon) : (crcSnapshot x0 s).canon := by
  unfold crcSnapshot
  simp +contextual (maxDischargeDepth := 60) [h]

@[simp] theorem crcAlive_canon (x0 x1 s) (h : s.canon) : (crcAlive x0 x1 s).canon := by
  unfold crcAlive
  simp +contextual (maxDischargeDepth := 60) [h]

@[simp] theorem crcWrite_canon (x0 x1 x2 s) (h : s.canon) : (crcWrite x0 x1 x2 s).canon := by
  unfold crcWrite
  dsimp only
  (repeat' split) <;> simp +contextual (maxDischargeDepth := 60) [h]

@[simp] theorem crcReleaseOf_canon (x0 s) (h : s.canon) : (crcReleaseOf x0 s).canon := by
  unfold crcReleaseOf
  simp +contextual (maxDischargeDepth := 60) [h]

@[simp] theorem resetMaster_canon (x0 s) (h : s.canon) : (resetMaster x0 s).canon := by
  unfold resetMaster
  simp +contextual (maxDischargeDepth := 60) [h]

@[simp] theorem memRegWrite_canon (x0 x1 s) (h : s.canon) : (memRegWrite x0 x1 s).1.canon := by
  unfold memRegWrite
  dsimp only
  (repeat' split) <;> simp +contextual (maxDischargeDepth := 60) [h]

end Sys2Proof.Machine
end

