-- ==== Sys2Proof/Laws/Canon/LenReg.lean ====
section
/-!
SUPPORT. Every operation of Machine/LenReg.lean keeps the canonical form.
-/
namespace Sys2Proof.Machine

@[simp] theorem lenWrite_canon (x0 x1 s) (h : s.canon) : (lenWrite x0 x1 s).canon := by
  unfold lenWrite
  dsimp only
  (repeat' split) <;> simp +contextual (maxDischargeDepth := 60) [h]

@[simp] theorem State.setCell_canon (s x1 x2) (h : s.canon) : (State.setCell s x1 x2).canon := by
  unfold State.setCell
  simp +contextual (maxDischargeDepth := 60) [h]

@[simp] theorem winWrite_canon (x0 x1 s) (h : s.canon) : (winWrite x0 x1 s).canon := by
  unfold winWrite
  dsimp only
  (repeat' split) <;> simp +contextual (maxDischargeDepth := 60) [h]

end Sys2Proof.Machine
end

