-- ==== Sys2Proof/Laws/Canon/LinkCore.lean ====
section
/-!
SUPPORT. Every operation of Machine/LinkCore.lean keeps the canonical form.
-/
namespace Sys2Proof.Machine

@[simp] theorem State.setLink_canon (s x1 x2) (h : s.canon) : (State.setLink s x1 x2).canon := by
  unfold State.setLink
  simp +contextual (maxDischargeDepth := 60) [h]

@[simp] theorem State.setProt_canon (s x1 x2) (h : s.canon) : (State.setProt s x1 x2).canon := by
  unfold State.setProt
  simp +contextual (maxDischargeDepth := 60) [h]

@[simp] theorem State.setTel_canon (s x1 x2) (h : s.canon) : (State.setTel s x1 x2).canon := by
  unfold State.setTel
  simp +contextual (maxDischargeDepth := 60) [h]

@[simp] theorem State.setFire_canon (s x1 x2) (h : s.canon) : (State.setFire s x1 x2).canon := by
  unfold State.setFire
  simp +contextual (maxDischargeDepth := 60) [h]

@[simp] theorem moveCell_canon (x0 x1 s) (h : s.canon) : (moveCell x0 x1 s).canon := by
  unfold moveCell
  simp +contextual (maxDischargeDepth := 60) [h]

@[simp] theorem pushTxn_canon (x0 x1 x2 x3 x4 x5 x6 x7 s) (h : s.canon) : (pushTxn x0 x1 x2 x3 x4 x5 x6 x7 s).canon := by
  unfold pushTxn
  simp +contextual (maxDischargeDepth := 60) [h]

@[simp] theorem readCell_canon (x0 x1 s) (h : s.canon) : (readCell x0 x1 s).canon := by
  unfold readCell
  simp +contextual (maxDischargeDepth := 60) [h]

@[simp] theorem sendGroup_canon (x0 s) (h : s.canon) : (sendGroup x0 s).canon := by
  unfold sendGroup
  simp +contextual (maxDischargeDepth := 60) [h]

@[simp] theorem sendProfiles_canon (x0 s) (h : s.canon) : (sendProfiles x0 s).canon := by
  unfold sendProfiles
  simp +contextual (maxDischargeDepth := 60) [h]

@[simp] theorem sendMaps_canon (x0 s) (h : s.canon) : (sendMaps x0 s).canon := by
  unfold sendMaps
  simp +contextual (maxDischargeDepth := 60) [h]

@[simp] theorem downloadGates_canon (x0 s) (h : s.canon) : (downloadGates x0 s).canon := by
  unfold downloadGates
  simp +contextual (maxDischargeDepth := 60) [h]

@[simp] theorem downloadAll_canon (x0 s) (hf : ∀ i s, s.canon → (x0 i s).canon) (h : s.canon) : (downloadAll x0 s).canon := by
  unfold downloadAll; simp +contextual (maxDischargeDepth := 60) [h, hf]

@[simp] theorem nextEnrol_canon (x0 x1 s) (h : s.canon) : (nextEnrol x0 x1 s).canon := by
  induction x1 generalizing s with
  | zero => exact h
  | succ k ih => unfold nextEnrol; simp +contextual (maxDischargeDepth := 60) [h, ih]

@[simp] theorem startEnrol_canon (x0 s) (h : s.canon) : (startEnrol x0 s).canon := by
  unfold startEnrol
  simp +contextual (maxDischargeDepth := 60) [h]

@[simp] theorem enrolSlot_canon (x0 s) (h : s.canon) : (enrolSlot x0 s).canon := by
  unfold enrolSlot
  simp +contextual (maxDischargeDepth := 60) [h]

@[simp] theorem setStage_canon (x0 x1 s) (h : s.canon) : (setStage x0 x1 s).canon := by
  unfold setStage
  simp +contextual (maxDischargeDepth := 60) [h]

@[simp] theorem dropTxns_canon (x0 s) (h : s.canon) : (dropTxns x0 s).canon := by
  unfold dropTxns
  simp +contextual (maxDischargeDepth := 60) [h]

@[simp] theorem leaveUp_canon (x0 s) (h : s.canon) : (leaveUp x0 s).canon := by
  unfold leaveUp
  simp +contextual (maxDischargeDepth := 60) [h]

@[simp] theorem enterTrain_canon (x0 s) (h : s.canon) : (enterTrain x0 s).canon := by
  unfold enterTrain
  simp +contextual (maxDischargeDepth := 60) [h]

@[simp] theorem quarantineLink_canon (x0 s) (h : s.canon) : (quarantineLink x0 s).canon := by
  unfold quarantineLink
  simp +contextual (maxDischargeDepth := 60) [h]

@[simp] theorem quarantineCell_canon (x0 s) (h : s.canon) : (quarantineCell x0 s).canon := by
  unfold quarantineCell
  simp +contextual (maxDischargeDepth := 60) [h]

@[simp] theorem linkDown_canon (x0 s) (h : s.canon) : (linkDown x0 s).canon := by
  unfold linkDown
  simp +contextual (maxDischargeDepth := 60) [h]

@[simp] theorem checkWindow_canon (s) (h : s.canon) : (checkWindow s).canon := by
  unfold checkWindow
  simp +contextual (maxDischargeDepth := 60) [h]

@[simp] theorem faultCell_canon (x0 x1 s) (h : s.canon) : (faultCell x0 x1 s).canon := by
  unfold faultCell
  simp +contextual (maxDischargeDepth := 60) [h]

@[simp] theorem cellCmd_canon (x0 x1 s) (h : s.canon) : (cellCmd x0 x1 s).canon := by
  unfold cellCmd
  dsimp only
  (repeat' split) <;> simp +contextual (maxDischargeDepth := 60) [h]

end Sys2Proof.Machine
end

