-- ==== Sys2Proof/Laws/Canon/CelReg.lean ====
section
/-!
SUPPORT. Every operation of Machine/CelReg.lean keeps the canonical form.
-/
namespace Sys2Proof.Machine

@[simp] theorem celWrite_canon (x0 x1 s) (h : s.canon) : (celWrite x0 x1 s).canon := by
  unfold celWrite
  dsimp only
  (repeat' split) <;> simp +contextual (maxDischargeDepth := 60) [h]

@[simp] theorem State.setCar_canon (s x1 x2) (h : s.canon) : (State.setCar s x1 x2).canon := by
  unfold State.setCar
  dsimp only
  (repeat' split) <;> simp +contextual (maxDischargeDepth := 60) [h]

@[simp] theorem loadCarrier_canon (x0 x1 s) (h : s.canon) : (loadCarrier x0 x1 s).canon := by
  unfold loadCarrier
  dsimp only
  (repeat' split) <;> simp +contextual (maxDischargeDepth := 60) [h]

@[simp] theorem startCarrier_canon (x0 x1 s) (h : s.canon) : (startCarrier x0 x1 s).canon := by
  unfold startCarrier
  simp +contextual (maxDischargeDepth := 60) [h]

@[simp] theorem takeLoad_canon (x0 s) (h : s.canon) : (takeLoad x0 s).canon := by
  unfold takeLoad
  (repeat' split) <;> simp +contextual (maxDischargeDepth := 60) [h]

@[simp] theorem lateWrite_canon (x0 x1 s) (h : s.canon) : (lateWrite x0 x1 s).canon := by
  unfold lateWrite
  simp +contextual (maxDischargeDepth := 60) [h]

@[simp] theorem ovrWritten_canon (x0 x1 x2 s) (h : s.canon) : (ovrWritten x0 x1 x2 s).canon := by
  unfold ovrWritten
  simp +contextual (maxDischargeDepth := 60) [h]

@[simp] theorem fscWrite_canon (x0 x1 x2 s) (h : s.canon) : (fscWrite x0 x1 x2 s).canon := by
  unfold fscWrite
  dsimp only
  (repeat' split) <;> simp +contextual (maxDischargeDepth := 60) [h]

@[simp] theorem blockLink_canon (x0 s) (h : s.canon) : (blockLink x0 s).canon := by
  unfold blockLink
  simp +contextual (maxDischargeDepth := 60) [h]

@[simp] theorem reenrolLink_canon (x0 s) (h : s.canon) : (reenrolLink x0 s).canon := by
  unfold reenrolLink
  simp +contextual (maxDischargeDepth := 60) [h]

@[simp] theorem lnkWrite_canon (x0 x1 s) (h : s.canon) : (lnkWrite x0 x1 s).canon := by
  unfold lnkWrite
  dsimp only
  (repeat' split) <;> simp +contextual (maxDischargeDepth := 60) [h]

end Sys2Proof.Machine
end

