-- ==== Sys2Proof/Laws/Canon/PairReg.lean ====
section
/-!
SUPPORT. Every operation of Machine/PairReg.lean keeps the canonical form.
-/
namespace Sys2Proof.Machine

@[simp] theorem redWrite_canon (x0 x1 s) (h : s.canon) : (redWrite x0 x1 s).canon := by
  unfold redWrite
  dsimp only
  (repeat' split) <;> simp +contextual (maxDischargeDepth := 60) [h]

@[simp] theorem State.setSheaf_canon (s x1 x2) (h : s.canon) : (State.setSheaf s x1 x2).canon := by
  unfold State.setSheaf
  simp +contextual (maxDischargeDepth := 60) [h]

@[simp] theorem shfWrite_canon (x0 x1 s) (h : s.canon) : (shfWrite x0 x1 s).canon := by
  unfold shfWrite
  (repeat' split) <;> simp +contextual (maxDischargeDepth := 60) [h]

@[simp] theorem noteWritten_canon (x0 x1 s) (h : s.canon) : (noteWritten x0 x1 s).canon := by
  unfold noteWritten
  simp +contextual (maxDischargeDepth := 60) [h]

end Sys2Proof.Machine
end

