-- ==== Sys2Proof/Laws/Canon/Mad.lean ====
section
/-!
SUPPORT. Every operation of Machine/Mad.lean keeps the canonical form.
-/
namespace Sys2Proof.Machine

@[simp] theorem State.setMad_canon (s x1) (h : s.canon) : (State.setMad s x1).canon := by
  unfold State.setMad
  simp +contextual (maxDischargeDepth := 60) [h]

@[simp] theorem madSnapshot_canon (x0 s) (h : s.canon) : (madSnapshot x0 s).canon := by
  unfold madSnapshot
  (repeat' split) <;> simp +contextual (maxDischargeDepth := 60) [h]

@[simp] theorem madWrite_canon (x0 x1 s) (h : s.canon) : (madWrite x0 x1 s).canon := by
  unfold madWrite
  dsimp only
  (repeat' split) <;> simp +contextual (maxDischargeDepth := 60) [h]

@[simp] theorem startConv_canon (x0 s) (h : s.canon) : (startConv x0 s).canon := by
  unfold startConv; dsimp only; (repeat' split) <;> simp +contextual (maxDischargeDepth := 60) [h]

@[simp] theorem madBoundary_canon (x0 s) (h : s.canon) : (madBoundary x0 s).canon := by
  unfold madBoundary; dsimp only; (repeat' split) <;> simp +contextual (maxDischargeDepth := 60) [h]

@[simp] theorem madRecord_canon (x0 x1 s) (h : s.canon) : (madRecord x0 x1 s).canon := by
  unfold madRecord
  simp +contextual (maxDischargeDepth := 60) [h]

@[simp] theorem deliverConv_canon (x0 x1 x2 s) (h : s.canon) : (deliverConv x0 x1 x2 s).canon := by
  unfold deliverConv
  dsimp only
  (repeat' split) <;> simp +contextual (maxDischargeDepth := 60) [h]

end Sys2Proof.Machine
end

