-- ==== Sys2Proof/Laws/Canon/Rec.lean ====
section
/-!
SUPPORT. Every operation of Machine/Rec.lean keeps the canonical form.
-/
namespace Sys2Proof.Machine

@[simp] theorem recWrite_canon (x0 x1 s) (h : s.canon) : (recWrite x0 x1 s).canon := by
  unfold recWrite
  dsimp only
  (repeat' split) <;> simp +contextual (maxDischargeDepth := 60) [h]

@[simp] theorem sendDgrams_canon (x0 x1 x2 s) (h : s.canon) : (sendDgrams x0 x1 x2 s).canon := by
  induction x2 generalizing s with
  | nil => exact h
  | cons p l ih => obtain ⟨o, b⟩ := p; unfold sendDgrams; simp +contextual (maxDischargeDepth := 60) [h, ih]

@[simp] theorem sendUnit_canon (x0 x1 s) (h : s.canon) : (sendUnit x0 x1 s).canon := by
  unfold sendUnit
  simp +contextual (maxDischargeDepth := 60) [h]

@[simp] theorem sendGaps_canon (x0 s) (h : s.canon) : (sendGaps x0 s).canon := by
  unfold sendGaps
  simp +contextual (maxDischargeDepth := 60) [h]

@[simp] theorem hostCopy_canon (x0 s) (h : s.canon) : (hostCopy x0 s).canon := by
  unfold hostCopy
  dsimp only
  (repeat' split) <;> simp +contextual (maxDischargeDepth := 60) [h]

end Sys2Proof.Machine
end

