-- ==== Sys2Proof/Laws/Canon/Mbx.lean ====
section
/-!
SUPPORT. Every operation of Machine/Mbx.lean keeps the canonical form.
-/
namespace Sys2Proof.Machine

@[simp] theorem mailAck_canon (x0 s) (h : s.canon) : (mailAck x0 s).canon := by
  unfold mailAck; dsimp only; split <;> simp +contextual (maxDischargeDepth := 60) [h]

@[simp] theorem clearNotes_canon (x0 s) (h : s.canon) : (clearNotes x0 s).canon := by
  unfold clearNotes
  simp +contextual (maxDischargeDepth := 60) [h]

@[simp] theorem mbxWrite_canon (x0 x1 x2 s) (h : s.canon) : (mbxWrite x0 x1 x2 s).canon := by
  unfold mbxWrite
  dsimp only
  (repeat' split) <;> simp +contextual (maxDischargeDepth := 60) [h]

@[simp] theorem netWrite_canon (x0 x1 s) (h : s.canon) : (netWrite x0 x1 s).canon := by
  unfold netWrite
  dsimp only
  (repeat' split) <;> simp +contextual (maxDischargeDepth := 60) [h]

end Sys2Proof.Machine
end

