-- ==== Sys2Proof/Laws/Canon/Flt.lean ====
section
/-!
SUPPORT. Every operation of Machine/Flt.lean keeps the canonical form.
-/
namespace Sys2Proof.Machine

@[simp] theorem ackClass_canon (x0 s) (h : s.canon) : (ackClass x0 s).canon := by
  unfold ackClass
  simp +contextual (maxDischargeDepth := 60) [h, -State.rs_mem]

@[simp] theorem ackMask_canon (x0 s) (h : s.canon) : (ackMask x0 s).canon := by
  unfold ackMask
  simp +contextual (maxDischargeDepth := 60) [h]

@[simp] theorem faultEvt_canon (x0 s) (h : s.canon) : (faultEvt x0 s).canon := by
  unfold faultEvt
  simp +contextual (maxDischargeDepth := 60) [h]

@[simp] theorem injectFault_canon (x0 x1 s) (h : s.canon) : (injectFault x0 x1 s).1.canon := by
  unfold injectFault
  dsimp only
  (repeat' split) <;> simp +contextual (maxDischargeDepth := 60) [h]

@[simp] theorem toggleSmall_canon (x0 x1 s) (h : s.canon) : (toggleSmall x0 x1 s).canon := by
  unfold toggleSmall
  simp +contextual (maxDischargeDepth := 60) [h]

@[simp] theorem injectMem_canon (x0 x1 x2 s x4) (h : s.canon) : (injectMem x0 x1 x2 s x4).1.canon := by
  unfold injectMem; dsimp only; (repeat' split) <;> cases x2 <;> simp +contextual (maxDischargeDepth := 60) [h]

@[simp] theorem injectLink_canon (x0 x1 x2 x3 s x5 x6 x7) (h : s.canon) : (injectLink x0 x1 x2 x3 s x5 x6 x7).1.canon := by
  unfold injectLink
  simp +contextual (maxDischargeDepth := 60) [h]

@[simp] theorem injectGo_canon (x0 s) (h : s.canon) : (injectGo x0 s).1.canon := by
  unfold injectGo
  dsimp only
  (repeat' split) <;> simp +contextual (maxDischargeDepth := 60) [h]

@[simp] theorem fltSnapshot_canon (x0 s) (h : s.canon) : (fltSnapshot x0 s).canon := by
  unfold fltSnapshot
  simp +contextual (maxDischargeDepth := 60) [h]

@[simp] theorem fltWrite_canon (x0 x1 x2 s) (h : s.canon) : (fltWrite x0 x1 x2 s).1.canon := by
  unfold fltWrite
  dsimp only
  (repeat' split) <;> simp +contextual (maxDischargeDepth := 60) [h]

@[simp] theorem bistStart_canon (x0 s) (h : s.canon) : (bistStart x0 s).canon := by
  unfold bistStart
  simp +contextual (maxDischargeDepth := 60) [h]

@[simp] theorem bistClear_canon (x0 s) (h : s.canon) : (bistClear x0 s).canon := by
  unfold bistClear
  dsimp only
  (repeat' split) <;> simp +contextual (maxDischargeDepth := 60) [h]

@[simp] theorem withdraw_canon (x0 x1 s) (h : s.canon) : (withdraw x0 x1 s).canon := by
  unfold withdraw
  simp +contextual (maxDischargeDepth := 60) [h]

@[simp] theorem bistRetire_canon (x0 x1 s) (h : s.canon) : (bistRetire x0 x1 s).1.canon := by
  induction x1 generalizing s with
  | nil => exact h
  | cons i l ih => unfold bistRetire; dsimp only; split <;> simp +contextual (maxDischargeDepth := 60) [h, ih]

@[simp] theorem bistResult_canon (x0 s x2) (h : s.canon) : (bistResult x0 s x2).canon := by
  unfold bistResult
  simp +contextual (maxDischargeDepth := 60) [h]

@[simp] theorem bstWrite_canon (x0 x1 s) (h : s.canon) : (bstWrite x0 x1 s).1.canon := by
  unfold bstWrite
  dsimp only
  (repeat' split) <;> simp +contextual (maxDischargeDepth := 60) [h]

end Sys2Proof.Machine
end

