-- ==== Sys2Proof/Laws/Canon/Saf.lean ====
section
/-!
SUPPORT. Every operation of Machine/Saf.lean keeps the canonical form.
-/
namespace Sys2Proof.Machine

@[simp] theorem safConfigWrite_canon (x0 s) (h : s.canon) : (safConfigWrite x0 s).1.canon := by
  unfold safConfigWrite
  dsimp only
  (repeat' split) <;> simp +contextual (maxDischargeDepth := 60) [h]

@[simp] theorem setInp_canon (x0 x1 s) (h : s.canon) : (setInp x0 x1 s).canon := by
  unfold setInp
  simp +contextual (maxDischargeDepth := 60) [h]

@[simp] theorem adopt_canon (x0 s) (h : s.canon) : (adopt x0 s).canon := by
  unfold adopt
  simp +contextual (maxDischargeDepth := 60) [h]

@[simp] theorem safConfirm_canon (x0 x1 s) (h : s.canon) : (safConfirm x0 x1 s).1.canon := by
  unfold safConfirm
  dsimp only
  (repeat' split) <;> simp +contextual (maxDischargeDepth := 60) [h]

@[simp] theorem safFault_canon (x0 x1 s) (h : s.canon) : (safFault x0 x1 s).canon := by
  unfold safFault
  simp +contextual (maxDischargeDepth := 60) [h]

@[simp] theorem safHold_canon (x0 x1 s) (h : s.canon) : (safHold x0 x1 s).canon := by
  unfold safHold
  simp +contextual (maxDischargeDepth := 60) [h]

@[simp] theorem releaseSf1_canon (s) (h : s.canon) : (releaseSf1 s).canon := by
  unfold releaseSf1
  simp +contextual (maxDischargeDepth := 60) [h]

@[simp] theorem judgePattern_canon (x0 s) (h : s.canon) : (judgePattern x0 s).canon := by
  unfold judgePattern
  simp +contextual (maxDischargeDepth := 60) [h]

@[simp] theorem judgeInput_canon (x0 s) (h : s.canon) : (judgeInput x0 s).canon := by
  unfold judgeInput
  simp +contextual (maxDischargeDepth := 60) [h]

@[simp] theorem judgePress_canon (x0 s) (h : s.canon) : (judgePress x0 s).canon := by
  unfold judgePress; dsimp only; (repeat' split) <;> simp +contextual (maxDischargeDepth := 60) [h]

@[simp] theorem cycleInput_canon (x0 s x2) (h : s.canon) : (cycleInput x0 s x2).canon := by
  unfold cycleInput
  simp +contextual (maxDischargeDepth := 60) [h]

@[simp] theorem cycleLanes_canon (x0 s) (h : s.canon) : (cycleLanes x0 s).canon := by
  unfold cycleLanes
  simp +contextual (maxDischargeDepth := 60) [h]

@[simp] theorem setSo_canon (x0 x1 s) (h : s.canon) : (setSo x0 x1 s).canon := by
  unfold setSo
  simp +contextual (maxDischargeDepth := 60) [h]

@[simp] theorem driveSo_canon (s x1) (h : s.canon) : (driveSo s x1).canon := by
  unfold driveSo
  simp +contextual (maxDischargeDepth := 60) [h]

@[simp] theorem stuckSo_canon (x0 x1 s) (h : s.canon) : (stuckSo x0 x1 s).canon := by
  unfold stuckSo
  simp +contextual (maxDischargeDepth := 60) [h]

@[simp] theorem sendTelegram_canon (s) (h : s.canon) : (sendTelegram s).canon := by
  unfold sendTelegram
  simp +contextual (maxDischargeDepth := 60) [h]

@[simp] theorem updateTrip_canon (s) (h : s.canon) : (updateTrip s).canon := by
  unfold updateTrip
  simp +contextual (maxDischargeDepth := 60) [h]

@[simp] theorem acceptTelegram_canon (x0 x1 x2 s) (h : s.canon) : (acceptTelegram x0 x1 x2 s).canon := by
  unfold acceptTelegram
  simp +contextual (maxDischargeDepth := 60) [h]

@[simp] theorem finishWindow_canon (x0 s) (h : s.canon) : (finishWindow x0 s).canon := by
  unfold finishWindow
  dsimp only
  (repeat' split) <;> simp +contextual (maxDischargeDepth := 60) [h]

@[simp] theorem flushWindows_canon (x0 s) (h : s.canon) : (flushWindows x0 s).canon := by
  induction x0 generalizing s with
  | nil => exact h
  | cons w r ih => unfold flushWindows; split <;> simp +contextual (maxDischargeDepth := 60) [h, ih]

@[simp] theorem takeCopy_canon (x0 x1 x2 x3 s) (h : s.canon) : (takeCopy x0 x1 x2 x3 s).canon := by
  unfold takeCopy
  simp +contextual (maxDischargeDepth := 60) [h]

@[simp] theorem judgeCauses_canon (s) (h : s.canon) : (judgeCauses s).canon := by
  unfold judgeCauses
  simp +contextual (maxDischargeDepth := 60) [h]

@[simp] theorem judgeAccess_canon (s) (h : s.canon) : (judgeAccess s).canon := by
  unfold judgeAccess
  simp +contextual (maxDischargeDepth := 60) [h]

@[simp] theorem holdTrip_canon (s) (h : s.canon) : (holdTrip s).canon := by
  unfold holdTrip
  simp +contextual (maxDischargeDepth := 60) [h]

@[simp] theorem laneCycle_canon (x0 s) (h : s.canon) : (laneCycle x0 s).canon := by
  unfold laneCycle
  simp +contextual (maxDischargeDepth := 60) [h]

@[simp] theorem safWrite_canon (x0 x1 s) (h : s.canon) : (safWrite x0 x1 s).canon := by
  unfold safWrite
  dsimp only
  (repeat' split) <;> simp +contextual (maxDischargeDepth := 60) [h]

end Sys2Proof.Machine
end

