-- ==== Sys2Proof/Laws/Canon/Pwr.lean ====
section
/-!
SUPPORT. Every operation of Machine/Pwr.lean keeps the canonical form.
-/
namespace Sys2Proof.Machine

@[simp] theorem State.setPwr_canon (s x1) (h : s.canon) : (State.setPwr s x1).canon := by
  unfold State.setPwr
  simp +contextual (maxDischargeDepth := 60) [h]

@[simp] theorem resetModule_canon (s) : (resetModule s).canon := by
  unfold resetModule
  simp only [State.canon_mk]
  exact ⟨rfl, rfl⟩

@[simp] theorem startProg_canon (s) (h : s.canon) : (startProg s).1.canon := by
  unfold startProg
  simp +contextual (maxDischargeDepth := 60) [h]

@[simp] theorem pwrWrite_canon (x0 x1 s) (h : s.canon) : (pwrWrite x0 x1 s).1.canon := by
  unfold pwrWrite
  dsimp only
  (repeat' split) <;> simp +contextual (maxDischargeDepth := 60) [h]

@[simp] theorem noteVin_canon (x0 x1 s) (h : s.canon) : (noteVin x0 x1 s).canon := by
  unfold noteVin
  simp +contextual (maxDischargeDepth := 60) [h]

@[simp] theorem legLeaves_canon (x0 x1 x2 s) (h : s.canon) : (legLeaves x0 x1 x2 s).canon := by
  unfold legLeaves
  simp +contextual (maxDischargeDepth := 60) [h]

@[simp] theorem loadFirmware_canon (s) (h : s.canon) : (loadFirmware s).canon := by
  unfold loadFirmware
  extract_lets s1 s2 s3 s4
  have h4 : s4.canon := by simp +contextual (maxDischargeDepth := 60) [h, s1, s2, s3, s4]
  split
  · exact foldl_canon _ (fun s p h => by simp +contextual (maxDischargeDepth := 60) [h]) _ _ h4
  · simp +contextual (maxDischargeDepth := 60) [h4]

@[simp] theorem startFirmware_canon (s) (h : s.canon) : (startFirmware s).canon := by
  unfold startFirmware
  simp +contextual (maxDischargeDepth := 60) [h]

end Sys2Proof.Machine
end

