-- ==== Sys2Proof/Laws/Canon/RegAccess.lean ====
section
/-!
SUPPORT. Every operation of Machine/RegAccess.lean keeps the canonical form.
-/
namespace Sys2Proof.Machine

@[simp] theorem snapshot_canon (x0 s) (h : s.canon) : (snapshot x0 s).canon := by
  unfold snapshot
  (repeat' split) <;> simp +contextual (maxDischargeDepth := 60) [h]

@[simp] theorem deny_canon (x0 x1 x2 x3 s) (h : s.canon) : (deny x0 x1 x2 x3 s).canon := by
  unfold deny
  simp +contextual (maxDischargeDepth := 60) [h]

@[simp] theorem readReg_canon (x0 x1 s) (h : s.canon) : (readReg x0 x1 s).1.canon := by
  unfold readReg
  cases regAt x1 with
  | none => simp +contextual (maxDischargeDepth := 60) [h]
  | some r =>
    dsimp only
    cases h1 : s.absentReg r <;> cases h2 : s.mayAccess x0 false r <;> cases h3 : mbxReadCheck s x0 r <;>
      cases h4 : smallOf x1 <;> simp +contextual (maxDischargeDepth := 60) [h, apply_ite Prod.fst]

@[simp] theorem writeEffect_canon (x0 x1 x2 s) (h : s.canon) : (writeEffect x0 x1 x2 s).1.canon := by
  unfold writeEffect
  dsimp only
  (repeat' split) <;> simp +contextual (maxDischargeDepth := 60) [h]

@[simp] theorem afterWrite_canon (x0 x1 x2 x3 s) (h : s.canon) : (afterWrite x0 x1 x2 x3 s).canon := by
  unfold afterWrite
  simp +contextual (maxDischargeDepth := 60) [h]

@[simp] theorem writeReg_canon (x0 x1 x2 s) (h : s.canon) : (writeReg x0 x1 x2 s).1.canon := by
  unfold writeReg
  dsimp only
  (repeat' split) <;> simp +contextual (maxDischargeDepth := 60) [h]

@[simp] theorem writeAs_canon (x0 x1 x2 x3 s) (h : s.canon) : (writeAs x0 x1 x2 x3 s).canon := by
  unfold writeAs; simp +contextual (maxDischargeDepth := 60) [h]

@[simp] theorem readAs_canon (x0 x1 x2 s) (h : s.canon) : (readAs x0 x1 x2 s).canon := by
  unfold readAs; dsimp only; split <;> simp +contextual (maxDischargeDepth := 60) [h]

end Sys2Proof.Machine
end

