-- ==== Sys2Proof/Laws/Canon/LoopIn.lean ====
section
/-!
SUPPORT. Every operation of Machine/LoopIn.lean keeps the canonical form.
-/
namespace Sys2Proof.Machine

@[simp] theorem noteSat_canon (x0 s) (h : s.canon) : (noteSat x0 s).canon := by
  unfold noteSat
  simp +contextual (maxDischargeDepth := 60) [h]

@[simp] theorem measure_canon (s) (h : s.canon) : (measure s).canon := by
  unfold measure
  simp +contextual (maxDischargeDepth := 60) [h]

@[simp] theorem budgetTick_canon (s) (h : s.canon) : (budgetTick s).canon := by
  unfold budgetTick
  simp +contextual (maxDischargeDepth := 60) [h]

@[simp] theorem limiterSee_canon (x0 s) (h : s.canon) : (limiterSee x0 s).canon := by
  unfold limiterSee
  simp +contextual (maxDischargeDepth := 60) [h]

@[simp] theorem takeScale_canon (s) (h : s.canon) : (takeScale s).canon := by
  unfold takeScale
  dsimp only
  (repeat' split) <;> simp +contextual (maxDischargeDepth := 60) [h]

@[simp] theorem controlLaw_canon (s) (h : s.canon) : (controlLaw s).canon := by
  unfold controlLaw
  extract_lets s1 l o th s2 r0 s3
  have h3 : s3.canon := limiterSee_canon _ _ (State.rs_canon _ _ _ _ _ (takeScale_canon _ h))
  clear_value s3
  obtain ⟨i1, i2, sum, limiting⟩ := currentRef s2 o.sub o.emf o.frt o.reg th
  refine noteSat_canon _ _ ?_
  simp only [State.canon_mk]
  exact State.setClk_canon _ _ (State.rs_canon _ _ _ _ _ h3)

@[simp] theorem coefUe_canon (x0 s) (h : s.canon) : (coefUe x0 s).canon := by
  unfold coefUe
  simp +contextual (maxDischargeDepth := 60) [h]

@[simp] theorem innerCycle_canon (x0 s) (h : s.canon) : (innerCycle x0 s).canon := by
  unfold innerCycle
  simp +contextual (maxDischargeDepth := 60) [h]

end Sys2Proof.Machine
end

