-- ==== Sys2Proof/Laws/Canon/Region.lean ====
section
/-!
SUPPORT. Every operation of Machine/Region.lean keeps the canonical form.
-/
namespace Sys2Proof.Machine

@[simp] theorem State.setLen_canon (s x1) (h : s.canon) : (State.setLen s x1).canon := by
  unfold State.setLen
  simp +contextual (maxDischargeDepth := 60) [h]

@[simp] theorem noteOld_canon (s) (h : s.canon) : (noteOld s).canon := by
  unfold noteOld
  simp +contextual (maxDischargeDepth := 60) [h]

@[simp] theorem noteRescale_canon (x0 s) (h : s.canon) : (noteRescale x0 s).canon := by
  unfold noteRescale
  simp +contextual (maxDischargeDepth := 60) [h]

@[simp] theorem changeBank_canon (x0 s) (h : s.canon) : (changeBank x0 s).canon := by
  unfold changeBank
  simp +contextual (maxDischargeDepth := 60) [h]

@[simp] theorem bankRewritten_canon (x0 s) (h : s.canon) : (bankRewritten x0 s).canon := by
  unfold bankRewritten
  simp +contextual (maxDischargeDepth := 60) [h]

@[simp] theorem enterRegion_canon (x0 s) (h : s.canon) : (enterRegion x0 s).canon := by
  unfold enterRegion
  simp +contextual (maxDischargeDepth := 60) [h]

@[simp] theorem followEntry_canon (s) (h : s.canon) : (followEntry s).canon := by
  unfold followEntry
  simp +contextual (maxDischargeDepth := 60) [h]

@[simp] theorem evalRegion_canon (s) (h : s.canon) : (evalRegion s).canon := by
  unfold evalRegion; dsimp only; (repeat' split) <;> simp +contextual (maxDischargeDepth := 60) [h]

@[simp] theorem rateChanged_canon (x0 s) (h : s.canon) : (rateChanged x0 s).canon := by
  unfold rateChanged
  simp +contextual (maxDischargeDepth := 60) [h]

@[simp] theorem askBurst_canon (s) (h : s.canon) : (askBurst s).canon := by
  unfold askBurst
  simp +contextual (maxDischargeDepth := 60) [h]

@[simp] theorem leaveBurst_canon (s) (h : s.canon) : (leaveBurst s).canon := by
  unfold leaveBurst
  simp +contextual (maxDischargeDepth := 60) [h]

@[simp] theorem decideBurst_canon (s) (h : s.canon) : (decideBurst s).canon := by
  unfold decideBurst
  simp +contextual (maxDischargeDepth := 60) [h]

@[simp] theorem energyStep_canon (s) (h : s.canon) : (energyStep s).canon := by
  unfold energyStep
  simp +contextual (maxDischargeDepth := 60) [h]

@[simp] theorem prechargeStep_canon (s) (h : s.canon) : (prechargeStep s).canon := by
  unfold prechargeStep; dsimp only; (repeat' split) <;> simp +contextual (maxDischargeDepth := 60) [h]

@[simp] theorem watchReady_canon (s) (h : s.canon) : (watchReady s).canon := by
  unfold watchReady
  simp +contextual (maxDischargeDepth := 60) [h]

end Sys2Proof.Machine
end

