-- ==== Sys2Proof/Laws/Canon/LoopOut.lean ====
section
/-!
SUPPORT. Every operation of Machine/LoopOut.lean keeps the canonical form.
-/
namespace Sys2Proof.Machine

@[simp] theorem outerMeasure_canon (s) (h : s.canon) : (outerMeasure s).canon := by
  unfold outerMeasure
  simp +contextual (maxDischargeDepth := 60) [h]

@[simp] theorem answerMode_canon (x0 x1 s) (h : s.canon) : (answerMode x0 x1 s).canon := by
  unfold answerMode
  simp +contextual (maxDischargeDepth := 60) [h]

@[simp] theorem overtake_canon (s) (h : s.canon) : (overtake s).canon := by
  unfold overtake
  simp +contextual (maxDischargeDepth := 60) [h]

@[simp] theorem noteMove_canon (s) (h : s.canon) : (noteMove s).canon := by
  unfold noteMove
  simp +contextual (maxDischargeDepth := 60) [h]

@[simp] theorem deblockArms_canon (s) (h : s.canon) : (deblockArms s).canon := by
  unfold deblockArms
  simp +contextual (maxDischargeDepth := 60) [h]

@[simp] theorem enterPrecharge_canon (s) (h : s.canon) : (enterPrecharge s).canon := by
  unfold enterPrecharge
  simp +contextual (maxDischargeDepth := 60) [h]

@[simp] theorem enterRun_canon (x0 x1 s) (h : s.canon) : (enterRun x0 x1 s).canon := by
  unfold enterRun
  simp +contextual (maxDischargeDepth := 60) [h]

@[simp] theorem leaveSub_canon (s) (h : s.canon) : (leaveSub s).canon := by
  unfold leaveSub
  simp +contextual (maxDischargeDepth := 60) [h]

@[simp] theorem toStopping_canon (s) (h : s.canon) : (toStopping s).canon := by
  unfold toStopping
  simp +contextual (maxDischargeDepth := 60) [h]

@[simp] theorem toIsland_canon (s) (h : s.canon) : (toIsland s).canon := by
  unfold toIsland
  simp +contextual (maxDischargeDepth := 60) [h]

@[simp] theorem closeTie_canon (s) (h : s.canon) : (closeTie s).canon := by
  unfold closeTie
  simp +contextual (maxDischargeDepth := 60) [h]

@[simp] theorem toFrt_canon (s) (h : s.canon) : (toFrt s).canon := by
  unfold toFrt
  simp +contextual (maxDischargeDepth := 60) [h]

@[simp] theorem demands_canon (s) (h : s.canon) : (demands s).canon := by
  unfold demands
  simp +contextual (maxDischargeDepth := 60) [h]

@[simp] theorem watchRecovery_canon (s) (h : s.canon) : (watchRecovery s).canon := by
  unfold watchRecovery
  simp +contextual (maxDischargeDepth := 60) [h]

@[simp] theorem watchIsland_canon (s) (h : s.canon) : (watchIsland s).canon := by
  unfold watchIsland
  simp +contextual (maxDischargeDepth := 60) [h]

@[simp] theorem guardStep_canon (s) (h : s.canon) : (guardStep s).canon := by
  unfold guardStep
  simp +contextual (maxDischargeDepth := 60) [h]

@[simp] theorem setpoints_canon (s) (h : s.canon) : (setpoints s).canon := by
  unfold setpoints
  simp +contextual (maxDischargeDepth := 60) [h]

@[simp] theorem rampOffsets_canon (s) (h : s.canon) : (rampOffsets s).canon := by
  unfold rampOffsets
  simp +contextual (maxDischargeDepth := 60) [h]

@[simp] theorem resyncStep_canon (s) (h : s.canon) : (resyncStep s).canon := by
  unfold resyncStep
  simp +contextual (maxDischargeDepth := 60) [h]

@[simp] theorem startResync_canon (s) (h : s.canon) : (startResync s).canon := by
  unfold startResync
  simp +contextual (maxDischargeDepth := 60) [h]

@[simp] theorem stopResync_canon (s) (h : s.canon) : (stopResync s).canon := by
  unfold stopResync
  simp +contextual (maxDischargeDepth := 60) [h]

@[simp] theorem blackStep_canon (s) (h : s.canon) : (blackStep s).canon := by
  unfold blackStep
  simp +contextual (maxDischargeDepth := 60) [h]

@[simp] theorem emfStep_canon (s) (h : s.canon) : (emfStep s).canon := by
  unfold emfStep
  simp +contextual (maxDischargeDepth := 60) [h]

@[simp] theorem watchAuto_canon (s) (h : s.canon) : (watchAuto s).canon := by
  unfold watchAuto
  simp +contextual (maxDischargeDepth := 60) [h]

end Sys2Proof.Machine
end

