-- ==== Sys2Proof/Laws/Canon/Modes.lean ====
section
/-!
SUPPORT. Every operation of Machine/Modes.lean keeps the canonical form.
-/
namespace Sys2Proof.Machine

@[simp] theorem stopPrecharge_canon (s) (h : s.canon) : (stopPrecharge s).canon := by
  unfold stopPrecharge
  simp +contextual (maxDischargeDepth := 60) [h]

@[simp] theorem enterBlack_canon (s) (h : s.canon) : (enterBlack s).canon := by
  unfold enterBlack
  simp +contextual (maxDischargeDepth := 60) [h]

@[simp] theorem takeCause_canon (x0 s) (h : s.canon) : (takeCause x0 s).canon := by
  unfold takeCause
  (repeat' split) <;> simp +contextual (maxDischargeDepth := 60) [h]

@[simp] theorem decideMode_canon (s) (h : s.canon) : (decideMode s).canon := by
  unfold decideMode
  (repeat' split) <;> simp +contextual (maxDischargeDepth := 60) [h]

@[simp] theorem deadTimes_canon (s) (h : s.canon) : (deadTimes s).canon := by
  unfold deadTimes
  simp +contextual (maxDischargeDepth := 60) [h]

@[simp] theorem readouts_canon (s) (h : s.canon) : (readouts s).canon := by
  unfold readouts
  simp +contextual (maxDischargeDepth := 60) [h]

@[simp] theorem lenOut_canon (s) (h : s.canon) : (lenOut s).canon := by
  unfold lenOut
  simp +contextual (maxDischargeDepth := 60) [h]

@[simp] theorem cellRec_canon (x0 s) (h : s.canon) : (cellRec x0 s).canon := by
  unfold cellRec
  simp +contextual (maxDischargeDepth := 60) [h]

@[simp] theorem cellRecs_canon (s) (h : s.canon) : (cellRecs s).canon := by
  unfold cellRecs
  simp +contextual (maxDischargeDepth := 60) [h]

@[simp] theorem sendCheckpoint_canon (x0 s) (h : s.canon) : (sendCheckpoint x0 s).canon := by
  unfold sendCheckpoint
  simp +contextual (maxDischargeDepth := 60) [h]

@[simp] theorem startHandover_canon (s) (h : s.canon) : (startHandover s).canon := by
  unfold startHandover
  simp +contextual (maxDischargeDepth := 60) [h]

@[simp] theorem outerPrecharge_canon (s) (h : s.canon) : (outerPrecharge s).canon := by
  unfold outerPrecharge
  simp +contextual (maxDischargeDepth := 60) [h]

@[simp] theorem outerRun_canon (s) (h : s.canon) : (outerRun s).canon := by
  unfold outerRun
  simp +contextual (maxDischargeDepth := 60) [h]

@[simp] theorem outerRunning_canon (s) (h : s.canon) : (outerRunning s).canon := by
  unfold outerRunning
  simp +contextual (maxDischargeDepth := 60) [h]

end Sys2Proof.Machine
end

