-- ==== Sys2Proof/Laws/Canon/Select.lean ====
section
/-!
SUPPORT. Every operation of Machine/Select.lean keeps the canonical form.
-/
namespace Sys2Proof.Machine

@[simp] theorem startRest_canon (x0 x1 s) (h : s.canon) : (startRest x0 x1 s).canon := by
  unfold startRest
  simp +contextual (maxDischargeDepth := 60) [h]

@[simp] theorem noteDeficit_canon (x0 s) (h : s.canon) : (noteDeficit x0 s).canon := by
  unfold noteDeficit
  simp +contextual (maxDischargeDepth := 60) [h]

@[simp] theorem serveRests_canon (x0 x1 x2 x3 s) (h : s.canon) : (serveRests x0 x1 x2 x3 s).canon := by
  unfold serveRests
  simp +contextual (maxDischargeDepth := 60) [h]

@[simp] theorem readyPwm_canon (x0 x1 s) (h : s.canon) : (readyPwm x0 x1 s).canon := by
  unfold readyPwm
  simp +contextual (maxDischargeDepth := 60) [h]

@[simp] theorem selectArm_canon (x0 x1 x2 x3 x4 x5 x6 s) (h : s.canon) : (selectArm x0 x1 x2 x3 x4 x5 x6 s).canon := by
  unfold selectArm
  exact State.rs_canon _ _ _ _ _ (State.rs_canon _ _ _ _ _ (State.rs_canon _ _ _ _ _
    (State.setArm_canon _ _ _ (serveRests_canon _ _ _ _ _ h))))

@[simp] theorem selectPub_canon (x0 x1 x2 s) (h : s.canon) : (selectPub x0 x1 x2 s).canon := by
  unfold selectPub
  simp +contextual (maxDischargeDepth := 60) [h]

@[simp] theorem selectCharge_canon (x0 x1 x2 s) (h : s.canon) : (selectCharge x0 x1 x2 s).canon := by
  unfold selectCharge
  simp +contextual (maxDischargeDepth := 60) [h]

@[simp] theorem lenPub_canon (x0 s) (h : s.canon) : (lenPub x0 s).canon := by
  unfold lenPub
  simp +contextual (maxDischargeDepth := 60) [h]

@[simp] theorem publish_canon (s) (h : s.canon) : (publish s).canon := by
  unfold publish
  dsimp only
  (repeat' split) <;> simp +contextual (maxDischargeDepth := 60) [h]

@[simp] theorem enterRest_canon (x0 s) (h : s.canon) : (enterRest x0 s).canon := by
  unfold enterRest
  simp +contextual (maxDischargeDepth := 60) [h]

@[simp] theorem endRest_canon (x0 s) (h : s.canon) : (endRest x0 s).canon := by
  unfold endRest; dsimp only; (repeat' split) <;> simp +contextual (maxDischargeDepth := 60) [h]

end Sys2Proof.Machine
end

