-- ==== Sys2Proof/Laws/Canon/Firing.lean ====
section
/-!
SUPPORT. Every operation of Machine/Firing.lean keeps the canonical form.
-/
namespace Sys2Proof.Machine

@[simp] theorem takeTxn_canon (x0 s) (h : s.canon) : (takeTxn x0 s).1.canon := by
  unfold takeTxn; dsimp only; split
  · split <;> simp +contextual (maxDischargeDepth := 60) [h]
  · exact h

@[simp] theorem useInjection_canon (x0 x1 s) (h : s.canon) : (useInjection x0 x1 s).1.canon := by
  unfold useInjection
  dsimp only
  (repeat' split) <;> simp +contextual (maxDischargeDepth := 60) [h]

@[simp] theorem buildSlots_canon (x0 x1 s) (h : s.canon) : (buildSlots x0 x1 s).1.canon := by
  unfold buildSlots
  refine foldl_canon1 _ (fun p k h => ?_) _ _ h
  dsimp only
  (repeat' split) <;> simp +contextual (maxDischargeDepth := 60) [h]

@[simp] theorem edgeFrame_canon (x0 s) (h : s.canon) : (edgeFrame x0 s).canon := by
  unfold edgeFrame
  rcases s.frameTimes x0 with ⟨sof, start⟩
  dsimp only
  generalize hB : buildSlots x0 _ s = r
  have h1 : r.1.canon := hB ▸ buildSlots_canon _ _ _ h
  generalize hF : List.foldl _ r.1 _ = s2
  have h2 : s2.canon := by
    rw [← hF]
    exact foldl_canon _ (fun s x h => by split <;> simp +contextual (maxDischargeDepth := 60) [h]) _ _ h1
  generalize hT : takeTxn x0 s2 = r2
  have h3 : r2.1.canon := hT ▸ takeTxn_canon _ _ h2
  generalize hU : useInjection x0 false r2.1 = r3
  have h4 : r3.1.canon := hU ▸ useInjection_canon _ _ _ h3
  simp +contextual (maxDischargeDepth := 60) [h4]

@[simp] theorem listenFrame_canon (x0 s) (h : s.canon) : (listenFrame x0 s).canon := by
  unfold listenFrame
  simp +contextual (maxDischargeDepth := 60) [h]

@[simp] theorem downlinkFrame_canon (x0 x1 s) (h : s.canon) : (downlinkFrame x0 x1 s).canon := by
  unfold downlinkFrame
  simp +contextual (maxDischargeDepth := 60) [h]

end Sys2Proof.Machine
end

