-- ==== Sys2Proof/Laws/Canon/Frame.lean ====
section
/-!
SUPPORT. Every operation of Machine/Frame.lean keeps the canonical form.
-/
namespace Sys2Proof.Machine

@[simp] theorem cellFault_canon (x0 x1 x2 x3 x4 s) (h : s.canon) : (cellFault x0 x1 x2 x3 x4 s).canon := by
  unfold cellFault
  dsimp only
  (repeat' split) <;> simp +contextual (maxDischargeDepth := 60) [h]

@[simp] theorem edgeReports_canon (x0 x1 s) (h : s.canon) : (edgeReports x0 x1 s).canon := by
  unfold edgeReports
  simp +contextual (maxDischargeDepth := 60) [h]

@[simp] theorem countDesat_canon (x0 x1 s) (h : s.canon) : (countDesat x0 x1 s).canon := by
  unfold countDesat
  simp +contextual (maxDischargeDepth := 60) [h]

@[simp] theorem evalRecord_canon (x0 x1 s) (h : s.canon) : (evalRecord x0 x1 s).canon := by
  unfold evalRecord
  extract_lets bj x before n s2 st tel p new des c6 src2 checked s3 live src3 s5 s6
  have h2 : s2.canon := edgeReports_canon _ _ _ (State.setTel_canon _ _ _ h)
  have h6 : c6.canon := countDesat_canon _ _ _ h2
  have h3 : s3.canon := ite_canon (State.setProt_canon _ _ _ h2) h2
  have h5 : s5.canon := State.setProt_canon _ _ _ h3
  have h7 : s6.canon := countDesat_canon _ _ _ h3
  clear_value s6 s5 s3 c6 s2
  (repeat' apply ite_canon) <;> simp (maxDischargeDepth := 60) [h2, h3, h5, h6, h7]

@[simp] theorem evalCell_canon (x0 s) (h : s.canon) : (evalCell x0 s).canon := by
  unfold evalCell
  simp +contextual (maxDischargeDepth := 60) [h]

@[simp] theorem followArm_canon (x0 s) (h : s.canon) : (followArm x0 s).canon := by
  unfold followArm
  simp +contextual (maxDischargeDepth := 60) [h]

@[simp] theorem evalCells_canon (s) (h : s.canon) : (evalCells s).canon := by
  unfold evalCells
  simp +contextual (maxDischargeDepth := 60) [h]

@[simp] theorem countStale_canon (s) (h : s.canon) : (countStale s).canon := by
  unfold countStale
  simp +contextual (maxDischargeDepth := 60) [h]

@[simp] theorem watchShort_canon (s) (h : s.canon) : (watchShort s).canon := by
  unfold watchShort
  simp +contextual (maxDischargeDepth := 60) [h]

@[simp] theorem legFault_canon (x0 s) (h : s.canon) : (legFault x0 s).canon := by
  unfold legFault
  simp +contextual (maxDischargeDepth := 60) [h]

@[simp] theorem closeFrame_canon (x0 x1 s) (h : s.canon) : (closeFrame x0 x1 s).canon := by
  unfold closeFrame
  (repeat' split) <;> simp +contextual (maxDischargeDepth := 60) [h]

@[simp] theorem closeOps_canon (s) (h : s.canon) : (closeOps s).canon := by
  unfold closeOps; dsimp only; split <;> simp +contextual (maxDischargeDepth := 60) [h]

@[simp] theorem orderBlock_canon (x0 x1 x2 s) (h : s.canon) : (orderBlock x0 x1 x2 s).canon := by
  unfold orderBlock
  simp +contextual (maxDischargeDepth := 60) [h]

@[simp] theorem operate_canon (x0 x1 s) (h : s.canon) : (operate x0 x1 s).canon := by
  unfold operate
  simp +contextual (maxDischargeDepth := 60) [h]

@[simp] theorem latchSettings_canon (s) (h : s.canon) : (latchSettings s).canon := by
  unfold latchSettings
  simp +contextual (maxDischargeDepth := 60) [h]

@[simp] theorem startSorts_canon (x0 s) (h : s.canon) : (startSorts x0 s).canon := by
  unfold startSorts
  simp +contextual (maxDischargeDepth := 60) [h]

@[simp] theorem startOwn_canon (x0 x1 s) (h : s.canon) : (startOwn x0 x1 s).canon := by
  unfold startOwn
  simp +contextual (maxDischargeDepth := 60) [h]

@[simp] theorem restOverdue_canon (x0 x1 s) (h : s.canon) : (restOverdue x0 x1 s).canon := by
  unfold restOverdue
  simp +contextual (maxDischargeDepth := 60) [h]

@[simp] theorem followFixed_canon (s) (h : s.canon) : (followFixed s).canon := by
  unfold followFixed
  simp +contextual (maxDischargeDepth := 60) [h]

@[simp] theorem sendBeat_canon (s) (h : s.canon) : (sendBeat s).canon := by
  unfold sendBeat
  simp +contextual (maxDischargeDepth := 60) [h]

@[simp] theorem frameBoundary_canon (x0 s) (h : s.canon) : (frameBoundary x0 s).canon := by
  unfold frameBoundary
  extract_lets grid src1 s1 s2 w src2 s3 s4 s5 s6 s7 s8 w0 s9 s10
  have h1 : s1.canon := slewStep_canon _ h
  have h2 : s2.canon := latchSettings_canon _ h1
  have h3 : s3.canon := h2
  have h4 : s4.canon := ite_canon (closeOps_canon _ h3) h3
  have h6 : s6.canon := evalCells_canon _ (followFixed_canon _ (readTables_canon _ h4))
  have h7 : s7.canon := ite_canon (startSorts_canon _ _ (countStale_canon _ h6)) h6
  have h8 : s8.canon := watchReady_canon _ (raiseHeld_canon _ (watchShort_canon _ h7))
  have h9 : s9.canon := ite_canon (foldl_canon _ (fun _ _ h => selectCharge_canon _ _ _ _ h) _ _ h8) h8
  have h10 : s10.canon := ite_canon (State.rs_canon _ _ _ _ _ h9) h9
  clear_value s10
  exact sendPdelay_canon _ (ppsFall_canon _ (ite_canon (sendBeat_canon _ h10) h10))

end Sys2Proof.Machine
end

