-- ==== Sys2Proof/Laws/Canon/SheafCore.lean ====
section
/-!
SUPPORT. Every operation of Machine/SheafCore.lean keeps the canonical form.
-/
namespace Sys2Proof.Machine

@[simp] theorem entryStep_canon (p e) (h : p.1.canon) : (entryStep p e).1.canon := by
  unfold entryStep; dsimp only; (repeat' split) <;> simp +contextual (maxDischargeDepth := 60) [h]

@[simp] theorem entryWords_canon (x0 s) (h : s.canon) : (entryWords x0 s).1.canon := by
  unfold entryWords
  exact foldl_canon1 _ entryStep_canon _ _ h

@[simp] theorem cancelSet_canon (x0 s) (h : s.canon) : (cancelSet x0 s).canon := by
  unfold cancelSet
  simp +contextual (maxDischargeDepth := 60) [h]

@[simp] theorem endSheaf_canon (x0 x1 x2 x3 s) (h : s.canon) : (endSheaf x0 x1 x2 x3 s).canon := by
  unfold endSheaf
  simp +contextual (maxDischargeDepth := 60) [h]

@[simp] theorem abortSheaf_canon (x0 x1 x2 s) (h : s.canon) : (abortSheaf x0 x1 x2 s).canon := by
  unfold abortSheaf
  (repeat' split) <;> simp +contextual (maxDischargeDepth := 60) [h]

@[simp] theorem loseSheaves_canon (s) (h : s.canon) : (loseSheaves s).canon := by
  unfold loseSheaves
  simp +contextual (maxDischargeDepth := 60) [h]

@[simp] theorem readySheaf_canon (x0 s) (h : s.canon) : (readySheaf x0 s).canon := by
  unfold readySheaf
  dsimp only
  (repeat' split) <;> simp +contextual (maxDischargeDepth := 60) [h]

@[simp] theorem prepareSheaf_canon (x0 s) (h : s.canon) : (prepareSheaf x0 s).canon := by
  unfold prepareSheaf
  dsimp only
  (repeat' split) <;> simp +contextual (maxDischargeDepth := 60) [h]

@[simp] theorem prepareAnswer_canon (x0 x1 x2 x3 s) (h : s.canon) : (prepareAnswer x0 x1 x2 x3 s).canon := by
  unfold prepareAnswer
  dsimp only
  (repeat' split) <;> simp +contextual (maxDischargeDepth := 60) [h]

@[simp] theorem prepareTimeout_canon (x0 x1 x2 s) (h : s.canon) : (prepareTimeout x0 x1 x2 s).canon := by
  unfold prepareTimeout
  (repeat' split) <;> simp +contextual (maxDischargeDepth := 60) [h]

@[simp] theorem forgetPrepared_canon (x0 s) (h : s.canon) : (forgetPrepared x0 s).canon := by
  unfold forgetPrepared
  simp +contextual (maxDischargeDepth := 60) [h]

@[simp] theorem applyEntry_canon (x0 x1 s x3) (h : s.canon) : (applyEntry x0 x1 s x3).canon := by
  unfold applyEntry
  dsimp only
  (repeat' split) <;> simp +contextual (maxDischargeDepth := 60) [h]

@[simp] theorem applyBanks_canon (x0 s) (h : s.canon) : (applyBanks x0 s).canon := by
  unfold applyBanks
  simp +contextual (maxDischargeDepth := 60) [h]

@[simp] theorem downloadCell_canon (s x1) (h : s.canon) : (downloadCell s x1).canon := by
  unfold downloadCell
  simp +contextual (maxDischargeDepth := 60) [h]

@[simp] theorem applySet_canon (x0 x1 s) (h : s.canon) : (applySet x0 x1 s).canon := by
  unfold applySet
  simp +contextual (maxDischargeDepth := 60) [h]

@[simp] theorem applySheaf_canon (x0 s) (h : s.canon) : (applySheaf x0 s).canon := by
  unfold applySheaf
  (repeat' split) <;> simp +contextual (maxDischargeDepth := 60) [h]

@[simp] theorem applyBefore_canon (x0 s) (h : s.canon) : (applyBefore x0 s).canon := by
  unfold applyBefore
  simp +contextual (maxDischargeDepth := 60) [h]

@[simp] theorem watchApply_canon (x0 x1 s) (h : s.canon) : (watchApply x0 x1 s).canon := by
  unfold watchApply
  dsimp only
  (repeat' split) <;> simp +contextual (maxDischargeDepth := 60) [h]

end Sys2Proof.Machine
end

