-- ==== Sys2Proof/Laws/Canon/Boundary.lean ====
section
/-!
SUPPORT. Every operation of Machine/Boundary.lean keeps the canonical form.
-/
namespace Sys2Proof.Machine

@[simp] theorem openBoundary_canon (s) (h : s.canon) : (openBoundary s).canon := by
  unfold openBoundary
  simp +contextual (maxDischargeDepth := 60) [h]

@[simp] theorem outerBoundary_canon (x0 s) (h : s.canon) : (outerBoundary x0 s).canon := by
  unfold outerBoundary
  simp +contextual (maxDischargeDepth := 60) [h]

@[simp] theorem boundaryCause_canon (x0 s) (h : s.canon) : (boundaryCause x0 s).canon := by
  unfold boundaryCause
  dsimp only
  (repeat' split) <;> simp +contextual (maxDischargeDepth := 60) [h]

end Sys2Proof.Machine
end

