-- ==== Sys2Proof/Laws/Canon/Link.lean ====
section
/-!
SUPPORT. Every operation of Machine/Link.lean keeps the canonical form.
-/
namespace Sys2Proof.Machine

@[simp] theorem handoverDone_canon (s) (h : s.canon) : (handoverDone s).canon := by
  unfold handoverDone
  simp +contextual (maxDischargeDepth := 60) [h]

@[simp] theorem loseAwn_canon (s) (h : s.canon) : (loseAwn s).canon := by
  unfold loseAwn
  simp +contextual (maxDischargeDepth := 60) [h]

@[simp] theorem seeEpoch_canon (x0 s) (h : s.canon) : (seeEpoch x0 s).canon := by
  unfold seeEpoch
  simp +contextual (maxDischargeDepth := 60) [h]

@[simp] theorem takeNonce_canon (s) (h : s.canon) : (takeNonce s).1.canon := by
  unfold takeNonce
  simp +contextual (maxDischargeDepth := 60) [h]

@[simp] theorem sendKeyx_canon (x0 s) (h : s.canon) : (sendKeyx x0 s).canon := by
  unfold sendKeyx
  simp +contextual (maxDischargeDepth := 60) [h]

@[simp] theorem trainStep_canon (x0 s) (h : s.canon) : (trainStep x0 s).canon := by
  unfold trainStep
  simp +contextual (maxDischargeDepth := 60) [h]

@[simp] theorem identityFault_canon (x0 s) (h : s.canon) : (identityFault x0 s).canon := by
  unfold identityFault
  simp +contextual (maxDischargeDepth := 60) [h]

@[simp] theorem gotIdentity_canon (x0 x1 s) (h : s.canon) : (gotIdentity x0 x1 s).canon := by
  unfold gotIdentity
  simp +contextual (maxDischargeDepth := 60) [h]

@[simp] theorem gotCell_canon (x0 x1 x2 s) (h : s.canon) : (gotCell x0 x1 x2 s).canon := by
  unfold gotCell
  simp +contextual (maxDischargeDepth := 60) [h]

@[simp] theorem enrolDone_canon (x0 x1 s) (h : s.canon) : (enrolDone x0 x1 s).canon := by
  unfold enrolDone
  simp +contextual (maxDischargeDepth := 60) [h]

@[simp] theorem moduleTxn_canon (x0 x1 x2 x3 s) (h : s.canon) : (moduleTxn x0 x1 x2 x3 s).canon := by
  unfold moduleTxn
  dsimp only
  (repeat' split) <;> simp +contextual (maxDischargeDepth := 60) [h]

@[simp] theorem watchRead_canon (x0 x1 x2 x3 s) (h : s.canon) : (watchRead x0 x1 x2 x3 s).canon := by
  unfold watchRead
  simp +contextual (maxDischargeDepth := 60) [h]

@[simp] theorem txnDone_canon (x0 x1 x2 x3 s) (h : s.canon) : (txnDone x0 x1 x2 x3 s).canon := by
  unfold txnDone; dsimp only; split
  · simp +contextual (maxDischargeDepth := 60) [h]
  · split <;> simp +contextual (maxDischargeDepth := 60) [h]

@[simp] theorem rejectUplink_canon (x0 x1 s) (h : s.canon) : (rejectUplink x0 x1 s).canon := by
  unfold rejectUplink
  dsimp only
  (repeat' split) <;> simp +contextual (maxDischargeDepth := 60) [h]

@[simp] theorem takeRtt_canon (x0 x1 x2 s) (h : s.canon) : (takeRtt x0 x1 x2 s).canon := by
  unfold takeRtt; dsimp only; (repeat' split) <;> simp +contextual (maxDischargeDepth := 60) [h]

@[simp] theorem takeRecord_canon (x0 x1 x2 s) (h : s.canon) : (takeRecord x0 x1 x2 s).canon := by
  unfold takeRecord
  simp +contextual (maxDischargeDepth := 60) [h]

@[simp] theorem acceptUplink_canon (x0 x1 x2 s) (h : s.canon) : (acceptUplink x0 x1 x2 s).canon := by
  unfold acceptUplink
  (repeat' split) <;> simp +contextual (maxDischargeDepth := 60) [h]

end Sys2Proof.Machine
end

