-- ==== Sys2Proof/Laws/Canon/Pair.lean ====
section
/-!
SUPPORT. Every operation of Machine/Pair.lean keeps the canonical form.
-/
namespace Sys2Proof.Machine

@[simp] theorem State.setRed_canon (s x1) (h : s.canon) : (State.setRed s x1).canon := by
  unfold State.setRed
  simp +contextual (maxDischargeDepth := 60) [h]

@[simp] theorem claimAwn_canon (s) (h : s.canon) : (claimAwn s).canon := by
  unfold claimAwn
  simp +contextual (maxDischargeDepth := 60) [h]

@[simp] theorem takeCells_canon (x0 s) (h : s.canon) : (takeCells x0 s).canon := by
  unfold takeCells
  simp +contextual (maxDischargeDepth := 60) [h]

@[simp] theorem takeCfg_canon (x0 x1 s) (h : s.canon) : (takeCfg x0 x1 s).canon := by
  unfold takeCfg
  refine foldl_canon _ (fun s p h => ?_) _ _ ?_
  · split <;> simp [h]
  · split
    · exact ⟨Tab.wf_filter _ _ _ h.1, h.2⟩
    · exact h

@[simp] theorem askResync_canon (s) (h : s.canon) : (askResync s).canon := by
  unfold askResync
  simp +contextual (maxDischargeDepth := 60) [h]

@[simp] theorem compareDigest_canon (s) (h : s.canon) : (compareDigest s).canon := by
  unfold compareDigest
  simp +contextual (maxDischargeDepth := 60) [h]

@[simp] theorem applyCk_canon (x0 s) (h : s.canon) : (applyCk x0 s).canon := by
  unfold applyCk
  simp +contextual (maxDischargeDepth := 60) [h]

@[simp] theorem completeCk_canon (x0 s) (h : s.canon) : (completeCk x0 s).canon := by
  unfold completeCk
  simp +contextual (maxDischargeDepth := 60) [h]

@[simp] theorem completeFull_canon (x0 s) (h : s.canon) : (completeFull x0 s).canon := by
  unfold completeFull
  simp +contextual (maxDischargeDepth := 60) [h]

@[simp] theorem loseCk_canon (s) (h : s.canon) : (loseCk s).canon := by
  unfold loseCk
  simp +contextual (maxDischargeDepth := 60) [h]

@[simp] theorem ckSegment_canon (x0 x1 s) (h : s.canon) : (ckSegment x0 x1 s).canon := by
  unfold ckSegment
  dsimp only
  (repeat' split) <;> simp +contextual (maxDischargeDepth := 60) [h]

@[simp] theorem fullSegment_canon (x0 x1 s) (h : s.canon) : (fullSegment x0 x1 s).canon := by
  unfold fullSegment
  dsimp only
  (repeat' split) <;> simp +contextual (maxDischargeDepth := 60) [h]

@[simp] theorem followTime_canon (x0 x1 s) (h : s.canon) : (followTime x0 x1 s).canon := by
  unfold followTime
  exact State.rs_canon _ _ _ _ _ (settleDelta_canon _ h)

@[simp] theorem acceptBeat_canon (x0 x1 s) (h : s.canon) : (acceptBeat x0 x1 s).canon := by
  unfold acceptBeat
  extract_lets r acc lease s1 s2 s3 src i4 s4 s5 src2 s6
  have h2 : s2.canon := State.rs_canon _ _ _ _ _ (State.setRed_canon _ _ h)
  have h3 : s3.canon := ite_canon (State.rs_canon _ _ _ _ _ h2) h2
  have hi : i4.canon := State.rsb_canon _ _ _ _ _ _ (State.setRed_canon _ _ h3)
  have h4 : s4.canon := ite_canon (ite_canon hi (askResync_canon _ hi)) h3
  have h5 : s5.canon := seeEpoch_canon _ _ h4
  have h6 : s6.canon := ite_canon (State.setRed_canon _ _ h5) h5
  exact ite_canon (followTime_canon _ _ _ h6) h6

@[simp] theorem skipBoundary_canon (s) (h : s.canon) : (skipBoundary s).canon := by
  unfold skipBoundary
  simp +contextual (maxDischargeDepth := 60) [h]

@[simp] theorem restoreCk_canon (x0 s) (h : s.canon) : (restoreCk x0 s).canon := by
  unfold restoreCk
  simp +contextual (maxDischargeDepth := 60) [h]

@[simp] theorem takeReady_canon (x0 s) (h : s.canon) : (takeReady x0 s).canon := by
  unfold takeReady
  simp +contextual (maxDischargeDepth := 60) [h]

@[simp] theorem takeUnready_canon (s) (h : s.canon) : (takeUnready s).canon := by
  unfold takeUnready
  simp +contextual (maxDischargeDepth := 60) [h]

end Sys2Proof.Machine
end

