-- ==== Sys2Proof/Laws/Canon/Host.lean ====
section
/-!
SUPPORT. Every operation of Machine/Host.lean keeps the canonical form.
-/
namespace Sys2Proof.Machine

@[simp] theorem accept_canon (s x1) (h : s.canon) : (accept s x1).1.canon := by
  unfold accept
  simp +contextual (maxDischargeDepth := 60) [h]

@[simp] theorem refused_canon (x0 s x2) (h : s.canon) : (refused x0 s x2).1.canon := by
  unfold refused
  simp +contextual (maxDischargeDepth := 60) [h]

@[simp] theorem denyOp_canon (x0 x1 x2 s) (h : s.canon) : (denyOp x0 x1 x2 s).1.canon := by
  unfold denyOp
  simp +contextual (maxDischargeDepth := 60) [h]

@[simp] theorem readRegs_canon (x0 x1 x2 x3 s) (h : s.canon) : (readRegs x0 x1 x2 x3 s).1.canon := by
  induction x2 generalizing x3 s with
  | zero => exact h
  | succ k ih => unfold readRegs; dsimp only; split <;> simp +contextual (maxDischargeDepth := 60) [h, ih]

@[simp] theorem writeRegs_canon (x0 x1 x2 x3 s) (h : s.canon) : (writeRegs x0 x1 x2 x3 s).1.canon := by
  induction x2 generalizing x3 s with
  | nil => exact h
  | cons w l ih => unfold writeRegs; dsimp only; split <;> simp +contextual (maxDischargeDepth := 60) [h, ih]

@[simp] theorem regRead_canon (x0 x1 x2 s) (h : s.canon) : (regRead x0 x1 x2 s).1.canon := by
  unfold regRead; dsimp only; (repeat' split) <;> simp +contextual (maxDischargeDepth := 60) [h]

@[simp] theorem regWrite_canon (x0 x1 x2 s) (h : s.canon) : (regWrite x0 x1 x2 s).1.canon := by
  unfold regWrite; dsimp only; (repeat' split) <;> simp +contextual (maxDischargeDepth := 60) [h]

@[simp] theorem regRmw_canon (x0 x1 x2 x3 s) (h : s.canon) : (regRmw x0 x1 x2 x3 s).1.canon := by
  unfold regRmw; dsimp only; (repeat' split) <;> simp +contextual (maxDischargeDepth := 60) [h]

@[simp] theorem denyMem_canon (x0 x1 x2 x3 s) (h : s.canon) : (denyMem x0 x1 x2 x3 s).1.canon := by
  unfold denyMem
  simp +contextual (maxDischargeDepth := 60) [h]

@[simp] theorem memRead_canon (x0 x1 x2 s) (h : s.canon) : (memRead x0 x1 x2 s).1.canon := by
  unfold memRead; dsimp only; (repeat' split) <;> simp +contextual (maxDischargeDepth := 60) [h]

@[simp] theorem memWrite_canon (x0 x1 x2 s) (h : s.canon) : (memWrite x0 x1 x2 s).1.canon := by
  unfold memWrite; dsimp only; (repeat' split) <;> simp +contextual (maxDischargeDepth := 60) [h]

@[simp] theorem memFill_canon (x0 x1 x2 x3 x4 s) (h : s.canon) : (memFill x0 x1 x2 x3 x4 s).1.canon := by
  unfold memFill
  dsimp only
  (repeat' split) <;> simp +contextual (maxDischargeDepth := 60) [h]

@[simp] theorem notNow_canon (s) (h : s.canon) : (notNow s).1.canon := by
  unfold notNow
  simp +contextual (maxDischargeDepth := 60) [h]

@[simp] theorem askPrecharge_canon (s) (h : s.canon) : (askPrecharge s).1.canon := by
  unfold askPrecharge
  simp +contextual (maxDischargeDepth := 60) [h]

@[simp] theorem askMode_canon (a b f s) (hf : ∀ s, s.canon → (f s).canon) (h : s.canon) : (askMode a b f s).1.canon := by
  unfold askMode; (repeat' split) <;> simp +contextual (maxDischargeDepth := 60) [h, hf]

@[simp] theorem beginEstimate_canon (s) (h : s.canon) : (beginEstimate s).canon := by
  unfold beginEstimate
  simp +contextual (maxDischargeDepth := 60) [h]

@[simp] theorem askStart_canon (s) (h : s.canon) : (askStart s).1.canon := by
  unfold askStart
  simp +contextual (maxDischargeDepth := 60) [h]

@[simp] theorem askBlack_canon (s) (h : s.canon) : (askBlack s).1.canon := by
  unfold askBlack
  simp +contextual (maxDischargeDepth := 60) [h]

@[simp] theorem askIsland_canon (s) (h : s.canon) : (askIsland s).1.canon := by
  unfold askIsland
  simp +contextual (maxDischargeDepth := 60) [h]

@[simp] theorem askResyncMode_canon (x0 s) (h : s.canon) : (askResyncMode x0 s).1.canon := by
  unfold askResyncMode
  simp +contextual (maxDischargeDepth := 60) [h]

@[simp] theorem askStop_canon (s) (h : s.canon) : (askStop s).1.canon := by
  unfold askStop
  simp +contextual (maxDischargeDepth := 60) [h]

@[simp] theorem tieStatus_canon (x0 x1 x2 s) (h : s.canon) : (tieStatus x0 x1 x2 s).1.canon := by
  unfold tieStatus
  simp +contextual (maxDischargeDepth := 60) [h]

@[simp] theorem resetTrip_canon (x0 s) (h : s.canon) : (resetTrip x0 s).1.canon := by
  unfold resetTrip
  simp +contextual (maxDischargeDepth := 60) [h]

@[simp] theorem serviceEnter_canon (s) (h : s.canon) : (serviceEnter s).1.canon := by
  unfold serviceEnter
  simp +contextual (maxDischargeDepth := 60) [h]

@[simp] theorem serviceLeave_canon (s) (h : s.canon) : (serviceLeave s).1.canon := by
  unfold serviceLeave
  simp +contextual (maxDischargeDepth := 60) [h]

@[simp] theorem sheafOpen_canon (x0 s) (h : s.canon) : (sheafOpen x0 s).1.canon := by
  unfold sheafOpen
  (repeat' split) <;> simp +contextual (maxDischargeDepth := 60) [h]

@[simp] theorem sheafAdd_canon (x0 x1 x2 s) (h : s.canon) : (sheafAdd x0 x1 x2 s).1.canon := by
  unfold sheafAdd; dsimp only; (repeat' split) <;> simp +contextual (maxDischargeDepth := 60) [h]

@[simp] theorem sheafCommit_canon (x0 x1 x2 x3 x4 s) (h : s.canon) : (sheafCommit x0 x1 x2 x3 x4 s).1.canon := by
  unfold sheafCommit
  dsimp only
  (repeat' split) <;> simp +contextual (maxDischargeDepth := 60) [h]

@[simp] theorem sheafDiscard_canon (x0 x1 s) (h : s.canon) : (sheafDiscard x0 x1 s).1.canon := by
  unfold sheafDiscard
  dsimp only
  (repeat' split) <;> simp +contextual (maxDischargeDepth := 60) [h]

@[simp] theorem cellCommand_canon (x0 x1 x2 s) (h : s.canon) : (cellCommand x0 x1 x2 s).1.canon := by
  unfold cellCommand
  simp +contextual (maxDischargeDepth := 60) [h]

@[simp] theorem cellTxn_canon (x0 x1 x2 x3 x4 x5 x6 s) (h : s.canon) : (cellTxn x0 x1 x2 x3 x4 x5 x6 s).1.canon := by
  unfold cellTxn
  simp +contextual (maxDischargeDepth := 60) [h]

@[simp] theorem linkBlock_canon (x0 x1 x2 s) (h : s.canon) : (linkBlock x0 x1 x2 s).1.canon := by
  unfold linkBlock
  simp +contextual (maxDischargeDepth := 60) [h]

@[simp] theorem safWriteImage_canon (x0 s) (h : s.canon) : (safWriteImage x0 s).1.canon := by
  unfold safWriteImage
  simp +contextual (maxDischargeDepth := 60) [h]

@[simp] theorem safConfirmImage_canon (x0 x1 s) (h : s.canon) : (safConfirmImage x0 x1 s).1.canon := by
  unfold safConfirmImage
  simp +contextual (maxDischargeDepth := 60) [h]

@[simp] theorem safReset_canon (s) (h : s.canon) : (safReset s).1.canon := by
  unfold safReset
  simp +contextual (maxDischargeDepth := 60) [h]

@[simp] theorem askClaim_canon (s) (h : s.canon) : (askClaim s).1.canon := by
  unfold askClaim
  simp +contextual (maxDischargeDepth := 60) [h]

@[simp] theorem askSwitchover_canon (s) (h : s.canon) : (askSwitchover s).1.canon := by
  unfold askSwitchover
  simp +contextual (maxDischargeDepth := 60) [h]

@[simp] theorem askPairResync_canon (s) (h : s.canon) : (askPairResync s).1.canon := by
  unfold askPairResync
  simp +contextual (maxDischargeDepth := 60) [h]

@[simp] theorem askStep_canon (x0 s) (h : s.canon) : (askStep x0 s).1.canon := by
  unfold askStep
  dsimp only
  (repeat' split) <;> simp +contextual (maxDischargeDepth := 60) [h]

@[simp] theorem askStepAbs_canon (x0 x1 x2 s) (h : s.canon) : (askStepAbs x0 x1 x2 s).1.canon := by
  unfold askStepAbs
  simp +contextual (maxDischargeDepth := 60) [h]

@[simp] theorem askBist_canon (x0 s) (h : s.canon) : (askBist x0 s).1.canon := by
  unfold askBist
  simp +contextual (maxDischargeDepth := 60) [h]

@[simp] theorem askBistResult_canon (x0 x1 s) (h : s.canon) : (askBistResult x0 x1 s).1.canon := by
  unfold askBistResult
  simp +contextual (maxDischargeDepth := 60) [h]

@[simp] theorem askAck_canon (x0 s) (h : s.canon) : (askAck x0 s).1.canon := by
  unfold askAck
  simp +contextual (maxDischargeDepth := 60) [h]

@[simp] theorem readLog_canon (x0 x1 s) (h : s.canon) : (readLog x0 x1 s).1.canon := by
  unfold readLog
  simp +contextual (maxDischargeDepth := 60) [h]

@[simp] theorem factoryEnter_canon (s) (h : s.canon) : (factoryEnter s).1.canon := by
  unfold factoryEnter
  simp +contextual (maxDischargeDepth := 60) [h]

@[simp] theorem injected_canon (r) (h : r.1.canon) : (injected r).1.canon := by
  unfold injected
  simp +contextual (maxDischargeDepth := 60) [h]

@[simp] theorem runOp_canon (x0 x1 x2 s) (h : s.canon) : (runOp x0 x1 x2 s).1.canon := by
  cases x2 <;> simp +contextual (maxDischargeDepth := 60) [h, runOp, apply_ite Prod.fst]

end Sys2Proof.Machine
end

