-- ==== Sys2Proof/Laws/Canon/Net.lean ====
section
/-!
SUPPORT. Every operation of Machine/Net.lean keeps the canonical form.
-/
namespace Sys2Proof.Machine

@[simp] theorem sendReply_canon (x0 s) (h : s.canon) : (sendReply x0 s).canon := by
  unfold sendReply
  simp +contextual (maxDischargeDepth := 60) [h]

@[simp] theorem repeated_canon (x0 x1 x2 x3 s) (h : s.canon) : (repeated x0 x1 x2 x3 s).canon := by
  unfold repeated; dsimp only; (repeat' split) <;> simp +contextual (maxDischargeDepth := 60) [h]

@[simp] theorem setWait_canon (x0 x1 s) (h : s.canon) : (setWait x0 x1 s).canon := by
  unfold setWait
  simp +contextual (maxDischargeDepth := 60) [h]

@[simp] theorem afterReply_canon (x0 x1 s) (h : s.canon) : (afterReply x0 x1 s).canon := by
  unfold afterReply
  (repeat' split) <;> simp +contextual (maxDischargeDepth := 60) [h]

@[simp] theorem ingress_canon (x0 x1 x2 x3 s) (h : s.canon) : (ingress x0 x1 x2 x3 s).canon := by
  unfold ingress; dsimp only; (repeat' split) <;> simp +contextual (maxDischargeDepth := 60) [h]

@[simp] theorem noteLink_canon (x0 s) (h : s.canon) : (noteLink x0 s).canon := by
  unfold noteLink
  (repeat' split) <;> simp +contextual (maxDischargeDepth := 60) [h]

@[simp] theorem packet_canon (x0 x1 x2 s) (h : s.canon) : (packet x0 x1 x2 s).canon := by
  unfold packet
  (repeat' split) <;> simp +contextual (maxDischargeDepth := 60) [h]

@[simp] theorem serveChannel_canon (x0 s) (h : s.canon) : (serveChannel x0 s).canon := by
  unfold serveChannel
  (repeat' split) <;> simp +contextual (maxDischargeDepth := 60) [h]

@[simp] theorem serveMail_canon (x0 s) (h : s.canon) : (serveMail x0 s).canon := by
  induction x0 generalizing s with
  | zero => exact h
  | succ k ih => unfold serveMail; split <;> simp +contextual (maxDischargeDepth := 60) [h, ih]

@[simp] theorem settle_canon (s) (h : s.canon) : (settle s).canon := by
  unfold settle
  simp +contextual (maxDischargeDepth := 60) [h]

@[simp] theorem barRead_canon (x0 x1 x2 s) (h : s.canon) : (barRead x0 x1 x2 s).1.canon := by
  unfold barRead; dsimp only; (repeat' split) <;> simp +contextual (maxDischargeDepth := 60) [h]

@[simp] theorem barWrite_canon (x0 x1 x2 s) (h : s.canon) : (barWrite x0 x1 x2 s).canon := by
  unfold barWrite
  (repeat' split) <;> simp +contextual (maxDischargeDepth := 60) [h]

@[simp] theorem copySlots_canon (x0 x1 s) (h : s.canon) : (copySlots x0 x1 s).canon := by
  induction x0 generalizing x1 s with
  | zero => cases x1 <;> exact h
  | succ k ih => cases x1 <;> simp +contextual (maxDischargeDepth := 60) [h, copySlots, ih]

@[simp] theorem sendEvents_canon (x0 s) (h : s.canon) : (sendEvents x0 s).canon := by
  unfold sendEvents
  simp +contextual (maxDischargeDepth := 60) [h]

end Sys2Proof.Machine
end

