-- ==== Sys2Proof/Laws/Exec.lean ====
section
/-!
SUPPORT. Every command answers a next state: in it the variant and the waiting commands are those before, the clock has
moved on to the time of the command, and a canonical state stays canonical. One pair of lemmas per command.
-/
namespace Sys2Proof.Machine


theorem readRow_canon (t m a s) (h : s.canon) : ∃ s', readRow t m a s = .next s' ∧ s'.canon :=
  ⟨_, rfl, by simp +contextual (maxDischargeDepth := 60) [h]⟩
theorem regRow_canon (t m a v s) (h : s.canon) : ∃ s', regRow t m a v s = .next s' ∧ s'.canon :=
  ⟨_, rfl, by simp +contextual (maxDischargeDepth := 60) [h]⟩
theorem hostRow_canon (t h o s) (hc : s.canon) : ∃ s', hostRow t h o s = .next s' ∧ s'.canon :=
  ⟨_, rfl, by split <;> simp +contextual (maxDischargeDepth := 60) [hc]⟩
theorem readRow_base (t m a s) : ∃ s', readRow t m a s = .next s' ∧ s'.base = (s.variant, s.pending, max s.now t) :=
  ⟨_, rfl, by simp⟩
theorem regRow_base (t m a v s) : ∃ s', regRow t m a v s = .next s' ∧ s'.base = (s.variant, s.pending, max s.now t) :=
  ⟨_, rfl, by simp⟩
theorem hostRow_base (t h o s) : ∃ s', hostRow t h o s = .next s' ∧ s'.base = (s.variant, s.pending, max s.now t) :=
  ⟨_, rfl, by split <;> simp⟩

theorem execPing_canon (x0 x1 s) (h : s.canon) : ∃ s', execPing x0 x1 s = .next s' ∧ s'.canon := hostRow_canon _ _ _ _ h
theorem execPing_base (x0 x1 s) : ∃ s', execPing x0 x1 s = .next s' ∧ s'.base = (s.variant, s.pending, max s.now x0) := hostRow_base _ _ _ _
theorem execSysStatus_canon (x0 x1 s) (h : s.canon) : ∃ s', execSysStatus x0 x1 s = .next s' ∧ s'.canon := hostRow_canon _ _ _ _ h
theorem execSysStatus_base (x0 x1 s) : ∃ s', execSysStatus x0 x1 s = .next s' ∧ s'.base = (s.variant, s.pending, max s.now x0) := hostRow_base _ _ _ _
theorem execSysIdent_canon (x0 x1 s) (h : s.canon) : ∃ s', execSysIdent x0 x1 s = .next s' ∧ s'.canon := hostRow_canon _ _ _ _ h
theorem execSysIdent_base (x0 x1 s) : ∃ s', execSysIdent x0 x1 s = .next s' ∧ s'.base = (s.variant, s.pending, max s.now x0) := hostRow_base _ _ _ _
theorem execEventSub_canon (x0 x1 x2 s) (h : s.canon) : ∃ s', execEventSub x0 x1 x2 s = .next s' ∧ s'.canon := hostRow_canon _ _ _ _ h
theorem execEventSub_base (x0 x1 x2 s) : ∃ s', execEventSub x0 x1 x2 s = .next s' ∧ s'.base = (s.variant, s.pending, max s.now x0) := hostRow_base _ _ _ _
theorem execPathReset_canon (x0 x1 s) (h : s.canon) : ∃ s', execPathReset x0 x1 s = .next s' ∧ s'.canon := hostRow_canon _ _ _ _ h
theorem execPathReset_base (x0 x1 s) : ∃ s', execPathReset x0 x1 s = .next s' ∧ s'.base = (s.variant, s.pending, max s.now x0) := hostRow_base _ _ _ _
theorem execRegRead_canon (x0 x1 x2 x3 s) (h : s.canon) : ∃ s', execRegRead x0 x1 x2 x3 s = .next s' ∧ s'.canon := hostRow_canon _ _ _ _ h
theorem execRegRead_base (x0 x1 x2 x3 s) : ∃ s', execRegRead x0 x1 x2 x3 s = .next s' ∧ s'.base = (s.variant, s.pending, max s.now x0) := hostRow_base _ _ _ _
theorem execRegWrite_canon (x0 x1 x2 x3 s) (h : s.canon) : ∃ s', execRegWrite x0 x1 x2 x3 s = .next s' ∧ s'.canon := hostRow_canon _ _ _ _ h
theorem execRegWrite_base (x0 x1 x2 x3 s) : ∃ s', execRegWrite x0 x1 x2 x3 s = .next s' ∧ s'.base = (s.variant, s.pending, max s.now x0) := hostRow_base _ _ _ _
theorem execRegRmw_canon (x0 x1 x2 x3 x4 s) (h : s.canon) : ∃ s', execRegRmw x0 x1 x2 x3 x4 s = .next s' ∧ s'.canon := hostRow_canon _ _ _ _ h
theorem execRegRmw_base (x0 x1 x2 x3 x4 s) : ∃ s', execRegRmw x0 x1 x2 x3 x4 s = .next s' ∧ s'.base = (s.variant, s.pending, max s.now x0) := hostRow_base _ _ _ _
theorem execMemRead_canon (x0 x1 x2 x3 s) (h : s.canon) : ∃ s', execMemRead x0 x1 x2 x3 s = .next s' ∧ s'.canon := hostRow_canon _ _ _ _ h
theorem execMemRead_base (x0 x1 x2 x3 s) : ∃ s', execMemRead x0 x1 x2 x3 s = .next s' ∧ s'.base = (s.variant, s.pending, max s.now x0) := hostRow_base _ _ _ _
theorem execMemWrite_canon (x0 x1 x2 x3 s) (h : s.canon) : ∃ s', execMemWrite x0 x1 x2 x3 s = .next s' ∧ s'.canon := hostRow_canon _ _ _ _ h
theorem execMemWrite_base (x0 x1 x2 x3 s) : ∃ s', execMemWrite x0 x1 x2 x3 s = .next s' ∧ s'.base = (s.variant, s.pending, max s.now x0) := hostRow_base _ _ _ _
theorem execMemFill_canon (x0 x1 x2 x3 x4 s) (h : s.canon) : ∃ s', execMemFill x0 x1 x2 x3 x4 s = .next s' ∧ s'.canon := hostRow_canon _ _ _ _ h
theorem execMemFill_base (x0 x1 x2 x3 x4 s) : ∃ s', execMemFill x0 x1 x2 x3 x4 s = .next s' ∧ s'.base = (s.variant, s.pending, max s.now x0) := hostRow_base _ _ _ _
theorem execMemFillDone_canon (x0 s) (h : s.canon) : ∃ s', execMemFillDone x0 s = .next s' ∧ s'.canon := by
  unfold execMemFillDone
  exact ⟨_, rfl, by dsimp only; (repeat' split) <;> simp +contextual (maxDischargeDepth := 60) [h]⟩
theorem execMemFillDone_base (x0 s) : ∃ s', execMemFillDone x0 s = .next s' ∧ s'.base = (s.variant, s.pending, max s.now x0) := by
  unfold execMemFillDone
  exact ⟨_, rfl, by dsimp only; (repeat' split) <;> simp⟩
theorem execPrecharge_canon (x0 x1 s) (h : s.canon) : ∃ s', execPrecharge x0 x1 s = .next s' ∧ s'.canon := hostRow_canon _ _ _ _ h
theorem execPrecharge_base (x0 x1 s) : ∃ s', execPrecharge x0 x1 s = .next s' ∧ s'.base = (s.variant, s.pending, max s.now x0) := hostRow_base _ _ _ _
theorem execStart_canon (x0 x1 s) (h : s.canon) : ∃ s', execStart x0 x1 s = .next s' ∧ s'.canon := hostRow_canon _ _ _ _ h
theorem execStart_base (x0 x1 s) : ∃ s', execStart x0 x1 s = .next s' ∧ s'.base = (s.variant, s.pending, max s.now x0) := hostRow_base _ _ _ _
theorem execBlackStart_canon (x0 x1 s) (h : s.canon) : ∃ s', execBlackStart x0 x1 s = .next s' ∧ s'.canon := hostRow_canon _ _ _ _ h
theorem execBlackStart_base (x0 x1 s) : ∃ s', execBlackStart x0 x1 s = .next s' ∧ s'.base = (s.variant, s.pending, max s.now x0) := hostRow_base _ _ _ _
theorem execIsland_canon (x0 x1 s) (h : s.canon) : ∃ s', execIsland x0 x1 s = .next s' ∧ s'.canon := hostRow_canon _ _ _ _ h
theorem execIsland_base (x0 x1 s) : ∃ s', execIsland x0 x1 s = .next s' ∧ s'.base = (s.variant, s.pending, max s.now x0) := hostRow_base _ _ _ _
theorem execResyncStart_canon (x0 x1 s) (h : s.canon) : ∃ s', execResyncStart x0 x1 s = .next s' ∧ s'.canon := hostRow_canon _ _ _ _ h
theorem execResyncStart_base (x0 x1 s) : ∃ s', execResyncStart x0 x1 s = .next s' ∧ s'.base = (s.variant, s.pending, max s.now x0) := hostRow_base _ _ _ _
theorem execResyncCancel_canon (x0 x1 s) (h : s.canon) : ∃ s', execResyncCancel x0 x1 s = .next s' ∧ s'.canon := hostRow_canon _ _ _ _ h
theorem execResyncCancel_base (x0 x1 s) : ∃ s', execResyncCancel x0 x1 s = .next s' ∧ s'.base = (s.variant, s.pending, max s.now x0) := hostRow_base _ _ _ _
theorem execStop_canon (x0 x1 s) (h : s.canon) : ∃ s', execStop x0 x1 s = .next s' ∧ s'.canon := hostRow_canon _ _ _ _ h
theorem execStop_base (x0 x1 s) : ∃ s', execStop x0 x1 s = .next s' ∧ s'.base = (s.variant, s.pending, max s.now x0) := hostRow_base _ _ _ _
theorem execTieStatus_canon (x0 x1 x2 x3 x4 s) (h : s.canon) : ∃ s', execTieStatus x0 x1 x2 x3 x4 s = .next s' ∧ s'.canon := hostRow_canon _ _ _ _ h
theorem execTieStatus_base (x0 x1 x2 x3 x4 s) : ∃ s', execTieStatus x0 x1 x2 x3 x4 s = .next s' ∧ s'.base = (s.variant, s.pending, max s.now x0) := hostRow_base _ _ _ _
theorem execResetTrip_canon (x0 x1 x2 s) (h : s.canon) : ∃ s', execResetTrip x0 x1 x2 s = .next s' ∧ s'.canon := hostRow_canon _ _ _ _ h
theorem execResetTrip_base (x0 x1 x2 s) : ∃ s', execResetTrip x0 x1 x2 s = .next s' ∧ s'.base = (s.variant, s.pending, max s.now x0) := hostRow_base _ _ _ _
theorem execServiceEnter_canon (x0 x1 s) (h : s.canon) : ∃ s', execServiceEnter x0 x1 s = .next s' ∧ s'.canon := hostRow_canon _ _ _ _ h
theorem execServiceEnter_base (x0 x1 s) : ∃ s', execServiceEnter x0 x1 s = .next s' ∧ s'.base = (s.variant, s.pending, max s.now x0) := hostRow_base _ _ _ _
theorem execServiceLeave_canon (x0 x1 s) (h : s.canon) : ∃ s', execServiceLeave x0 x1 s = .next s' ∧ s'.canon := hostRow_canon _ _ _ _ h
theorem execServiceLeave_base (x0 x1 s) : ∃ s', execServiceLeave x0 x1 s = .next s' ∧ s'.base = (s.variant, s.pending, max s.now x0) := hostRow_base _ _ _ _
theorem execSheafOpen_canon (x0 x1 s) (h : s.canon) : ∃ s', execSheafOpen x0 x1 s = .next s' ∧ s'.canon := hostRow_canon _ _ _ _ h
theorem execSheafOpen_base (x0 x1 s) : ∃ s', execSheafOpen x0 x1 s = .next s' ∧ s'.base = (s.variant, s.pending, max s.now x0) := hostRow_base _ _ _ _
theorem execSheafAdd_canon (x0 x1 x2 x3 s) (h : s.canon) : ∃ s', execSheafAdd x0 x1 x2 x3 s = .next s' ∧ s'.canon := hostRow_canon _ _ _ _ h
theorem execSheafAdd_base (x0 x1 x2 x3 s) : ∃ s', execSheafAdd x0 x1 x2 x3 s = .next s' ∧ s'.base = (s.variant, s.pending, max s.now x0) := hostRow_base _ _ _ _
theorem execSheafCommit_canon (x0 x1 x2 x3 x4 s) (h : s.canon) : ∃ s', execSheafCommit x0 x1 x2 x3 x4 s = .next s' ∧ s'.canon := hostRow_canon _ _ _ _ h
theorem execSheafCommit_base (x0 x1 x2 x3 x4 s) : ∃ s', execSheafCommit x0 x1 x2 x3 x4 s = .next s' ∧ s'.base = (s.variant, s.pending, max s.now x0) := hostRow_base _ _ _ _
theorem execSheafDiscard_canon (x0 x1 x2 s) (h : s.canon) : ∃ s', execSheafDiscard x0 x1 x2 s = .next s' ∧ s'.canon := hostRow_canon _ _ _ _ h
theorem execSheafDiscard_base (x0 x1 x2 s) : ∃ s', execSheafDiscard x0 x1 x2 s = .next s' ∧ s'.base = (s.variant, s.pending, max s.now x0) := hostRow_base _ _ _ _
theorem execSheafTimeout_canon (x0 x1 s) (h : s.canon) : ∃ s', execSheafTimeout x0 x1 s = .next s' ∧ s'.canon := by
  unfold execSheafTimeout
  exact ⟨_, rfl, by dsimp only; (repeat' split) <;> simp +contextual (maxDischargeDepth := 60) [h]⟩
theorem execSheafTimeout_base (x0 x1 s) : ∃ s', execSheafTimeout x0 x1 s = .next s' ∧ s'.base = (s.variant, s.pending, max s.now x0) := by
  unfold execSheafTimeout
  exact ⟨_, rfl, by dsimp only; (repeat' split) <;> simp⟩
theorem execPrepareDeadline_canon (x0 x1 s) (h : s.canon) : ∃ s', execPrepareDeadline x0 x1 s = .next s' ∧ s'.canon := by
  unfold execPrepareDeadline
  exact ⟨_, rfl, by dsimp only; (repeat' split) <;> simp +contextual (maxDischargeDepth := 60) [h]⟩
theorem execPrepareDeadline_base (x0 x1 s) : ∃ s', execPrepareDeadline x0 x1 s = .next s' ∧ s'.base = (s.variant, s.pending, max s.now x0) := by
  unfold execPrepareDeadline
  exact ⟨_, rfl, by dsimp only; (repeat' split) <;> simp⟩
theorem execSheafApply_canon (x0 x1 s) (h : s.canon) : ∃ s', execSheafApply x0 x1 s = .next s' ∧ s'.canon := by
  unfold execSheafApply
  exact ⟨_, rfl, by simp +contextual (maxDischargeDepth := 60) [h]⟩
theorem execSheafApply_base (x0 x1 s) : ∃ s', execSheafApply x0 x1 s = .next s' ∧ s'.base = (s.variant, s.pending, max s.now x0) := by
  unfold execSheafApply
  exact ⟨_, rfl, by simp⟩
theorem execBypass_canon (x0 x1 x2 s) (h : s.canon) : ∃ s', execBypass x0 x1 x2 s = .next s' ∧ s'.canon := hostRow_canon _ _ _ _ h
theorem execBypass_base (x0 x1 x2 s) : ∃ s', execBypass x0 x1 x2 s = .next s' ∧ s'.base = (s.variant, s.pending, max s.now x0) := hostRow_base _ _ _ _
theorem execRestore_canon (x0 x1 x2 s) (h : s.canon) : ∃ s', execRestore x0 x1 x2 s = .next s' ∧ s'.canon := hostRow_canon _ _ _ _ h
theorem execRestore_base (x0 x1 x2 s) : ∃ s', execRestore x0 x1 x2 s = .next s' ∧ s'.base = (s.variant, s.pending, max s.now x0) := hostRow_base _ _ _ _
theorem execRelease_canon (x0 x1 x2 s) (h : s.canon) : ∃ s', execRelease x0 x1 x2 s = .next s' ∧ s'.canon := hostRow_canon _ _ _ _ h
theorem execRelease_base (x0 x1 x2 s) : ∃ s', execRelease x0 x1 x2 s = .next s' ∧ s'.base = (s.variant, s.pending, max s.now x0) := hostRow_base _ _ _ _
theorem execCellTxn_canon (x0 x1 x2 x3 x4 x5 x6 s) (h : s.canon) : ∃ s', execCellTxn x0 x1 x2 x3 x4 x5 x6 s = .next s' ∧ s'.canon := hostRow_canon _ _ _ _ h
theorem execCellTxn_base (x0 x1 x2 x3 x4 x5 x6 s) : ∃ s', execCellTxn x0 x1 x2 x3 x4 x5 x6 s = .next s' ∧ s'.base = (s.variant, s.pending, max s.now x0) := hostRow_base _ _ _ _
theorem execLinkBlock_canon (x0 x1 x2 x3 s) (h : s.canon) : ∃ s', execLinkBlock x0 x1 x2 x3 s = .next s' ∧ s'.canon := hostRow_canon _ _ _ _ h
theorem execLinkBlock_base (x0 x1 x2 x3 s) : ∃ s', execLinkBlock x0 x1 x2 x3 s = .next s' ∧ s'.base = (s.variant, s.pending, max s.now x0) := hostRow_base _ _ _ _
theorem execRecStatus_canon (x0 x1 s) (h : s.canon) : ∃ s', execRecStatus x0 x1 s = .next s' ∧ s'.canon := hostRow_canon _ _ _ _ h
theorem execRecStatus_base (x0 x1 s) : ∃ s', execRecStatus x0 x1 s = .next s' ∧ s'.base = (s.variant, s.pending, max s.now x0) := hostRow_base _ _ _ _
theorem execSafConfigWrite_canon (x0 x1 x2 s) (h : s.canon) : ∃ s', execSafConfigWrite x0 x1 x2 s = .next s' ∧ s'.canon := hostRow_canon _ _ _ _ h
theorem execSafConfigWrite_base (x0 x1 x2 s) : ∃ s', execSafConfigWrite x0 x1 x2 s = .next s' ∧ s'.base = (s.variant, s.pending, max s.now x0) := hostRow_base _ _ _ _
theorem execSafConfigConfirm_canon (x0 x1 x2 x3 s) (h : s.canon) : ∃ s', execSafConfigConfirm x0 x1 x2 x3 s = .next s' ∧ s'.canon := hostRow_canon _ _ _ _ h
theorem execSafConfigConfirm_base (x0 x1 x2 x3 s) : ∃ s', execSafConfigConfirm x0 x1 x2 x3 s = .next s' ∧ s'.base = (s.variant, s.pending, max s.now x0) := hostRow_base _ _ _ _
theorem execSafStatus_canon (x0 x1 s) (h : s.canon) : ∃ s', execSafStatus x0 x1 s = .next s' ∧ s'.canon := hostRow_canon _ _ _ _ h
theorem execSafStatus_base (x0 x1 s) : ∃ s', execSafStatus x0 x1 s = .next s' ∧ s'.base = (s.variant, s.pending, max s.now x0) := hostRow_base _ _ _ _
theorem execSafReset_canon (x0 x1 s) (h : s.canon) : ∃ s', execSafReset x0 x1 s = .next s' ∧ s'.canon := hostRow_canon _ _ _ _ h
theorem execSafReset_base (x0 x1 s) : ∃ s', execSafReset x0 x1 s = .next s' ∧ s'.base = (s.variant, s.pending, max s.now x0) := hostRow_base _ _ _ _
theorem execPairClaim_canon (x0 x1 s) (h : s.canon) : ∃ s', execPairClaim x0 x1 s = .next s' ∧ s'.canon := hostRow_canon _ _ _ _ h
theorem execPairClaim_base (x0 x1 s) : ∃ s', execPairClaim x0 x1 s = .next s' ∧ s'.base = (s.variant, s.pending, max s.now x0) := hostRow_base _ _ _ _
theorem execPairSwitchover_canon (x0 x1 s) (h : s.canon) : ∃ s', execPairSwitchover x0 x1 s = .next s' ∧ s'.canon := hostRow_canon _ _ _ _ h
theorem execPairSwitchover_base (x0 x1 s) : ∃ s', execPairSwitchover x0 x1 s = .next s' ∧ s'.base = (s.variant, s.pending, max s.now x0) := hostRow_base _ _ _ _
theorem execPairResync_canon (x0 x1 s) (h : s.canon) : ∃ s', execPairResync x0 x1 s = .next s' ∧ s'.canon := hostRow_canon _ _ _ _ h
theorem execPairResync_base (x0 x1 s) : ∃ s', execPairResync x0 x1 s = .next s' ∧ s'.base = (s.variant, s.pending, max s.now x0) := hostRow_base _ _ _ _
theorem execTimeGet_canon (x0 x1 s) (h : s.canon) : ∃ s', execTimeGet x0 x1 s = .next s' ∧ s'.canon := hostRow_canon _ _ _ _ h
theorem execTimeGet_base (x0 x1 s) : ∃ s', execTimeGet x0 x1 s = .next s' ∧ s'.base = (s.variant, s.pending, max s.now x0) := hostRow_base _ _ _ _
theorem execTimeStepAbs_canon (x0 x1 x2 x3 x4 s) (h : s.canon) : ∃ s', execTimeStepAbs x0 x1 x2 x3 x4 s = .next s' ∧ s'.canon := hostRow_canon _ _ _ _ h
theorem execTimeStepAbs_base (x0 x1 x2 x3 x4 s) : ∃ s', execTimeStepAbs x0 x1 x2 x3 x4 s = .next s' ∧ s'.base = (s.variant, s.pending, max s.now x0) := hostRow_base _ _ _ _
theorem execTimeStepRel_canon (x0 x1 x2 s) (h : s.canon) : ∃ s', execTimeStepRel x0 x1 x2 s = .next s' ∧ s'.canon := hostRow_canon _ _ _ _ h
theorem execTimeStepRel_base (x0 x1 x2 s) : ∃ s', execTimeStepRel x0 x1 x2 s = .next s' ∧ s'.base = (s.variant, s.pending, max s.now x0) := hostRow_base _ _ _ _
theorem execTimeStepToRef_canon (x0 x1 s) (h : s.canon) : ∃ s', execTimeStepToRef x0 x1 s = .next s' ∧ s'.canon := hostRow_canon _ _ _ _ h
theorem execTimeStepToRef_base (x0 x1 s) : ∃ s', execTimeStepToRef x0 x1 s = .next s' ∧ s'.base = (s.variant, s.pending, max s.now x0) := hostRow_base _ _ _ _
theorem execBistRun_canon (x0 x1 x2 s) (h : s.canon) : ∃ s', execBistRun x0 x1 x2 s = .next s' ∧ s'.canon := hostRow_canon _ _ _ _ h
theorem execBistRun_base (x0 x1 x2 s) : ∃ s', execBistRun x0 x1 x2 s = .next s' ∧ s'.base = (s.variant, s.pending, max s.now x0) := hostRow_base _ _ _ _
theorem execBistComplete_canon (x0 x1 s) (h : s.canon) : ∃ s', execBistComplete x0 x1 s = .next s' ∧ s'.canon := by
  unfold execBistComplete
  exact ⟨_, rfl, by simp +contextual (maxDischargeDepth := 60) [h]⟩
theorem execBistComplete_base (x0 x1 s) : ∃ s', execBistComplete x0 x1 s = .next s' ∧ s'.base = (s.variant, s.pending, max s.now x0) := by
  unfold execBistComplete
  exact ⟨_, rfl, by dsimp only; (repeat' split) <;> simp⟩
theorem execBistResult_canon (x0 x1 x2 s) (h : s.canon) : ∃ s', execBistResult x0 x1 x2 s = .next s' ∧ s'.canon := hostRow_canon _ _ _ _ h
theorem execBistResult_base (x0 x1 x2 s) : ∃ s', execBistResult x0 x1 x2 s = .next s' ∧ s'.base = (s.variant, s.pending, max s.now x0) := hostRow_base _ _ _ _
theorem execFaultAck_canon (x0 x1 x2 s) (h : s.canon) : ∃ s', execFaultAck x0 x1 x2 s = .next s' ∧ s'.canon := hostRow_canon _ _ _ _ h
theorem execFaultAck_base (x0 x1 x2 s) : ∃ s', execFaultAck x0 x1 x2 s = .next s' ∧ s'.base = (s.variant, s.pending, max s.now x0) := hostRow_base _ _ _ _
theorem execFaultLogRead_canon (x0 x1 x2 x3 s) (h : s.canon) : ∃ s', execFaultLogRead x0 x1 x2 x3 s = .next s' ∧ s'.canon := hostRow_canon _ _ _ _ h
theorem execFaultLogRead_base (x0 x1 x2 x3 s) : ∃ s', execFaultLogRead x0 x1 x2 x3 s = .next s' ∧ s'.base = (s.variant, s.pending, max s.now x0) := hostRow_base _ _ _ _
theorem execFactoryEnter_canon (x0 x1 s) (h : s.canon) : ∃ s', execFactoryEnter x0 x1 s = .next s' ∧ s'.canon := hostRow_canon _ _ _ _ h
theorem execFactoryEnter_base (x0 x1 s) : ∃ s', execFactoryEnter x0 x1 s = .next s' ∧ s'.base = (s.variant, s.pending, max s.now x0) := hostRow_base _ _ _ _
theorem execFaultInject_canon (x0 x1 x2 x3 s) (h : s.canon) : ∃ s', execFaultInject x0 x1 x2 x3 s = .next s' ∧ s'.canon := hostRow_canon _ _ _ _ h
theorem execFaultInject_base (x0 x1 x2 x3 s) : ∃ s', execFaultInject x0 x1 x2 x3 s = .next s' ∧ s'.base = (s.variant, s.pending, max s.now x0) := hostRow_base _ _ _ _
theorem execMemInject_canon (x0 x1 x2 x3 x4 s) (h : s.canon) : ∃ s', execMemInject x0 x1 x2 x3 x4 s = .next s' ∧ s'.canon := hostRow_canon _ _ _ _ h
theorem execMemInject_base (x0 x1 x2 x3 x4 s) : ∃ s', execMemInject x0 x1 x2 x3 x4 s = .next s' ∧ s'.base = (s.variant, s.pending, max s.now x0) := hostRow_base _ _ _ _
theorem execLinkInject_canon (x0 x1 x2 x3 x4 x5 s) (h : s.canon) : ∃ s', execLinkInject x0 x1 x2 x3 x4 x5 s = .next s' ∧ s'.canon := hostRow_canon _ _ _ _ h
theorem execLinkInject_base (x0 x1 x2 x3 x4 x5 s) : ∃ s', execLinkInject x0 x1 x2 x3 x4 x5 s = .next s' ∧ s'.base = (s.variant, s.pending, max s.now x0) := hostRow_base _ _ _ _
theorem execInjClear_canon (x0 x1 s) (h : s.canon) : ∃ s', execInjClear x0 x1 s = .next s' ∧ s'.canon := hostRow_canon _ _ _ _ h
theorem execInjClear_base (x0 x1 s) : ∃ s', execInjClear x0 x1 s = .next s' ∧ s'.base = (s.variant, s.pending, max s.now x0) := hostRow_base _ _ _ _
theorem execFactoryLeave_canon (x0 x1 s) (h : s.canon) : ∃ s', execFactoryLeave x0 x1 s = .next s' ∧ s'.canon := hostRow_canon _ _ _ _ h
theorem execFactoryLeave_base (x0 x1 s) : ∃ s', execFactoryLeave x0 x1 s = .next s' ∧ s'.base = (s.variant, s.pending, max s.now x0) := hostRow_base _ _ _ _
theorem execPcieMemRead_canon (x0 x1 x2 x3 s) (h : s.canon) : ∃ s', execPcieMemRead x0 x1 x2 x3 s = .next s' ∧ s'.canon := by
  unfold execPcieMemRead
  exact ⟨_, rfl, by simp +contextual (maxDischargeDepth := 60) [h]⟩
theorem execPcieMemRead_base (x0 x1 x2 x3 s) : ∃ s', execPcieMemRead x0 x1 x2 x3 s = .next s' ∧ s'.base = (s.variant, s.pending, max s.now x0) := by
  unfold execPcieMemRead
  exact ⟨_, rfl, by simp⟩
theorem execPcieMemWrite_canon (x0 x1 x2 x3 s) (h : s.canon) : ∃ s', execPcieMemWrite x0 x1 x2 x3 s = .next s' ∧ s'.canon := by
  unfold execPcieMemWrite
  exact ⟨_, rfl, by simp +contextual (maxDischargeDepth := 60) [h]⟩
theorem execPcieMemWrite_base (x0 x1 x2 x3 s) : ∃ s', execPcieMemWrite x0 x1 x2 x3 s = .next s' ∧ s'.base = (s.variant, s.pending, max s.now x0) := by
  unfold execPcieMemWrite
  exact ⟨_, rfl, by simp⟩
theorem execArpRequest_canon (x0 x1 x2 s) (h : s.canon) : ∃ s', execArpRequest x0 x1 x2 s = .next s' ∧ s'.canon := by
  unfold execArpRequest
  exact ⟨_, rfl, by (repeat' apply ite_canon) <;> simp +contextual (maxDischargeDepth := 60) [h]⟩
theorem execArpRequest_base (x0 x1 x2 s) : ∃ s', execArpRequest x0 x1 x2 s = .next s' ∧ s'.base = (s.variant, s.pending, max s.now x0) := by
  unfold execArpRequest
  exact ⟨_, rfl, by (repeat' split) <;> simp_all⟩
theorem execIcmpEcho_canon (x0 x1 x2 x3 s) (h : s.canon) : ∃ s', execIcmpEcho x0 x1 x2 x3 s = .next s' ∧ s'.canon := by
  unfold execIcmpEcho
  exact ⟨_, rfl, by (repeat' apply ite_canon) <;> simp +contextual (maxDischargeDepth := 60) [h]⟩
theorem execIcmpEcho_base (x0 x1 x2 x3 s) : ∃ s', execIcmpEcho x0 x1 x2 x3 s = .next s' ∧ s'.base = (s.variant, s.pending, max s.now x0) := by
  unfold execIcmpEcho
  exact ⟨_, rfl, by (repeat' split) <;> simp_all⟩
theorem execReassemblyTimeout_canon (x0 x1 x2 s) (h : s.canon) : ∃ s', execReassemblyTimeout x0 x1 x2 s = .next s' ∧ s'.canon := by
  unfold execReassemblyTimeout
  exact ⟨_, rfl, by simp +contextual (maxDischargeDepth := 60) [h]⟩
theorem execReassemblyTimeout_base (x0 x1 x2 s) : ∃ s', execReassemblyTimeout x0 x1 x2 s = .next s' ∧ s'.base = (s.variant, s.pending, max s.now x0) := by
  unfold execReassemblyTimeout
  exact ⟨_, rfl, by simp⟩
theorem execCqTailWrite_canon (x0 x1 x2 x3 s) (h : s.canon) : ∃ s', execCqTailWrite x0 x1 x2 x3 s = .next s' ∧ s'.canon := by
  unfold execCqTailWrite
  exact ⟨_, rfl, by simp +contextual (maxDischargeDepth := 60) [h]⟩
theorem execCqTailWrite_base (x0 x1 x2 x3 s) : ∃ s', execCqTailWrite x0 x1 x2 x3 s = .next s' ∧ s'.base = (s.variant, s.pending, max s.now x0) := by
  unfold execCqTailWrite
  exact ⟨_, rfl, by simp⟩
theorem execReplyRingRoom_canon (x0 x1 x2 s) (h : s.canon) : ∃ s', execReplyRingRoom x0 x1 x2 s = .next s' ∧ s'.canon := by
  unfold execReplyRingRoom
  exact ⟨_, rfl, by simp +contextual (maxDischargeDepth := 60) [h]⟩
theorem execReplyRingRoom_base (x0 x1 x2 s) : ∃ s', execReplyRingRoom x0 x1 x2 s = .next s' ∧ s'.base = (s.variant, s.pending, max s.now x0) := by
  unfold execReplyRingRoom
  exact ⟨_, rfl, by simp⟩
theorem execReplyCacheExpiry_canon (x0 x1 s) (h : s.canon) : ∃ s', execReplyCacheExpiry x0 x1 s = .next s' ∧ s'.canon := by
  unfold execReplyCacheExpiry
  exact ⟨_, rfl, by simp +contextual (maxDischargeDepth := 60) [h]⟩
theorem execReplyCacheExpiry_base (x0 x1 s) : ∃ s', execReplyCacheExpiry x0 x1 s = .next s' ∧ s'.base = (s.variant, s.pending, max s.now x0) := by
  unfold execReplyCacheExpiry
  exact ⟨_, rfl, by simp⟩
theorem execEvent_canon (x0 x1 s) (h : s.canon) : ∃ s', execEvent x0 x1 s = .next s' ∧ s'.canon := by
  unfold execEvent
  exact ⟨_, rfl, by simp +contextual (maxDischargeDepth := 60) [h]⟩
theorem execEvent_base (x0 x1 s) : ∃ s', execEvent x0 x1 s = .next s' ∧ s'.base = (s.variant, s.pending, max s.now x0) := by
  unfold execEvent
  exact ⟨_, rfl, by simp⟩
theorem execPcieReset_canon (x0 s) (h : s.canon) : ∃ s', execPcieReset x0 s = .next s' ∧ s'.canon := by
  unfold execPcieReset
  exact ⟨_, rfl, by simp +contextual (maxDischargeDepth := 60) [h]⟩
theorem execPcieReset_base (x0 s) : ∃ s', execPcieReset x0 s = .next s' ∧ s'.base = (s.variant, s.pending, max s.now x0) := by
  unfold execPcieReset
  exact ⟨_, rfl, by simp⟩
theorem execPortLinkDown_canon (x0 x1 s) (h : s.canon) : ∃ s', execPortLinkDown x0 x1 s = .next s' ∧ s'.canon := by
  unfold execPortLinkDown
  exact ⟨_, rfl, by simp +contextual (maxDischargeDepth := 60) [h]⟩
theorem execPortLinkDown_base (x0 x1 s) : ∃ s', execPortLinkDown x0 x1 s = .next s' ∧ s'.base = (s.variant, s.pending, max s.now x0) := by
  unfold execPortLinkDown
  exact ⟨_, rfl, by simp⟩
theorem execCoreReset_canon (x0 x1 x2 s) (h : s.canon) : ∃ s', execCoreReset x0 x1 x2 s = .next s' ∧ s'.canon := by
  unfold execCoreReset
  exact ⟨_, rfl, by dsimp only; (repeat' split) <;> simp +contextual (maxDischargeDepth := 60) [h]⟩
theorem execCoreReset_base (x0 x1 x2 s) : ∃ s', execCoreReset x0 x1 x2 s = .next s' ∧ s'.base = (s.variant, s.pending, max s.now x0) := by
  unfold execCoreReset
  exact ⟨_, rfl, by dsimp only; (repeat' split) <;> simp⟩
theorem execMbxSend_canon (x0 x1 x2 x3 s) (h : s.canon) : ∃ s', execMbxSend x0 x1 x2 x3 s = .next s' ∧ s'.canon := regRow_canon _ _ _ _ _ h
theorem execMbxSend_base (x0 x1 x2 x3 s) : ∃ s', execMbxSend x0 x1 x2 x3 s = .next s' ∧ s'.base = (s.variant, s.pending, max s.now x0) := regRow_base _ _ _ _ _
theorem execMbxAck_canon (x0 x1 x2 x3 s) (h : s.canon) : ∃ s', execMbxAck x0 x1 x2 x3 s = .next s' ∧ s'.canon := regRow_canon _ _ _ _ _ h
theorem execMbxAck_base (x0 x1 x2 x3 s) : ∃ s', execMbxAck x0 x1 x2 x3 s = .next s' ∧ s'.base = (s.variant, s.pending, max s.now x0) := regRow_base _ _ _ _ _
theorem execMbxDbellClear_canon (x0 x1 x2 s) (h : s.canon) : ∃ s', execMbxDbellClear x0 x1 x2 s = .next s' ∧ s'.canon := regRow_canon _ _ _ _ _ h
theorem execMbxDbellClear_base (x0 x1 x2 s) : ∃ s', execMbxDbellClear x0 x1 x2 s = .next s' ∧ s'.base = (s.variant, s.pending, max s.now x0) := regRow_base _ _ _ _ _
theorem execMbxNoteClear_canon (x0 x1 x2 s) (h : s.canon) : ∃ s', execMbxNoteClear x0 x1 x2 s = .next s' ∧ s'.canon := regRow_canon _ _ _ _ _ h
theorem execMbxNoteClear_base (x0 x1 x2 s) : ∃ s', execMbxNoteClear x0 x1 x2 s = .next s' ∧ s'.base = (s.variant, s.pending, max s.now x0) := regRow_base _ _ _ _ _
theorem execMbxLock_canon (x0 x1 x2 s) (h : s.canon) : ∃ s', execMbxLock x0 x1 x2 s = .next s' ∧ s'.canon := regRow_canon _ _ _ _ _ h
theorem execMbxLock_base (x0 x1 x2 s) : ∃ s', execMbxLock x0 x1 x2 s = .next s' ∧ s'.base = (s.variant, s.pending, max s.now x0) := regRow_base _ _ _ _ _
theorem execMbCross_canon (x0 x1 x2 s) (h : s.canon) : ∃ s', execMbCross x0 x1 x2 s = .next s' ∧ s'.canon := by
  unfold execMbCross
  exact ⟨_, rfl, by simp +contextual (maxDischargeDepth := 60) [h]⟩
theorem execMbCross_base (x0 x1 x2 s) : ∃ s', execMbCross x0 x1 x2 s = .next s' ∧ s'.base = (s.variant, s.pending, max s.now x0) := by
  unfold execMbCross
  exact ⟨_, rfl, by simp⟩
theorem execCrcCfgWrite_canon (x0 x1 x2 x3 s) (h : s.canon) : ∃ s', execCrcCfgWrite x0 x1 x2 x3 s = .next s' ∧ s'.canon := regRow_canon _ _ _ _ _ h
theorem execCrcCfgWrite_base (x0 x1 x2 x3 s) : ∃ s', execCrcCfgWrite x0 x1 x2 x3 s = .next s' ∧ s'.base = (s.variant, s.pending, max s.now x0) := regRow_base _ _ _ _ _
theorem execCrcDatab_canon (x0 x1 x2 x3 s) (h : s.canon) : ∃ s', execCrcDatab x0 x1 x2 x3 s = .next s' ∧ s'.canon := regRow_canon _ _ _ _ _ h
theorem execCrcDatab_base (x0 x1 x2 x3 s) : ∃ s', execCrcDatab x0 x1 x2 x3 s = .next s' ∧ s'.base = (s.variant, s.pending, max s.now x0) := regRow_base _ _ _ _ _
theorem execCrcDataw_canon (x0 x1 x2 x3 s) (h : s.canon) : ∃ s', execCrcDataw x0 x1 x2 x3 s = .next s' ∧ s'.canon := regRow_canon _ _ _ _ _ h
theorem execCrcDataw_base (x0 x1 x2 x3 s) : ∃ s', execCrcDataw x0 x1 x2 x3 s = .next s' ∧ s'.base = (s.variant, s.pending, max s.now x0) := regRow_base _ _ _ _ _
theorem execCrcDatad_canon (x0 x1 x2 x3 s) (h : s.canon) : ∃ s', execCrcDatad x0 x1 x2 x3 s = .next s' ∧ s'.canon := regRow_canon _ _ _ _ _ h
theorem execCrcDatad_base (x0 x1 x2 x3 s) : ∃ s', execCrcDatad x0 x1 x2 x3 s = .next s' ∧ s'.base = (s.variant, s.pending, max s.now x0) := regRow_base _ _ _ _ _
theorem execCrcValhWrite_canon (x0 x1 x2 x3 s) (h : s.canon) : ∃ s', execCrcValhWrite x0 x1 x2 x3 s = .next s' ∧ s'.canon := regRow_canon _ _ _ _ _ h
theorem execCrcValhWrite_base (x0 x1 x2 x3 s) : ∃ s', execCrcValhWrite x0 x1 x2 x3 s = .next s' ∧ s'.base = (s.variant, s.pending, max s.now x0) := regRow_base _ _ _ _ _
theorem execCrcVallWrite_canon (x0 x1 x2 x3 s) (h : s.canon) : ∃ s', execCrcVallWrite x0 x1 x2 x3 s = .next s' ∧ s'.canon := regRow_canon _ _ _ _ _ h
theorem execCrcVallWrite_base (x0 x1 x2 x3 s) : ∃ s', execCrcVallWrite x0 x1 x2 x3 s = .next s' ∧ s'.base = (s.variant, s.pending, max s.now x0) := regRow_base _ _ _ _ _
theorem execCrcVallRead_canon (x0 x1 x2 s) (h : s.canon) : ∃ s', execCrcVallRead x0 x1 x2 s = .next s' ∧ s'.canon := readRow_canon _ _ _ _ h
theorem execCrcVallRead_base (x0 x1 x2 s) : ∃ s', execCrcVallRead x0 x1 x2 s = .next s' ∧ s'.base = (s.variant, s.pending, max s.now x0) := readRow_base _ _ _ _
theorem execCrcAlive_canon (x0 x1 x2 x3 s) (h : s.canon) : ∃ s', execCrcAlive x0 x1 x2 x3 s = .next s' ∧ s'.canon := regRow_canon _ _ _ _ _ h
theorem execCrcAlive_base (x0 x1 x2 x3 s) : ∃ s', execCrcAlive x0 x1 x2 x3 s = .next s' ∧ s'.base = (s.variant, s.pending, max s.now x0) := regRow_base _ _ _ _ _
theorem execCrcClaim_canon (x0 x1 x2 x3 s) (h : s.canon) : ∃ s', execCrcClaim x0 x1 x2 x3 s = .next s' ∧ s'.canon := regRow_canon _ _ _ _ _ h
theorem execCrcClaim_base (x0 x1 x2 x3 s) : ∃ s', execCrcClaim x0 x1 x2 x3 s = .next s' ∧ s'.base = (s.variant, s.pending, max s.now x0) := regRow_base _ _ _ _ _
theorem execCrcRelease_canon (x0 x1 x2 x3 s) (h : s.canon) : ∃ s', execCrcRelease x0 x1 x2 x3 s = .next s' ∧ s'.canon := regRow_canon _ _ _ _ _ h
theorem execCrcRelease_base (x0 x1 x2 x3 s) : ∃ s', execCrcRelease x0 x1 x2 x3 s = .next s' ∧ s'.base = (s.variant, s.pending, max s.now x0) := regRow_base _ _ _ _ _
theorem execMemRetire_canon (x0 x1 x2 s) (h : s.canon) : ∃ s', execMemRetire x0 x1 x2 s = .next s' ∧ s'.canon := regRow_canon _ _ _ _ _ h
theorem execMemRetire_base (x0 x1 x2 s) : ∃ s', execMemRetire x0 x1 x2 s = .next s' ∧ s'.base = (s.variant, s.pending, max s.now x0) := regRow_base _ _ _ _ _
theorem execRetirementCopyDone_canon (x0 s) (h : s.canon) : ∃ s', execRetirementCopyDone x0 s = .next s' ∧ s'.canon := by
  unfold execRetirementCopyDone
  exact ⟨_, rfl, by (repeat' split) <;> simp +contextual (maxDischargeDepth := 60) [h]⟩
theorem execRetirementCopyDone_base (x0 s) : ∃ s', execRetirementCopyDone x0 s = .next s' ∧ s'.base = (s.variant, s.pending, max s.now x0) := by
  unfold execRetirementCopyDone
  exact ⟨_, rfl, by (repeat' split) <;> simp_all⟩
theorem execGleanWord_canon (x0 x1 s) (h : s.canon) : ∃ s', execGleanWord x0 x1 s = .next s' ∧ s'.canon := by
  unfold execGleanWord
  exact ⟨_, rfl, by (repeat' apply ite_canon) <;> simp +contextual (maxDischargeDepth := 60) [h]⟩
theorem execGleanWord_base (x0 x1 s) : ∃ s', execGleanWord x0 x1 s = .next s' ∧ s'.base = (s.variant, s.pending, max s.now x0) := by
  unfold execGleanWord
  exact ⟨_, rfl, by (repeat' split) <;> simp_all⟩
theorem execHardwareFillDone_canon (x0 s) (h : s.canon) : ∃ s', execHardwareFillDone x0 s = .next s' ∧ s'.canon := by
  unfold execHardwareFillDone
  refine ⟨_, rfl, ite_canon (State.rsb_canon _ _ _ _ _ _ (State.setPwr_canon _ _ ?_)) h⟩
  obtain ⟨m1, m2, m3, m4, m5⟩ := h.wf_mem
  exact ⟨h.1, (Memory.wf_iff _).mpr ⟨rfl, m2, rfl, m4, rfl⟩⟩
theorem execHardwareFillDone_base (x0 s) : ∃ s', execHardwareFillDone x0 s = .next s' ∧ s'.base = (s.variant, s.pending, max s.now x0) := by
  unfold execHardwareFillDone
  exact ⟨_, rfl, by dsimp only; (repeat' split) <;> simp⟩
theorem execSampleSnapshot_canon (x0 x1 x2 x3 s) (h : s.canon) : ∃ s', execSampleSnapshot x0 x1 x2 x3 s = .next s' ∧ s'.canon := readRow_canon _ _ _ _ h
theorem execSampleSnapshot_base (x0 x1 x2 x3 s) : ∃ s', execSampleSnapshot x0 x1 x2 x3 s = .next s' ∧ s'.base = (s.variant, s.pending, max s.now x0) := readRow_base _ _ _ _
theorem execResultSnapshot_canon (x0 x1 x2 x3 s) (h : s.canon) : ∃ s', execResultSnapshot x0 x1 x2 x3 s = .next s' ∧ s'.canon := readRow_canon _ _ _ _ h
theorem execResultSnapshot_base (x0 x1 x2 x3 s) : ∃ s', execResultSnapshot x0 x1 x2 x3 s = .next s' ∧ s'.base = (s.variant, s.pending, max s.now x0) := readRow_base _ _ _ _
theorem execNowSnapshot_canon (x0 x1 s) (h : s.canon) : ∃ s', execNowSnapshot x0 x1 s = .next s' ∧ s'.canon := readRow_canon _ _ _ _ h
theorem execNowSnapshot_base (x0 x1 s) : ∃ s', execNowSnapshot x0 x1 s = .next s' ∧ s'.base = (s.variant, s.pending, max s.now x0) := readRow_base _ _ _ _
theorem execLogSnapshot_canon (x0 x1 x2 s) (h : s.canon) : ∃ s', execLogSnapshot x0 x1 x2 s = .next s' ∧ s'.canon := readRow_canon _ _ _ _ h
theorem execLogSnapshot_base (x0 x1 x2 s) : ∃ s', execLogSnapshot x0 x1 x2 s = .next s' ∧ s'.base = (s.variant, s.pending, max s.now x0) := readRow_base _ _ _ _
theorem execRegisterWrite_canon (x0 x1 x2 x3 s) (h : s.canon) : ∃ s', execRegisterWrite x0 x1 x2 x3 s = .next s' ∧ s'.canon := regRow_canon _ _ _ _ _ h
theorem execRegisterWrite_base (x0 x1 x2 x3 s) : ∃ s', execRegisterWrite x0 x1 x2 x3 s = .next s' ∧ s'.base = (s.variant, s.pending, max s.now x0) := regRow_base _ _ _ _ _
theorem execLenFbWrite_canon (x0 x1 x2 s) (h : s.canon) : ∃ s', execLenFbWrite x0 x1 x2 s = .next s' ∧ s'.canon := regRow_canon _ _ _ _ _ h
theorem execLenFbWrite_base (x0 x1 x2 s) : ∃ s', execLenFbWrite x0 x1 x2 s = .next s' ∧ s'.base = (s.variant, s.pending, max s.now x0) := regRow_base _ _ _ _ _
theorem execBankOpen_canon (x0 x1 x2 s) (h : s.canon) : ∃ s', execBankOpen x0 x1 x2 s = .next s' ∧ s'.canon := regRow_canon _ _ _ _ _ h
theorem execBankOpen_base (x0 x1 x2 s) : ∃ s', execBankOpen x0 x1 x2 s = .next s' ∧ s'.base = (s.variant, s.pending, max s.now x0) := regRow_base _ _ _ _ _
theorem execBankClose_canon (x0 x1 x2 s) (h : s.canon) : ∃ s', execBankClose x0 x1 x2 s = .next s' ∧ s'.canon := regRow_canon _ _ _ _ _ h
theorem execBankClose_base (x0 x1 x2 s) : ∃ s', execBankClose x0 x1 x2 s = .next s' ∧ s'.base = (s.variant, s.pending, max s.now x0) := regRow_base _ _ _ _ _
theorem execTcompClear_canon (x0 x1 x2 s) (h : s.canon) : ∃ s', execTcompClear x0 x1 x2 s = .next s' ∧ s'.canon := regRow_canon _ _ _ _ _ h
theorem execTcompClear_base (x0 x1 x2 s) : ∃ s', execTcompClear x0 x1 x2 s = .next s' ∧ s'.base = (s.variant, s.pending, max s.now x0) := regRow_base _ _ _ _ _
theorem execDefClear_canon (x0 x1 x2 s) (h : s.canon) : ∃ s', execDefClear x0 x1 x2 s = .next s' ∧ s'.canon := regRow_canon _ _ _ _ _ h
theorem execDefClear_base (x0 x1 x2 s) : ∃ s', execDefClear x0 x1 x2 s = .next s' ∧ s'.base = (s.variant, s.pending, max s.now x0) := regRow_base _ _ _ _ _
theorem execSwClear_canon (x0 x1 x2 s) (h : s.canon) : ∃ s', execSwClear x0 x1 x2 s = .next s' ∧ s'.canon := regRow_canon _ _ _ _ _ h
theorem execSwClear_base (x0 x1 x2 s) : ∃ s', execSwClear x0 x1 x2 s = .next s' ∧ s'.base = (s.variant, s.pending, max s.now x0) := regRow_base _ _ _ _ _
theorem execQlimClear_canon (x0 x1 x2 s) (h : s.canon) : ∃ s', execQlimClear x0 x1 x2 s = .next s' ∧ s'.canon := regRow_canon _ _ _ _ _ h
theorem execQlimClear_base (x0 x1 x2 s) : ∃ s', execQlimClear x0 x1 x2 s = .next s' ∧ s'.base = (s.variant, s.pending, max s.now x0) := regRow_base _ _ _ _ _
theorem execRejClear_canon (x0 x1 x2 s) (h : s.canon) : ∃ s', execRejClear x0 x1 x2 s = .next s' ∧ s'.canon := regRow_canon _ _ _ _ _ h
theorem execRejClear_base (x0 x1 x2 s) : ∃ s', execRejClear x0 x1 x2 s = .next s' ∧ s'.base = (s.variant, s.pending, max s.now x0) := regRow_base _ _ _ _ _
theorem execChaffClear_canon (x0 x1 x2 s) (h : s.canon) : ∃ s', execChaffClear x0 x1 x2 s = .next s' ∧ s'.canon := regRow_canon _ _ _ _ _ h
theorem execChaffClear_base (x0 x1 x2 s) : ∃ s', execChaffClear x0 x1 x2 s = .next s' ∧ s'.base = (s.variant, s.pending, max s.now x0) := regRow_base _ _ _ _ _
theorem execOtherClear_canon (x0 x1 x2 s) (h : s.canon) : ∃ s', execOtherClear x0 x1 x2 s = .next s' ∧ s'.canon := regRow_canon _ _ _ _ _ h
theorem execOtherClear_base (x0 x1 x2 s) : ∃ s', execOtherClear x0 x1 x2 s = .next s' ∧ s'.base = (s.variant, s.pending, max s.now x0) := regRow_base _ _ _ _ _
theorem execGapClear_canon (x0 x1 x2 s) (h : s.canon) : ∃ s', execGapClear x0 x1 x2 s = .next s' ∧ s'.canon := regRow_canon _ _ _ _ _ h
theorem execGapClear_base (x0 x1 x2 s) : ∃ s', execGapClear x0 x1 x2 s = .next s' ∧ s'.base = (s.variant, s.pending, max s.now x0) := regRow_base _ _ _ _ _
theorem execMarkClear_canon (x0 x1 x2 s) (h : s.canon) : ∃ s', execMarkClear x0 x1 x2 s = .next s' ∧ s'.canon := regRow_canon _ _ _ _ _ h
theorem execMarkClear_base (x0 x1 x2 s) : ∃ s', execMarkClear x0 x1 x2 s = .next s' ∧ s'.base = (s.variant, s.pending, max s.now x0) := regRow_base _ _ _ _ _
theorem execShfCountClear_canon (x0 x1 x2 s) (h : s.canon) : ∃ s', execShfCountClear x0 x1 x2 s = .next s' ∧ s'.canon := regRow_canon _ _ _ _ _ h
theorem execShfCountClear_base (x0 x1 x2 s) : ∃ s', execShfCountClear x0 x1 x2 s = .next s' ∧ s'.base = (s.variant, s.pending, max s.now x0) := regRow_base _ _ _ _ _
theorem execCklostClear_canon (x0 x1 x2 s) (h : s.canon) : ∃ s', execCklostClear x0 x1 x2 s = .next s' ∧ s'.canon := regRow_canon _ _ _ _ _ h
theorem execCklostClear_base (x0 x1 x2 s) : ∃ s', execCklostClear x0 x1 x2 s = .next s' ∧ s'.base = (s.variant, s.pending, max s.now x0) := regRow_base _ _ _ _ _
theorem execTakeClear_canon (x0 x1 x2 s) (h : s.canon) : ∃ s', execTakeClear x0 x1 x2 s = .next s' ∧ s'.canon := regRow_canon _ _ _ _ _ h
theorem execTakeClear_base (x0 x1 x2 s) : ∃ s', execTakeClear x0 x1 x2 s = .next s' ∧ s'.base = (s.variant, s.pending, max s.now x0) := regRow_base _ _ _ _ _
theorem execSizeClear_canon (x0 x1 x2 s) (h : s.canon) : ∃ s', execSizeClear x0 x1 x2 s = .next s' ∧ s'.canon := regRow_canon _ _ _ _ _ h
theorem execSizeClear_base (x0 x1 x2 s) : ∃ s', execSizeClear x0 x1 x2 s = .next s' ∧ s'.base = (s.variant, s.pending, max s.now x0) := regRow_base _ _ _ _ _
theorem execMemCountClear_canon (x0 x1 x2 s) (h : s.canon) : ∃ s', execMemCountClear x0 x1 x2 s = .next s' ∧ s'.canon := regRow_canon _ _ _ _ _ h
theorem execMemCountClear_base (x0 x1 x2 s) : ∃ s', execMemCountClear x0 x1 x2 s = .next s' ∧ s'.base = (s.variant, s.pending, max s.now x0) := regRow_base _ _ _ _ _
theorem execSafCountClear_canon (x0 x1 x2 s) (h : s.canon) : ∃ s', execSafCountClear x0 x1 x2 s = .next s' ∧ s'.canon := regRow_canon _ _ _ _ _ h
theorem execSafCountClear_base (x0 x1 x2 s) : ∃ s', execSafCountClear x0 x1 x2 s = .next s' ∧ s'.base = (s.variant, s.pending, max s.now x0) := regRow_base _ _ _ _ _
theorem execNetCountClear_canon (x0 x1 x2 s) (h : s.canon) : ∃ s', execNetCountClear x0 x1 x2 s = .next s' ∧ s'.canon := regRow_canon _ _ _ _ _ h
theorem execNetCountClear_base (x0 x1 x2 s) : ∃ s', execNetCountClear x0 x1 x2 s = .next s' ∧ s'.base = (s.variant, s.pending, max s.now x0) := regRow_base _ _ _ _ _
theorem execViolClear_canon (x0 x1 x2 s) (h : s.canon) : ∃ s', execViolClear x0 x1 x2 s = .next s' ∧ s'.canon := regRow_canon _ _ _ _ _ h
theorem execViolClear_base (x0 x1 x2 s) : ∃ s', execViolClear x0 x1 x2 s = .next s' ∧ s'.base = (s.variant, s.pending, max s.now x0) := regRow_base _ _ _ _ _
theorem execInjectionGo_canon (x0 x1 x2 s) (h : s.canon) : ∃ s', execInjectionGo x0 x1 x2 s = .next s' ∧ s'.canon := regRow_canon _ _ _ _ _ h
theorem execInjectionGo_base (x0 x1 x2 s) : ∃ s', execInjectionGo x0 x1 x2 s = .next s' ∧ s'.base = (s.variant, s.pending, max s.now x0) := regRow_base _ _ _ _ _
theorem execSf1Req_canon (x0 x1 x2 s) (h : s.canon) : ∃ s', execSf1Req x0 x1 x2 s = .next s' ∧ s'.canon := regRow_canon _ _ _ _ _ h
theorem execSf1Req_base (x0 x1 x2 s) : ∃ s', execSf1Req x0 x1 x2 s = .next s' ∧ s'.base = (s.variant, s.pending, max s.now x0) := regRow_base _ _ _ _ _
theorem execTrial_canon (x0 x1 x2 s) (h : s.canon) : ∃ s', execTrial x0 x1 x2 s = .next s' ∧ s'.canon := regRow_canon _ _ _ _ _ h
theorem execTrial_base (x0 x1 x2 s) : ∃ s', execTrial x0 x1 x2 s = .next s' ∧ s'.base = (s.variant, s.pending, max s.now x0) := regRow_base _ _ _ _ _
theorem execCommit_canon (x0 x1 x2 s) (h : s.canon) : ∃ s', execCommit x0 x1 x2 s = .next s' ∧ s'.canon := regRow_canon _ _ _ _ _ h
theorem execCommit_base (x0 x1 x2 s) : ∃ s', execCommit x0 x1 x2 s = .next s' ∧ s'.base = (s.variant, s.pending, max s.now x0) := regRow_base _ _ _ _ _
theorem execProg_canon (x0 x1 x2 s) (h : s.canon) : ∃ s', execProg x0 x1 x2 s = .next s' ∧ s'.canon := regRow_canon _ _ _ _ _ h
theorem execProg_base (x0 x1 x2 s) : ∃ s', execProg x0 x1 x2 s = .next s' ∧ s'.base = (s.variant, s.pending, max s.now x0) := regRow_base _ _ _ _ _
theorem execProgrammingDone_canon (x0 x1 s) (h : s.canon) : ∃ s', execProgrammingDone x0 x1 s = .next s' ∧ s'.canon := by
  unfold execProgrammingDone
  exact ⟨_, rfl, by dsimp only; (repeat' split) <;> simp +contextual (maxDischargeDepth := 60) [h]⟩
theorem execProgrammingDone_base (x0 x1 s) : ∃ s', execProgrammingDone x0 x1 s = .next s' ∧ s'.base = (s.variant, s.pending, max s.now x0) := by
  unfold execProgrammingDone
  exact ⟨_, rfl, by dsimp only; (repeat' split) <;> simp⟩
theorem execLinkRelease_canon (x0 x1 x2 x3 s) (h : s.canon) : ∃ s', execLinkRelease x0 x1 x2 x3 s = .next s' ∧ s'.canon := regRow_canon _ _ _ _ _ h
theorem execLinkRelease_base (x0 x1 x2 x3 s) : ∃ s', execLinkRelease x0 x1 x2 x3 s = .next s' ∧ s'.base = (s.variant, s.pending, max s.now x0) := regRow_base _ _ _ _ _
theorem execRetrain_canon (x0 x1 x2 x3 s) (h : s.canon) : ∃ s', execRetrain x0 x1 x2 x3 s = .next s' ∧ s'.canon := regRow_canon _ _ _ _ _ h
theorem execRetrain_base (x0 x1 x2 x3 s) : ∃ s', execRetrain x0 x1 x2 x3 s = .next s' ∧ s'.base = (s.variant, s.pending, max s.now x0) := regRow_base _ _ _ _ _
theorem execLinkEnableWrite_canon (x0 x1 x2 x3 s) (h : s.canon) : ∃ s', execLinkEnableWrite x0 x1 x2 x3 s = .next s' ∧ s'.canon := regRow_canon _ _ _ _ _ h
theorem execLinkEnableWrite_base (x0 x1 x2 x3 s) : ∃ s', execLinkEnableWrite x0 x1 x2 x3 s = .next s' ∧ s'.base = (s.variant, s.pending, max s.now x0) := regRow_base _ _ _ _ _
theorem execHrdWrite_canon (x0 x1 x2 s) (h : s.canon) : ∃ s', execHrdWrite x0 x1 x2 s = .next s' ∧ s'.canon := regRow_canon _ _ _ _ _ h
theorem execHrdWrite_base (x0 x1 x2 s) : ∃ s', execHrdWrite x0 x1 x2 s = .next s' ∧ s'.base = (s.variant, s.pending, max s.now x0) := regRow_base _ _ _ _ _
theorem execSequenceStart_canon (x0 x1 x2 s) (h : s.canon) : ∃ s', execSequenceStart x0 x1 x2 s = .next s' ∧ s'.canon := regRow_canon _ _ _ _ _ h
theorem execSequenceStart_base (x0 x1 x2 s) : ∃ s', execSequenceStart x0 x1 x2 s = .next s' ∧ s'.base = (s.variant, s.pending, max s.now x0) := regRow_base _ _ _ _ _
theorem execSequenceStop_canon (x0 x1 x2 s) (h : s.canon) : ∃ s', execSequenceStop x0 x1 x2 s = .next s' ∧ s'.canon := regRow_canon _ _ _ _ _ h
theorem execSequenceStop_base (x0 x1 x2 s) : ∃ s', execSequenceStop x0 x1 x2 s = .next s' ∧ s'.base = (s.variant, s.pending, max s.now x0) := regRow_base _ _ _ _ _
theorem execInjectedRequest_canon (x0 x1 x2 s) (h : s.canon) : ∃ s', execInjectedRequest x0 x1 x2 s = .next s' ∧ s'.canon := regRow_canon _ _ _ _ _ h
theorem execInjectedRequest_base (x0 x1 x2 s) : ∃ s', execInjectedRequest x0 x1 x2 s = .next s' ∧ s'.base = (s.variant, s.pending, max s.now x0) := regRow_base _ _ _ _ _
theorem execCalibrationRequest_canon (x0 x1 x2 s) (h : s.canon) : ∃ s', execCalibrationRequest x0 x1 x2 s = .next s' ∧ s'.canon := regRow_canon _ _ _ _ _ h
theorem execCalibrationRequest_base (x0 x1 x2 s) : ∃ s', execCalibrationRequest x0 x1 x2 s = .next s' ∧ s'.base = (s.variant, s.pending, max s.now x0) := regRow_base _ _ _ _ _
theorem execSyncCrossing_canon (x0 s) (h : s.canon) : ∃ s', execSyncCrossing x0 s = .next s' ∧ s'.canon := by
  unfold execSyncCrossing
  exact ⟨_, rfl, by dsimp only; (repeat' split) <;> simp +contextual (maxDischargeDepth := 60) [h]⟩
theorem execSyncCrossing_base (x0 s) : ∃ s', execSyncCrossing x0 s = .next s' ∧ s'.base = (s.variant, s.pending, max s.now x0) := by
  unfold execSyncCrossing
  exact ⟨_, rfl, by dsimp only; (repeat' split) <;> simp⟩
theorem execTimerMode_canon (x0 s) (h : s.canon) : ∃ s', execTimerMode x0 s = .next s' ∧ s'.canon := by
  unfold execTimerMode
  exact ⟨_, rfl, by simp +contextual (maxDischargeDepth := 60) [h]⟩
theorem execTimerMode_base (x0 s) : ∃ s', execTimerMode x0 s = .next s' ∧ s'.base = (s.variant, s.pending, max s.now x0) := by
  unfold execTimerMode
  exact ⟨_, rfl, by simp⟩
theorem execTimerTick_canon (x0 s) (h : s.canon) : ∃ s', execTimerTick x0 s = .next s' ∧ s'.canon := by
  unfold execTimerTick
  exact ⟨_, rfl, by simp +contextual (maxDischargeDepth := 60) [h]⟩
theorem execTimerTick_base (x0 s) : ∃ s', execTimerTick x0 s = .next s' ∧ s'.base = (s.variant, s.pending, max s.now x0) := by
  unfold execTimerTick
  exact ⟨_, rfl, by simp⟩
theorem execConversionResult_canon (x0 x1 x2 s) (h : s.canon) : ∃ s', execConversionResult x0 x1 x2 s = .next s' ∧ s'.canon := by
  unfold execConversionResult
  exact ⟨_, rfl, by (repeat' split) <;> simp +contextual (maxDischargeDepth := 60) [h]⟩
theorem execConversionResult_base (x0 x1 x2 s) : ∃ s', execConversionResult x0 x1 x2 s = .next s' ∧ s'.base = (s.variant, s.pending, max s.now x0) := by
  unfold execConversionResult
  exact ⟨_, rfl, by (repeat' split) <;> simp_all⟩
theorem execChannelStart_canon (x0 x1 x2 s) (h : s.canon) : ∃ s', execChannelStart x0 x1 x2 s = .next s' ∧ s'.canon := regRow_canon _ _ _ _ _ h
theorem execChannelStart_base (x0 x1 x2 s) : ∃ s', execChannelStart x0 x1 x2 s = .next s' ∧ s'.base = (s.variant, s.pending, max s.now x0) := regRow_base _ _ _ _ _
theorem execChannelStop_canon (x0 x1 x2 s) (h : s.canon) : ∃ s', execChannelStop x0 x1 x2 s = .next s' ∧ s'.canon := regRow_canon _ _ _ _ _ h
theorem execChannelStop_base (x0 x1 x2 s) : ∃ s', execChannelStop x0 x1 x2 s = .next s' ∧ s'.base = (s.variant, s.pending, max s.now x0) := regRow_base _ _ _ _ _
theorem execPrivEngineStart_canon (x0 x1 x2 s) (h : s.canon) : ∃ s', execPrivEngineStart x0 x1 x2 s = .next s' ∧ s'.canon := regRow_canon _ _ _ _ _ h
theorem execPrivEngineStart_base (x0 x1 x2 s) : ∃ s', execPrivEngineStart x0 x1 x2 s = .next s' ∧ s'.base = (s.variant, s.pending, max s.now x0) := regRow_base _ _ _ _ _
theorem execPrivEngineStop_canon (x0 x1 x2 s) (h : s.canon) : ∃ s', execPrivEngineStop x0 x1 x2 s = .next s' ∧ s'.canon := regRow_canon _ _ _ _ _ h
theorem execPrivEngineStop_base (x0 x1 x2 s) : ∃ s', execPrivEngineStop x0 x1 x2 s = .next s' ∧ s'.base = (s.variant, s.pending, max s.now x0) := regRow_base _ _ _ _ _
theorem execPrivSampleSet_canon (x0 x1 s) (h : s.canon) : ∃ s', execPrivSampleSet x0 x1 s = .next s' ∧ s'.canon := by
  unfold execPrivSampleSet
  exact ⟨_, rfl, by simp +contextual (maxDischargeDepth := 60) [h]⟩
theorem execPrivSampleSet_base (x0 x1 s) : ∃ s', execPrivSampleSet x0 x1 s = .next s' ∧ s'.base = (s.variant, s.pending, max s.now x0) := by
  unfold execPrivSampleSet
  exact ⟨_, rfl, by simp⟩
theorem execNormalSample_canon (x0 x1 x2 s) (h : s.canon) : ∃ s', execNormalSample x0 x1 x2 s = .next s' ∧ s'.canon := by
  unfold execNormalSample
  exact ⟨_, rfl, by simp +contextual (maxDischargeDepth := 60) [h]⟩
theorem execNormalSample_base (x0 x1 x2 s) : ∃ s', execNormalSample x0 x1 x2 s = .next s' ∧ s'.base = (s.variant, s.pending, max s.now x0) := by
  unfold execNormalSample
  exact ⟨_, rfl, by simp⟩
theorem execInputStuck_canon (x0 x1 s) (h : s.canon) : ∃ s', execInputStuck x0 x1 s = .next s' ∧ s'.canon := by
  unfold execInputStuck
  exact ⟨_, rfl, by dsimp only; (repeat' split) <;> simp +contextual (maxDischargeDepth := 60) [h]⟩
theorem execInputStuck_base (x0 x1 s) : ∃ s', execInputStuck x0 x1 s = .next s' ∧ s'.base = (s.variant, s.pending, max s.now x0) := by
  unfold execInputStuck
  exact ⟨_, rfl, by dsimp only; (repeat' split) <;> simp⟩
theorem execInputRecovered_canon (x0 x1 s) (h : s.canon) : ∃ s', execInputRecovered x0 x1 s = .next s' ∧ s'.canon := by
  unfold execInputRecovered
  exact ⟨_, rfl, by simp +contextual (maxDischargeDepth := 60) [h]⟩
theorem execInputRecovered_base (x0 x1 s) : ∃ s', execInputRecovered x0 x1 s = .next s' ∧ s'.base = (s.variant, s.pending, max s.now x0) := by
  unfold execInputRecovered
  exact ⟨_, rfl, by simp⟩
theorem execFrameBoundary_canon (x0 x1 s) (h : s.canon) : ∃ s', execFrameBoundary x0 x1 s = .next s' ∧ s'.canon := by
  unfold execFrameBoundary
  exact ⟨_, rfl, by simp +contextual (maxDischargeDepth := 60) [h]⟩
theorem execFrameBoundary_base (x0 x1 s) : ∃ s', execFrameBoundary x0 x1 s = .next s' ∧ s'.base = (s.variant, s.pending, max s.now x0) := by
  unfold execFrameBoundary
  exact ⟨_, rfl, by simp⟩
theorem execSortComplete_canon (x0 x1 s) (h : s.canon) : ∃ s', execSortComplete x0 x1 s = .next s' ∧ s'.canon := by
  unfold execSortComplete
  exact ⟨_, rfl, by simp +contextual (maxDischargeDepth := 60) [h]⟩
theorem execSortComplete_base (x0 x1 s) : ∃ s', execSortComplete x0 x1 s = .next s' ∧ s'.base = (s.variant, s.pending, max s.now x0) := by
  unfold execSortComplete
  exact ⟨_, rfl, by simp⟩
theorem execInnerCycle_canon (x0 x1 s) (h : s.canon) : ∃ s', execInnerCycle x0 x1 s = .next s' ∧ s'.canon := by
  unfold execInnerCycle
  exact ⟨_, rfl, by simp +contextual (maxDischargeDepth := 60) [h]⟩
theorem execInnerCycle_base (x0 x1 s) : ∃ s', execInnerCycle x0 x1 s = .next s' ∧ s'.base = (s.variant, s.pending, max s.now x0) := by
  unfold execInnerCycle
  exact ⟨_, rfl, by simp⟩
theorem execInputStale_canon (x0 x1 s) (h : s.canon) : ∃ s', execInputStale x0 x1 s = .next s' ∧ s'.canon := by
  unfold execInputStale
  exact ⟨_, rfl, by simp +contextual (maxDischargeDepth := 60) [h]⟩
theorem execInputStale_base (x0 x1 s) : ∃ s', execInputStale x0 x1 s = .next s' ∧ s'.base = (s.variant, s.pending, max s.now x0) := by
  unfold execInputStale
  exact ⟨_, rfl, by simp⟩
theorem execPublication_canon (x0 s) (h : s.canon) : ∃ s', execPublication x0 s = .next s' ∧ s'.canon := by
  unfold execPublication
  exact ⟨_, rfl, by simp +contextual (maxDischargeDepth := 60) [h]⟩
theorem execPublication_base (x0 s) : ∃ s', execPublication x0 s = .next s' ∧ s'.base = (s.variant, s.pending, max s.now x0) := by
  unfold execPublication
  exact ⟨_, rfl, by simp⟩
theorem execOuterBoundary_canon (x0 x1 s) (h : s.canon) : ∃ s', execOuterBoundary x0 x1 s = .next s' ∧ s'.canon := by
  unfold execOuterBoundary
  exact ⟨_, rfl, by simp +contextual (maxDischargeDepth := 60) [h]⟩
theorem execOuterBoundary_base (x0 x1 s) : ∃ s', execOuterBoundary x0 x1 s = .next s' ∧ s'.base = (s.variant, s.pending, max s.now x0) := by
  unfold execOuterBoundary
  exact ⟨_, rfl, by simp⟩
theorem execResyncPermitOn_canon (x0 s) (h : s.canon) : ∃ s', execResyncPermitOn x0 s = .next s' ∧ s'.canon := by
  unfold execResyncPermitOn
  exact ⟨_, rfl, by dsimp only; (repeat' split) <;> simp +contextual (maxDischargeDepth := 60) [h]⟩
theorem execResyncPermitOn_base (x0 s) : ∃ s', execResyncPermitOn x0 s = .next s' ∧ s'.base = (s.variant, s.pending, max s.now x0) := by
  unfold execResyncPermitOn
  exact ⟨_, rfl, by dsimp only; (repeat' split) <;> simp⟩
theorem execClosureDetected_canon (x0 s) (h : s.canon) : ∃ s', execClosureDetected x0 s = .next s' ∧ s'.canon := by
  unfold execClosureDetected
  exact ⟨_, rfl, by simp +contextual (maxDischargeDepth := 60) [h]⟩
theorem execClosureDetected_base (x0 s) : ∃ s', execClosureDetected x0 s = .next s' ∧ s'.base = (s.variant, s.pending, max s.now x0) := by
  unfold execClosureDetected
  exact ⟨_, rfl, by simp⟩
theorem execResyncTimeout_canon (x0 s) (h : s.canon) : ∃ s', execResyncTimeout x0 s = .next s' ∧ s'.canon := by
  unfold execResyncTimeout
  exact ⟨_, rfl, by simp +contextual (maxDischargeDepth := 60) [h]⟩
theorem execResyncTimeout_base (x0 s) : ∃ s', execResyncTimeout x0 s = .next s' ∧ s'.base = (s.variant, s.pending, max s.now x0) := by
  unfold execResyncTimeout
  exact ⟨_, rfl, by simp⟩
theorem execEpisodeEnd_canon (x0 s) (h : s.canon) : ∃ s', execEpisodeEnd x0 s = .next s' ∧ s'.canon := by
  unfold execEpisodeEnd
  exact ⟨_, rfl, by dsimp only; (repeat' split) <;> simp +contextual (maxDischargeDepth := 60) [h]⟩
theorem execEpisodeEnd_base (x0 s) : ∃ s', execEpisodeEnd x0 s = .next s' ∧ s'.base = (s.variant, s.pending, max s.now x0) := by
  unfold execEpisodeEnd
  exact ⟨_, rfl, by dsimp only; (repeat' split) <;> simp⟩
theorem execPeakStageEnd_canon (x0 s) (h : s.canon) : ∃ s', execPeakStageEnd x0 s = .next s' ∧ s'.canon := by
  unfold execPeakStageEnd
  exact ⟨_, rfl, by dsimp only; (repeat' split) <;> simp +contextual (maxDischargeDepth := 60) [h]⟩
theorem execPeakStageEnd_base (x0 s) : ∃ s', execPeakStageEnd x0 s = .next s' ∧ s'.base = (s.variant, s.pending, max s.now x0) := by
  unfold execPeakStageEnd
  exact ⟨_, rfl, by dsimp only; (repeat' split) <;> simp⟩
theorem execLimitBudgetExhausted_canon (x0 s) (h : s.canon) : ∃ s', execLimitBudgetExhausted x0 s = .next s' ∧ s'.canon := by
  unfold execLimitBudgetExhausted
  exact ⟨_, rfl, by simp +contextual (maxDischargeDepth := 60) [h]⟩
theorem execLimitBudgetExhausted_base (x0 s) : ∃ s', execLimitBudgetExhausted x0 s = .next s' ∧ s'.base = (s.variant, s.pending, max s.now x0) := by
  unfold execLimitBudgetExhausted
  exact ⟨_, rfl, by simp⟩
theorem execPeakRearm_canon (x0 s) (h : s.canon) : ∃ s', execPeakRearm x0 s = .next s' ∧ s'.canon := by
  unfold execPeakRearm
  exact ⟨_, rfl, by dsimp only; (repeat' split) <;> simp +contextual (maxDischargeDepth := 60) [h]⟩
theorem execPeakRearm_base (x0 s) : ∃ s', execPeakRearm x0 s = .next s' ∧ s'.base = (s.variant, s.pending, max s.now x0) := by
  unfold execPeakRearm
  exact ⟨_, rfl, by dsimp only; (repeat' split) <;> simp⟩
theorem execStopTimeout_canon (x0 s) (h : s.canon) : ∃ s', execStopTimeout x0 s = .next s' ∧ s'.canon := by
  unfold execStopTimeout
  exact ⟨_, rfl, by simp +contextual (maxDischargeDepth := 60) [h]⟩
theorem execStopTimeout_base (x0 s) : ∃ s', execStopTimeout x0 s = .next s' ∧ s'.base = (s.variant, s.pending, max s.now x0) := by
  unfold execStopTimeout
  exact ⟨_, rfl, by simp⟩
theorem execDcGuardEnd_canon (x0 s) (h : s.canon) : ∃ s', execDcGuardEnd x0 s = .next s' ∧ s'.canon := by
  unfold execDcGuardEnd
  exact ⟨_, rfl, by dsimp only; (repeat' split) <;> simp +contextual (maxDischargeDepth := 60) [h]⟩
theorem execDcGuardEnd_base (x0 s) : ∃ s', execDcGuardEnd x0 s = .next s' ∧ s'.base = (s.variant, s.pending, max s.now x0) := by
  unfold execDcGuardEnd
  exact ⟨_, rfl, by dsimp only; (repeat' split) <;> simp⟩
theorem execDwellEnd_canon (x0 s) (h : s.canon) : ∃ s', execDwellEnd x0 s = .next s' ∧ s'.canon := by
  unfold execDwellEnd
  exact ⟨_, rfl, by simp +contextual (maxDischargeDepth := 60) [h]⟩
theorem execDwellEnd_base (x0 s) : ∃ s', execDwellEnd x0 s = .next s' ∧ s'.base = (s.variant, s.pending, max s.now x0) := by
  unfold execDwellEnd
  exact ⟨_, rfl, by simp⟩
theorem execBlendEnd_canon (x0 s) (h : s.canon) : ∃ s', execBlendEnd x0 s = .next s' ∧ s'.canon := by
  unfold execBlendEnd
  exact ⟨_, rfl, by dsimp only; (repeat' split) <;> simp +contextual (maxDischargeDepth := 60) [h]⟩
theorem execBlendEnd_base (x0 s) : ∃ s', execBlendEnd x0 s = .next s' ∧ s'.base = (s.variant, s.pending, max s.now x0) := by
  unfold execBlendEnd
  exact ⟨_, rfl, by dsimp only; (repeat' split) <;> simp⟩
theorem execBurstForcedExit_canon (x0 s) (h : s.canon) : ∃ s', execBurstForcedExit x0 s = .next s' ∧ s'.canon := by
  unfold execBurstForcedExit
  exact ⟨_, rfl, by (repeat' split) <;> simp +contextual (maxDischargeDepth := 60) [h]⟩
theorem execBurstForcedExit_base (x0 s) : ∃ s', execBurstForcedExit x0 s = .next s' ∧ s'.base = (s.variant, s.pending, max s.now x0) := by
  unfold execBurstForcedExit
  exact ⟨_, rfl, by (repeat' split) <;> simp_all⟩
theorem execBurstAvail_canon (x0 s) (h : s.canon) : ∃ s', execBurstAvail x0 s = .next s' ∧ s'.canon := by
  unfold execBurstAvail
  exact ⟨_, rfl, by dsimp only; (repeat' split) <;> simp +contextual (maxDischargeDepth := 60) [h]⟩
theorem execBurstAvail_base (x0 s) : ∃ s', execBurstAvail x0 s = .next s' ∧ s'.base = (s.variant, s.pending, max s.now x0) := by
  unfold execBurstAvail
  exact ⟨_, rfl, by dsimp only; (repeat' split) <;> simp⟩
theorem execEnergyDeviation_canon (x0 s) (h : s.canon) : ∃ s', execEnergyDeviation x0 s = .next s' ∧ s'.canon := by
  unfold execEnergyDeviation
  exact ⟨_, rfl, by simp +contextual (maxDischargeDepth := 60) [h]⟩
theorem execEnergyDeviation_base (x0 s) : ∃ s', execEnergyDeviation x0 s = .next s' ∧ s'.base = (s.variant, s.pending, max s.now x0) := by
  unfold execEnergyDeviation
  exact ⟨_, rfl, by simp⟩
theorem execEnergyReady_canon (x0 s) (h : s.canon) : ∃ s', execEnergyReady x0 s = .next s' ∧ s'.canon := by
  unfold execEnergyReady
  exact ⟨_, rfl, by dsimp only; (repeat' split) <;> simp +contextual (maxDischargeDepth := 60) [h]⟩
theorem execEnergyReady_base (x0 s) : ∃ s', execEnergyReady x0 s = .next s' ∧ s'.base = (s.variant, s.pending, max s.now x0) := by
  unfold execEnergyReady
  exact ⟨_, rfl, by dsimp only; (repeat' split) <;> simp⟩
theorem execStaleExcl_canon (x0 x1 s) (h : s.canon) : ∃ s', execStaleExcl x0 x1 s = .next s' ∧ s'.canon := by
  unfold execStaleExcl
  exact ⟨_, rfl, by simp +contextual (maxDischargeDepth := 60) [h]⟩
theorem execStaleExcl_base (x0 x1 s) : ∃ s', execStaleExcl x0 x1 s = .next s' ∧ s'.base = (s.variant, s.pending, max s.now x0) := by
  unfold execStaleExcl
  exact ⟨_, rfl, by simp⟩
theorem execRestDue_canon (x0 x1 s) (h : s.canon) : ∃ s', execRestDue x0 x1 s = .next s' ∧ s'.canon := by
  unfold execRestDue
  exact ⟨_, rfl, by dsimp only; (repeat' split) <;> simp +contextual (maxDischargeDepth := 60) [h]⟩
theorem execRestDue_base (x0 x1 s) : ∃ s', execRestDue x0 x1 s = .next s' ∧ s'.base = (s.variant, s.pending, max s.now x0) := by
  unfold execRestDue
  exact ⟨_, rfl, by dsimp only; (repeat' split) <;> simp⟩
theorem execForcedRest_canon (x0 x1 s) (h : s.canon) : ∃ s', execForcedRest x0 x1 s = .next s' ∧ s'.canon := by
  unfold execForcedRest
  exact ⟨_, rfl, by dsimp only; (repeat' split) <;> simp +contextual (maxDischargeDepth := 60) [h]⟩
theorem execForcedRest_base (x0 x1 s) : ∃ s', execForcedRest x0 x1 s = .next s' ∧ s'.base = (s.variant, s.pending, max s.now x0) := by
  unfold execForcedRest
  exact ⟨_, rfl, by dsimp only; (repeat' split) <;> simp⟩
theorem execRestEnd_canon (x0 x1 s) (h : s.canon) : ∃ s', execRestEnd x0 x1 s = .next s' ∧ s'.canon := by
  unfold execRestEnd
  exact ⟨_, rfl, by simp +contextual (maxDischargeDepth := 60) [h]⟩
theorem execRestEnd_base (x0 x1 s) : ∃ s', execRestEnd x0 x1 s = .next s' ∧ s'.base = (s.variant, s.pending, max s.now x0) := by
  unfold execRestEnd
  exact ⟨_, rfl, by simp⟩
theorem execDeficitEpisodeEnd_canon (x0 s) (h : s.canon) : ∃ s', execDeficitEpisodeEnd x0 s = .next s' ∧ s'.canon := by
  unfold execDeficitEpisodeEnd
  exact ⟨_, rfl, by simp +contextual (maxDischargeDepth := 60) [h]⟩
theorem execDeficitEpisodeEnd_base (x0 s) : ∃ s', execDeficitEpisodeEnd x0 s = .next s' ∧ s'.base = (s.variant, s.pending, max s.now x0) := by
  unfold execDeficitEpisodeEnd
  exact ⟨_, rfl, by simp⟩
theorem execFixedRest_canon (x0 x1 s) (h : s.canon) : ∃ s', execFixedRest x0 x1 s = .next s' ∧ s'.canon := by
  unfold execFixedRest
  exact ⟨_, rfl, by dsimp only; (repeat' split) <;> simp +contextual (maxDischargeDepth := 60) [h]⟩
theorem execFixedRest_base (x0 x1 s) : ∃ s', execFixedRest x0 x1 s = .next s' ∧ s'.base = (s.variant, s.pending, max s.now x0) := by
  unfold execFixedRest
  exact ⟨_, rfl, by dsimp only; (repeat' split) <;> simp⟩
theorem execDownlinkFrame_canon (x0 x1 x2 s) (h : s.canon) : ∃ s', execDownlinkFrame x0 x1 x2 s = .next s' ∧ s'.canon := by
  unfold execDownlinkFrame
  exact ⟨_, rfl, by simp +contextual (maxDischargeDepth := 60) [h]⟩
theorem execDownlinkFrame_base (x0 x1 x2 s) : ∃ s', execDownlinkFrame x0 x1 x2 s = .next s' ∧ s'.base = (s.variant, s.pending, max s.now x0) := by
  unfold execDownlinkFrame
  exact ⟨_, rfl, by simp⟩
theorem execLoadBoundary_canon (x0 x1 s) (h : s.canon) : ∃ s', execLoadBoundary x0 x1 s = .next s' ∧ s'.canon := by
  unfold execLoadBoundary
  exact ⟨_, rfl, by (repeat' split) <;> simp +contextual (maxDischargeDepth := 60) [h]⟩
theorem execLoadBoundary_base (x0 x1 s) : ∃ s', execLoadBoundary x0 x1 s = .next s' ∧ s'.base = (s.variant, s.pending, max s.now x0) := by
  unfold execLoadBoundary
  exact ⟨_, rfl, by (repeat' split) <;> simp_all⟩
theorem execUplinkFrame_canon (x0 x1 x2 x3 x4 x5 s) (h : s.canon) : ∃ s', execUplinkFrame x0 x1 x2 x3 x4 x5 s = .next s' ∧ s'.canon := by
  unfold execUplinkFrame
  exact ⟨_, rfl, by dsimp only; (repeat' split) <;> simp +contextual (maxDischargeDepth := 60) [h]⟩
theorem execUplinkFrame_base (x0 x1 x2 x3 x4 x5 s) : ∃ s', execUplinkFrame x0 x1 x2 x3 x4 x5 s = .next s' ∧ s'.base = (s.variant, s.pending, max s.now x0) := by
  unfold execUplinkFrame
  exact ⟨_, rfl, by dsimp only; (repeat' split) <;> simp⟩
theorem execTxnResponse_canon (x0 x1 x2 x3 x4 s) (h : s.canon) : ∃ s', execTxnResponse x0 x1 x2 x3 x4 s = .next s' ∧ s'.canon := by
  unfold execTxnResponse
  exact ⟨_, rfl, by simp +contextual (maxDischargeDepth := 60) [h]⟩
theorem execTxnResponse_base (x0 x1 x2 x3 x4 s) : ∃ s', execTxnResponse x0 x1 x2 x3 x4 s = .next s' ∧ s'.base = (s.variant, s.pending, max s.now x0) := by
  unfold execTxnResponse
  exact ⟨_, rfl, by simp⟩
theorem execTxnTimeout_canon (x0 x1 x2 s) (h : s.canon) : ∃ s', execTxnTimeout x0 x1 x2 s = .next s' ∧ s'.canon := by
  unfold execTxnTimeout
  exact ⟨_, rfl, by dsimp only; (repeat' split) <;> simp +contextual (maxDischargeDepth := 60) [h]⟩
theorem execTxnTimeout_base (x0 x1 x2 s) : ∃ s', execTxnTimeout x0 x1 x2 s = .next s' ∧ s'.base = (s.variant, s.pending, max s.now x0) := by
  unfold execTxnTimeout
  exact ⟨_, rfl, by dsimp only; (repeat' split) <;> simp⟩
theorem execLinkTrain_canon (x0 x1 s) (h : s.canon) : ∃ s', execLinkTrain x0 x1 s = .next s' ∧ s'.canon := by
  unfold execLinkTrain
  exact ⟨_, rfl, by simp +contextual (maxDischargeDepth := 60) [h]⟩
theorem execLinkTrain_base (x0 x1 s) : ∃ s', execLinkTrain x0 x1 s = .next s' ∧ s'.base = (s.variant, s.pending, max s.now x0) := by
  unfold execLinkTrain
  exact ⟨_, rfl, by simp⟩
theorem execTrainFail_canon (x0 x1 s) (h : s.canon) : ∃ s', execTrainFail x0 x1 s = .next s' ∧ s'.canon := by
  unfold execTrainFail
  exact ⟨_, rfl, by simp +contextual (maxDischargeDepth := 60) [h]⟩
theorem execTrainFail_base (x0 x1 s) : ∃ s', execTrainFail x0 x1 s = .next s' ∧ s'.base = (s.variant, s.pending, max s.now x0) := by
  unfold execTrainFail
  exact ⟨_, rfl, by simp⟩
theorem execIdentityRetry_canon (x0 x1 s) (h : s.canon) : ∃ s', execIdentityRetry x0 x1 s = .next s' ∧ s'.canon := by
  unfold execIdentityRetry
  exact ⟨_, rfl, by (repeat' split) <;> simp +contextual (maxDischargeDepth := 60) [h]⟩
theorem execIdentityRetry_base (x0 x1 s) : ∃ s', execIdentityRetry x0 x1 s = .next s' ∧ s'.base = (s.variant, s.pending, max s.now x0) := by
  unfold execIdentityRetry
  exact ⟨_, rfl, by (repeat' split) <;> simp_all⟩
theorem execCodeErrors_canon (x0 x1 s) (h : s.canon) : ∃ s', execCodeErrors x0 x1 s = .next s' ∧ s'.canon := by
  unfold execCodeErrors
  exact ⟨_, rfl, by simp +contextual (maxDischargeDepth := 60) [h]⟩
theorem execCodeErrors_base (x0 x1 s) : ∃ s', execCodeErrors x0 x1 s = .next s' ∧ s'.base = (s.variant, s.pending, max s.now x0) := by
  unfold execCodeErrors
  exact ⟨_, rfl, by simp⟩
theorem execLossOfLight_canon (x0 x1 s) (h : s.canon) : ∃ s', execLossOfLight x0 x1 s = .next s' ∧ s'.canon := by
  unfold execLossOfLight
  exact ⟨_, rfl, by simp +contextual (maxDischargeDepth := 60) [h]⟩
theorem execLossOfLight_base (x0 x1 s) : ∃ s', execLossOfLight x0 x1 s = .next s' ∧ s'.base = (s.variant, s.pending, max s.now x0) := by
  unfold execLossOfLight
  exact ⟨_, rfl, by simp⟩
theorem execReenrol_canon (x0 x1 x2 s) (h : s.canon) : ∃ s', execReenrol x0 x1 x2 s = .next s' ∧ s'.canon := by
  unfold execReenrol
  exact ⟨_, rfl, by dsimp only; (repeat' split) <;> simp +contextual (maxDischargeDepth := 60) [h]⟩
theorem execReenrol_base (x0 x1 x2 s) : ∃ s', execReenrol x0 x1 x2 s = .next s' ∧ s'.base = (s.variant, s.pending, max s.now x0) := by
  unfold execReenrol
  exact ⟨_, rfl, by dsimp only; (repeat' split) <;> simp⟩
theorem execLaneMargin_canon (x0 x1 x2 x3 s) (h : s.canon) : ∃ s', execLaneMargin x0 x1 x2 x3 s = .next s' ∧ s'.canon := by
  unfold execLaneMargin
  exact ⟨_, rfl, by simp +contextual (maxDischargeDepth := 60) [h]⟩
theorem execLaneMargin_base (x0 x1 x2 x3 s) : ∃ s', execLaneMargin x0 x1 x2 x3 s = .next s' ∧ s'.base = (s.variant, s.pending, max s.now x0) := by
  unfold execLaneMargin
  exact ⟨_, rfl, by simp⟩
theorem execArmOvercurrent_canon (x0 x1 x2 s) (h : s.canon) : ∃ s', execArmOvercurrent x0 x1 x2 s = .next s' ∧ s'.canon := by
  unfold execArmOvercurrent
  exact ⟨_, rfl, ite_canon (operate_canon _ _ _ (State.begin_canon _ _ h)) (State.begin_canon _ _ h)⟩
theorem execArmOvercurrent_base (x0 x1 x2 s) : ∃ s', execArmOvercurrent x0 x1 x2 s = .next s' ∧ s'.base = (s.variant, s.pending, max s.now x0) := by
  unfold execArmOvercurrent
  refine ⟨_, rfl, ?_⟩
  rw [apply_ite State.base, operate_base, ite_self, State.begin_base]
theorem execArmDeblock_canon (x0 x1 s) (h : s.canon) : ∃ s', execArmDeblock x0 x1 s = .next s' ∧ s'.canon := by
  unfold execArmDeblock
  exact ⟨_, rfl, by simp +contextual (maxDischargeDepth := 60) [h]⟩
theorem execArmDeblock_base (x0 x1 s) : ∃ s', execArmDeblock x0 x1 s = .next s' ∧ s'.base = (s.variant, s.pending, max s.now x0) := by
  unfold execArmDeblock
  exact ⟨_, rfl, by simp⟩
theorem execOvercurrentPersist_canon (x0 x1 s) (h : s.canon) : ∃ s', execOvercurrentPersist x0 x1 s = .next s' ∧ s'.canon := by
  unfold execOvercurrentPersist
  exact ⟨_, rfl, by simp +contextual (maxDischargeDepth := 60) [h]⟩
theorem execOvercurrentPersist_base (x0 x1 s) : ∃ s', execOvercurrentPersist x0 x1 s = .next s' ∧ s'.base = (s.variant, s.pending, max s.now x0) := by
  unfold execOvercurrentPersist
  exact ⟨_, rfl, by simp⟩
theorem execBypassFail_canon (x0 x1 s) (h : s.canon) : ∃ s', execBypassFail x0 x1 s = .next s' ∧ s'.canon := by
  unfold execBypassFail
  exact ⟨_, rfl, by (repeat' split) <;> simp +contextual (maxDischargeDepth := 60) [h]⟩
theorem execBypassFail_base (x0 x1 s) : ∃ s', execBypassFail x0 x1 s = .next s' ∧ s'.base = (s.variant, s.pending, max s.now x0) := by
  unfold execBypassFail
  exact ⟨_, rfl, by (repeat' split) <;> simp_all⟩
theorem execUnitClose_canon (x0 s) (h : s.canon) : ∃ s', execUnitClose x0 s = .next s' ∧ s'.canon := by
  unfold execUnitClose
  exact ⟨_, rfl, by (repeat' split) <;> simp +contextual (maxDischargeDepth := 60) [h]⟩
theorem execUnitClose_base (x0 s) : ∃ s', execUnitClose x0 s = .next s' ∧ s'.base = (s.variant, s.pending, max s.now x0) := by
  unfold execUnitClose
  exact ⟨_, rfl, by (repeat' split) <;> simp_all⟩
theorem execHostCopy_canon (x0 x1 s) (h : s.canon) : ∃ s', execHostCopy x0 x1 s = .next s' ∧ s'.canon := by
  unfold execHostCopy
  exact ⟨_, rfl, by simp +contextual (maxDischargeDepth := 60) [h]⟩
theorem execHostCopy_base (x0 x1 s) : ∃ s', execHostCopy x0 x1 s = .next s' ∧ s'.base = (s.variant, s.pending, max s.now x0) := by
  unfold execHostCopy
  exact ⟨_, rfl, by simp⟩
theorem execGap_canon (x0 s) (h : s.canon) : ∃ s', execGap x0 s = .next s' ∧ s'.canon := by
  unfold execGap
  exact ⟨_, rfl, by simp +contextual (maxDischargeDepth := 60) [h]⟩
theorem execGap_base (x0 s) : ∃ s', execGap x0 s = .next s' ∧ s'.base = (s.variant, s.pending, max s.now x0) := by
  unfold execGap
  exact ⟨_, rfl, by simp⟩
theorem execTimeRecord_canon (x0 s) (h : s.canon) : ∃ s', execTimeRecord x0 s = .next s' ∧ s'.canon := by
  unfold execTimeRecord
  exact ⟨_, rfl, by dsimp only; (repeat' split) <;> simp +contextual (maxDischargeDepth := 60) [h]⟩
theorem execTimeRecord_base (x0 s) : ∃ s', execTimeRecord x0 s = .next s' ∧ s'.base = (s.variant, s.pending, max s.now x0) := by
  unfold execTimeRecord
  exact ⟨_, rfl, by dsimp only; (repeat' split) <;> simp⟩
theorem execTrigInEdge_canon (x0 x1 x2 s) (h : s.canon) : ∃ s', execTrigInEdge x0 x1 x2 s = .next s' ∧ s'.canon := by
  unfold execTrigInEdge
  exact ⟨_, rfl, by simp +contextual (maxDischargeDepth := 60) [h]⟩
theorem execTrigInEdge_base (x0 x1 x2 s) : ∃ s', execTrigInEdge x0 x1 x2 s = .next s' ∧ s'.base = (s.variant, s.pending, max s.now x0) := by
  unfold execTrigInEdge
  exact ⟨_, rfl, by simp⟩
theorem execXtrigAssert_canon (x0 s) (h : s.canon) : ∃ s', execXtrigAssert x0 s = .next s' ∧ s'.canon := by
  unfold execXtrigAssert
  exact ⟨_, rfl, by simp +contextual (maxDischargeDepth := 60) [h]⟩
theorem execXtrigAssert_base (x0 s) : ∃ s', execXtrigAssert x0 s = .next s' ∧ s'.base = (s.variant, s.pending, max s.now x0) := by
  unfold execXtrigAssert
  exact ⟨_, rfl, by simp⟩
theorem execHoldOffEnd_canon (x0 x1 s) (h : s.canon) : ∃ s', execHoldOffEnd x0 x1 s = .next s' ∧ s'.canon := by
  unfold execHoldOffEnd
  exact ⟨_, rfl, by dsimp only; (repeat' split) <;> simp +contextual (maxDischargeDepth := 60) [h]⟩
theorem execHoldOffEnd_base (x0 x1 s) : ∃ s', execHoldOffEnd x0 x1 s = .next s' ∧ s'.base = (s.variant, s.pending, max s.now x0) := by
  unfold execHoldOffEnd
  exact ⟨_, rfl, by dsimp only; (repeat' split) <;> simp⟩
theorem execPulseEnd_canon (x0 x1 s) (h : s.canon) : ∃ s', execPulseEnd x0 x1 s = .next s' ∧ s'.canon := by
  unfold execPulseEnd
  exact ⟨_, rfl, by dsimp only; (repeat' split) <;> simp +contextual (maxDischargeDepth := 60) [h]⟩
theorem execPulseEnd_base (x0 x1 s) : ∃ s', execPulseEnd x0 x1 s = .next s' ∧ s'.base = (s.variant, s.pending, max s.now x0) := by
  unfold execPulseEnd
  exact ⟨_, rfl, by dsimp only; (repeat' split) <;> simp⟩
theorem execBeatReceived_canon (x0 x1 x2 s) (h : s.canon) : ∃ s', execBeatReceived x0 x1 x2 s = .next s' ∧ s'.canon := by
  unfold execBeatReceived
  exact ⟨_, rfl, by dsimp only; (repeat' split) <;> simp +contextual (maxDischargeDepth := 60) [h]⟩
theorem execBeatReceived_base (x0 x1 x2 s) : ∃ s', execBeatReceived x0 x1 x2 s = .next s' ∧ s'.base = (s.variant, s.pending, max s.now x0) := by
  unfold execBeatReceived
  exact ⟨_, rfl, by dsimp only; (repeat' split) <;> simp⟩
theorem execPairLinkDown_canon (x0 s) (h : s.canon) : ∃ s', execPairLinkDown x0 s = .next s' ∧ s'.canon := by
  unfold execPairLinkDown
  exact ⟨_, rfl, by simp +contextual (maxDischargeDepth := 60) [h]⟩
theorem execPairLinkDown_base (x0 s) : ∃ s', execPairLinkDown x0 s = .next s' ∧ s'.base = (s.variant, s.pending, max s.now x0) := by
  unfold execPairLinkDown
  exact ⟨_, rfl, by simp⟩
theorem execCheckpointSegment_canon (x0 x1 x2 s) (h : s.canon) : ∃ s', execCheckpointSegment x0 x1 x2 s = .next s' ∧ s'.canon := by
  unfold execCheckpointSegment
  exact ⟨_, rfl, by simp +contextual (maxDischargeDepth := 60) [h]⟩
theorem execCheckpointSegment_base (x0 x1 x2 s) : ∃ s', execCheckpointSegment x0 x1 x2 s = .next s' ∧ s'.base = (s.variant, s.pending, max s.now x0) := by
  unfold execCheckpointSegment
  exact ⟨_, rfl, by simp⟩
theorem execTakeover_canon (x0 s) (h : s.canon) : ∃ s', execTakeover x0 s = .next s' ∧ s'.canon := by
  unfold execTakeover
  exact ⟨_, rfl, by (repeat' split) <;> simp +contextual (maxDischargeDepth := 60) [h]⟩
theorem execTakeover_base (x0 s) : ∃ s', execTakeover x0 s = .next s' ∧ s'.base = (s.variant, s.pending, max s.now x0) := by
  unfold execTakeover
  exact ⟨_, rfl, by (repeat' split) <;> simp_all⟩
theorem execHandoverClaim_canon (x0 s) (h : s.canon) : ∃ s', execHandoverClaim x0 s = .next s' ∧ s'.canon := by
  unfold execHandoverClaim
  exact ⟨_, rfl, by (repeat' split) <;> simp +contextual (maxDischargeDepth := 60) [h]⟩
theorem execHandoverClaim_base (x0 s) : ∃ s', execHandoverClaim x0 s = .next s' ∧ s'.base = (s.variant, s.pending, max s.now x0) := by
  unfold execHandoverClaim
  exact ⟨_, rfl, by (repeat' split) <;> simp_all⟩
theorem execHandoverAbort_canon (x0 s) (h : s.canon) : ∃ s', execHandoverAbort x0 s = .next s' ∧ s'.canon := by
  unfold execHandoverAbort
  exact ⟨_, rfl, by dsimp only; (repeat' split) <;> simp +contextual (maxDischargeDepth := 60) [h]⟩
theorem execHandoverAbort_base (x0 s) : ∃ s', execHandoverAbort x0 s = .next s' ∧ s'.base = (s.variant, s.pending, max s.now x0) := by
  unfold execHandoverAbort
  exact ⟨_, rfl, by dsimp only; (repeat' split) <;> simp⟩
theorem execLaneCycle_canon (x0 x1 s) (h : s.canon) : ∃ s', execLaneCycle x0 x1 s = .next s' ∧ s'.canon := by
  unfold execLaneCycle
  exact ⟨_, rfl, by simp +contextual (maxDischargeDepth := 60) [h]⟩
theorem execLaneCycle_base (x0 x1 s) : ∃ s', execLaneCycle x0 x1 s = .next s' ∧ s'.base = (s.variant, s.pending, max s.now x0) := by
  unfold execLaneCycle
  exact ⟨_, rfl, by simp⟩
theorem execResetInput_canon (x0 x1 s) (h : s.canon) : ∃ s', execResetInput x0 x1 s = .next s' ∧ s'.canon := by
  unfold execResetInput
  exact ⟨_, rfl, by simp +contextual (maxDischargeDepth := 60) [h]⟩
theorem execResetInput_base (x0 x1 s) : ∃ s', execResetInput x0 x1 s = .next s' ∧ s'.base = (s.variant, s.pending, max s.now x0) := by
  unfold execResetInput
  exact ⟨_, rfl, by simp⟩
theorem execDarkTest_canon (x0 x1 x2 s) (h : s.canon) : ∃ s', execDarkTest x0 x1 x2 s = .next s' ∧ s'.canon := by
  unfold execDarkTest
  exact ⟨_, rfl, by (repeat' apply ite_canon) <;> simp +contextual (maxDischargeDepth := 60) [h]⟩
theorem execDarkTest_base (x0 x1 x2 s) : ∃ s', execDarkTest x0 x1 x2 s = .next s' ∧ s'.base = (s.variant, s.pending, max s.now x0) := by
  unfold execDarkTest
  exact ⟨_, rfl, by (repeat' split) <;> simp_all⟩
theorem execDarkTestResult_canon (x0 x1 x2 x3 s) (h : s.canon) : ∃ s', execDarkTestResult x0 x1 x2 x3 s = .next s' ∧ s'.canon := by
  unfold execDarkTestResult
  exact ⟨_, rfl, by simp +contextual (maxDischargeDepth := 60) [h]⟩
theorem execDarkTestResult_base (x0 x1 x2 x3 s) : ∃ s', execDarkTestResult x0 x1 x2 x3 s = .next s' ∧ s'.base = (s.variant, s.pending, max s.now x0) := by
  unfold execDarkTestResult
  exact ⟨_, rfl, by simp⟩
theorem execAccessDelay_canon (x0 s) (h : s.canon) : ∃ s', execAccessDelay x0 s = .next s' ∧ s'.canon := by
  unfold execAccessDelay
  exact ⟨_, rfl, by dsimp only; (repeat' split) <;> simp +contextual (maxDischargeDepth := 60) [h]⟩
theorem execAccessDelay_base (x0 s) : ∃ s', execAccessDelay x0 s = .next s' ∧ s'.base = (s.variant, s.pending, max s.now x0) := by
  unfold execAccessDelay
  exact ⟨_, rfl, by dsimp only; (repeat' split) <;> simp⟩
theorem execTelegramSend_canon (x0 s) (h : s.canon) : ∃ s', execTelegramSend x0 s = .next s' ∧ s'.canon := by
  unfold execTelegramSend
  exact ⟨_, rfl, by simp +contextual (maxDischargeDepth := 60) [h]⟩
theorem execTelegramSend_base (x0 s) : ∃ s', execTelegramSend x0 s = .next s' ∧ s'.base = (s.variant, s.pending, max s.now x0) := by
  unfold execTelegramSend
  exact ⟨_, rfl, by simp⟩
theorem execTelegramCopy_canon (x0 x1 x2 x3 x4 s) (h : s.canon) : ∃ s', execTelegramCopy x0 x1 x2 x3 x4 s = .next s' ∧ s'.canon := by
  unfold execTelegramCopy
  exact ⟨_, rfl, by simp +contextual (maxDischargeDepth := 60) [h]⟩
theorem execTelegramCopy_base (x0 x1 x2 x3 x4 s) : ∃ s', execTelegramCopy x0 x1 x2 x3 x4 s = .next s' ∧ s'.base = (s.variant, s.pending, max s.now x0) := by
  unfold execTelegramCopy
  exact ⟨_, rfl, by simp⟩
theorem execWindowClose_canon (x0 x1 s) (h : s.canon) : ∃ s', execWindowClose x0 x1 s = .next s' ∧ s'.canon := by
  unfold execWindowClose
  exact ⟨_, rfl, by simp +contextual (maxDischargeDepth := 60) [h]⟩
theorem execWindowClose_base (x0 x1 s) : ∃ s', execWindowClose x0 x1 s = .next s' ∧ s'.base = (s.variant, s.pending, max s.now x0) := by
  unfold execWindowClose
  exact ⟨_, rfl, by simp⟩
theorem execTelegramTimeout_canon (x0 s) (h : s.canon) : ∃ s', execTelegramTimeout x0 s = .next s' ∧ s'.canon := by
  unfold execTelegramTimeout
  exact ⟨_, rfl, by simp +contextual (maxDischargeDepth := 60) [h]⟩
theorem execTelegramTimeout_base (x0 s) : ∃ s', execTelegramTimeout x0 s = .next s' ∧ s'.base = (s.variant, s.pending, max s.now x0) := by
  unfold execTelegramTimeout
  exact ⟨_, rfl, by simp⟩
theorem execConfigTimeout_canon (x0 s) (h : s.canon) : ∃ s', execConfigTimeout x0 s = .next s' ∧ s'.canon := by
  unfold execConfigTimeout
  exact ⟨_, rfl, by dsimp only; (repeat' split) <;> simp +contextual (maxDischargeDepth := 60) [h]⟩
theorem execConfigTimeout_base (x0 s) : ∃ s', execConfigTimeout x0 s = .next s' ∧ s'.base = (s.variant, s.pending, max s.now x0) := by
  unfold execConfigTimeout
  exact ⟨_, rfl, by dsimp only; (repeat' split) <;> simp⟩
theorem execIoSupplyLoss_canon (x0 s) (h : s.canon) : ∃ s', execIoSupplyLoss x0 s = .next s' ∧ s'.canon := by
  unfold execIoSupplyLoss
  exact ⟨_, rfl, by simp +contextual (maxDischargeDepth := 60) [h]⟩
theorem execIoSupplyLoss_base (x0 s) : ∃ s', execIoSupplyLoss x0 s = .next s' ∧ s'.base = (s.variant, s.pending, max s.now x0) := by
  unfold execIoSupplyLoss
  exact ⟨_, rfl, by simp⟩
theorem execOutputCurrentLimit_canon (x0 x1 s) (h : s.canon) : ∃ s', execOutputCurrentLimit x0 x1 s = .next s' ∧ s'.canon := by
  unfold execOutputCurrentLimit
  exact ⟨_, rfl, by simp +contextual (maxDischargeDepth := 60) [h]⟩
theorem execOutputCurrentLimit_base (x0 x1 s) : ∃ s', execOutputCurrentLimit x0 x1 s = .next s' ∧ s'.base = (s.variant, s.pending, max s.now x0) := by
  unfold execOutputCurrentLimit
  exact ⟨_, rfl, by simp⟩
theorem execOcxoFail_canon (x0 s) (h : s.canon) : ∃ s', execOcxoFail x0 s = .next s' ∧ s'.canon := by
  unfold execOcxoFail
  exact ⟨_, rfl, by simp +contextual (maxDischargeDepth := 60) [h]⟩
theorem execOcxoFail_base (x0 s) : ∃ s', execOcxoFail x0 s = .next s' ∧ s'.base = (s.variant, s.pending, max s.now x0) := by
  unfold execOcxoFail
  exact ⟨_, rfl, by simp⟩
theorem execSyncMsg_canon (x0 x1 x2 s) (h : s.canon) : ∃ s', execSyncMsg x0 x1 x2 s = .next s' ∧ s'.canon := by
  unfold execSyncMsg
  exact ⟨_, rfl, by simp +contextual (maxDischargeDepth := 60) [h]⟩
theorem execSyncMsg_base (x0 x1 x2 s) : ∃ s', execSyncMsg x0 x1 x2 s = .next s' ∧ s'.base = (s.variant, s.pending, max s.now x0) := by
  unfold execSyncMsg
  exact ⟨_, rfl, by simp⟩
theorem execFollowUp_canon (x0 x1 x2 x3 s) (h : s.canon) : ∃ s', execFollowUp x0 x1 x2 x3 s = .next s' ∧ s'.canon := by
  unfold execFollowUp
  exact ⟨_, rfl, by dsimp only; (repeat' split) <;> simp +contextual (maxDischargeDepth := 60) [h]⟩
theorem execFollowUp_base (x0 x1 x2 x3 s) : ∃ s', execFollowUp x0 x1 x2 x3 s = .next s' ∧ s'.base = (s.variant, s.pending, max s.now x0) := by
  unfold execFollowUp
  exact ⟨_, rfl, by dsimp only; (repeat' split) <;> simp⟩
theorem execAnnounce_canon (x0 x1 x2 s) (h : s.canon) : ∃ s', execAnnounce x0 x1 x2 s = .next s' ∧ s'.canon := by
  unfold execAnnounce
  exact ⟨_, rfl, by simp +contextual (maxDischargeDepth := 60) [h]⟩
theorem execAnnounce_base (x0 x1 x2 s) : ∃ s', execAnnounce x0 x1 x2 s = .next s' ∧ s'.base = (s.variant, s.pending, max s.now x0) := by
  unfold execAnnounce
  exact ⟨_, rfl, by simp⟩
theorem execPdelayReq_canon (x0 x1 x2 x3 s) (h : s.canon) : ∃ s', execPdelayReq x0 x1 x2 x3 s = .next s' ∧ s'.canon := by
  unfold execPdelayReq
  exact ⟨_, rfl, by simp +contextual (maxDischargeDepth := 60) [h]⟩
theorem execPdelayReq_base (x0 x1 x2 x3 s) : ∃ s', execPdelayReq x0 x1 x2 x3 s = .next s' ∧ s'.base = (s.variant, s.pending, max s.now x0) := by
  unfold execPdelayReq
  exact ⟨_, rfl, by simp⟩
theorem execPdelayResp_canon (x0 x1 x2 x3 x4 x5 s) (h : s.canon) : ∃ s', execPdelayResp x0 x1 x2 x3 x4 x5 s = .next s' ∧ s'.canon := by
  unfold execPdelayResp
  exact ⟨_, rfl, by simp +contextual (maxDischargeDepth := 60) [h]⟩
theorem execPdelayResp_base (x0 x1 x2 x3 x4 x5 s) : ∃ s', execPdelayResp x0 x1 x2 x3 x4 x5 s = .next s' ∧ s'.base = (s.variant, s.pending, max s.now x0) := by
  unfold execPdelayResp
  exact ⟨_, rfl, by simp⟩
theorem execSyncTimeout_canon (x0 x1 s) (h : s.canon) : ∃ s', execSyncTimeout x0 x1 s = .next s' ∧ s'.canon := by
  unfold execSyncTimeout
  exact ⟨_, rfl, by simp +contextual (maxDischargeDepth := 60) [h]⟩
theorem execSyncTimeout_base (x0 x1 s) : ∃ s', execSyncTimeout x0 x1 s = .next s' ∧ s'.base = (s.variant, s.pending, max s.now x0) := by
  unfold execSyncTimeout
  exact ⟨_, rfl, by simp⟩
theorem execRevert_canon (x0 s) (h : s.canon) : ∃ s', execRevert x0 s = .next s' ∧ s'.canon := by
  unfold execRevert
  exact ⟨_, rfl, by simp +contextual (maxDischargeDepth := 60) [h]⟩
theorem execRevert_base (x0 s) : ∃ s', execRevert x0 s = .next s' ∧ s'.base = (s.variant, s.pending, max s.now x0) := by
  unfold execRevert
  exact ⟨_, rfl, by simp⟩
theorem execHoldoverLimit_canon (x0 s) (h : s.canon) : ∃ s', execHoldoverLimit x0 s = .next s' ∧ s'.canon := by
  unfold execHoldoverLimit
  exact ⟨_, rfl, by simp +contextual (maxDischargeDepth := 60) [h]⟩
theorem execHoldoverLimit_base (x0 s) : ∃ s', execHoldoverLimit x0 s = .next s' ∧ s'.base = (s.variant, s.pending, max s.now x0) := by
  unfold execHoldoverLimit
  exact ⟨_, rfl, by simp⟩
theorem execTimeSet_canon (x0 s) (h : s.canon) : ∃ s', execTimeSet x0 s = .next s' ∧ s'.canon := by
  unfold execTimeSet
  exact ⟨_, rfl, by simp +contextual (maxDischargeDepth := 60) [h]⟩
theorem execTimeSet_base (x0 s) : ∃ s', execTimeSet x0 s = .next s' ∧ s'.base = (s.variant, s.pending, max s.now x0) := by
  unfold execTimeSet
  exact ⟨_, rfl, by simp⟩
theorem execTimOffsetWrite_canon (x0 x1 x2 x3 s) (h : s.canon) : ∃ s', execTimOffsetWrite x0 x1 x2 x3 s = .next s' ∧ s'.canon := regRow_canon _ _ _ _ _ h
theorem execTimOffsetWrite_base (x0 x1 x2 x3 s) : ∃ s', execTimOffsetWrite x0 x1 x2 x3 s = .next s' ∧ s'.base = (s.variant, s.pending, max s.now x0) := regRow_base _ _ _ _ _
theorem execPairTime_canon (x0 s) (h : s.canon) : ∃ s', execPairTime x0 s = .next s' ∧ s'.canon := by
  unfold execPairTime
  exact ⟨_, rfl, by dsimp only; (repeat' split) <;> simp +contextual (maxDischargeDepth := 60) [h]⟩
theorem execPairTime_base (x0 s) : ∃ s', execPairTime x0 s = .next s' ∧ s'.base = (s.variant, s.pending, max s.now x0) := by
  unfold execPairTime
  exact ⟨_, rfl, by dsimp only; (repeat' split) <;> simp⟩
theorem execPpsInEdge_canon (x0 s) (h : s.canon) : ∃ s', execPpsInEdge x0 s = .next s' ∧ s'.canon := by
  unfold execPpsInEdge
  exact ⟨_, rfl, by simp +contextual (maxDischargeDepth := 60) [h, -State.rs_mem]⟩
theorem execPpsInEdge_base (x0 s) : ∃ s', execPpsInEdge x0 s = .next s' ∧ s'.base = (s.variant, s.pending, max s.now x0) := by
  unfold execPpsInEdge
  exact ⟨_, rfl, by simp⟩
theorem execPpsinLoss_canon (x0 s) (h : s.canon) : ∃ s', execPpsinLoss x0 s = .next s' ∧ s'.canon := by
  unfold execPpsinLoss
  exact ⟨_, rfl, by dsimp only; (repeat' split) <;> simp +contextual (maxDischargeDepth := 60) [h]⟩
theorem execPpsinLoss_base (x0 s) : ∃ s', execPpsinLoss x0 s = .next s' ∧ s'.base = (s.variant, s.pending, max s.now x0) := by
  unfold execPpsinLoss
  exact ⟨_, rfl, by dsimp only; (repeat' split) <;> simp⟩
theorem execPpsOut_canon (x0 s) (h : s.canon) : ∃ s', execPpsOut x0 s = .next s' ∧ s'.canon := by
  unfold execPpsOut
  exact ⟨_, rfl, by simp +contextual (maxDischargeDepth := 60) [h]⟩
theorem execPpsOut_base (x0 s) : ∃ s', execPpsOut x0 s = .next s' ∧ s'.base = (s.variant, s.pending, max s.now x0) := by
  unfold execPpsOut
  exact ⟨_, rfl, by simp⟩
theorem execSyspllLoss_canon (x0 s) (h : s.canon) : ∃ s', execSyspllLoss x0 s = .next s' ∧ s'.canon := by
  unfold execSyspllLoss
  exact ⟨_, rfl, by dsimp only; (repeat' split) <;> simp +contextual (maxDischargeDepth := 60) [h]⟩
theorem execSyspllLoss_base (x0 s) : ∃ s', execSyspllLoss x0 s = .next s' ∧ s'.base = (s.variant, s.pending, max s.now x0) := by
  unfold execSyspllLoss
  exact ⟨_, rfl, by dsimp only; (repeat' split) <;> simp⟩
theorem execNApply_canon (x0 x1 x2 s) (h : s.canon) : ∃ s', execNApply x0 x1 x2 s = .next s' ∧ s'.canon := regRow_canon _ _ _ _ _ h
theorem execNApply_base (x0 x1 x2 s) : ∃ s', execNApply x0 x1 x2 s = .next s' ∧ s'.base = (s.variant, s.pending, max s.now x0) := regRow_base _ _ _ _ _
theorem execSpllEnable_canon (x0 x1 x2 s) (h : s.canon) : ∃ s', execSpllEnable x0 x1 x2 s = .next s' ∧ s'.canon := regRow_canon _ _ _ _ _ h
theorem execSpllEnable_base (x0 x1 x2 s) : ∃ s', execSpllEnable x0 x1 x2 s = .next s' ∧ s'.base = (s.variant, s.pending, max s.now x0) := regRow_base _ _ _ _ _
theorem execStationPllLock_canon (x0 s) (h : s.canon) : ∃ s', execStationPllLock x0 s = .next s' ∧ s'.canon := by
  unfold execStationPllLock
  exact ⟨_, rfl, by dsimp only; (repeat' split) <;> simp +contextual (maxDischargeDepth := 60) [h]⟩
theorem execStationPllLock_base (x0 s) : ∃ s', execStationPllLock x0 s = .next s' ∧ s'.base = (s.variant, s.pending, max s.now x0) := by
  unfold execStationPllLock
  exact ⟨_, rfl, by dsimp only; (repeat' split) <;> simp⟩
theorem execOutputRelease_canon (x0 s) (h : s.canon) : ∃ s', execOutputRelease x0 s = .next s' ∧ s'.canon := by
  unfold execOutputRelease
  exact ⟨_, rfl, by simp +contextual (maxDischargeDepth := 60) [h]⟩
theorem execOutputRelease_base (x0 s) : ∃ s', execOutputRelease x0 s = .next s' ∧ s'.base = (s.variant, s.pending, max s.now x0) := by
  unfold execOutputRelease
  exact ⟨_, rfl, by simp⟩
theorem execSpllUnlock_canon (x0 s) (h : s.canon) : ∃ s', execSpllUnlock x0 s = .next s' ∧ s'.canon := by
  unfold execSpllUnlock
  exact ⟨_, rfl, by simp +contextual (maxDischargeDepth := 60) [h]⟩
theorem execSpllUnlock_base (x0 s) : ∃ s', execSpllUnlock x0 s = .next s' ∧ s'.base = (s.variant, s.pending, max s.now x0) := by
  unfold execSpllUnlock
  exact ⟨_, rfl, by simp⟩
theorem execRefLoss_canon (x0 s) (h : s.canon) : ∃ s', execRefLoss x0 s = .next s' ∧ s'.canon := by
  unfold execRefLoss
  exact ⟨_, rfl, by simp +contextual (maxDischargeDepth := 60) [h]⟩
theorem execRefLoss_base (x0 s) : ∃ s', execRefLoss x0 s = .next s' ∧ s'.base = (s.variant, s.pending, max s.now x0) := by
  unfold execRefLoss
  exact ⟨_, rfl, by simp⟩
theorem execLegGood_canon (x0 x1 x2 s) (h : s.canon) : ∃ s', execLegGood x0 x1 x2 s = .next s' ∧ s'.canon := by
  unfold execLegGood
  exact ⟨_, rfl, by simp +contextual (maxDischargeDepth := 60) [h]⟩
theorem execLegGood_base (x0 x1 x2 s) : ∃ s', execLegGood x0 x1 x2 s = .next s' ∧ s'.base = (s.variant, s.pending, max s.now x0) := by
  unfold execLegGood
  exact ⟨_, rfl, by simp⟩
theorem execLegLost_canon (x0 x1 x2 s) (h : s.canon) : ∃ s', execLegLost x0 x1 x2 s = .next s' ∧ s'.canon := by
  unfold execLegLost
  exact ⟨_, rfl, by (repeat' apply ite_canon) <;> simp +contextual (maxDischargeDepth := 60) [h]⟩
theorem execLegLost_base (x0 x1 x2 s) : ∃ s', execLegLost x0 x1 x2 s = .next s' ∧ s'.base = (s.variant, s.pending, max s.now x0) := by
  unfold execLegLost
  exact ⟨_, rfl, by (repeat' split) <;> simp_all⟩
theorem execLegOv_canon (x0 x1 x2 s) (h : s.canon) : ∃ s', execLegOv x0 x1 x2 s = .next s' ∧ s'.canon := by
  unfold execLegOv
  exact ⟨_, rfl, by (repeat' apply ite_canon) <;> simp +contextual (maxDischargeDepth := 60) [h]⟩
theorem execLegOv_base (x0 x1 x2 s) : ∃ s', execLegOv x0 x1 x2 s = .next s' ∧ s'.base = (s.variant, s.pending, max s.now x0) := by
  unfold execLegOv
  exact ⟨_, rfl, by (repeat' split) <;> simp_all⟩
theorem execHoldupLow_canon (x0 s) (h : s.canon) : ∃ s', execHoldupLow x0 s = .next s' ∧ s'.canon := by
  unfold execHoldupLow
  exact ⟨_, rfl, by (repeat' apply ite_canon) <;> simp +contextual (maxDischargeDepth := 60) [h]⟩
theorem execHoldupLow_base (x0 s) : ∃ s', execHoldupLow x0 s = .next s' ∧ s'.base = (s.variant, s.pending, max s.now x0) := by
  unfold execHoldupLow
  exact ⟨_, rfl, by (repeat' split) <;> simp_all⟩
theorem execPowerGoodLost_canon (x0 s) (h : s.canon) : ∃ s', execPowerGoodLost x0 s = .next s' ∧ s'.canon := by
  unfold execPowerGoodLost
  exact ⟨_, rfl, by dsimp only; (repeat' split) <;> simp +contextual (maxDischargeDepth := 60) [h]⟩
theorem execPowerGoodLost_base (x0 s) : ∃ s', execPowerGoodLost x0 s = .next s' ∧ s'.base = (s.variant, s.pending, max s.now x0) := by
  unfold execPowerGoodLost
  exact ⟨_, rfl, by dsimp only; (repeat' split) <;> simp⟩
theorem execStoreFull_canon (x0 s) (h : s.canon) : ∃ s', execStoreFull x0 s = .next s' ∧ s'.canon := by
  unfold execStoreFull
  exact ⟨_, rfl, by dsimp only; (repeat' split) <;> simp +contextual (maxDischargeDepth := 60) [h]⟩
theorem execStoreFull_base (x0 s) : ∃ s', execStoreFull x0 s = .next s' ∧ s'.base = (s.variant, s.pending, max s.now x0) := by
  unfold execStoreFull
  exact ⟨_, rfl, by dsimp only; (repeat' split) <;> simp⟩
theorem execResetRelease_canon (x0 x1 x2 s) (h : s.canon) : ∃ s', execResetRelease x0 x1 x2 s = .next s' ∧ s'.canon := by
  unfold execResetRelease
  exact ⟨_, rfl, by dsimp only; (repeat' split) <;> simp +contextual (maxDischargeDepth := 60) [h]⟩
theorem execResetRelease_base (x0 x1 x2 s) : ∃ s', execResetRelease x0 x1 x2 s = .next s' ∧ s'.base = (s.variant, s.pending, max s.now x0) := by
  unfold execResetRelease
  exact ⟨_, rfl, by dsimp only; (repeat' split) <;> simp⟩
theorem execBootVerified_canon (x0 x1 x2 s) (h : s.canon) : ∃ s', execBootVerified x0 x1 x2 s = .next s' ∧ s'.canon := by
  unfold execBootVerified
  exact ⟨_, rfl, by simp +contextual (maxDischargeDepth := 60) [h]⟩
theorem execBootVerified_base (x0 x1 x2 s) : ∃ s', execBootVerified x0 x1 x2 s = .next s' ∧ s'.base = (s.variant, s.pending, max s.now x0) := by
  unfold execBootVerified
  exact ⟨_, rfl, by dsimp only; (repeat' split) <;> simp⟩
theorem execInitEnd_canon (x0 s) (h : s.canon) : ∃ s', execInitEnd x0 s = .next s' ∧ s'.canon := by
  unfold execInitEnd
  exact ⟨_, rfl, by simp +contextual (maxDischargeDepth := 60) [h]⟩
theorem execInitEnd_base (x0 s) : ∃ s', execInitEnd x0 s = .next s' ∧ s'.base = (s.variant, s.pending, max s.now x0) := by
  unfold execInitEnd
  exact ⟨_, rfl, by simp⟩
theorem execTempSample_canon (x0 x1 x2 s) (h : s.canon) : ∃ s', execTempSample x0 x1 x2 s = .next s' ∧ s'.canon := by
  unfold execTempSample
  exact ⟨_, rfl, by (repeat' split) <;> simp +contextual (maxDischargeDepth := 60) [h, -State.rs_mem]⟩
theorem execTempSample_base (x0 x1 x2 s) : ∃ s', execTempSample x0 x1 x2 s = .next s' ∧ s'.base = (s.variant, s.pending, max s.now x0) := by
  unfold execTempSample
  exact ⟨_, rfl, by simp⟩
theorem execUndefinedOpcode_canon (x0 x1 x2 s) (h : s.canon) : ∃ s', execUndefinedOpcode x0 x1 x2 s = .next s' ∧ s'.canon := by
  unfold execUndefinedOpcode
  exact ⟨_, rfl, by simp +contextual (maxDischargeDepth := 60) [h]⟩
theorem execUndefinedOpcode_base (x0 x1 x2 s) : ∃ s', execUndefinedOpcode x0 x1 x2 s = .next s' ∧ s'.base = (s.variant, s.pending, max s.now x0) := by
  unfold execUndefinedOpcode
  exact ⟨_, rfl, by simp⟩
theorem execTimeStep_canon ( s) (h : s.canon) : ∃ s', execTimeStep  s = .next s' ∧ s'.canon := by
  unfold execTimeStep
  exact ⟨_, rfl, by simp +contextual (maxDischargeDepth := 60) [h]⟩
theorem execTimeStep_base ( s) : ∃ s', execTimeStep  s = .next s' ∧ s'.base = (s.variant, s.pending, max s.now s.now) := by
  unfold execTimeStep
  exact ⟨_, rfl, by simp⟩
theorem execFilterStart_canon ( s) (h : s.canon) : ∃ s', execFilterStart  s = .next s' ∧ s'.canon := by
  unfold execFilterStart
  exact ⟨_, rfl, by simp +contextual (maxDischargeDepth := 60) [h]⟩
theorem execFilterStart_base ( s) : ∃ s', execFilterStart  s = .next s' ∧ s'.base = (s.variant, s.pending, max s.now s.now) := by
  unfold execFilterStart
  exact ⟨_, rfl, by simp⟩
theorem execDeblock_canon ( s) (h : s.canon) : ∃ s', execDeblock  s = .next s' ∧ s'.canon := by
  unfold execDeblock
  exact ⟨_, rfl, by simp +contextual (maxDischargeDepth := 60) [h]⟩
theorem execDeblock_base ( s) : ∃ s', execDeblock  s = .next s' ∧ s'.base = (s.variant, s.pending, max s.now s.now) := by
  unfold execDeblock
  exact ⟨_, rfl, by simp⟩
theorem execFrtExit_canon ( s) (h : s.canon) : ∃ s', execFrtExit  s = .next s' ∧ s'.canon := by
  unfold execFrtExit
  exact ⟨_, rfl, by simp +contextual (maxDischargeDepth := 60) [h]⟩
theorem execFrtExit_base ( s) : ∃ s', execFrtExit  s = .next s' ∧ s'.base = (s.variant, s.pending, max s.now s.now) := by
  unfold execFrtExit
  exact ⟨_, rfl, by simp⟩
theorem execFrtTimeout_canon ( s) (h : s.canon) : ∃ s', execFrtTimeout  s = .next s' ∧ s'.canon := by
  unfold execFrtTimeout
  exact ⟨_, rfl, by simp +contextual (maxDischargeDepth := 60) [h]⟩
theorem execFrtTimeout_base ( s) : ∃ s', execFrtTimeout  s = .next s' ∧ s'.base = (s.variant, s.pending, max s.now s.now) := by
  unfold execFrtTimeout
  exact ⟨_, rfl, by simp⟩
theorem execAutoIslanding_canon ( s) (h : s.canon) : ∃ s', execAutoIslanding  s = .next s' ∧ s'.canon := by
  unfold execAutoIslanding
  exact ⟨_, rfl, by simp +contextual (maxDischargeDepth := 60) [h]⟩
theorem execAutoIslanding_base ( s) : ∃ s', execAutoIslanding  s = .next s' ∧ s'.base = (s.variant, s.pending, max s.now s.now) := by
  unfold execAutoIslanding
  exact ⟨_, rfl, by simp⟩
theorem execBlackstartDone_canon ( s) (h : s.canon) : ∃ s', execBlackstartDone  s = .next s' ∧ s'.canon := by
  unfold execBlackstartDone
  exact ⟨_, rfl, by simp +contextual (maxDischargeDepth := 60) [h]⟩
theorem execBlackstartDone_base ( s) : ∃ s', execBlackstartDone  s = .next s' ∧ s'.base = (s.variant, s.pending, max s.now s.now) := by
  unfold execBlackstartDone
  exact ⟨_, rfl, by simp⟩
theorem execBlackstartFail_canon ( s) (h : s.canon) : ∃ s', execBlackstartFail  s = .next s' ∧ s'.canon := by
  unfold execBlackstartFail
  exact ⟨_, rfl, by simp +contextual (maxDischargeDepth := 60) [h]⟩
theorem execBlackstartFail_base ( s) : ∃ s', execBlackstartFail  s = .next s' ∧ s'.base = (s.variant, s.pending, max s.now s.now) := by
  unfold execBlackstartFail
  exact ⟨_, rfl, by simp⟩
theorem execFirstEdgeFrame_canon ( s) (h : s.canon) : ∃ s', execFirstEdgeFrame  s = .next s' ∧ s'.canon := by
  unfold execFirstEdgeFrame
  exact ⟨_, rfl, by simp +contextual (maxDischargeDepth := 60) [h]⟩
theorem execFirstEdgeFrame_base ( s) : ∃ s', execFirstEdgeFrame  s = .next s' ∧ s'.base = (s.variant, s.pending, max s.now s.now) := by
  unfold execFirstEdgeFrame
  exact ⟨_, rfl, by simp⟩

end Sys2Proof.Machine
end

