-- ==== Sys2Proof/Laws/Begin.lean ====
section
/-!
SUPPORT. What the start of a command leaves: every quantity of the state that depends neither on the clock nor on the outputs.
-/
namespace Sys2Proof.Machine

@[simp] theorem State.begin_rg (s : State) (t : Nat) (n i j) : (s.begin t).rg n i j = s.rg n i j := rfl

@[simp] theorem State.begin_rnum (s : State) (t : Nat) (n i j) : (s.begin t).rnum n i j = s.rnum n i j := rfl

@[simp] theorem State.begin_vdcb (s : State) (t : Nat) : (s.begin t).vdcb = s.vdcb := rfl

@[simp] theorem State.begin_ib (s : State) (t : Nat) : (s.begin t).ib = s.ib := rfl

@[simp] theorem State.begin_vb (s : State) (t : Nat) : (s.begin t).vb = s.vb := rfl

@[simp] theorem State.begin_fb (s : State) (t : Nat) : (s.begin t).fb = s.fb := rfl

@[simp] theorem State.begin_bankNum (s : State) (t : Nat) (b j) : (s.begin t).bankNum b j = s.bankNum b j := rfl

@[simp] theorem State.begin_gl (s : State) (t : Nat) (i) : (s.begin t).gl i = s.gl i := rfl

@[simp] theorem State.begin_ts (s : State) (t : Nat) : (s.begin t).ts = s.ts := rfl

@[simp] theorem State.begin_rf (s : State) (t : Nat) (n lo len i j) : (s.begin t).rf n lo len i j = s.rf n lo len i j := rfl

@[simp] theorem State.begin_rb (s : State) (t : Nat) (n k i j) : (s.begin t).rb n k i j = s.rb n k i j := rfl

@[simp] theorem State.begin_sections (s : State) (t : Nat) (p) : (s.begin t).sections p = s.sections p := rfl

@[simp] theorem State.begin_quarter (s : State) (t : Nat) : (s.begin t).quarter = s.quarter := rfl

@[simp] theorem State.begin_iLim (s : State) (t : Nat) : (s.begin t).iLim = s.iLim := rfl

@[simp] theorem State.begin_budgetMax (s : State) (t : Nat) : (s.begin t).budgetMax = s.budgetMax := rfl

@[simp] theorem State.begin_tComp (s : State) (t : Nat) (limiting) : (s.begin t).tComp limiting = s.tComp limiting := rfl

@[simp] theorem State.begin_arm (s : State) (t : Nat) (a) : (s.begin t).arm a = s.arm a := rfl

@[simp] theorem State.begin_linkUp (s : State) (t : Nat) (l) : (s.begin t).linkUp l = s.linkUp l := rfl

@[simp] theorem State.begin_pairReady (s : State) (t : Nat) : (s.begin t).pairReady = s.pairReady := rfl

@[simp] theorem State.begin_rg64 (s : State) (t : Nat) (lo hi i) : (s.begin t).rg64 lo hi i = s.rg64 lo hi i := rfl

@[simp] theorem State.begin_firstTime (s : State) (t : Nat) (c) : (s.begin t).firstTime c = s.firstTime c := rfl

@[simp] theorem State.begin_sysCap (s : State) (t : Nat) : (s.begin t).sysCap = s.sysCap := rfl

@[simp] theorem State.begin_hasDram (s : State) (t : Nat) : (s.begin t).hasDram = s.hasDram := rfl

@[simp] theorem State.begin_hasSaf (s : State) (t : Nat) : (s.begin t).hasSaf = s.hasSaf := rfl

@[simp] theorem State.begin_slots (s : State) (t : Nat) : (s.begin t).slots = s.slots := rfl

@[simp] theorem State.begin_links (s : State) (t : Nat) : (s.begin t).links = s.links := rfl

@[simp] theorem State.begin_hasReg (s : State) (t : Nat) (r) : (s.begin t).hasReg r = s.hasReg r := rfl

@[simp] theorem State.begin_replicatedAddrs (s : State) (t : Nat) : (s.begin t).replicatedAddrs = s.replicatedAddrs := rfl

@[simp] theorem State.begin_cfgDigest (s : State) (t : Nat) : (s.begin t).cfgDigest = s.cfgDigest := rfl

@[simp] theorem State.begin_nRuns (s : State) (t : Nat) (n) : (s.begin t).nRuns n = s.nRuns n := rfl

@[simp] theorem State.begin_pRuns (s : State) (t : Nat) : (s.begin t).pRuns = s.pRuns := rfl

@[simp] theorem State.begin_measOk (s : State) (t : Nat) : (s.begin t).measOk = s.measOk := rfl

@[simp] theorem State.begin_sheaf (s : State) (t : Nat) (n) : (s.begin t).sheaf n = s.sheaf n := rfl

@[simp] theorem State.begin_heldPreps (s : State) (t : Nat) : (s.begin t).heldPreps = s.heldPreps := rfl

@[simp] theorem State.begin_heldBySheaf (s : State) (t : Nat) (own addr) : (s.begin t).heldBySheaf own addr = s.heldBySheaf own addr := rfl

@[simp] theorem State.begin_cellHeld (s : State) (t : Nat) (own i) : (s.begin t).cellHeld own i = s.cellHeld own i := rfl

@[simp] theorem State.begin_dmn (s : State) (t : Nat) (d) : (s.begin t).dmn d = s.dmn d := rfl

@[simp] theorem State.begin_domPort (s : State) (t : Nat) (d) : (s.begin t).domPort d = s.domPort d := rfl

@[simp] theorem State.begin_inUse (s : State) (t : Nat) (d) : (s.begin t).inUse d = s.inUse d := rfl

@[simp] theorem State.begin_rate (s : State) (t : Nat) (d) : (s.begin t).rate d = s.rate d := rfl

@[simp] theorem State.begin_ofs (s : State) (t : Nat) (d) : (s.begin t).ofs d = s.ofs d := rfl

@[simp] theorem State.begin_offsetAt (s : State) (t : Nat) (d rx origin) : (s.begin t).offsetAt d rx origin = s.offsetAt d rx origin := rfl

@[simp] theorem State.begin_inBox (s : State) (t : Nat) (r wide) : (s.begin t).inBox r wide = s.inBox r wide := rfl

@[simp] theorem State.begin_regEn (s : State) (t : Nat) (r) : (s.begin t).regEn r = s.regEn r := rfl

@[simp] theorem State.begin_regGdp (s : State) (t : Nat) (r) : (s.begin t).regGdp r = s.regGdp r := rfl

@[simp] theorem State.begin_regBank (s : State) (t : Nat) (r) : (s.begin t).regBank r = s.regBank r := rfl

@[simp] theorem State.begin_frozen (s : State) (t : Nat) : (s.begin t).frozen = s.frozen := rfl

@[simp] theorem State.begin_eCell (s : State) (t : Nat) : (s.begin t).eCell = s.eCell := rfl

@[simp] theorem State.begin_winLen (s : State) (t : Nat) : (s.begin t).winLen = s.winLen := rfl

@[simp] theorem State.begin_cell (s : State) (t : Nat) (i) : (s.begin t).cell i = s.cell i := rfl

@[simp] theorem State.begin_armOf (s : State) (t : Nat) (i) : (s.begin t).armOf i = s.armOf i := rfl

@[simp] theorem State.begin_slotsOf (s : State) (t : Nat) (a) : (s.begin t).slotsOf a = s.slotsOf a := rfl

@[simp] theorem State.begin_blk (s : State) (t : Nat) (b) : (s.begin t).blk b = s.blk b := rfl

@[simp] theorem State.begin_tableUe (s : State) (t : Nat) (i) : (s.begin t).tableUe i = s.tableUe i := rfl

@[simp] theorem State.begin_link (s : State) (t : Nat) (l) : (s.begin t).link l = s.link l := rfl

@[simp] theorem State.begin_mapped (s : State) (t : Nat) : (s.begin t).mapped = s.mapped := rfl

@[simp] theorem State.begin_mappedTo (s : State) (t : Nat) (a) : (s.begin t).mappedTo a = s.mappedTo a := rfl

@[simp] theorem State.begin_nMin (s : State) (t : Nat) : (s.begin t).nMin = s.nMin := rfl

@[simp] theorem State.begin_isBs (s : State) (t : Nat) (i) : (s.begin t).isBs i = s.isBs i := rfl

@[simp] theorem State.begin_isFb (s : State) (t : Nat) (i) : (s.begin t).isFb i = s.isFb i := rfl

@[simp] theorem State.begin_gdpBusy (s : State) (t : Nat) : (s.begin t).gdpBusy = s.gdpBusy := rfl

@[simp] theorem State.begin_delayOf (s : State) (t : Nat) (l) : (s.begin t).delayOf l = s.delayOf l := rfl

@[simp] theorem State.begin_authOn (s : State) (t : Nat) (l) : (s.begin t).authOn l = s.authOn l := rfl

@[simp] theorem State.begin_mappedLinks (s : State) (t : Nat) : (s.begin t).mappedLinks = s.mappedLinks := rfl

@[simp] theorem State.begin_late135 (s : State) (t : Nat) (phase l) : (s.begin t).late135 phase l = s.late135 phase l := rfl

@[simp] theorem State.begin_byteOf (s : State) (t : Nat) (dram a) : (s.begin t).byteOf dram a = s.byteOf dram a := rfl

@[simp] theorem State.begin_progImage (s : State) (t : Nat) : (s.begin t).progImage = s.progImage := rfl

@[simp] theorem State.begin_prfFlag (s : State) (t : Nat) (p k) : (s.begin t).prfFlag p k = s.prfFlag p k := rfl

@[simp] theorem State.begin_prf (s : State) (t : Nat) (p j) : (s.begin t).prf p j = s.prf p j := rfl

@[simp] theorem State.begin_dips (s : State) (t : Nat) (p) : (s.begin t).dips p = s.dips p := rfl

@[simp] theorem State.begin_frtEntry (s : State) (t : Nat) : (s.begin t).frtEntry = s.frtEntry := rfl

@[simp] theorem State.begin_fastLink (s : State) (t : Nat) (l) : (s.begin t).fastLink l = s.fastLink l := rfl

@[simp] theorem State.begin_img (s : State) (t : Nat) (off n) : (s.begin t).img off n = s.img off n := rfl

@[simp] theorem State.begin_soFunc (s : State) (t : Nat) (k) : (s.begin t).soFunc k = s.soFunc k := rfl

@[simp] theorem State.begin_siFunc (s : State) (t : Nat) (k) : (s.begin t).siFunc k = s.siFunc k := rfl

@[simp] theorem State.begin_si (s : State) (t : Nat) (k) : (s.begin t).si k = s.si k := rfl

@[simp] theorem State.begin_unack (s : State) (t : Nat) (c) : (s.begin t).unack c = s.unack c := rfl

@[simp] theorem State.begin_safLevel (s : State) (t : Nat) : (s.begin t).safLevel = s.safLevel := rfl

@[simp] theorem State.begin_resetOk (s : State) (t : Nat) : (s.begin t).resetOk = s.resetOk := rfl

@[simp] theorem State.begin_trip4 (s : State) (t : Nat) : (s.begin t).trip4 = s.trip4 := rfl

@[simp] theorem State.begin_causeWord (s : State) (t : Nat) : (s.begin t).causeWord = s.causeWord := rfl

@[simp] theorem State.begin_so (s : State) (t : Nat) (k) : (s.begin t).so k = s.so k := rfl

@[simp] theorem State.begin_soWanted (s : State) (t : Nat) (k) : (s.begin t).soWanted k = s.soWanted k := rfl

@[simp] theorem State.begin_localCause (s : State) (t : Nat) : (s.begin t).localCause = s.localCause := rfl

@[simp] theorem State.begin_tripWanted (s : State) (t : Nat) : (s.begin t).tripWanted = s.tripWanted := rfl

@[simp] theorem State.begin_causesNow (s : State) (t : Nat) : (s.begin t).causesNow = s.causesNow := rfl

@[simp] theorem State.begin_outstat (s : State) (t : Nat) : (s.begin t).outstat = s.outstat := rfl

@[simp] theorem State.begin_safStat (s : State) (t : Nat) : (s.begin t).safStat = s.safStat := rfl

@[simp] theorem State.begin_instat (s : State) (t : Nat) : (s.begin t).instat = s.instat := rfl

@[simp] theorem State.begin_pendCrc (s : State) (t : Nat) : (s.begin t).pendCrc = s.pendCrc := rfl

@[simp] theorem State.begin_lanesRun (s : State) (t : Nat) : (s.begin t).lanesRun = s.lanesRun := rfl

@[simp] theorem State.begin_minPulse (s : State) (t : Nat) : (s.begin t).minPulse = s.minPulse := rfl

@[simp] theorem State.begin_nextLoad (s : State) (t : Nat) (x) : (s.begin t).nextLoad x = s.nextLoad x := rfl

@[simp] theorem State.begin_pwmSpans (s : State) (t : Nat) (a i lo hi) : (s.begin t).pwmSpans a i lo hi = s.pwmSpans a i lo hi := rfl

@[simp] theorem State.begin_bench (s : State) (t : Nat) : (s.begin t).bench = s.bench := rfl

@[simp] theorem State.begin_fixedArm (s : State) (t : Nat) (a) : (s.begin t).fixedArm a = s.fixedArm a := rfl

@[simp] theorem State.begin_fixSpans (s : State) (t : Nat) (x lo hi) : (s.begin t).fixSpans x lo hi = s.fixSpans x lo hi := rfl

@[simp] theorem State.begin_restWin (s : State) (t : Nat) : (s.begin t).restWin = s.restWin := rfl

@[simp] theorem State.begin_restPar (s : State) (t : Nat) : (s.begin t).restPar = s.restPar := rfl

@[simp] theorem State.begin_tRefresh (s : State) (t : Nat) : (s.begin t).tRefresh = s.tRefresh := rfl

@[simp] theorem State.begin_tBsMax (s : State) (t : Nat) : (s.begin t).tBsMax = s.tBsMax := rfl

@[simp] theorem State.begin_bsAt (s : State) (t : Nat) (i t') : (s.begin t).bsAt i t' = s.bsAt i t' := rfl

@[simp] theorem State.begin_bsOrigin (s : State) (t : Nat) (i t') : (s.begin t).bsOrigin i t' = s.bsOrigin i t' := rfl

@[simp] theorem State.begin_cellSpans (s : State) (t : Nat) (i lo hi) : (s.begin t).cellSpans i lo hi = s.cellSpans i lo hi := rfl

@[simp] theorem State.begin_deadTime (s : State) (t : Nat) (i) : (s.begin t).deadTime i = s.deadTime i := rfl

@[simp] theorem State.begin_firstEntry (s : State) (t : Nat) (i f) : (s.begin t).firstEntry i f = s.firstEntry i f := rfl

@[simp] theorem State.begin_running (s : State) (t : Nat) : (s.begin t).running = s.running := rfl

@[simp] theorem State.begin_modulates (s : State) (t : Nat) (a) : (s.begin t).modulates a = s.modulates a := rfl

@[simp] theorem State.begin_sysIdent (s : State) (t : Nat) : (s.begin t).sysIdent = s.sysIdent := rfl

@[simp] theorem State.begin_recStatus (s : State) (t : Nat) : (s.begin t).recStatus = s.recStatus := rfl

@[simp] theorem State.begin_window (s : State) (t : Nat) (m addr len) : (s.begin t).window m addr len = s.window m addr len := rfl

@[simp] theorem State.begin_mayWriteSram (s : State) (t : Nat) (m off len) : (s.begin t).mayWriteSram m off len = s.mayWriteSram m off len := rfl

@[simp] theorem State.begin_writeWindow (s : State) (t : Nat) (m addr len) : (s.begin t).writeWindow m addr len = s.writeWindow m addr len := rfl

@[simp] theorem State.begin_acOpen (s : State) (t : Nat) : (s.begin t).acOpen = s.acOpen := rfl

@[simp] theorem State.begin_acClosed (s : State) (t : Nat) : (s.begin t).acClosed = s.acClosed := rfl

@[simp] theorem State.begin_nCfg (s : State) (t : Nat) (n) : (s.begin t).nCfg n = s.nCfg n := rfl

@[simp] theorem State.begin_tInt (s : State) (t : Nat) (a) : (s.begin t).tInt a = s.tInt a := rfl

@[simp] theorem State.begin_mayPrecharge (s : State) (t : Nat) : (s.begin t).mayPrecharge = s.mayPrecharge := rfl

@[simp] theorem State.begin_runs (s : State) (t : Nat) (l) : (s.begin t).runs l = s.runs l := rfl

@[simp] theorem State.begin_canStart (s : State) (t : Nat) : (s.begin t).canStart = s.canStart := rfl

@[simp] theorem State.begin_bistHas (s : State) (t : Nat) (u) : (s.begin t).bistHas u = s.bistHas u := rfl

@[simp] theorem State.begin_absentReg (s : State) (t : Nat) (r) : (s.begin t).absentReg r = s.absentReg r := rfl

@[simp] theorem State.begin_svcRw (s : State) (t : Nat) : (s.begin t).svcRw = s.svcRw := rfl

@[simp] theorem State.begin_bindEn (s : State) (t : Nat) (c) : (s.begin t).bindEn c = s.bindEn c := rfl

@[simp] theorem State.begin_bindDst (s : State) (t : Nat) (c) : (s.begin t).bindDst c = s.bindDst c := rfl

@[simp] theorem State.begin_bindSrc (s : State) (t : Nat) (c) : (s.begin t).bindSrc c = s.bindSrc c := rfl

@[simp] theorem State.begin_mayAccess (s : State) (t : Nat) (m write r) : (s.begin t).mayAccess m write r = s.mayAccess m write r := rfl

@[simp] theorem State.begin_crcSt (s : State) (t : Nat) (u) : (s.begin t).crcSt u = s.crcSt u := rfl

@[simp] theorem State.begin_crcWidth (s : State) (t : Nat) (u) : (s.begin t).crcWidth u = s.crcWidth u := rfl

@[simp] theorem State.begin_crcVal (s : State) (t : Nat) (u) : (s.begin t).crcVal u = s.crcVal u := rfl

@[simp] theorem State.begin_crcRes (s : State) (t : Nat) (u) : (s.begin t).crcRes u = s.crcRes u := rfl

@[simp] theorem State.begin_hostRing (s : State) (t : Nat) : (s.begin t).hostRing = s.hostRing := rfl

@[simp] theorem State.begin_recDest (s : State) (t : Nat) : (s.begin t).recDest = s.recDest := rfl

@[simp] theorem State.begin_domAt (s : State) (t : Nat) (d c) : (s.begin t).domAt d c = s.domAt d c := rfl

@[simp] theorem State.begin_deltaAt (s : State) (t : Nat) (c) : (s.begin t).deltaAt c = s.deltaAt c := rfl

@[simp] theorem State.begin_stAt (s : State) (t : Nat) (c) : (s.begin t).stAt c = s.stAt c := rfl

@[simp] theorem State.begin_shortOf (s : State) (t : Nat) (t') : (s.begin t).shortOf t' = s.shortOf t' := rfl

@[simp] theorem State.begin_path (s : State) (t : Nat) (q) : (s.begin t).path q = s.path q := rfl

@[simp] theorem State.begin_chan (s : State) (t : Nat) (c) : (s.begin t).chan c = s.chan c := rfl

@[simp] theorem State.begin_ringRoom (s : State) (t : Nat) : (s.begin t).ringRoom = s.ringRoom := rfl

@[simp] theorem State.begin_replyRoom (s : State) (t : Nat) (r) : (s.begin t).replyRoom r = s.replyRoom r := rfl

@[simp] theorem State.begin_streaming (s : State) (t : Nat) : (s.begin t).streaming = s.streaming := rfl

@[simp] theorem State.begin_ringBytes (s : State) (t : Nat) : (s.begin t).ringBytes = s.ringBytes := rfl

@[simp] theorem State.begin_ringUsed (s : State) (t : Nat) : (s.begin t).ringUsed = s.ringUsed := rfl

@[simp] theorem State.begin_usedAfter (s : State) (t : Nat) (n) : (s.begin t).usedAfter n = s.usedAfter n := rfl

@[simp] theorem State.begin_ctlFits (s : State) (t : Nat) (n) : (s.begin t).ctlFits n = s.ctlFits n := rfl

@[simp] theorem State.begin_trg (s : State) (t : Nat) (u) : (s.begin t).trg u = s.trg u := rfl

@[simp] theorem State.begin_nch (s : State) (t : Nat) (n) : (s.begin t).nch n = s.nch n := rfl

@[simp] theorem State.begin_inp (s : State) (t : Nat) (i) : (s.begin t).inp i = s.inp i := rfl

@[simp] theorem State.begin_lenUses (s : State) (t : Nat) (n) : (s.begin t).lenUses n = s.lenUses n := rfl

@[simp] theorem State.begin_readInput (s : State) (t : Nat) (i) : (s.begin t).readInput i = s.readInput i := rfl

@[simp] theorem State.begin_sheafConflict (s : State) (t : Nat) (n x) : (s.begin t).sheafConflict n x = s.sheafConflict n x := rfl

@[simp] theorem State.begin_sheafNear (s : State) (t : Nat) (n b) : (s.begin t).sheafNear n b = s.sheafNear n b := rfl

@[simp] theorem State.begin_nextPrep (s : State) (t : Nat) : (s.begin t).nextPrep = s.nextPrep := rfl

@[simp] theorem State.begin_openLinks (s : State) (t : Nat) (x) : (s.begin t).openLinks x = s.openLinks x := rfl

@[simp] theorem State.begin_sdata (s : State) (t : Nat) (c n) : (s.begin t).sdata c n = s.sdata c n := rfl

@[simp] theorem State.begin_mixed (s : State) (t : Nat) : (s.begin t).mixed = s.mixed := rfl

@[simp] theorem State.begin_mapOk (s : State) (t : Nat) : (s.begin t).mapOk = s.mapOk := rfl

@[simp] theorem State.begin_ovrWanted (s : State) (t : Nat) (i) : (s.begin t).ovrWanted i = s.ovrWanted i := rfl

@[simp] theorem State.begin_madLen (s : State) (t : Nat) : (s.begin t).madLen = s.madLen := rfl

@[simp] theorem State.begin_mres (s : State) (t : Nat) (c) : (s.begin t).mres c = s.mres c := rfl

@[simp] theorem State.begin_injBusy (s : State) (t : Nat) : (s.begin t).injBusy = s.injBusy := rfl

@[simp] theorem State.begin_settles (s : State) (t : Nat) (ch gain) : (s.begin t).settles ch gain = s.settles ch gain := rfl

@[simp] theorem State.begin_madValue (s : State) (t : Nat) (gain raw) : (s.begin t).madValue gain raw = s.madValue gain raw := rfl

@[simp] theorem State.begin_tieVecs (s : State) (t : Nat) : (s.begin t).tieVecs = s.tieVecs := rfl

@[simp] theorem State.begin_asked (s : State) (t : Nat) (op) : (s.begin t).asked op = s.asked op := rfl

@[simp] theorem State.begin_pStart (s : State) (t : Nat) : (s.begin t).pStart = s.pStart := rfl

@[simp] theorem State.begin_estOmega (s : State) (t : Nat) (vs) : (s.begin t).estOmega vs = s.estOmega vs := rfl

@[simp] theorem State.begin_recovers (s : State) (t : Nat) (p) : (s.begin t).recovers p = s.recovers p := rfl

@[simp] theorem State.begin_vPre (s : State) (t : Nat) : (s.begin t).vPre = s.vPre := rfl

@[simp] theorem State.begin_hilvl (s : State) (t : Nat) : (s.begin t).hilvl = s.hilvl := rfl

@[simp] theorem State.begin_freeSpare (s : State) (t : Nat) (kind) : (s.begin t).freeSpare kind = s.freeSpare kind := rfl

@[simp] theorem State.begin_bistPre (s : State) (t : Nat) (u) : (s.begin t).bistPre u = s.bistPre u := rfl

@[simp] theorem State.begin_bistFailed (s : State) (t : Nat) : (s.begin t).bistFailed = s.bistFailed := rfl

@[simp] theorem State.begin_fwUp (s : State) (t : Nat) : (s.begin t).fwUp = s.fwUp := rfl

@[simp] theorem State.begin_serves (s : State) (t : Nat) (q) : (s.begin t).serves q = s.serves q := rfl

@[simp] theorem State.begin_mayUse (s : State) (t : Nat) (m op) : (s.begin t).mayUse m op = s.mayUse m op := rfl

@[simp] theorem State.begin_duplicate (s : State) (t : Nat) (h) : (s.begin t).duplicate h = s.duplicate h := rfl

@[simp] theorem State.begin_mailWaits (s : State) (t : Nat) (c) : (s.begin t).mailWaits c = s.mailWaits c := rfl

@[simp] theorem State.begin_framePeriod (s : State) (t : Nat) : (s.begin t).framePeriod = s.framePeriod := rfl

@[simp] theorem State.begin_awn (s : State) (t : Nat) : (s.begin t).awn = s.awn := rfl

@[simp] theorem State.begin_lenStat (s : State) (t : Nat) : (s.begin t).lenStat = s.lenStat := rfl

@[simp] theorem State.begin_frtActive (s : State) (t : Nat) : (s.begin t).frtActive = s.frtActive := rfl

@[simp] theorem State.begin_clkN (s : State) (t : Nat) (frac) : (s.begin t).clkN frac = s.clkN frac := rfl

@[simp] theorem State.begin_outsOk (s : State) (t : Nat) (n) : (s.begin t).outsOk n = s.outsOk n := rfl

@[simp] theorem State.begin_anyBand (s : State) (t : Nat) : (s.begin t).anyBand = s.anyBand := rfl

@[simp] theorem State.begin_bandFor (s : State) (t : Nat) (n) : (s.begin t).bandFor n = s.bandFor n := rfl

@[simp] theorem State.begin_mark (s : State) (t : Nat) (dram w) : (s.begin t).mark dram w = s.mark dram w := rfl

@[simp] theorem State.begin_wordBytes (s : State) (t : Nat) (dram w) : (s.begin t).wordBytes dram w = s.wordBytes dram w := rfl

@[simp] theorem State.begin_retCnt (s : State) (t : Nat) : (s.begin t).retCnt = s.retCnt := rfl

@[simp] theorem State.begin_isRetired (s : State) (t : Nat) (kind idx) : (s.begin t).isRetired kind idx = s.isRetired kind idx := rfl

@[simp] theorem State.begin_frameOf (s : State) (t : Nat) (t') : (s.begin t).frameOf t' = s.frameOf t' := rfl

@[simp] theorem State.begin_nextEpoch (s : State) (t : Nat) : (s.begin t).nextEpoch = s.nextEpoch := rfl

@[simp] theorem State.begin_restsAt (s : State) (t : Nat) (i t') : (s.begin t).restsAt i t' = s.restsAt i t' := rfl

@[simp] theorem State.begin_restsOver (s : State) (t : Nat) (i w0 w1) : (s.begin t).restsOver i w0 w1 = s.restsOver i w0 w1 := rfl

@[simp] theorem State.begin_dutyAt (s : State) (t : Nat) (a t') : (s.begin t).dutyAt a t' = s.dutyAt a t' := rfl

@[simp] theorem State.begin_dirFor (s : State) (t : Nat) (a n) : (s.begin t).dirFor a n = s.dirFor a n := rfl

end Sys2Proof.Machine
end

