-- ==== Sys2Proof/WellFormed.lean ====
section
/-!
DEFINITION. Well-formed commands: every operand fits the field, the index range or the register bit that the manual gives it.
-/
namespace Sys2Proof

/-- A header comes over its path itself or over that path's command mailbox (R383). -/
def Hdr.ok (h : Hdr) : Bool :=
  match h.via, h.path with
  | .port, _ => true
  | .mailbox c, .pcie => decide (c = 24)
  | .mailbox c, .portA => decide (c = 26)
  | .mailbox c, .portB => decide (c = 28)
  | .mailbox _, .service => false

/-- A host operation whose fields fit its payload (R376); in a mailbox the packet has at most 64 bytes (R383). -/
def rowOk (h : Hdr) (o : Machine.HostOp) : Bool :=
  h.ok && o.fits && (decide (h.via = .port) || decide (o.payload.length ≤ 44))

/-- An identity that is assigned (R372). -/
def masterOk (m : Master) : Bool := decide (m.toNat ≤ 13)

/-- Well-formedness of a command. -/
def Instr.wf : Instr → Bool
  | .ping _ h => rowOk h .ping
  | .sysStatus _ h => rowOk h .sysStatus
  | .sysIdent _ h => rowOk h .sysIdent
  | .eventSub _ h mask => rowOk h (.eventSub mask)
  | .pathReset _ h => rowOk h .pathReset
  | .regRead _ h addr n => rowOk h (.regRead addr n)
  | .regWrite _ h addr ws => rowOk h (.regWrite addr ws)
  | .regRmw _ h addr mask value => rowOk h (.regRmw addr mask value)
  | .memRead _ h addr len => rowOk h (.memRead addr len)
  | .memWrite _ h addr data => rowOk h (.memWrite addr data)
  | .memFill _ h addr len pat => rowOk h (.memFill addr len pat)
  | .memFillDone _ => true
  | .precharge _ h => rowOk h .precharge
  | .start _ h => rowOk h .start
  | .blackStart _ h => rowOk h .blackStart
  | .island _ h => rowOk h .island
  | .resyncStart _ h => rowOk h (.resync false)
  | .resyncCancel _ h => rowOk h (.resync true)
  | .stop _ h => rowOk h .stop
  | .tieStatus _ h closed ac time => rowOk h (.tieStatus closed ac time)
  | .resetTrip _ h service => rowOk h (.resetTrip service)
  | .serviceEnter _ h => rowOk h .serviceEnter
  | .serviceLeave _ h => rowOk h .serviceLeave
  | .sheafOpen _ h => rowOk h .sheafOpen
  | .sheafAdd _ h n es => rowOk h (.sheafAdd n es)
  | .sheafCommit _ h n mode time => rowOk h (.sheafCommit n mode time)
  | .sheafDiscard _ h n => rowOk h (.sheafDiscard n)
  | .sheafTimeout _ n => decide (n < 8)
  | .prepareDeadline _ n => decide (n < 8)
  | .sheafApply _ n => decide (n < 8)
  | .bypass _ h cell => rowOk h (.cellCmd cell 1)
  | .restore _ h cell => rowOk h (.cellCmd cell 2)
  | .release _ h cell => rowOk h (.cellCmd cell 3)
  | .cellTxn _ h link slot op addr data => rowOk h (.cellTxn link slot op addr data)
  | .linkBlock _ h link all => rowOk h (.linkBlock link all)
  | .recStatus _ h => rowOk h .recStatus
  | .safConfigWrite _ h img => rowOk h (.safConfigWrite img)
  | .safConfigConfirm _ h lane crc => rowOk h (.safConfigConfirm lane crc)
  | .safStatus _ h => rowOk h .safStatus
  | .safReset _ h => rowOk h .safReset
  | .pairClaim _ h => rowOk h .pairClaim
  | .pairSwitchover _ h => rowOk h .pairSwitchover
  | .pairResync _ h => rowOk h .pairResync
  | .timeGet _ h => rowOk h .timeGet
  | .timeStepAbs _ h sec ns frac => rowOk h (.timeStepAbs sec ns frac)
  | .timeStepRel _ h amount => rowOk h (.timeStepRel amount)
  | .timeStepToRef _ h => rowOk h .timeStepToRef
  | .bistRun _ h mask => rowOk h (.bistRun mask)
  | .bistComplete _ res => res.all (fun r => decide (r.unit < 18))
  | .bistResult _ h mask => rowOk h (.bistResult mask)
  | .faultAck _ h mask => rowOk h (.faultAck mask)
  | .faultLogRead _ h first count => rowOk h (.faultLogRead first count)
  | .factoryEnter _ h => rowOk h .factoryEnter
  | .faultInject _ h code addr => rowOk h (.faultInject code addr)
  | .memInject _ h addr a b => rowOk h (.memInject addr a b)
  | .linkInject _ h link cause count up => rowOk h (.linkInject link cause count up)
  | .injClear _ h => rowOk h .injClear
  | .factoryLeave _ h => rowOk h .factoryLeave
  | .pcieMemRead _ bar _ _ => decide (bar = 0) || decide (bar = 2) || decide (bar = 4)
  | .pcieMemWrite _ bar _ _ => decide (bar = 0) || decide (bar = 2) || decide (bar = 4)
  | .arpRequest _ p _ => decide (p < 3)
  | .icmpEcho _ p _ _ => decide (p < 3)
  | .reassemblyTimeout _ p _ => decide (p < 3)
  | .cqTailWrite _ m _ _ => masterOk m
  | .replyRingRoom _ m _ => masterOk m
  | .replyCacheExpiry _ _ => true
  | .event _ _ => true
  | .pcieReset _ => true
  | .portLinkDown _ p => decide (p < 3)
  | .coreReset _ m _ => decide (m.toNat ≤ 6)
  | .mbxSend _ m c _ => masterOk m && decide (c < 32)
  | .mbxAck _ m c _ => masterOk m && decide (c < 32)
  | .mbxDbellClear _ m _ => masterOk m
  | .mbxNoteClear _ m _ => masterOk m
  | .mbxLock _ m v => masterOk m && v.getLsbD 0
  | .mbCross _ a b => decide (a < 32) && decide (b < 32)
  | .crcCfgWrite _ m u _ => masterOk m && decide (u < 4)
  | .crcDatab _ m u _ => masterOk m && decide (u < 4)
  | .crcDataw _ m u _ => masterOk m && decide (u < 4)
  | .crcDatad _ m u _ => masterOk m && decide (u < 4)
  | .crcValhWrite _ m u _ => masterOk m && decide (u < 4)
  | .crcVallWrite _ m u _ => masterOk m && decide (u < 4)
  | .crcVallRead _ m u => masterOk m && decide (u < 4)
  | .crcAlive _ m u _ => masterOk m && decide (u < 4)
  | .crcClaim _ m u v => masterOk m && decide (u < 4) && v.getLsbD 4
  | .crcRelease _ m u v => masterOk m && decide (u < 4) && !v.getLsbD 4
  | .memRetire _ m _ => masterOk m
  | .retirementCopyDone _ => true
  | .gleanWord _ _ => true
  | .hardwareFillDone _ => true
  | .sampleSnapshot _ m priv n => masterOk m && decide (n < (if priv then 6 else 18))
  | .resultSnapshot _ m _ c => masterOk m && decide (c < 16)
  | .nowSnapshot _ m => masterOk m
  | .logSnapshot _ m j => masterOk m && decide (j < 256)
  | .registerWrite _ m addr _ => masterOk m && decide (addr < 2 ^ 32)
  | .lenFbWrite _ m _ => masterOk m
  | .bankOpen _ m v => masterOk m && v.getLsbD 4
  | .bankClose _ m v => masterOk m && !v.getLsbD 4
  | .tcompClear _ m v => masterOk m && v.getLsbD 0
  | .defClear _ m v => masterOk m && v.getLsbD 0
  | .swClear _ m v => masterOk m && v.getLsbD 1
  | .qlimClear _ m v => masterOk m && v.getLsbD 0
  | .rejClear _ m v => masterOk m && v.getLsbD 1
  | .chaffClear _ m v => masterOk m && v.getLsbD 0
  | .otherClear _ m v => masterOk m && v.getLsbD 1
  | .gapClear _ m v => masterOk m && v.getLsbD 0
  | .markClear _ m v => masterOk m && v.getLsbD 1
  | .shfCountClear _ m v => masterOk m && v.getLsbD 0
  | .cklostClear _ m v => masterOk m && v.getLsbD 0
  | .takeClear _ m v => masterOk m && v.getLsbD 1
  | .sizeClear _ m v => masterOk m && v.getLsbD 2
  | .memCountClear _ m v => masterOk m && v.getLsbD 0
  | .safCountClear _ m v => masterOk m && v.getLsbD 0
  | .netCountClear _ m v => masterOk m && v.getLsbD 0
  | .violClear _ m v => masterOk m && v.getLsbD 0
  | .injectionGo _ m v => masterOk m && v.getLsbD 31
  | .sf1Req _ m v => masterOk m && v.getLsbD 0
  | .trial _ m v => masterOk m && v.getLsbD 1
  | .commit _ m v => masterOk m && v.getLsbD 2
  | .prog _ m v => masterOk m && v.getLsbD 3
  | .programmingDone _ _ => true
  | .linkRelease _ m l v => masterOk m && decide (l < 128) && v.getLsbD 2
  | .retrain _ m l v => masterOk m && decide (l < 128) && v.getLsbD 3
  | .linkEnableWrite _ m l _ => masterOk m && decide (l < 128)
  | .hrdWrite _ m _ => masterOk m
  | .sequenceStart _ m v => masterOk m && v.getLsbD 0
  | .sequenceStop _ m v => masterOk m && !v.getLsbD 0
  | .injectedRequest _ m v => masterOk m && v.getLsbD 31
  | .calibrationRequest _ m v => masterOk m && v.getLsbD 31
  | .syncCrossing _ => true
  | .timerMode _ => true
  | .timerTick _ => true
  | .conversionResult _ _ _ => true
  | .channelStart _ m _ => masterOk m
  | .channelStop _ m _ => masterOk m
  | .privEngineStart _ m v => masterOk m && v.getLsbD 0
  | .privEngineStop _ m v => masterOk m && !v.getLsbD 0
  | .privSampleSet _ bits => decide (bits.length = 6)
  | .normalSample _ n _ => decide (n < 18)
  | .inputStuck _ i => decide (i < 24)
  | .inputRecovered _ i => decide (i < 24)
  | .frameBoundary _ _ => true
  | .sortComplete _ a => decide (a < 6)
  | .innerCycle _ _ => true
  | .inputStale _ k => decide (k < 15)
  | .publication _ => true
  | .outerBoundary _ _ => true
  | .resyncPermitOn _ => true
  | .closureDetected _ => true
  | .resyncTimeout _ => true
  | .episodeEnd _ => true
  | .peakStageEnd _ => true
  | .limitBudgetExhausted _ => true
  | .peakRearm _ => true
  | .stopTimeout _ => true
  | .dcGuardEnd _ => true
  | .dwellEnd _ => true
  | .blendEnd _ => true
  | .burstForcedExit _ => true
  | .burstAvail _ => true
  | .energyDeviation _ => true
  | .energyReady _ => true
  | .staleExcl _ i => decide (i < 3072)
  | .restDue _ i => decide (i < 3072)
  | .forcedRest _ i => decide (i < 3072)
  | .restEnd _ i => decide (i < 3072)
  | .deficitEpisodeEnd _ => true
  | .fixedRest _ i => decide (i < 3072)
  | .downlinkFrame _ l _ => decide (l < 128)
  | .loadBoundary _ a => decide (a < 12 + 3072)
  | .uplinkFrame t l _ sof _ _ => decide (l < 128) && decide (sof ≤ t)
  | .txnResponse _ l tid result data => decide (l < 128) && decide (tid < 16) && decide (result < 16) && decide (data.length ≤ 64)
  | .txnTimeout _ l tid => decide (l < 128) && decide (tid < 16)
  | .linkTrain _ l => decide (l < 128)
  | .trainFail _ l => decide (l < 128)
  | .identityRetry _ l => decide (l < 128)
  | .codeErrors _ l => decide (l < 128)
  | .lossOfLight _ l => decide (l < 128)
  | .reenrol _ l cell => decide (l < 128) && decide (cell.getD 0 < 24)
  | .laneMargin _ l _ _ => decide (l < 128)
  | .armOvercurrent _ a _ => decide (a < 6)
  | .armDeblock _ a => decide (a < 6)
  | .overcurrentPersist _ a => decide (a < 6)
  | .bypassFail _ i => decide (i < 3072)
  | .unitClose _ => true
  | .hostCopy _ _ => true
  | .gap _ => true
  | .timeRecord _ => true
  | .trigInEdge _ n _ => decide (n < 4)
  | .xtrigAssert _ => true
  | .holdOffEnd _ u => decide (u < 4)
  | .pulseEnd _ o => decide (o < 3)
  | .beatReceived t _ rxAt => decide (rxAt ≤ t)
  | .pairLinkDown _ => true
  | .checkpointSegment _ _ _ => true
  | .takeover _ => true
  | .handoverClaim _ => true
  | .handoverAbort _ => true
  | .laneCycle _ io => decide (io.chA.length = 5) && decide (io.chB.length = 5)
  | .resetInput _ n => decide (1 ≤ n) && decide (n ≤ 8)
  | .darkTest _ n _ => decide (1 ≤ n) && decide (n ≤ 4)
  | .darkTestResult _ n _ _ => decide (1 ≤ n) && decide (n ≤ 4)
  | .accessDelay _ => true
  | .telegramSend _ => true
  | .telegramCopy _ p _ udp _ => decide (p < 2) && decide (udp < 65536)
  | .windowClose _ alive => decide (alive < 65536)
  | .telegramTimeout _ => true
  | .configTimeout _ => true
  | .ioSupplyLoss _ => true
  | .outputCurrentLimit _ n => decide (1 ≤ n) && decide (n ≤ 4)
  | .ocxoFail _ => true
  | .syncMsg _ d _ => decide (d < 2)
  | .followUp _ d seq _ => decide (d < 2) && decide (seq < 65536)
  | .announce _ p _ => decide (p < 2)
  | .pdelayReq _ p seq _ => decide (p < 2) && decide (seq < 65536)
  | .pdelayResp _ p _ _ _ _ => decide (p < 2)
  | .syncTimeout _ d => decide (d < 2)
  | .revert _ => true
  | .holdoverLimit _ => true
  | .timeSet _ => true
  | .timOffsetWrite _ m addr _ => masterOk m && decide (addr / 65536 = 4)
  | .pairTime _ => true
  | .ppsInEdge _ => true
  | .ppsinLoss _ => true
  | .ppsOut _ => true
  | .syspllLoss _ => true
  | .nApply _ m _ => masterOk m
  | .spllEnable _ m _ => masterOk m
  | .stationPllLock _ => true
  | .outputRelease _ => true
  | .spllUnlock _ => true
  | .refLoss _ => true
  | .legGood _ _ _ => true
  | .legLost _ _ _ => true
  | .legOv _ _ _ => true
  | .holdupLow _ => true
  | .powerGoodLost _ => true
  | .storeFull _ => true
  | .resetRelease _ _ _ => true
  | .bootVerified _ _ _ => true
  | .initEnd _ => true
  | .tempSample _ _ _ => true
  | .undefinedOpcode _ _ _ => true
  | .timeStep => true
  | .filterStart => true
  | .deblock => true
  | .frtExit => true
  | .frtTimeout => true
  | .autoIslanding => true
  | .blackstartDone => true
  | .blackstartFail => true
  | .firstEdgeFrame => true

end Sys2Proof
end

