-- ==== Sys2Proof/Laws/PerInstr.lean ====
section
/-!
SUPPORT. What holds of every command as syntax, one lemma per constructor.
-/
set_option Elab.async false

namespace Sys2Proof.Laws.Stamped

open Sys2Proof Sys2Proof.Machine

/-- A command that is a packet carries the packet's time and is well formed exactly when its header and its operation are; a
command that is a register access carries the access's time, and well formed it names an assigned identity. -/
def Statement (i : Instr) : Prop :=
  (∀ x, hostOf i = some x → stampOf i = some x.1 ∧ i.wf = rowOk x.2.1 x.2.2)
    ∧ (∀ x, regRowOf i = some x → stampOf i = some x.1 ∧ (i.wf = true → masterOk x.2.1 = true))
    ∧ (∀ x, readRowOf i = some x → stampOf i = some x.1 ∧ (i.wf = true → masterOk x.2.1 = true))

/-- A command that is neither a packet nor a register access. -/
theorem ofNone {i : Instr} (h : hostOf i = none) (r : regRowOf i = none) (d : readRowOf i = none) : Statement i := by
  simp [Statement, h, r, d]

/-- A packet. -/
theorem ofHost {i : Instr} {x : Nat × Hdr × HostOp} (h : hostOf i = some x) (r : regRowOf i = none) (d : readRowOf i = none)
    (t : stampOf i = some x.1) (w : i.wf = rowOk x.2.1 x.2.2) : Statement i := by
  simp [Statement, h, r, d, t, w]

/-- A register write. -/
theorem ofWrite {i : Instr} {x : Nat × Master × Nat × Word} (h : hostOf i = none) (r : regRowOf i = some x)
    (d : readRowOf i = none) (t : stampOf i = some x.1) (w : i.wf = true → masterOk x.2.1 = true) : Statement i := by
  simpa [Statement, h, r, d, t] using w

/-- A register read. -/
theorem ofRead {i : Instr} {x : Nat × Master × Nat} (h : hostOf i = none) (r : regRowOf i = none)
    (d : readRowOf i = some x) (t : stampOf i = some x.1) (w : i.wf = true → masterOk x.2.1 = true) : Statement i := by
  simpa [Statement, h, r, d, t] using w

theorem ping (x0 x1) : Statement (.ping x0 x1) := ofHost rfl rfl rfl rfl rfl
theorem sysStatus (x0 x1) : Statement (.sysStatus x0 x1) := ofHost rfl rfl rfl rfl rfl
theorem sysIdent (x0 x1) : Statement (.sysIdent x0 x1) := ofHost rfl rfl rfl rfl rfl
theorem eventSub (x0 x1 x2) : Statement (.eventSub x0 x1 x2) := ofHost rfl rfl rfl rfl rfl
theorem pathReset (x0 x1) : Statement (.pathReset x0 x1) := ofHost rfl rfl rfl rfl rfl
theorem regRead (x0 x1 x2 x3) : Statement (.regRead x0 x1 x2 x3) := ofHost rfl rfl rfl rfl rfl
theorem regWrite (x0 x1 x2 x3) : Statement (.regWrite x0 x1 x2 x3) := ofHost rfl rfl rfl rfl rfl
theorem regRmw (x0 x1 x2 x3 x4) : Statement (.regRmw x0 x1 x2 x3 x4) := ofHost rfl rfl rfl rfl rfl
theorem memRead (x0 x1 x2 x3) : Statement (.memRead x0 x1 x2 x3) := ofHost rfl rfl rfl rfl rfl
theorem memWrite (x0 x1 x2 x3) : Statement (.memWrite x0 x1 x2 x3) := ofHost rfl rfl rfl rfl rfl
theorem memFill (x0 x1 x2 x3 x4) : Statement (.memFill x0 x1 x2 x3 x4) := ofHost rfl rfl rfl rfl rfl
theorem memFillDone (x0) : Statement (.memFillDone x0) := ofNone rfl rfl rfl
theorem precharge (x0 x1) : Statement (.precharge x0 x1) := ofHost rfl rfl rfl rfl rfl
theorem start (x0 x1) : Statement (.start x0 x1) := ofHost rfl rfl rfl rfl rfl
theorem blackStart (x0 x1) : Statement (.blackStart x0 x1) := ofHost rfl rfl rfl rfl rfl
theorem island (x0 x1) : Statement (.island x0 x1) := ofHost rfl rfl rfl rfl rfl
theorem resyncStart (x0 x1) : Statement (.resyncStart x0 x1) := ofHost rfl rfl rfl rfl rfl
theorem resyncCancel (x0 x1) : Statement (.resyncCancel x0 x1) := ofHost rfl rfl rfl rfl rfl
theorem stop (x0 x1) : Statement (.stop x0 x1) := ofHost rfl rfl rfl rfl rfl
theorem tieStatus (x0 x1 x2 x3 x4) : Statement (.tieStatus x0 x1 x2 x3 x4) := ofHost rfl rfl rfl rfl rfl
theorem resetTrip (x0 x1 x2) : Statement (.resetTrip x0 x1 x2) := ofHost rfl rfl rfl rfl rfl
theorem serviceEnter (x0 x1) : Statement (.serviceEnter x0 x1) := ofHost rfl rfl rfl rfl rfl
theorem serviceLeave (x0 x1) : Statement (.serviceLeave x0 x1) := ofHost rfl rfl rfl rfl rfl
theorem sheafOpen (x0 x1) : Statement (.sheafOpen x0 x1) := ofHost rfl rfl rfl rfl rfl
theorem sheafAdd (x0 x1 x2 x3) : Statement (.sheafAdd x0 x1 x2 x3) := ofHost rfl rfl rfl rfl rfl
theorem sheafCommit (x0 x1 x2 x3 x4) : Statement (.sheafCommit x0 x1 x2 x3 x4) := ofHost rfl rfl rfl rfl rfl
theorem sheafDiscard (x0 x1 x2) : Statement (.sheafDiscard x0 x1 x2) := ofHost rfl rfl rfl rfl rfl
theorem sheafTimeout (x0 x1) : Statement (.sheafTimeout x0 x1) := ofNone rfl rfl rfl
theorem prepareDeadline (x0 x1) : Statement (.prepareDeadline x0 x1) := ofNone rfl rfl rfl
theorem sheafApply (x0 x1) : Statement (.sheafApply x0 x1) := ofNone rfl rfl rfl
theorem bypass (x0 x1 x2) : Statement (.bypass x0 x1 x2) := ofHost rfl rfl rfl rfl rfl
theorem restore (x0 x1 x2) : Statement (.restore x0 x1 x2) := ofHost rfl rfl rfl rfl rfl
theorem release (x0 x1 x2) : Statement (.release x0 x1 x2) := ofHost rfl rfl rfl rfl rfl
theorem cellTxn (x0 x1 x2 x3 x4 x5 x6) : Statement (.cellTxn x0 x1 x2 x3 x4 x5 x6) := ofHost rfl rfl rfl rfl rfl
theorem linkBlock (x0 x1 x2 x3) : Statement (.linkBlock x0 x1 x2 x3) := ofHost rfl rfl rfl rfl rfl
theorem recStatus (x0 x1) : Statement (.recStatus x0 x1) := ofHost rfl rfl rfl rfl rfl
theorem safConfigWrite (x0 x1 x2) : Statement (.safConfigWrite x0 x1 x2) := ofHost rfl rfl rfl rfl rfl
theorem safConfigConfirm (x0 x1 x2 x3) : Statement (.safConfigConfirm x0 x1 x2 x3) := ofHost rfl rfl rfl rfl rfl
theorem safStatus (x0 x1) : Statement (.safStatus x0 x1) := ofHost rfl rfl rfl rfl rfl
theorem safReset (x0 x1) : Statement (.safReset x0 x1) := ofHost rfl rfl rfl rfl rfl
theorem pairClaim (x0 x1) : Statement (.pairClaim x0 x1) := ofHost rfl rfl rfl rfl rfl
theorem pairSwitchover (x0 x1) : Statement (.pairSwitchover x0 x1) := ofHost rfl rfl rfl rfl rfl
theorem pairResync (x0 x1) : Statement (.pairResync x0 x1) := ofHost rfl rfl rfl rfl rfl
theorem timeGet (x0 x1) : Statement (.timeGet x0 x1) := ofHost rfl rfl rfl rfl rfl
theorem timeStepAbs (x0 x1 x2 x3 x4) : Statement (.timeStepAbs x0 x1 x2 x3 x4) := ofHost rfl rfl rfl rfl rfl
theorem timeStepRel (x0 x1 x2) : Statement (.timeStepRel x0 x1 x2) := ofHost rfl rfl rfl rfl rfl
theorem timeStepToRef (x0 x1) : Statement (.timeStepToRef x0 x1) := ofHost rfl rfl rfl rfl rfl
theorem bistRun (x0 x1 x2) : Statement (.bistRun x0 x1 x2) := ofHost rfl rfl rfl rfl rfl
theorem bistComplete (x0 x1) : Statement (.bistComplete x0 x1) := ofNone rfl rfl rfl
theorem bistResult (x0 x1 x2) : Statement (.bistResult x0 x1 x2) := ofHost rfl rfl rfl rfl rfl
theorem faultAck (x0 x1 x2) : Statement (.faultAck x0 x1 x2) := ofHost rfl rfl rfl rfl rfl
theorem faultLogRead (x0 x1 x2 x3) : Statement (.faultLogRead x0 x1 x2 x3) := ofHost rfl rfl rfl rfl rfl
theorem factoryEnter (x0 x1) : Statement (.factoryEnter x0 x1) := ofHost rfl rfl rfl rfl rfl
theorem faultInject (x0 x1 x2 x3) : Statement (.faultInject x0 x1 x2 x3) := ofHost rfl rfl rfl rfl rfl
theorem memInject (x0 x1 x2 x3 x4) : Statement (.memInject x0 x1 x2 x3 x4) := ofHost rfl rfl rfl rfl rfl
theorem linkInject (x0 x1 x2 x3 x4 x5) : Statement (.linkInject x0 x1 x2 x3 x4 x5) := ofHost rfl rfl rfl rfl rfl
theorem injClear (x0 x1) : Statement (.injClear x0 x1) := ofHost rfl rfl rfl rfl rfl
theorem factoryLeave (x0 x1) : Statement (.factoryLeave x0 x1) := ofHost rfl rfl rfl rfl rfl
theorem pcieMemRead (x0 x1 x2 x3) : Statement (.pcieMemRead x0 x1 x2 x3) := ofNone rfl rfl rfl
theorem pcieMemWrite (x0 x1 x2 x3) : Statement (.pcieMemWrite x0 x1 x2 x3) := ofNone rfl rfl rfl
theorem arpRequest (x0 x1 x2) : Statement (.arpRequest x0 x1 x2) := ofNone rfl rfl rfl
theorem icmpEcho (x0 x1 x2 x3) : Statement (.icmpEcho x0 x1 x2 x3) := ofNone rfl rfl rfl
theorem reassemblyTimeout (x0 x1 x2) : Statement (.reassemblyTimeout x0 x1 x2) := ofNone rfl rfl rfl
theorem cqTailWrite (x0 x1 x2 x3) : Statement (.cqTailWrite x0 x1 x2 x3) := ofNone rfl rfl rfl
theorem replyRingRoom (x0 x1 x2) : Statement (.replyRingRoom x0 x1 x2) := ofNone rfl rfl rfl
theorem replyCacheExpiry (x0 x1) : Statement (.replyCacheExpiry x0 x1) := ofNone rfl rfl rfl
theorem event (x0 x1) : Statement (.event x0 x1) := ofNone rfl rfl rfl
theorem pcieReset (x0) : Statement (.pcieReset x0) := ofNone rfl rfl rfl
theorem portLinkDown (x0 x1) : Statement (.portLinkDown x0 x1) := ofNone rfl rfl rfl
theorem coreReset (x0 x1 x2) : Statement (.coreReset x0 x1 x2) := ofNone rfl rfl rfl
theorem mbxSend (x0 x1 x2 x3) : Statement (.mbxSend x0 x1 x2 x3) := ofWrite rfl rfl rfl rfl (by simp +contextual [Instr.wf])
theorem mbxAck (x0 x1 x2 x3) : Statement (.mbxAck x0 x1 x2 x3) := ofWrite rfl rfl rfl rfl (by simp +contextual [Instr.wf])
theorem mbxDbellClear (x0 x1 x2) : Statement (.mbxDbellClear x0 x1 x2) := ofWrite rfl rfl rfl rfl (by simp +contextual [Instr.wf])
theorem mbxNoteClear (x0 x1 x2) : Statement (.mbxNoteClear x0 x1 x2) := ofWrite rfl rfl rfl rfl (by simp +contextual [Instr.wf])
theorem mbxLock (x0 x1 x2) : Statement (.mbxLock x0 x1 x2) := ofWrite rfl rfl rfl rfl (by simp +contextual [Instr.wf])
theorem mbCross (x0 x1 x2) : Statement (.mbCross x0 x1 x2) := ofNone rfl rfl rfl
theorem crcCfgWrite (x0 x1 x2 x3) : Statement (.crcCfgWrite x0 x1 x2 x3) := ofWrite rfl rfl rfl rfl (by simp +contextual [Instr.wf])
theorem crcDatab (x0 x1 x2 x3) : Statement (.crcDatab x0 x1 x2 x3) := ofWrite rfl rfl rfl rfl (by simp +contextual [Instr.wf])
theorem crcDataw (x0 x1 x2 x3) : Statement (.crcDataw x0 x1 x2 x3) := ofWrite rfl rfl rfl rfl (by simp +contextual [Instr.wf])
theorem crcDatad (x0 x1 x2 x3) : Statement (.crcDatad x0 x1 x2 x3) := ofWrite rfl rfl rfl rfl (by simp +contextual [Instr.wf])
theorem crcValhWrite (x0 x1 x2 x3) : Statement (.crcValhWrite x0 x1 x2 x3) := ofWrite rfl rfl rfl rfl (by simp +contextual [Instr.wf])
theorem crcVallWrite (x0 x1 x2 x3) : Statement (.crcVallWrite x0 x1 x2 x3) := ofWrite rfl rfl rfl rfl (by simp +contextual [Instr.wf])
theorem crcVallRead (x0 x1 x2) : Statement (.crcVallRead x0 x1 x2) := ofRead rfl rfl rfl rfl (by simp +contextual [Instr.wf])
theorem crcAlive (x0 x1 x2 x3) : Statement (.crcAlive x0 x1 x2 x3) := ofWrite rfl rfl rfl rfl (by simp +contextual [Instr.wf])
theorem crcClaim (x0 x1 x2 x3) : Statement (.crcClaim x0 x1 x2 x3) := ofWrite rfl rfl rfl rfl (by simp +contextual [Instr.wf])
theorem crcRelease (x0 x1 x2 x3) : Statement (.crcRelease x0 x1 x2 x3) := ofWrite rfl rfl rfl rfl (by simp +contextual [Instr.wf])
theorem memRetire (x0 x1 x2) : Statement (.memRetire x0 x1 x2) := ofWrite rfl rfl rfl rfl (by simp +contextual [Instr.wf])
theorem retirementCopyDone (x0) : Statement (.retirementCopyDone x0) := ofNone rfl rfl rfl
theorem gleanWord (x0 x1) : Statement (.gleanWord x0 x1) := ofNone rfl rfl rfl
theorem hardwareFillDone (x0) : Statement (.hardwareFillDone x0) := ofNone rfl rfl rfl
theorem sampleSnapshot (x0 x1 x2 x3) : Statement (.sampleSnapshot x0 x1 x2 x3) := ofRead rfl rfl rfl rfl (by simp +contextual [Instr.wf])
theorem resultSnapshot (x0 x1 x2 x3) : Statement (.resultSnapshot x0 x1 x2 x3) := ofRead rfl rfl rfl rfl (by simp +contextual [Instr.wf])
theorem nowSnapshot (x0 x1) : Statement (.nowSnapshot x0 x1) := ofRead rfl rfl rfl rfl (by simp +contextual [Instr.wf])
theorem logSnapshot (x0 x1 x2) : Statement (.logSnapshot x0 x1 x2) := ofRead rfl rfl rfl rfl (by simp +contextual [Instr.wf])
theorem registerWrite (x0 x1 x2 x3) : Statement (.registerWrite x0 x1 x2 x3) := ofWrite rfl rfl rfl rfl (by simp +contextual [Instr.wf])
theorem lenFbWrite (x0 x1 x2) : Statement (.lenFbWrite x0 x1 x2) := ofWrite rfl rfl rfl rfl (by simp +contextual [Instr.wf])
theorem bankOpen (x0 x1 x2) : Statement (.bankOpen x0 x1 x2) := ofWrite rfl rfl rfl rfl (by simp +contextual [Instr.wf])
theorem bankClose (x0 x1 x2) : Statement (.bankClose x0 x1 x2) := ofWrite rfl rfl rfl rfl (by simp +contextual [Instr.wf])
theorem tcompClear (x0 x1 x2) : Statement (.tcompClear x0 x1 x2) := ofWrite rfl rfl rfl rfl (by simp +contextual [Instr.wf])
theorem defClear (x0 x1 x2) : Statement (.defClear x0 x1 x2) := ofWrite rfl rfl rfl rfl (by simp +contextual [Instr.wf])
theorem swClear (x0 x1 x2) : Statement (.swClear x0 x1 x2) := ofWrite rfl rfl rfl rfl (by simp +contextual [Instr.wf])
theorem qlimClear (x0 x1 x2) : Statement (.qlimClear x0 x1 x2) := ofWrite rfl rfl rfl rfl (by simp +contextual [Instr.wf])
theorem rejClear (x0 x1 x2) : Statement (.rejClear x0 x1 x2) := ofWrite rfl rfl rfl rfl (by simp +contextual [Instr.wf])
theorem chaffClear (x0 x1 x2) : Statement (.chaffClear x0 x1 x2) := ofWrite rfl rfl rfl rfl (by simp +contextual [Instr.wf])
theorem otherClear (x0 x1 x2) : Statement (.otherClear x0 x1 x2) := ofWrite rfl rfl rfl rfl (by simp +contextual [Instr.wf])
theorem gapClear (x0 x1 x2) : Statement (.gapClear x0 x1 x2) := ofWrite rfl rfl rfl rfl (by simp +contextual [Instr.wf])
theorem markClear (x0 x1 x2) : Statement (.markClear x0 x1 x2) := ofWrite rfl rfl rfl rfl (by simp +contextual [Instr.wf])
theorem shfCountClear (x0 x1 x2) : Statement (.shfCountClear x0 x1 x2) := ofWrite rfl rfl rfl rfl (by simp +contextual [Instr.wf])
theorem cklostClear (x0 x1 x2) : Statement (.cklostClear x0 x1 x2) := ofWrite rfl rfl rfl rfl (by simp +contextual [Instr.wf])
theorem takeClear (x0 x1 x2) : Statement (.takeClear x0 x1 x2) := ofWrite rfl rfl rfl rfl (by simp +contextual [Instr.wf])
theorem sizeClear (x0 x1 x2) : Statement (.sizeClear x0 x1 x2) := ofWrite rfl rfl rfl rfl (by simp +contextual [Instr.wf])
theorem memCountClear (x0 x1 x2) : Statement (.memCountClear x0 x1 x2) := ofWrite rfl rfl rfl rfl (by simp +contextual [Instr.wf])
theorem safCountClear (x0 x1 x2) : Statement (.safCountClear x0 x1 x2) := ofWrite rfl rfl rfl rfl (by simp +contextual [Instr.wf])
theorem netCountClear (x0 x1 x2) : Statement (.netCountClear x0 x1 x2) := ofWrite rfl rfl rfl rfl (by simp +contextual [Instr.wf])
theorem violClear (x0 x1 x2) : Statement (.violClear x0 x1 x2) := ofWrite rfl rfl rfl rfl (by simp +contextual [Instr.wf])
theorem injectionGo (x0 x1 x2) : Statement (.injectionGo x0 x1 x2) := ofWrite rfl rfl rfl rfl (by simp +contextual [Instr.wf])
theorem sf1Req (x0 x1 x2) : Statement (.sf1Req x0 x1 x2) := ofWrite rfl rfl rfl rfl (by simp +contextual [Instr.wf])
theorem trial (x0 x1 x2) : Statement (.trial x0 x1 x2) := ofWrite rfl rfl rfl rfl (by simp +contextual [Instr.wf])
theorem commit (x0 x1 x2) : Statement (.commit x0 x1 x2) := ofWrite rfl rfl rfl rfl (by simp +contextual [Instr.wf])
theorem prog (x0 x1 x2) : Statement (.prog x0 x1 x2) := ofWrite rfl rfl rfl rfl (by simp +contextual [Instr.wf])
theorem programmingDone (x0 x1) : Statement (.programmingDone x0 x1) := ofNone rfl rfl rfl
theorem linkRelease (x0 x1 x2 x3) : Statement (.linkRelease x0 x1 x2 x3) := ofWrite rfl rfl rfl rfl (by simp +contextual [Instr.wf])
theorem retrain (x0 x1 x2 x3) : Statement (.retrain x0 x1 x2 x3) := ofWrite rfl rfl rfl rfl (by simp +contextual [Instr.wf])
theorem linkEnableWrite (x0 x1 x2 x3) : Statement (.linkEnableWrite x0 x1 x2 x3) := ofWrite rfl rfl rfl rfl (by simp +contextual [Instr.wf])
theorem hrdWrite (x0 x1 x2) : Statement (.hrdWrite x0 x1 x2) := ofWrite rfl rfl rfl rfl (by simp +contextual [Instr.wf])
theorem sequenceStart (x0 x1 x2) : Statement (.sequenceStart x0 x1 x2) := ofWrite rfl rfl rfl rfl (by simp +contextual [Instr.wf])
theorem sequenceStop (x0 x1 x2) : Statement (.sequenceStop x0 x1 x2) := ofWrite rfl rfl rfl rfl (by simp +contextual [Instr.wf])
theorem injectedRequest (x0 x1 x2) : Statement (.injectedRequest x0 x1 x2) := ofWrite rfl rfl rfl rfl (by simp +contextual [Instr.wf])
theorem calibrationRequest (x0 x1 x2) : Statement (.calibrationRequest x0 x1 x2) := ofWrite rfl rfl rfl rfl (by simp +contextual [Instr.wf])
theorem syncCrossing (x0) : Statement (.syncCrossing x0) := ofNone rfl rfl rfl
theorem timerMode (x0) : Statement (.timerMode x0) := ofNone rfl rfl rfl
theorem timerTick (x0) : Statement (.timerTick x0) := ofNone rfl rfl rfl
theorem conversionResult (x0 x1 x2) : Statement (.conversionResult x0 x1 x2) := ofNone rfl rfl rfl
theorem channelStart (x0 x1 x2) : Statement (.channelStart x0 x1 x2) := ofWrite rfl rfl rfl rfl (by simp +contextual [Instr.wf])
theorem channelStop (x0 x1 x2) : Statement (.channelStop x0 x1 x2) := ofWrite rfl rfl rfl rfl (by simp +contextual [Instr.wf])
theorem privEngineStart (x0 x1 x2) : Statement (.privEngineStart x0 x1 x2) := ofWrite rfl rfl rfl rfl (by simp +contextual [Instr.wf])
theorem privEngineStop (x0 x1 x2) : Statement (.privEngineStop x0 x1 x2) := ofWrite rfl rfl rfl rfl (by simp +contextual [Instr.wf])
theorem privSampleSet (x0 x1) : Statement (.privSampleSet x0 x1) := ofNone rfl rfl rfl
theorem normalSample (x0 x1 x2) : Statement (.normalSample x0 x1 x2) := ofNone rfl rfl rfl
theorem inputStuck (x0 x1) : Statement (.inputStuck x0 x1) := ofNone rfl rfl rfl
theorem inputRecovered (x0 x1) : Statement (.inputRecovered x0 x1) := ofNone rfl rfl rfl
theorem frameBoundary (x0 x1) : Statement (.frameBoundary x0 x1) := ofNone rfl rfl rfl
theorem sortComplete (x0 x1) : Statement (.sortComplete x0 x1) := ofNone rfl rfl rfl
theorem innerCycle (x0 x1) : Statement (.innerCycle x0 x1) := ofNone rfl rfl rfl
theorem inputStale (x0 x1) : Statement (.inputStale x0 x1) := ofNone rfl rfl rfl
theorem publication (x0) : Statement (.publication x0) := ofNone rfl rfl rfl
theorem outerBoundary (x0 x1) : Statement (.outerBoundary x0 x1) := ofNone rfl rfl rfl
theorem resyncPermitOn (x0) : Statement (.resyncPermitOn x0) := ofNone rfl rfl rfl
theorem closureDetected (x0) : Statement (.closureDetected x0) := ofNone rfl rfl rfl
theorem resyncTimeout (x0) : Statement (.resyncTimeout x0) := ofNone rfl rfl rfl
theorem episodeEnd (x0) : Statement (.episodeEnd x0) := ofNone rfl rfl rfl
theorem peakStageEnd (x0) : Statement (.peakStageEnd x0) := ofNone rfl rfl rfl
theorem limitBudgetExhausted (x0) : Statement (.limitBudgetExhausted x0) := ofNone rfl rfl rfl
theorem peakRearm (x0) : Statement (.peakRearm x0) := ofNone rfl rfl rfl
theorem stopTimeout (x0) : Statement (.stopTimeout x0) := ofNone rfl rfl rfl
theorem dcGuardEnd (x0) : Statement (.dcGuardEnd x0) := ofNone rfl rfl rfl
theorem dwellEnd (x0) : Statement (.dwellEnd x0) := ofNone rfl rfl rfl
theorem blendEnd (x0) : Statement (.blendEnd x0) := ofNone rfl rfl rfl
theorem burstForcedExit (x0) : Statement (.burstForcedExit x0) := ofNone rfl rfl rfl
theorem burstAvail (x0) : Statement (.burstAvail x0) := ofNone rfl rfl rfl
theorem energyDeviation (x0) : Statement (.energyDeviation x0) := ofNone rfl rfl rfl
theorem energyReady (x0) : Statement (.energyReady x0) := ofNone rfl rfl rfl
theorem staleExcl (x0 x1) : Statement (.staleExcl x0 x1) := ofNone rfl rfl rfl
theorem restDue (x0 x1) : Statement (.restDue x0 x1) := ofNone rfl rfl rfl
theorem forcedRest (x0 x1) : Statement (.forcedRest x0 x1) := ofNone rfl rfl rfl
theorem restEnd (x0 x1) : Statement (.restEnd x0 x1) := ofNone rfl rfl rfl
theorem deficitEpisodeEnd (x0) : Statement (.deficitEpisodeEnd x0) := ofNone rfl rfl rfl
theorem fixedRest (x0 x1) : Statement (.fixedRest x0 x1) := ofNone rfl rfl rfl
theorem downlinkFrame (x0 x1 x2) : Statement (.downlinkFrame x0 x1 x2) := ofNone rfl rfl rfl
theorem loadBoundary (x0 x1) : Statement (.loadBoundary x0 x1) := ofNone rfl rfl rfl
theorem uplinkFrame (x0 x1 x2 x3 x4 x5) : Statement (.uplinkFrame x0 x1 x2 x3 x4 x5) := ofNone rfl rfl rfl
theorem txnResponse (x0 x1 x2 x3 x4) : Statement (.txnResponse x0 x1 x2 x3 x4) := ofNone rfl rfl rfl
theorem txnTimeout (x0 x1 x2) : Statement (.txnTimeout x0 x1 x2) := ofNone rfl rfl rfl
theorem linkTrain (x0 x1) : Statement (.linkTrain x0 x1) := ofNone rfl rfl rfl
theorem trainFail (x0 x1) : Statement (.trainFail x0 x1) := ofNone rfl rfl rfl
theorem identityRetry (x0 x1) : Statement (.identityRetry x0 x1) := ofNone rfl rfl rfl
theorem codeErrors (x0 x1) : Statement (.codeErrors x0 x1) := ofNone rfl rfl rfl
theorem lossOfLight (x0 x1) : Statement (.lossOfLight x0 x1) := ofNone rfl rfl rfl
theorem reenrol (x0 x1 x2) : Statement (.reenrol x0 x1 x2) := ofNone rfl rfl rfl
theorem laneMargin (x0 x1 x2 x3) : Statement (.laneMargin x0 x1 x2 x3) := ofNone rfl rfl rfl
theorem armOvercurrent (x0 x1 x2) : Statement (.armOvercurrent x0 x1 x2) := ofNone rfl rfl rfl
theorem armDeblock (x0 x1) : Statement (.armDeblock x0 x1) := ofNone rfl rfl rfl
theorem overcurrentPersist (x0 x1) : Statement (.overcurrentPersist x0 x1) := ofNone rfl rfl rfl
theorem bypassFail (x0 x1) : Statement (.bypassFail x0 x1) := ofNone rfl rfl rfl
theorem unitClose (x0) : Statement (.unitClose x0) := ofNone rfl rfl rfl
theorem hostCopy (x0 x1) : Statement (.hostCopy x0 x1) := ofNone rfl rfl rfl
theorem gap (x0) : Statement (.gap x0) := ofNone rfl rfl rfl
theorem timeRecord (x0) : Statement (.timeRecord x0) := ofNone rfl rfl rfl
theorem trigInEdge (x0 x1 x2) : Statement (.trigInEdge x0 x1 x2) := ofNone rfl rfl rfl
theorem xtrigAssert (x0) : Statement (.xtrigAssert x0) := ofNone rfl rfl rfl
theorem holdOffEnd (x0 x1) : Statement (.holdOffEnd x0 x1) := ofNone rfl rfl rfl
theorem pulseEnd (x0 x1) : Statement (.pulseEnd x0 x1) := ofNone rfl rfl rfl
theorem beatReceived (x0 x1 x2) : Statement (.beatReceived x0 x1 x2) := ofNone rfl rfl rfl
theorem pairLinkDown (x0) : Statement (.pairLinkDown x0) := ofNone rfl rfl rfl
theorem checkpointSegment (x0 x1 x2) : Statement (.checkpointSegment x0 x1 x2) := ofNone rfl rfl rfl
theorem takeover (x0) : Statement (.takeover x0) := ofNone rfl rfl rfl
theorem handoverClaim (x0) : Statement (.handoverClaim x0) := ofNone rfl rfl rfl
theorem handoverAbort (x0) : Statement (.handoverAbort x0) := ofNone rfl rfl rfl
theorem laneCycle (x0 x1) : Statement (.laneCycle x0 x1) := ofNone rfl rfl rfl
theorem resetInput (x0 x1) : Statement (.resetInput x0 x1) := ofNone rfl rfl rfl
theorem darkTest (x0 x1 x2) : Statement (.darkTest x0 x1 x2) := ofNone rfl rfl rfl
theorem darkTestResult (x0 x1 x2 x3) : Statement (.darkTestResult x0 x1 x2 x3) := ofNone rfl rfl rfl
theorem accessDelay (x0) : Statement (.accessDelay x0) := ofNone rfl rfl rfl
theorem telegramSend (x0) : Statement (.telegramSend x0) := ofNone rfl rfl rfl
theorem telegramCopy (x0 x1 x2 x3 x4) : Statement (.telegramCopy x0 x1 x2 x3 x4) := ofNone rfl rfl rfl
theorem windowClose (x0 x1) : Statement (.windowClose x0 x1) := ofNone rfl rfl rfl
theorem telegramTimeout (x0) : Statement (.telegramTimeout x0) := ofNone rfl rfl rfl
theorem configTimeout (x0) : Statement (.configTimeout x0) := ofNone rfl rfl rfl
theorem ioSupplyLoss (x0) : Statement (.ioSupplyLoss x0) := ofNone rfl rfl rfl
theorem outputCurrentLimit (x0 x1) : Statement (.outputCurrentLimit x0 x1) := ofNone rfl rfl rfl
theorem ocxoFail (x0) : Statement (.ocxoFail x0) := ofNone rfl rfl rfl
theorem syncMsg (x0 x1 x2) : Statement (.syncMsg x0 x1 x2) := ofNone rfl rfl rfl
theorem followUp (x0 x1 x2 x3) : Statement (.followUp x0 x1 x2 x3) := ofNone rfl rfl rfl
theorem announce (x0 x1 x2) : Statement (.announce x0 x1 x2) := ofNone rfl rfl rfl
theorem pdelayReq (x0 x1 x2 x3) : Statement (.pdelayReq x0 x1 x2 x3) := ofNone rfl rfl rfl
theorem pdelayResp (x0 x1 x2 x3 x4 x5) : Statement (.pdelayResp x0 x1 x2 x3 x4 x5) := ofNone rfl rfl rfl
theorem syncTimeout (x0 x1) : Statement (.syncTimeout x0 x1) := ofNone rfl rfl rfl
theorem revert (x0) : Statement (.revert x0) := ofNone rfl rfl rfl
theorem holdoverLimit (x0) : Statement (.holdoverLimit x0) := ofNone rfl rfl rfl
theorem timeSet (x0) : Statement (.timeSet x0) := ofNone rfl rfl rfl
theorem timOffsetWrite (x0 x1 x2 x3) : Statement (.timOffsetWrite x0 x1 x2 x3) := ofWrite rfl rfl rfl rfl (by simp +contextual [Instr.wf])
theorem pairTime (x0) : Statement (.pairTime x0) := ofNone rfl rfl rfl
theorem ppsInEdge (x0) : Statement (.ppsInEdge x0) := ofNone rfl rfl rfl
theorem ppsinLoss (x0) : Statement (.ppsinLoss x0) := ofNone rfl rfl rfl
theorem ppsOut (x0) : Statement (.ppsOut x0) := ofNone rfl rfl rfl
theorem syspllLoss (x0) : Statement (.syspllLoss x0) := ofNone rfl rfl rfl
theorem nApply (x0 x1 x2) : Statement (.nApply x0 x1 x2) := ofWrite rfl rfl rfl rfl (by simp +contextual [Instr.wf])
theorem spllEnable (x0 x1 x2) : Statement (.spllEnable x0 x1 x2) := ofWrite rfl rfl rfl rfl (by simp +contextual [Instr.wf])
theorem stationPllLock (x0) : Statement (.stationPllLock x0) := ofNone rfl rfl rfl
theorem outputRelease (x0) : Statement (.outputRelease x0) := ofNone rfl rfl rfl
theorem spllUnlock (x0) : Statement (.spllUnlock x0) := ofNone rfl rfl rfl
theorem refLoss (x0) : Statement (.refLoss x0) := ofNone rfl rfl rfl
theorem legGood (x0 x1 x2) : Statement (.legGood x0 x1 x2) := ofNone rfl rfl rfl
theorem legLost (x0 x1 x2) : Statement (.legLost x0 x1 x2) := ofNone rfl rfl rfl
theorem legOv (x0 x1 x2) : Statement (.legOv x0 x1 x2) := ofNone rfl rfl rfl
theorem holdupLow (x0) : Statement (.holdupLow x0) := ofNone rfl rfl rfl
theorem powerGoodLost (x0) : Statement (.powerGoodLost x0) := ofNone rfl rfl rfl
theorem storeFull (x0) : Statement (.storeFull x0) := ofNone rfl rfl rfl
theorem resetRelease (x0 x1 x2) : Statement (.resetRelease x0 x1 x2) := ofNone rfl rfl rfl
theorem bootVerified (x0 x1 x2) : Statement (.bootVerified x0 x1 x2) := ofNone rfl rfl rfl
theorem initEnd (x0) : Statement (.initEnd x0) := ofNone rfl rfl rfl
theorem tempSample (x0 x1 x2) : Statement (.tempSample x0 x1 x2) := ofNone rfl rfl rfl
theorem undefinedOpcode (x0 x1 x2) : Statement (.undefinedOpcode x0 x1 x2) := ofNone rfl rfl rfl
theorem timeStep : Statement .timeStep := ofNone rfl rfl rfl
theorem filterStart : Statement .filterStart := ofNone rfl rfl rfl
theorem deblock : Statement .deblock := ofNone rfl rfl rfl
theorem frtExit : Statement .frtExit := ofNone rfl rfl rfl
theorem frtTimeout : Statement .frtTimeout := ofNone rfl rfl rfl
theorem autoIslanding : Statement .autoIslanding := ofNone rfl rfl rfl
theorem blackstartDone : Statement .blackstartDone := ofNone rfl rfl rfl
theorem blackstartFail : Statement .blackstartFail := ofNone rfl rfl rfl
theorem firstEdgeFrame : Statement .firstEdgeFrame := ofNone rfl rfl rfl

end Sys2Proof.Laws.Stamped
end

