-- ==== Sys2Proof/Laws/Writes.lean ====
section
/-!
SUPPORT. What a register write does, unit by unit: the unit's own effect.
-/
namespace Sys2Proof.Machine

theorem Reg.unit_mk (n : RName) (i j : Nat) : (⟨n, i, j⟩ : Reg).unit = n.spec.off / 65536 := rfl

theorem writeEffect_flt {m : Nat} {r : Reg} {v : Word} {s : State} (h : r.unit = 1) :
    writeEffect m r v s = fltWrite m r v s := by simp only [writeEffect, h]

theorem writeEffect_mbx {m : Nat} {r : Reg} {v : Word} {s : State} (h : r.unit = 2) :
    writeEffect m r v s = (mbxWrite m r v s, .ok) := by simp only [writeEffect, h]

theorem writeEffect_clk {m : Nat} {r : Reg} {v : Word} {s : State} (h : r.unit = 3) :
    writeEffect m r v s = (clkWrite r v s, .ok) := by simp only [writeEffect, h]

theorem writeEffect_tim {m : Nat} {r : Reg} {v : Word} {s : State} (h : r.unit = 4) :
    writeEffect m r v s = (timWrite r v s, .ok) := by simp only [writeEffect, h]

theorem writeEffect_crc {m : Nat} {r : Reg} {v : Word} {s : State} (h : r.unit = 5) :
    writeEffect m r v s = (crcWrite m r v s, .ok) := by simp only [writeEffect, h]

theorem writeEffect_mem {m : Nat} {r : Reg} {v : Word} {s : State} (h : r.unit = 6) :
    writeEffect m r v s = memRegWrite r v s := by simp only [writeEffect, h]

theorem writeEffect_pwr {m : Nat} {r : Reg} {v : Word} {s : State} (h : r.unit = 7) :
    writeEffect m r v s = pwrWrite r v s := by simp only [writeEffect, h]

theorem writeEffect_saf {m : Nat} {r : Reg} {v : Word} {s : State} (h : r.unit = 8) :
    writeEffect m r v s = (safWrite r v s, .ok) := by simp only [writeEffect, h]

theorem writeEffect_mad {m : Nat} {r : Reg} {v : Word} {s : State} (h : r.unit = 9) :
    writeEffect m r v s = (madWrite r v s, .ok) := by simp only [writeEffect, h]

theorem writeEffect_fil {m : Nat} {r : Reg} {v : Word} {s : State} (h : r.unit = 10) :
    writeEffect m r v s = (filWrite r v s, .ok) := by simp only [writeEffect, h]

theorem writeEffect_win {m : Nat} {r : Reg} {v : Word} {s : State} (h : r.unit = 12) :
    writeEffect m r v s = (winWrite r v s, .ok) := by simp only [writeEffect, h]

theorem writeEffect_fsc {m : Nat} {r : Reg} {v : Word} {s : State} (h : r.unit = 13) :
    writeEffect m r v s = (fscWrite m r v s, .ok) := by simp only [writeEffect, h]

theorem writeEffect_cel {m : Nat} {r : Reg} {v : Word} {s : State} (h : r.unit = 14) :
    writeEffect m r v s = (celWrite r v s, .ok) := by simp only [writeEffect, h]

theorem writeEffect_lnk {m : Nat} {r : Reg} {v : Word} {s : State} (h : r.unit = 15) :
    writeEffect m r v s = (lnkWrite r v s, .ok) := by simp only [writeEffect, h]

theorem writeEffect_red {m : Nat} {r : Reg} {v : Word} {s : State} (h : r.unit = 16) :
    writeEffect m r v s = (redWrite r v s, .ok) := by simp only [writeEffect, h]

theorem writeEffect_rec {m : Nat} {r : Reg} {v : Word} {s : State} (h : r.unit = 17) :
    writeEffect m r v s = (recWrite r v s, .ok) := by simp only [writeEffect, h]

theorem writeEffect_shf {m : Nat} {r : Reg} {v : Word} {s : State} (h : r.unit = 18) :
    writeEffect m r v s = (shfWrite r v s, .ok) := by simp only [writeEffect, h]

theorem writeEffect_bst {m : Nat} {r : Reg} {v : Word} {s : State} (h : r.unit = 19) :
    writeEffect m r v s = bstWrite r v s := by simp only [writeEffect, h]

theorem writeEffect_net {m : Nat} {r : Reg} {v : Word} {s : State} (h : r.unit = 20) :
    writeEffect m r v s = (netWrite r v s, .ok) := by simp only [writeEffect, h]

theorem writeEffect_len {m : Nat} {r : Reg} {v : Word} {s : State} (h : r.unit = 11) (hn : r.name ≠ .lenLaunch) :
    writeEffect m r v s = (lenWrite r v s, .ok) := by simp only [writeEffect, h, hn, decide_false, State.when]; rfl

end Sys2Proof.Machine
end

