-- ==== Sys2Proof/Machine/Panel.lean ====
section
/-!
DEFINITION. Pins and lamps that only show the state: the front panel (R489), the modulator clocks (R236) and the clock jacks
(R486).
-/
namespace Sys2Proof.Machine

/-- What the STATUS lamp shows (R489). -/
inductive StatusLamp where
  | off
  | redFlash2
  | red
  | amberFlash1
  | amber
  | greenFlash1
  | green
deriving DecidableEq, Repr

/-- What a link lamp shows (R489). -/
inductive LinkLamp where
  | off
  | flash2
  | steady
deriving DecidableEq, Repr

/-- The STATUS lamp: the first condition of R489 that holds. No image verifies at boot step 4 (R469). -/
def State.statusLamp (s : State) : StatusLamp :=
  if s.mode = .off then (if s.pwr.good then .red else .off)
  else if s.pwr.boot = 4 then .redFlash2
  else if s.mode = .init ∨ s.mode = .tripped ∨ s.hilvl = 3 then .red
  else if s.mode = .service ∨ s.mode = .factoryTest ∨ s.bst.running then .amberFlash1
  else if s.rg .fltReplace ≠ 0 then .amber
  else if s.mode = .standbyCold then .greenFlash1
  else .green

/-- The SAFE lamp: SF1 in force, never on a module without the safety unit (R477, R489). -/
def State.safeLamp (s : State) : Bool := s.hasSaf && decide (s.mode ≠ .off) && s.saf.sf1

/-- Enabled links on connector X(m), m = 1 to 8 (R176). -/
def State.laneLinks (s : State) (m : Nat) : List Nat :=
  ((List.range 16).map (fun q => 16 * (m - 1) + q)).filter (fun l => decide (l < s.links) && s.rb .lnkLctrl 0 l)

/-- The link lamp LNKm (R489); dark where the connector carries no light (R477). -/
def State.linkLamp (s : State) (m : Nat) : LinkLamp :=
  let up := (s.laneLinks m).filter (fun l => s.linkUp l)
  if up = [] ∨ s.mode = .off then .off else if up.length = (s.laneLinks m).length then .steady else .flash2

/-- The modulator clock MCLK_N has a rising edge at this tick of S (R236). -/
def State.mclkNRises (s : State) : Bool := decide (s.mode ≠ .off) && decide (s.ticks.fmod 20 = 0)

/-- The modulator clock MCLK_Pk has a rising edge at this tick of S: 16·k ticks after MCLK_N (R236). -/
def State.mclkPRises (s : State) (k : Nat) : Bool :=
  decide (s.mode ≠ .off) && decide ((s.ticks - 16 * k).fmod 20 = 0)

/-- Whether CLKOUTc drives its jacks: its divider runs, or its last high phase is not over (R311, R312, R486). -/
def State.clkDriven (s : State) (c : Nat) : Bool := (s.outClk c).run || decide (s.vcoCycle < (s.outClk c).stop)

/-- CLKOUTc is high: the first half of its period after its rise, DELAY eighths of a VCO period later (R312). -/
def State.clkHigh (s : State) (c : Nat) : Bool :=
  let o := s.outClk c
  let late := s.clk.vcoNow s.now - o.delayAt s.vcoCycle * (5 * 2 ^ 24)
  s.clkDriven c && decide (2 * sinceRise (late / (40 * 2 ^ 24)) (s.clkDiv c) o.phase < s.clkDiv c)

end Sys2Proof.Machine
end

