-- ==== Sys2Proof/Tests/Slice0.lean ====
section
/-!
SUPPORT. Tests: ill-formed commands are refused, worked examples of the manual, and for every statement with hypotheses a
concrete state and operands that meet them, one for each of its clauses.
-/
set_option maxRecDepth 100000
set_option Elab.async false

namespace Sys2Proof.Machine

/-! ### States to test on -/

/-- A module that runs its firmware in state `m`, both legs good, port A enabled. -/
def wOn (m : Mode) : State :=
  ({ State.reset with
      mode := m
      pwr := { State.reset.pwr with boot := 2, good := true, legA := 1, legB := 1, fillDone := true } } : State).rs
    .netPcfg 0xB8C40003 0

/-- The same, holding the awn. -/
def wAwn (m : Mode) : State := { wOn m with red := { (wOn m).red with awn := true } }

/-- The same, in a sub-mode of RUN. -/
def wRun (b : Sub) : State := { wAwn .run with sub := b }

/-- A module in FACTORY_TEST with its factory strap. -/
def wFac : State := { wOn .factoryTest with factory := true }

/-- A packet of port A without a session. -/
def wA : Hdr := ⟨.portA, .port, 0, 0, 0⟩

/-- A packet of the service port. -/
def wS : Hdr := ⟨.service, .port, 0, 0, 0⟩

/-- A module whose lanes run with an adopted configuration image of zeros but for the version. -/
def wSaf : State := { wOn .armed with saf := { SafSt.init with image := some (List.replicate 128 0) } }

/-- An open sheaf of master 8 in handle 0. -/
def wSheaf (x : Nat) : Sheaf := ⟨8, x, 0, [], [], none, 0, none, 0, 0, [], [], 0⟩

/-- A cell's protection and telemetry at reset, and an empty checkpoint. -/
def wP : CellSt := Cell.init.prot

def wT : CellTel := Cell.init.tel

def wCk : CkBody := ⟨.armed, .gf, LenSt.init, [], [], WinSt.init, 0, 0, 0, true, [], [], false, 0, 0⟩

/-- Master 1 to master 2 on channel 31; and the unit 3 of CRC claimed by master 1. -/
def wBind : State := (wOn .armed).rs .mbxBind (fld 0 1 ||| fld 4 2 ||| bitAt 8 true) 31

def wCrc : State := (wOn .armed).rs .crcClaim 0x11 3

/-- Six cells, one in each arm, in the state given, with the capacitor at 20000 units of 0.1 V. -/
def wCells (st : Nat) (s : State) : State :=
  (List.range 6).foldl (fun s i => (((s.rs .celCfg (BitVec.ofNat 32 i) i).setProt i { wP with st := st }).setTel i
    { wT with vcap := 20000 })) s

/-- Everything PRECHARGE asks for. -/
def wPre : State :=
  let s := (((((wCells 2 (wAwn .armed)).rs .winCcell 0x3F800000).rs .filPctrl 1).rs .filNrun 1).rs .timCtrl 8)
  let s := [0, 1, 2, 6, 7].foldl (fun (s : State) k => s.rs .lenInsel 0x100 k) s
  let s := (List.range 6).foldl (fun (s : State) a => s.rs .celOccfg 0 a) s
  (List.range 5).foldl (fun (s : State) k => s.rs .lenBase 0x3F800000 k) { s with variant := .n }

def wPair (m : Mode) : State :=
  { (wAwn m).rs .redCtrl 1 with red := { (wAwn m).red with
      linkUp := true, beat := some ⟨true, false, true, false, false, 2, 0, 0, 0, 0, 0, 0, 0, 0⟩ } }

/-- PRECHARGE with stage 3 and six equal cells; and a beat of side `b`. -/
def wReady : State :=
  let s := wCells 3 (wAwn .precharge)
  let s := (s.rs .lenBase 0x3F800000 4).rs .winReady 0x0100
  { s with win := { s.win with stage := 3, readySince := some 0 } }

def wBeat (b : Nat) : List Byte := leBytes 1 0x11 ++ leBytes 1 b ++ List.replicate 30 0

/-- A BS cell in service whose cycle began at instant 0. -/
def wBs (s : State) : State := (s.rs .celCfg 0x4000 0).setProt 0 { wP with st := 4, bsFrom := some 0 }

/-- An uplink frame of link 127 with no transaction. -/
def wUp : List Byte :=
  let b : List Byte := [0x18, 0, 0, 127] ++ List.replicate 316 0
  b ++ leBytes 4 (crc32c b).toNat

def wTxn : Txn := ⟨5, 1, 31, 0, 0, [], 8, .host wA, 0⟩

/-- A packet's arrival leaves the host window as it is. -/
theorem rf_noteLink (q : Path) (s : State) (lo len : Nat) :
    (noteLink q s).rf .memHostwin lo len = s.rf .memHostwin lo len := by
  cases q <;> simp only [noteLink, State.rf, State.rg, State.rsf, State.rsb, State.rs] <;>
    rw [Tab.get_set_other] <;> decide

/-- The instant `n`, at which the outer boundary has been opened. -/
def wAt (n : Nat) (s : State) : State := { s with now := n, tim := { s.tim with openAt := some n } }

def wIo : LaneInputs := ⟨[0, 0, 0, 0, 0], [0, 0, 0, 0, 0], 0, 0, 0, 0, false, false⟩

def wSeg : CkSegment := ⟨false, 0, 0, true, true, none⟩

/-! ### Ill-formed commands -/

/-- A header of port A that names the mailbox of PCIe is refused (R383). -/
theorem test_wf_refuses_headers : ([
    .ping 0 { wA with via := .mailbox 24 },
    .sysStatus 0 { wA with via := .mailbox 24 },
    .sysIdent 0 { wA with via := .mailbox 24 },
    .pathReset 0 { wA with via := .mailbox 24 },
    .precharge 0 { wA with via := .mailbox 24 },
    .start 0 { wA with via := .mailbox 24 },
    .blackStart 0 { wA with via := .mailbox 24 },
    .island 0 { wA with via := .mailbox 24 },
    .resyncStart 0 { wA with via := .mailbox 24 },
    .resyncCancel 0 { wA with via := .mailbox 24 },
    .stop 0 { wA with via := .mailbox 24 },
    .tieStatus 0 { wA with via := .mailbox 24 } false false 0,
    .resetTrip 0 { wA with via := .mailbox 24 } false,
    .serviceEnter 0 { wA with via := .mailbox 24 },
    .serviceLeave 0 { wA with via := .mailbox 24 },
    .sheafOpen 0 { wA with via := .mailbox 24 },
    .recStatus 0 { wA with via := .mailbox 24 },
    .safConfigWrite 0 { wA with via := .mailbox 24 } (List.replicate 128 0),
    .safStatus 0 { wA with via := .mailbox 24 },
    .safReset 0 { wA with via := .mailbox 24 },
    .pairClaim 0 { wA with via := .mailbox 24 },
    .pairSwitchover 0 { wA with via := .mailbox 24 },
    .pairResync 0 { wA with via := .mailbox 24 },
    .timeGet 0 { wA with via := .mailbox 24 },
    .timeStepToRef 0 { wA with via := .mailbox 24 },
    .bistRun 0 { wA with via := .mailbox 24 } 0,
    .bistResult 0 { wA with via := .mailbox 24 } 0,
    .factoryEnter 0 { wA with via := .mailbox 24 },
    .injClear 0 { wA with via := .mailbox 24 },
    .factoryLeave 0 { wA with via := .mailbox 24 }] : List Instr).all (fun c => !c.wf) = true := by decide

/-- An identity that is not assigned is refused (R372). -/
theorem test_wf_refuses_masters : ([
    .cqTailWrite 0 14 0 [],
    .replyRingRoom 0 14 0,
    .mbxSend 0 14 0 0,
    .mbxAck 0 14 0 0,
    .mbxDbellClear 0 14 0,
    .mbxNoteClear 0 14 0,
    .mbxLock 0 14 1,
    .crcCfgWrite 0 14 0 0,
    .crcDatab 0 14 0 0,
    .crcDataw 0 14 0 0,
    .crcDatad 0 14 0 0,
    .crcValhWrite 0 14 0 0,
    .crcVallWrite 0 14 0 0,
    .crcVallRead 0 14 0,
    .crcAlive 0 14 0 0,
    .crcClaim 0 14 0 16,
    .crcRelease 0 14 0 0,
    .memRetire 0 14 0,
    .sampleSnapshot 0 14 false 0,
    .resultSnapshot 0 14 false 0,
    .nowSnapshot 0 14,
    .logSnapshot 0 14 0,
    .registerWrite 0 14 0 0,
    .lenFbWrite 0 14 0,
    .bankOpen 0 14 16,
    .bankClose 0 14 0,
    .tcompClear 0 14 1,
    .defClear 0 14 1,
    .swClear 0 14 2,
    .qlimClear 0 14 1,
    .rejClear 0 14 2,
    .chaffClear 0 14 1,
    .otherClear 0 14 2,
    .gapClear 0 14 1,
    .markClear 0 14 2,
    .shfCountClear 0 14 1,
    .cklostClear 0 14 1,
    .takeClear 0 14 2,
    .sizeClear 0 14 4,
    .memCountClear 0 14 1,
    .safCountClear 0 14 1,
    .netCountClear 0 14 1,
    .violClear 0 14 1,
    .injectionGo 0 14 2147483648,
    .sf1Req 0 14 1,
    .trial 0 14 2,
    .commit 0 14 4,
    .prog 0 14 8,
    .linkRelease 0 14 0 4,
    .retrain 0 14 0 8,
    .linkEnableWrite 0 14 0 0,
    .hrdWrite 0 14 0,
    .sequenceStart 0 14 1,
    .sequenceStop 0 14 0,
    .injectedRequest 0 14 2147483648,
    .calibrationRequest 0 14 2147483648,
    .channelStart 0 14 0,
    .channelStop 0 14 0,
    .privEngineStart 0 14 1,
    .privEngineStop 0 14 0,
    .timOffsetWrite 0 14 262288 0,
    .nApply 0 14 0,
    .spllEnable 0 14 0] : List Instr).all (fun c => !c.wf) = true := by decide

/-- Each operand outside its field, its index range or its register bit is refused, part 1. -/
theorem test_wf_refuses_operands1 : ([
    .eventSub 0 wA 256,
    .regRead 0 wA 0 65536,
    .regWrite 0 wA 4294967296 [],
    .regRmw 0 wA 4294967296 0 0,
    .memRead 0 wA 4294967296 0,
    .memWrite 0 wA 4294967296 [],
    .memFill 0 wA 0 4294967296 0,
    .sheafAdd 0 wA 0 [],
    .sheafCommit 0 wA 0 256 0,
    .sheafDiscard 0 wA 256,
    .sheafTimeout 0 8,
    .prepareDeadline 0 8,
    .sheafApply 0 8,
    .bypass 0 wA 65536,
    .restore 0 wA 65536,
    .release 0 wA 65536,
    .cellTxn 0 wA 0 0 256 0 [],
    .linkBlock 0 wA 256 false,
    .safConfigConfirm 0 wA 256 0,
    .timeStepAbs 0 wA 0 4294967296 0,
    .timeStepRel 0 wA (2 ^ 79),
    .bistComplete 0 [⟨18, 0, []⟩],
    .faultAck 0 wA 65536,
    .faultLogRead 0 wA 256 0,
    .faultInject 0 wA 65536 0,
    .memInject 0 wA 0 0 (some 255),
    .linkInject 0 wA 0 256 0 false,
    .pcieMemRead 0 1 0 0,
    .pcieMemWrite 0 1 0 [],
    .arpRequest 0 3 0,
    .icmpEcho 0 3 0 [],
    .reassemblyTimeout 0 3 0,
    .portLinkDown 0 3,
    .coreReset 0 7 none,
    .mbxSend 0 1 32 0,
    .mbxAck 0 1 32 0,
    .mbxLock 0 1 0,
    .mbCross 0 32 0,
    .mbCross 0 0 32] : List Instr).all (fun c => !c.wf) = true := by decide

/-- Each operand outside its field, its index range or its register bit is refused, part 2. -/
theorem test_wf_refuses_operands2 : ([
    .crcCfgWrite 0 1 4 0,
    .crcDatab 0 1 4 0,
    .crcDataw 0 1 4 0,
    .crcDatad 0 1 4 0,
    .crcValhWrite 0 1 4 0,
    .crcVallWrite 0 1 4 0,
    .crcVallRead 0 1 4,
    .crcAlive 0 1 4 0,
    .crcClaim 0 1 4 16,
    .crcClaim 0 1 0 0,
    .crcRelease 0 1 4 0,
    .crcRelease 0 1 0 16,
    .sampleSnapshot 0 1 false 18,
    .sampleSnapshot 0 1 true 6,
    .resultSnapshot 0 1 false 16,
    .logSnapshot 0 1 256,
    .registerWrite 0 1 (2 ^ 32) 0,
    .bankOpen 0 1 0,
    .bankClose 0 1 16,
    .tcompClear 0 1 0,
    .defClear 0 1 0,
    .swClear 0 1 0,
    .qlimClear 0 1 0,
    .rejClear 0 1 0,
    .chaffClear 0 1 0,
    .otherClear 0 1 0,
    .gapClear 0 1 0,
    .markClear 0 1 0,
    .shfCountClear 0 1 0,
    .cklostClear 0 1 0,
    .takeClear 0 1 0,
    .sizeClear 0 1 0,
    .memCountClear 0 1 0,
    .safCountClear 0 1 0,
    .netCountClear 0 1 0,
    .violClear 0 1 0,
    .injectionGo 0 1 0,
    .sf1Req 0 1 0,
    .trial 0 1 0] : List Instr).all (fun c => !c.wf) = true := by decide

/-- Each operand outside its field, its index range or its register bit is refused, part 3. -/
theorem test_wf_refuses_operands3 : ([
    .commit 0 1 0,
    .prog 0 1 0,
    .linkRelease 0 1 128 4,
    .linkRelease 0 1 0 0,
    .retrain 0 1 128 8,
    .retrain 0 1 0 0,
    .linkEnableWrite 0 1 128 0,
    .sequenceStart 0 1 0,
    .sequenceStop 0 1 1,
    .injectedRequest 0 1 0,
    .calibrationRequest 0 1 0,
    .privEngineStart 0 1 0,
    .privEngineStop 0 1 1,
    .privSampleSet 0 [],
    .normalSample 0 18 [],
    .inputStuck 0 24,
    .inputRecovered 0 24,
    .sortComplete 0 6,
    .inputStale 0 15,
    .staleExcl 0 3072,
    .restDue 0 3072,
    .forcedRest 0 3072,
    .restEnd 0 3072,
    .fixedRest 0 3072,
    .downlinkFrame 0 128 [],
    .loadBoundary 0 (12 + 3072),
    .uplinkFrame 0 128 false 0 [] false,
    .uplinkFrame 0 0 false 1 [] false,
    .txnResponse 0 128 0 0 [],
    .txnResponse 0 0 16 0 [],
    .txnResponse 0 0 0 16 [],
    .txnResponse 0 0 0 0 (List.replicate 65 0),
    .txnTimeout 0 128 0,
    .txnTimeout 0 0 16,
    .linkTrain 0 128,
    .trainFail 0 128,
    .identityRetry 0 128,
    .codeErrors 0 128,
    .lossOfLight 0 128] : List Instr).all (fun c => !c.wf) = true := by decide

/-- Each operand outside its field, its index range or its register bit is refused, part 4. -/
theorem test_wf_refuses_operands4 : ([
    .reenrol 0 128 none,
    .reenrol 0 0 (some 24),
    .laneMargin 0 128 0 0,
    .armOvercurrent 0 6 0,
    .armDeblock 0 6,
    .overcurrentPersist 0 6,
    .bypassFail 0 3072,
    .trigInEdge 0 4 false,
    .holdOffEnd 0 4,
    .pulseEnd 0 3,
    .beatReceived 0 [] 1,
    .laneCycle 0 { wIo with chA := [] },
    .laneCycle 0 { wIo with chB := [] },
    .resetInput 0 0,
    .resetInput 0 9,
    .darkTest 0 0 false,
    .darkTest 0 5 false,
    .darkTestResult 0 0 false false,
    .darkTestResult 0 5 false false,
    .telegramCopy 0 2 0 0 [],
    .telegramCopy 0 0 0 65536 [],
    .windowClose 0 65536,
    .outputCurrentLimit 0 0,
    .outputCurrentLimit 0 5,
    .syncMsg 0 2 ⟨0, true, 0, 0, 0, 0⟩,
    .followUp 0 2 0 0,
    .followUp 0 0 65536 0,
    .announce 0 2 ⟨0, 1, 2, 0, 0, 0, 0, 0, 0⟩,
    .pdelayReq 0 2 0 0,
    .pdelayReq 0 0 65536 0,
    .pdelayResp 0 2 0 0 0 0,
    .syncTimeout 0 2,
    .timOffsetWrite 0 1 0 0,
    .sheafAdd 0 wA 256 [⟨1, 0, 0, 0⟩],
    .linkInject 0 wA 256 0 0 true,
    .safConfigWrite 0 wA [],
    .ping 0 { wA with path := .service, via := .mailbox 30 },
    .memWrite 0 { wA with via := .mailbox 26 } 0 (List.replicate 48 0)] : List Instr).all (fun c => !c.wf) = true := by decide

/-- Well-formed commands, at the ends of their ranges, are accepted. -/
theorem test_wf_accepts : ([
    .ping 0 wA,
    .memRead 0 wA 0x10000000 4092,
    .crcClaim 0 1 3 16,
    .crcRelease 0 13 3 0,
    .laneCycle 0 wIo,
    .uplinkFrame 5 127 false 5 [] false,
    .restDue 0 3071,
    .ping 0 { wA with via := .mailbox 26 }] : List Instr).all Instr.wf = true := by decide

/-! ### Worked examples of the manual -/

/-- The bytes of "123456789". -/
def wDigits : List Byte := [0x31, 0x32, 0x33, 0x34, 0x35, 0x36, 0x37, 0x38, 0x39]

/-- The check value that the example after R439 gives for the link CRC of R180. -/
theorem test_link_crc_check_value : crc32c wDigits = 0xE3069283 := by decide

/-- The same value from a CRC unit with WIDTH 32, POLY 0x1EDC6F41, INIT 0xFFFFFFFF and all three reflections and inversions. -/
theorem test_crc_unit_check_value :
    crcUnitResult 32 true true (wDigits.foldl (crcUnitByte 32 0x1EDC6F41 true) 0xFFFFFFFF) = 0xE3069283 := by decide

/-- The example of the register index: the configuration and status words of cell 893. -/
theorem test_cell_register_addresses : regAddr .celCfg 893 = 0xE77D8 ∧ regAt 0xE77DC = some ⟨.celState, 893, 0⟩ := by decide

/-- The example of the scope chapter: SYS_CAP of variant L. -/
theorem test_capability_word : { State.reset with variant := .l }.sysCap = 0x00050240 := by decide

/-- The example of a setpoint write: the header and the payload of the request. -/
theorem test_request_bytes :
    (packetBytes ⟨.portA, .port, 7, 0x42, 0x1A2B⟩ 0x0101 (HostOp.payload (.regWrite 0xB0110 [0x3F000000]))).take 28
      = [0x01, 0x00, 0x01, 0x01, 0x07, 0x00, 0x0C, 0x00, 0x00, 0x00, 0x42, 0x00, 0x2B, 0x1A, 0x00, 0x00,
         0x10, 0x01, 0x0B, 0x00, 0x01, 0x00, 0x00, 0x00, 0x00, 0x00, 0x00, 0x3F] := by decide

/-- The reply of the same example. -/
theorem test_reply_bytes :
    (Reply.bytes ⟨.portA, .port, 0x0101, 7, 0x42, 0x1A2B, 8, .ok, 0, []⟩).take 20
      = [0x01, 0x00, 0x01, 0x81, 0x07, 0x00, 0x04, 0x00, 0x08, 0x00, 0x42, 0x00, 0x2B, 0x1A, 0x00, 0x00, 0, 0, 0, 0] := by
  decide

/-- The edges of the edge-firing example: offsets of 7,280 and 7,536 ticks. -/
theorem test_edge_bytes : Edge.bytes 0 ⟨7280, 4, true⟩ = [0x70, 0x1C, 0x40] ∧ Edge.bytes 0 ⟨7536, 1, true⟩ = [0x70, 0x1D, 0x10] := by
  decide

/-- The filter example: FIL_NGD0 with a phase delay, and FIL_NGD6 with a median of 3. -/
theorem test_group_delay_words :
    ngdWord ⟨0, false, 50, 4, 8, 1, 1, 0, 22, 160⟩ = 0x05001FEA ∧ ngdWord ⟨6, false, 50, 4, 8, 3, 1, 0, 22, 0⟩ = 0x0600230A := by
  decide

/-- The limiter example after R30: with a limit of 1.2 the reactive demand takes all of it. -/
theorem test_limiter_grants :
    grant false (Num.ofRatio 12 10) (Num.ofRatio 15 10) (Num.ofRatio 1 10) (Num.ofRatio 34 10)
      = (Num.ofRatio 12 10, Machine.Num.zero, Machine.Num.zero) := by decide

/-- The command at the front of the queue runs. -/
theorem test_step_runs_the_front_command :
    step { wOn .armed with pending := [.pdelayReq 8 0 3 5] } = exec (.pdelayReq 8 0 3 5) (wOn .armed) := by rfl


/-- The table of R489: red during INIT, green flashing in STANDBY_COLD, dark before power good. -/
theorem test_status_lamp :
    { State.reset with mode := .init }.statusLamp = .red ∧ { State.reset with mode := .standbyCold }.statusLamp = .greenFlash1 ∧
      State.reset.statusLamp = .off := by decide

/-- R477: on variant L the fifth connector has no links and its lamp stays dark. -/
theorem test_link_lamp_dark : { State.reset with variant := .l, mode := .armed }.linkLamp 5 = .off := by decide
/-! ### The hypotheses of the statements can be met -/

/-- StepTakesFrontCommand: clauses 1, 2. -/
theorem witness_StepTakesFrontCommand :
    (∃ (c : Instr) (rest : List Instr) (s : State), s.pending = c :: rest)
    ∧ (∃ (s : State), s.pending = []) :=
  ⟨⟨.gap 0, [], { State.reset with pending := [.gap 0] }, by decide⟩,
    ⟨State.reset, by decide⟩⟩

/-- StepKeepsCanonicalForm: clause 1. -/
theorem witness_StepKeepsCanonicalForm : ∃ (s : State) (s' : State), s.canon ∧ step s = .next s' :=
  ⟨State.reset, State.reset, ⟨by decide, by decide⟩, rfl⟩

/-- ResetLeavesModuleOff: clause 6. -/
theorem witness_ResetLeavesModuleOff : ∃ (l : Nat), l < 128 :=
  ⟨127, by decide⟩

/-- PayloadReadsBack: clause 1. -/
theorem witness_PayloadReadsBack : ∃ (o : HostOp), o.fits = true :=
  ⟨.memRead 0x10000000 4092, by decide⟩

/-- PacketReadsBack: clause 1. -/
theorem witness_PacketReadsBack : ∃ (op : Nat) (p : List Byte), op < 0x8000 ∧ p.length ≤ 4096 :=
  ⟨0x7FFF, List.replicate 4 0, by decide, by decide⟩

/-- ReceivedPacketIsItsCommand: clause 1. -/
theorem witness_ReceivedPacketIsItsCommand : ∃ (c : Instr) (t : Nat) (h : Hdr) (o : HostOp), hostOf c = some (t, h, o) ∧ h.via = .port ∧ o.fits = true ∧ o.payload.length ≤ 4096 :=
  ⟨.ping 0 wA, 0, wA, .ping, rfl, by decide, by decide, by decide⟩

/-- RepeatedPacketIsNotRunAgain: clause 1. -/
theorem witness_RepeatedPacketIsNotRunAgain : ∃ (c : Instr) (t : Nat) (h : Hdr) (o : HostOp) (s : State) (r : Reply), hostOf c = some (t, h, o) ∧ (s.begin t).serves h.path h.via = true ∧ (noteLink h.path (s.begin t)).duplicate h = some (o.opcode, some r) :=
  ⟨.ping 0 { wA with session := 1 }, 0, { wA with session := 1 }, .ping, (wOn .armed).setPath 1 { PathSt.empty with cache := [⟨⟨.portA, .port, 1, 0, 1, 0, 8, .ok, 0, []⟩, 1, 0⟩] }, ⟨.portA, .port, 1, 0, 1, 0, 8, .ok, 0, []⟩, rfl, by decide, by decide⟩

/-- TurnedAwayPacketIsAnswered: clauses 1, 2. -/
theorem witness_TurnedAwayPacketIsAnswered :
    (∃ (c : Instr) (t : Nat) (h : Hdr) (o : HostOp) (s : State), hostOf c = some (t, h, o) ∧ (s.begin t).serves h.path h.via = true ∧ (noteLink h.path (s.begin t)).duplicate h = none ∧ 256 ≤ ((noteLink h.path (s.begin t)).path (pathIndex h.path)).outst.length)
    ∧ (∃ (c : Instr) (t : Nat) (h : Hdr) (o : HostOp) (s : State) (st : Status), hostOf c = some (t, h, o) ∧ s.isNew t h ∧ (s.taken t h o.opcode).admission ((s.begin t).masterOf h.path) o.opcode true (some o.checked) = .error st) :=
  ⟨⟨.ping 0 wA, 0, wA, .ping, (wOn .armed).setPath 1 { PathSt.empty with outst := List.replicate 256 ⟨wA, 1, .bist⟩ }, rfl, by decide, by decide, by decide⟩,
    ⟨.injClear 0 wA, 0, wA, .injClear, wOn .armed, .factoryOnly, rfl, by decide, by decide⟩⟩

/-- UndefinedOpcodeIsRefused: clauses 1, 2. -/
theorem witness_UndefinedOpcodeIsRefused :
    (∃ (op : Nat), (∀ o : HostOp, o.opcode ≠ op) ∧ ((op < 0x0F06 ∨ 0x0F0F < op)))
    ∧ (∃ (t : Nat) (q : Path) (bytes : List Byte) (s : State) (x : Packet), parsePacket q .port bytes = some x ∧ x.headOk = true ∧ parseOp x.op x.payload = none ∧ s.isNew t x.hdr) :=
  ⟨⟨0x00FF, by intro o; cases o <;> simp [HostOp.opcode], by decide⟩,
    ⟨0, .portA, packetBytes wA 0x00FF [], wOn .armed, ⟨wA, 0x00FF, true, []⟩, by decide, by decide, by decide, by decide⟩⟩

/-- HostTrafficTakesEffect: clauses 1, 2, 3, 4, 5, 6, 7, 8, 9, 10, 11, 12, 13, 14, 15, 16, 17. -/
theorem witness_HostTrafficTakesEffect :
    (∃ (t : Nat) (bar : _) (off : Nat) (len : Nat) (s : State) (z : State) (r : _), (s.begin t).serves .pcie = true ∧ z = noteLink .pcie (s.begin t) ∧ (bar = 0 ∨ bar = 2 ∨ bar = 4) ∧ r = barRead bar off len z)
    ∧ (∃ (t : Nat) (bar : _) (s : State), (s.begin t).serves .pcie = true ∧ (bar = 0 ∨ bar = 2 ∨ bar = 4))
    ∧ (∃ (off : Nat) (len : Nat) (s : State), off % 4 = 0 ∧ off + len ≤ 0x1800000 ∧ (∀ w, off / 8 ≤ w → w ≤ (off + len - 1) / 8 → (s.mark false w).kind = 0))
    ∧ (∃ (off : Nat) (len : Nat) (s : State), off % 4 = 0 ∧ s.hasDram = true ∧ off + len ≤ 0x1FC000000 ∧ (∀ w, off / 8 ≤ w → w ≤ (off + len - 1) / 8 → (s.mark true w).kind = 0))
    ∧ (∃ (off : Nat) (s : State) (r : _), off % 4 = 0 ∧ r = readReg 7 off s)
    ∧ (∃ (off : Nat) (d : List Byte) (s : State), off % 4 = 0 ∧ off + d.length ≤ 0x1800000 ∧ s.mayWriteSram 7 off d.length = true)
    ∧ (∃ (off : Nat) (d : List Byte) (s : State), off % 4 = 0 ∧ s.hasDram = true ∧ off + d.length ≤ 0x1FC000000)
    ∧ (∃ (off : Nat) (d : List Byte), off % 4 = 0 ∧ d.length = 4)
    ∧ (∃ (off : Nat), off % 4 ≠ 0)
    ∧ (∃ (off : Nat) (len : Nat) (d : List Byte), off % 4 = 0 ∧ 0x1800000 < off + len ∧ d.length = len)
    ∧ (∃ (p : Nat) (s : State), s.mode ≠ .off ∧ p < 3)
    ∧ (∃ (p : Nat) (s : State), s.mode ≠ .off ∧ p < 3)
    ∧ (∃ (t : Nat) (q : Path) (s : State) (p : PathSt) (more : Bool), q ≠ .pcie ∧ p = s.path (pathIndex q) ∧ p.queue ≠ [] ∧ more = decide (p.queue.drop 64 ≠ []) ∧ ((64 ≤ p.queue.length ∨ p.oldest + 400000 ≤ max s.now t)))
    ∧ (∃ (t : Nat) (s : State), (s.path 0).queue ≠ [] ∧ ((64 ≤ (s.path 0).queue.length ∨ (s.path 0).oldest + 400000 ≤ max s.now t)))
    ∧ (∃ (q : Path) (s : State) (p : PathSt), p = s.path (pathIndex q))
    ∧ (∃ (t : Nat) (q : Path) (bytes : List Byte) (s : State), (s.begin t).serves q = true ∧ parsePacket q .port bytes = none)
    ∧ (∃ (t : Nat) (q : Path) (bytes : List Byte) (s : State) (x : Packet), (s.begin t).serves q = true ∧ parsePacket q .port bytes = some x) :=
  ⟨⟨0, 4, 0, 8, wOn .armed, _, _, by decide, rfl, by decide, rfl⟩,
    ⟨0, 0, wOn .armed, by decide, by decide⟩,
    ⟨0x17FFFFC, 4, wOn .armed, by decide, by decide, by intro w h1 h2; obtain rfl : w = 0x17FFFFC / 8 := (by omega); decide⟩,
    ⟨0x1FBFFFFFC, 4, { wOn .armed with mem := { State.reset.mem with dram := [(0x1FBFFFFF8, 0)] } }, by decide, by decide, by decide, by intro w h1 h2; obtain rfl : w = 0x1FBFFFFFC / 8 := (by omega); decide⟩,
    ⟨0, wOn .armed, _, by decide, rfl⟩,
    ⟨0, [7], (wOn .armed).rs .memHostwin (fld 16 1), by decide, by decide, by decide⟩,
    ⟨0x1FBFFFFFC, [1, 2, 3, 4], wOn .armed, by decide, by decide, by decide⟩,
    ⟨0, [1, 0, 0, 0], by decide, by decide⟩,
    ⟨1, by decide⟩,
    ⟨0x1800000, 1, [0], by decide, by decide, by decide⟩,
    ⟨2, wOn .armed, by decide, by decide⟩,
    ⟨0, wOn .armed, by decide, by decide⟩,
    ⟨400000, .portA, (wOn .armed).setPath 1 { PathSt.empty with queue := [⟨0, 0, 0, 0, 0⟩] }, _, _, by decide, rfl, by decide, rfl, by decide⟩,
    ⟨400000, (wOn .armed).setPath 0 { PathSt.empty with queue := [⟨0, 0, 0, 0, 0⟩] }, by decide, by decide⟩,
    ⟨.portB, wOn .armed, _, rfl⟩,
    ⟨0, .portB, [], (wOn .armed).rs .netPcfg 0xB8C40003 1, by decide, by decide⟩,
    ⟨0, .portA, packetBytes wA 1 [], wOn .armed, ⟨wA, 1, true, []⟩, by decide, by decide⟩⟩

/-- StatusCommandsAnswer: clauses 1, 2, 3, 4, 5, 6, 7, 8, 9, 10, 11. -/
theorem witness_StatusCommandsAnswer :
    (∃ (t : Nat) (h : Hdr) (s : State), s.takes t h .ping)
    ∧ (∃ (t : Nat) (h : Hdr) (s : State), s.takes t h .sysStatus)
    ∧ (∃ (t : Nat) (h : Hdr) (s : State), s.takes t h .sysIdent)
    ∧ (∃ (t : Nat) (h : Hdr) (s : State) (mask : Nat), s.takes t h (.eventSub mask))
    ∧ (∃ (t : Nat) (h : Hdr) (s : State), s.takes t h .pathReset ∧ h.path ≠ .pcie)
    ∧ (∃ (t : Nat) (h : Hdr) (s : State), s.takes t h .pathReset ∧ h.path = .pcie)
    ∧ (∃ (t : Nat) (h : Hdr) (s : State), s.takes t h .recStatus)
    ∧ (∃ (t : Nat) (h : Hdr) (s : State), s.takes t h .safStatus)
    ∧ (∃ (t : Nat) (h : Hdr) (s : State), s.takes t h .timeGet)
    ∧ (∃ (t : Nat) (h : Hdr) (s : State) (mask : Word), s.takes t h (.bistResult mask) ∧ mask.toNat < 2 ^ 18 ∧ mask.getLsbD 6 = false ∧ mask.getLsbD 7 = false ∧ (∀ u ∈ bistUnits mask.toNat, s.bistHas u = true))
    ∧ (∃ (t : Nat) (h : Hdr) (s : State) (first : Nat) (count : Nat), s.takes t h (.faultLogRead first count) ∧ 1 ≤ count ∧ count ≤ 255) :=
  ⟨⟨0, wA, wOn .armed, by decide⟩,
    ⟨0, wA, wOn .armed, by decide⟩,
    ⟨0, wA, wOn .armed, by decide⟩,
    ⟨0, wA, wOn .armed, 0x0F, by decide⟩,
    ⟨0, wA, wOn .armed, by decide, by decide⟩,
    ⟨0, ⟨.pcie, .port, 0, 0, 0⟩, wOn .armed, by decide, by decide⟩,
    ⟨0, wA, wOn .armed, by decide⟩,
    ⟨0, wA, wOn .armed, by decide⟩,
    ⟨0, wA, wOn .armed, by decide⟩,
    ⟨0, wA, wOn .armed, 0x1, by decide, by decide, by decide, by decide, by decide⟩,
    ⟨0, wA, wOn .armed, 255, 255, by decide, by decide, by decide⟩⟩

/-- RegisterCommandsGoWordByWord: clauses 1, 2, 3. -/
theorem witness_RegisterCommandsGoWordByWord :
    (∃ (t : Nat) (h : Hdr) (s : State) (addr : Nat) (n : Nat) (r : _), s.takes t h (.regRead addr n) ∧ 1 ≤ n ∧ n ≤ 1023 ∧ r = readRegs ((s.begin t).masterOf h.path) addr n 0 (s.taken t h 0x0100))
    ∧ (∃ (t : Nat) (h : Hdr) (s : State) (addr : Nat) (ws : List Word) (r : _), s.takes t h (.regWrite addr ws) ∧ 1 ≤ ws.length ∧ ws.length ≤ 1022 ∧ r = writeRegs ((s.begin t).masterOf h.path) addr ws 0 (s.taken t h 0x0101))
    ∧ (∃ (t : Nat) (h : Hdr) (s : State) (addr : Nat) (mask : Word) (value : Word) (r : _) (w : _), s.takes t h (.regRmw addr mask value) ∧ r = readReg ((s.begin t).masterOf h.path) addr (s.taken t h 0x0102) ∧ r.2.1 = .ok ∧ w = writeReg ((s.begin t).masterOf h.path) addr ((r.2.2 &&& ~~~ mask) ||| (value &&& mask)) r.1 ∧ w.2 = .ok) :=
  ⟨⟨0, wA, wOn .armed, 0, 1, _, by decide, by decide, by decide, rfl⟩,
    ⟨0, wA, wOn .armed, 0, [0], _, by decide, by decide, by decide, rfl⟩,
    ⟨0, wA, wOn .armed, regAddr .mbxNotemask, 0, 0, _, _, by decide, rfl, by decide, rfl, by decide⟩⟩

/-- MemoryCommandsGoThroughTheirRange: clauses 1, 2, 3, 4. -/
theorem witness_MemoryCommandsGoThroughTheirRange :
    (∃ (t : Nat) (h : Hdr) (s : State) (addr : Nat) (len : Nat) (dram : Bool) (off : Nat) (r : _), s.takes t h (.memRead addr len) ∧ 1 ≤ len ∧ len ≤ 4092 ∧ (s.taken t h 0x0200).window ((s.begin t).masterOf h.path) addr len = .ok (dram, off) ∧ r = readRange dram ((s.begin t).masterOf h.path) addr (len / 8 + 2) 0 off len (s.taken t h 0x0200))
    ∧ (∃ (t : Nat) (h : Hdr) (s : State) (addr : Nat) (data : List Byte) (dram : Bool) (off : Nat) (r : _), s.takes t h (.memWrite addr data) ∧ 1 ≤ data.length ∧ data.length ≤ 4088 ∧ (s.taken t h 0x0201).writeWindow ((s.begin t).masterOf h.path) addr data.length = .ok (dram, off) ∧ r = writeRange dram ((s.begin t).masterOf h.path) addr (data.length / 8 + 2) 0 off data (s.taken t h 0x0201))
    ∧ (∃ (t : Nat) (h : Hdr) (s : State) (addr : Nat) (len : Nat) (pat : BitVec 64) (dram : Bool) (off : Nat), s.takes t h (.memFill addr len pat) ∧ addr % 8 = 0 ∧ len % 8 = 0 ∧ 1 ≤ len ∧ len ≤ 2 ^ 31 ∧ (s.taken t h 0x0202).writeWindow ((s.begin t).masterOf h.path) addr len = .ok (dram, off))
    ∧ (∃ (s : State) (f : Fill) (rest : List Fill) (o : Outst), s.mem.fills = f :: rest ∧ ((s.path (pathIndex f.hdr.path)).outst.find? (fun o => decide (o.hdr = f.hdr) && decide (o.wait = .fill))) = some o) :=
  ⟨⟨0, wA, wOn .armed, 0x10000000, 4092, false, 0, _, by decide, by decide, by decide, by decide, rfl⟩,
    ⟨0, wA, (wOn .armed).rs .memHostwin (fld 16 1), 0x10000000, [1], false, 0, _, by decide, by decide, by decide, by decide, rfl⟩,
    ⟨0, wA, (wOn .armed).rs .memHostwin (fld 16 1), 0x10000000, 8, 1, false, 0, by decide, by decide, by decide, by decide, by decide, by decide⟩,
    ⟨{ (wOn .armed).setPath 1 { PathSt.empty with outst := [⟨wA, 0x0202, .fill⟩] } with mem := { State.reset.mem with fills := [⟨wA, 0, 8, 1⟩] } }, ⟨wA, 0, 8, 1⟩, [], ⟨wA, 0x0202, .fill⟩, by decide, by decide⟩⟩

/-- ModeRequestsAreAccepted: clauses 1, 2, 3, 4, 5, 6, 7. -/
theorem witness_ModeRequestsAreAccepted :
    (∃ (t : Nat) (h : Hdr) (s : State), s.takes t h .precharge ∧ s.awn = true ∧ s.mode = .armed ∧ (s.taken t h 0x0300).mayPrecharge = true)
    ∧ (∃ (t : Nat) (h : Hdr) (s : State), s.takes t h .start ∧ s.awn = true ∧ (s.taken t h 0x0301).canStart = true ∧ (s.taken t h 0x0301).acClosed = true ∧ Num.le (Num.ofRatio 85 100) s.len.emf.v1m = true)
    ∧ (∃ (t : Nat) (h : Hdr) (s : State), s.takes t h .blackStart ∧ s.awn = true ∧ (s.taken t h 0x0302).canStart = true ∧ Num.lt s.len.emf.v1m (Num.ofRatio 1 10) = true ∧ Num.le (Num.ofRatio 9 10) s.len.emf.vdcPu = true)
    ∧ (∃ (t : Nat) (h : Hdr) (s : State), s.takes t h .island ∧ s.awn = true ∧ s.mode = .run ∧ s.sub = .gf)
    ∧ (∃ (t : Nat) (h : Hdr) (s : State), s.takes t h (.resync false) ∧ s.awn = true ∧ s.mode = .run ∧ s.sub = .island ∧ s.rb .lenInsel 8 3 = true)
    ∧ (∃ (t : Nat) (h : Hdr) (s : State), s.takes t h (.resync true) ∧ s.awn = true ∧ s.mode = .run ∧ s.sub = .island)
    ∧ (∃ (t : Nat) (h : Hdr) (s : State), s.takes t h .stop ∧ s.awn = true ∧ ((s.mode = .precharge ∨ (s.mode = .run ∧ s.sub ≠ .frt)))) :=
  ⟨⟨0, wA, wPre, by decide, by decide, by decide, by decide⟩,
    ⟨0, wA, { (wAwn .precharge) with len := { LenSt.init with emf := { LenSt.init.emf with v1m := num1, vdcPu := num1 } }, win := { WinSt.init with ready := true } }, by decide, by decide, by decide, by decide, by decide⟩,
    ⟨0, wA, { (wAwn .precharge) with len := { LenSt.init with emf := { LenSt.init.emf with v1m := Machine.Num.zero, vdcPu := num1 } }, win := { WinSt.init with ready := true } }, by decide, by decide, by decide, by decide, by decide⟩,
    ⟨0, wA, wRun .gf, by decide, by decide, by decide, by decide⟩,
    ⟨0, wA, (wRun .island).rs .lenInsel 0x100 3, by decide, by decide, by decide, by decide, by decide⟩,
    ⟨0, wA, wRun .island, by decide, by decide, by decide, by decide⟩,
    ⟨0, wA, wRun .gf, by decide, by decide, by decide⟩⟩

/-- ModeReportsTakeEffect: clauses 1, 2, 3, 4, 5. -/
theorem witness_ModeReportsTakeEffect :
    (∃ (t : Nat) (h : Hdr) (s : State) (closed : Bool) (time : Word), s.takes t h (.tieStatus closed true time) ∧ (s.taken t h 0x0306).pastOk time = true)
    ∧ (∃ (t : Nat) (h : Hdr) (s : State) (closed : Bool) (time : Word), s.takes t h (.tieStatus closed false time) ∧ (s.taken t h 0x0306).pastOk time = true)
    ∧ (∃ (t : Nat) (h : Hdr) (s : State) (service : Bool), s.takes t h (.resetTrip service) ∧ s.mode = .tripped ∧ s.acOpen = true ∧ ¬ (service = true ∧ (s.taken t h 0x0307).rb .redCtrl 0 = true) ∧ (s.taken t h 0x0307).justTripped = false)
    ∧ (∃ (t : Nat) (h : Hdr) (s : State), s.takes t h .serviceEnter ∧ s.mode = .armed ∧ (s.taken t h 0x0308).rb .redCtrl 0 = false)
    ∧ (∃ (t : Nat) (h : Hdr) (s : State) (z : State), s.takes t h .serviceLeave ∧ z = s.taken t h 0x0309 ∧ s.mode = .service ∧ z.bistFailed = false ∧ s.bst.running = false) :=
  ⟨⟨0, wA, wOn .armed, true, 0, by decide, by decide⟩,
    ⟨0, wA, wOn .armed, true, 0, by decide, by decide⟩,
    ⟨0, wA, { wOn .tripped with variant := .n, len := { LenSt.init with run := { LenSt.init.run with ac := some (false, 0) } } }, true, by decide, by decide, by decide, by decide, by decide⟩,
    ⟨0, wA, wAwn .armed, by decide, by decide, by decide⟩,
    ⟨0, wA, wAwn .service, _, by decide, rfl, by decide, by decide, by decide⟩⟩

/-- SheafCommandsTakeEffect: clauses 1, 2, 3, 4, 5, 6. -/
theorem witness_SheafCommandsTakeEffect :
    (∃ (t : Nat) (h : Hdr) (s : State) (n : Nat), s.takes t h .sheafOpen ∧ (List.range 8).find? (fun n => (s.sheaf n).isNone) = some n)
    ∧ (∃ (t : Nat) (h : Hdr) (s : State), s.takes t h .sheafOpen ∧ (∀ n < 8, (s.sheaf n).isSome = true))
    ∧ (∃ (t : Nat) (h : Hdr) (s : State) (n : Nat) (es : List SheafEntry) (x : Sheaf) (y : Sheaf) (k : Nat), s.takes t h (.sheafAdd n es) ∧ s.sheaf n = some x ∧ x.owner = (s.begin t).masterOf h.path ∧ x.state = 1 ∧ addEntries (s.taken t h 0x0401) es x 0 = (y, k, none))
    ∧ (∃ (t : Nat) (h : Hdr) (s : State) (n : Nat) (mode : Nat) (x : Sheaf) (s1 : State), s.takes t h (.sheafCommit n mode 0) ∧ ((mode = 1 ∨ mode = 2)) ∧ s.sheaf n = some x ∧ x.owner = (s.begin t).masterOf h.path ∧ x.state = 1 ∧ (s.taken t h 0x0402).sheafFails n x = none ∧ s1 = ({ s.taken t h 0x0402 with shf := { s.shf with order := s.shf.order + 1 } } : State).setSheaf n { x with hdr := some h, how := mode, due := none, order := s.shf.order + 1 })
    ∧ (∃ (t : Nat) (h : Hdr) (s : State) (n : Nat) (time : Word) (x : Sheaf) (s1 : State), s.takes t h (.sheafCommit n 0 time) ∧ s.sheaf n = some x ∧ x.owner = (s.begin t).masterOf h.path ∧ x.state = 1 ∧ atCheck n x time (s.taken t h 0x0402) = none ∧ (s.taken t h 0x0402).sheafFails n x = none ∧ s1 = (({ s.taken t h 0x0402 with shf := { s.shf with order := s.shf.order + 1 } } : State).setSheaf n { x with hdr := some h, how := 0, due := some ((s.taken t h 0x0402).ticks + shortDiff time (s.taken t h 0x0402).short), order := s.shf.order + 1 }).rs .shfStime time n)
    ∧ (∃ (t : Nat) (h : Hdr) (s : State) (n : Nat) (x : Sheaf), s.takes t h (.sheafDiscard n) ∧ s.sheaf n = some x ∧ x.owner = (s.begin t).masterOf h.path ∧ x.state = 1) :=
  ⟨⟨0, wA, wAwn .armed, 0, by decide, by decide⟩,
    ⟨0, wA, { wAwn .armed with shf := ⟨(List.range 8).map (fun n => (n, wSheaf 1)), 0, 0⟩ }, by decide, by decide⟩,
    ⟨0, wA, (wAwn .armed).setSheaf 0 (wSheaf 1), 0, [⟨1, regAddr .lenRegdwell, 5, 0xFFFFFFFF⟩], wSheaf 1, (addEntries (((wAwn .armed).setSheaf 0 (wSheaf 1)).taken 0 wA 0x0401) [⟨1, regAddr .lenRegdwell, 5, 0xFFFFFFFF⟩] (wSheaf 1) 0).1, 1, by decide, by decide, by decide, by decide, by decide⟩,
    ⟨0, wA, (wAwn .armed).setSheaf 7 ({ wSheaf 1 with es := [⟨1, regAddr .recHrd, 1, 0⟩] }), 7, 2, { wSheaf 1 with es := [⟨1, regAddr .recHrd, 1, 0⟩] }, _, by decide, by decide, by decide, by decide, by decide, by decide, rfl⟩,
    ⟨0, wA, (wAwn .armed).setSheaf 0 ({ wSheaf 1 with es := [⟨1, regAddr .recHrd, 1, 0⟩] }), 0, 40000, { wSheaf 1 with es := [⟨1, regAddr .recHrd, 1, 0⟩] }, _, by decide, by decide, by decide, by decide, by decide, by decide, rfl⟩,
    ⟨0, wA, (wAwn .armed).setSheaf 0 (wSheaf 1), 0, wSheaf 1, by decide, by decide, by decide, by decide⟩⟩

/-- CellCommandsTakeEffect: clauses 1, 2, 3, 4, 5, 6. -/
theorem witness_CellCommandsTakeEffect :
    (∃ (t : Nat) (h : Hdr) (s : State) (cell : Nat), s.takes t h (.cellCmd cell 1) ∧ cell < 4096 ∧ (s.taken t h 0x0500).accepts ((s.begin t).masterOf h.path) (regAddr .celCmd) (fld 0 cell ||| fld 12 1) ⟨.celCmd, 0, 0⟩)
    ∧ (∃ (t : Nat) (h : Hdr) (s : State) (cell : Nat), s.takes t h (.cellCmd cell 2) ∧ cell < 4096 ∧ (s.taken t h 0x0500).accepts ((s.begin t).masterOf h.path) (regAddr .celCmd) (fld 0 cell ||| fld 12 2) ⟨.celCmd, 0, 0⟩)
    ∧ (∃ (t : Nat) (h : Hdr) (s : State) (cell : Nat), s.takes t h (.cellCmd cell 3) ∧ cell < 4096 ∧ (s.taken t h 0x0500).accepts ((s.begin t).masterOf h.path) (regAddr .celCmd) (fld 0 cell ||| fld 12 3) ⟨.celCmd, 0, 0⟩)
    ∧ (∃ (t : Nat) (h : Hdr) (s : State) (link : Nat) (slot : Nat) (op : Nat) (addr : Nat) (data : List Byte), s.takes t h (.cellTxn link slot op addr data) ∧ link < s.links ∧ ((op = 1 ∨ op = 7 ∨ (op = 2 ∧ s.awn = true ∧ s.running = false))) ∧ data.length ≤ 64 ∧ ((slot < 24 ∨ slot = 31)) ∧ (s.taken t h 0x0501).linkUp link = true)
    ∧ (∃ (t : Nat) (h : Hdr) (s : State) (link : Nat), s.takes t h (.linkBlock link false) ∧ link < 128 ∧ (s.taken t h 0x0502).rb .lnkLctrl 0 link = true ∧ (s.taken t h 0x0502).accepts ((s.begin t).masterOf h.path) (regAddr .lnkBlkcmd) (fld 0 link) ⟨.lnkBlkcmd, 0, 0⟩)
    ∧ (∃ (t : Nat) (h : Hdr) (s : State) (link : Nat), s.takes t h (.linkBlock link true) ∧ (s.taken t h 0x0502).accepts ((s.begin t).masterOf h.path) (regAddr .lnkBlkcmd) (fld 0 (link % 128) ||| 0x80) ⟨.lnkBlkcmd, 0, 0⟩) :=
  ⟨⟨0, wA, (wAwn .armed).setProt 3071 { wP with st := 4 }, 3071, by decide, by decide, by decide⟩,
    ⟨0, wA, (wAwn .armed).setProt 0 { wP with st := 7 }, 0, by decide, by decide, by decide⟩,
    ⟨0, wA, (wAwn .armed).setProt 0 { wP with st := 8 }, 0, by decide, by decide, by decide⟩,
    ⟨0, wA, ((wAwn .armed).rs .lnkUp 0x80000000 3).setLink 127 { Link.init with stage := 2 }, 127, 31, 7, 0, [], by decide, by decide, by decide, by decide, by decide, by decide⟩,
    ⟨0, wA, ((wAwn .armed).setLink 127 { Link.init with stage := 2 }).rs .lnkLctrl 1 127, 127, by decide, by decide, by decide, by decide⟩,
    ⟨0, wA, wAwn .armed, 127, by decide, by decide⟩⟩

/-- SafetyAndPairCommandsTakeEffect: clauses 1, 2, 3, 4, 5, 6. -/
theorem witness_SafetyAndPairCommandsTakeEffect :
    (∃ (t : Nat) (h : Hdr) (s : State) (img : List Byte) (r : _), s.takes t h (.safConfigWrite img) ∧ r = safConfigWrite img (s.taken t h 0x0700))
    ∧ (∃ (t : Nat) (h : Hdr) (s : State) (lane : Nat) (crc : Word) (r : _), s.takes t h (.safConfigConfirm lane crc) ∧ lane ≤ 1 ∧ r = safConfirm lane crc (s.taken t h 0x0701))
    ∧ (∃ (t : Nat) (h : Hdr) (s : State), s.takes t h .safReset ∧ (s.taken t h 0x0703).resetOk = true)
    ∧ (∃ (t : Nat) (h : Hdr) (s : State) (c : State), s.takes t h .pairClaim ∧ (s.taken t h 0x0800).mayClaim = true ∧ c = claimAwn (s.taken t h 0x0800) ∧ c.awn = true)
    ∧ (∃ (t : Nat) (h : Hdr) (s : State), s.takes t h .pairSwitchover ∧ ((s.mode = .armed ∨ s.mode = .precharge ∨ s.mode = .run)) ∧ s.awn = true ∧ (s.taken t h 0x0801).pairReady = true)
    ∧ (∃ (t : Nat) (h : Hdr) (s : State), s.takes t h .pairResync ∧ (s.taken t h 0x0802).rb .redCtrl 0 = true ∧ s.mode = .standbyCold ∧ s.awn = false) :=
  ⟨⟨0, wA, wOn .armed, List.replicate 128 0, _, by decide, rfl⟩,
    ⟨0, wA, wOn .armed, 1, 0, _, by decide, by decide, rfl⟩,
    ⟨0, wA, { wSaf with saf := { wSaf.saf with causes := 0 } }, by decide, by decide⟩,
    ⟨0, wA, (wOn .standbyCold).rs .redCtrl 1, _, by decide, by decide, rfl, by decide⟩,
    ⟨0, wA, wPair .armed, by decide, by decide, by decide, by decide⟩,
    ⟨0, wA, (wOn .standbyCold).rs .redCtrl 1, by decide, by decide, by decide, by decide⟩⟩

/-- TimeTestAndFactoryCommandsTakeEffect: clauses 1, 2, 3, 4, 5, 6, 7, 8, 9, 10, 11. -/
theorem witness_TimeTestAndFactoryCommandsTakeEffect :
    (∃ (t : Nat) (h : Hdr) (s : State) (sec : Nat) (ns : Nat) (frac : Nat), s.takes t h (.timeStepAbs sec ns frac) ∧ ns ≤ 999999999 ∧ ((s.mode = .init ∨ s.mode = .factoryTest ∨ ((s.mode = .armed ∨ s.mode = .service ∨ s.mode = .tripped) ∧ s.awn = true))))
    ∧ (∃ (t : Nat) (h : Hdr) (s : State) (amount : Int), s.takes t h (.timeStepRel amount) ∧ ((s.mode = .init ∨ s.mode = .factoryTest ∨ ((s.mode = .armed ∨ s.mode = .service ∨ s.mode = .tripped) ∧ s.awn = true))))
    ∧ (∃ (t : Nat) (h : Hdr) (s : State), s.takes t h .timeStepToRef ∧ ((s.mode = .init ∨ s.mode = .factoryTest ∨ ((s.mode = .armed ∨ s.mode = .service ∨ s.mode = .tripped) ∧ s.awn = true))))
    ∧ (∃ (t : Nat) (h : Hdr) (s : State) (mask : Word), s.takes t h (.bistRun mask) ∧ (bistCheck mask.toNat (s.taken t h 0x0A00)).1 = .ok)
    ∧ (∃ (t : Nat) (h : Hdr) (s : State) (mask : Nat), s.takes t h (.faultAck mask) ∧ mask % 2 = 0 ∧ mask < 2 ^ 14)
    ∧ (∃ (t : Nat) (h : Hdr) (s : State), s.takes t h .factoryEnter ∧ ((s.mode = .init ∧ (s.taken t h 0x0F00).bistFailed = false) ∨ s.mode = .service) ∧ (s.taken t h 0x0F00).rb .redCtrl 0 = false)
    ∧ (∃ (t : Nat) (h : Hdr) (s : State) (code : Nat) (addr : Nat) (r : _), s.takes t h (.faultInject code addr) ∧ r = injectFault code addr (s.taken t h 0x0F01))
    ∧ (∃ (t : Nat) (h : Hdr) (s : State) (addr : Nat) (a : Nat) (b : Option Nat) (r : _), s.takes t h (.memInject addr a b) ∧ r = injectMem addr a b (s.taken t h 0x0F02))
    ∧ (∃ (t : Nat) (h : Hdr) (s : State) (link : Nat) (cause : Nat) (count : Nat) (up : Bool) (r : _), s.takes t h (.linkInject link cause count up) ∧ r = injectLink link cause count up (s.taken t h 0x0F03))
    ∧ (∃ (t : Nat) (h : Hdr) (s : State), s.takes t h .injClear)
    ∧ (∃ (t : Nat) (h : Hdr) (s : State), s.takes t h .factoryLeave) :=
  ⟨⟨0, wA, wAwn .tripped, 0, 999999999, 0, by decide, by decide, by decide⟩,
    ⟨0, wA, wAwn .service, -1, by decide, by decide⟩,
    ⟨0, wA, wOn .init, by decide, by decide⟩,
    ⟨0, wA, wOn .service, 1, by decide, by decide⟩,
    ⟨0, wA, wOn .armed, 0x3FFE, by decide, by decide, by decide⟩,
    ⟨0, wS, { wOn .service with factory := true }, by decide, by decide, by decide⟩,
    ⟨0, wS, wFac, 0x0110, 0, _, by decide, rfl⟩,
    ⟨0, wS, wFac, 0x10000000, 0, none, _, by decide, rfl⟩,
    ⟨0, wS, wFac, 0, 0, 1, true, _, by decide, rfl⟩,
    ⟨0, wS, wFac, by decide⟩,
    ⟨0, wS, wFac, by decide⟩⟩

/-- RegisterStandsAtItsAddress: clause 1. -/
theorem witness_RegisterStandsAtItsAddress : ∃ (addr : Nat) (r : Reg), regAt addr = some r :=
  ⟨regAddr .lnkLctrl 127, ⟨.lnkLctrl, 127, 0⟩, by decide⟩

/-- StoredWordReadsBack: clause 1. -/
theorem witness_StoredWordReadsBack : ∃ (n : RName) (i : Nat) (j : Nat) (m : RName) (k : Nat) (l : Nat), regAddr m k l ≠ regAddr n i j :=
  ⟨.lenBase, 0, 0, .recHrd, 0, 0, by decide⟩

/-- AcceptedWriteTakesEffect: clauses 1, 2. -/
theorem witness_AcceptedWriteTakesEffect :
    (∃ (c : Instr) (t : Nat) (m : Master) (addr : Nat) (v : Word) (s : State) (r : Reg), regRowOf c = some (t, m, addr, v) ∧ s.writes t m addr v r)
    ∧ (∃ (t : Nat) (m : Master) (addr : Nat) (v : Word) (s : State) (r : Reg), s.writes t m addr v r) :=
  ⟨⟨.registerWrite 0 1 (regAddr .lenRegdwell) 5, 0, 1, _, 5, wOn .armed, ⟨.lenRegdwell, 0, 0⟩, rfl, by decide⟩,
    ⟨0, 1, regAddr .lenTcclr, 1, wOn .armed, ⟨.lenTcclr, 0, 0⟩, by decide⟩⟩

/-- PlainWriteChangesOneWord: clause 1. -/
theorem witness_PlainWriteChangesOneWord : ∃ (c : Instr) (t : Nat) (m : Master) (addr : Nat) (v : Word) (s : State) (r : Reg), regRowOf c = some (t, m, addr, v) ∧ s.writes t m addr v r ∧ r.name.plain = true :=
  ⟨.registerWrite 0 1 (regAddr .lenRegdwell) 5, 0, 1, _, 5, wOn .armed, ⟨.lenRegdwell, 0, 0⟩, rfl, by decide, by decide⟩

/-- ClearWriteClearsItsCounters: clauses 1, 2. -/
theorem witness_ClearWriteClearsItsCounters :
    (∃ (c : Instr) (t : Nat) (m : Master) (addr : Nat) (v : Word) (s : State) (r : Reg), regRowOf c = some (t, m, addr, v) ∧ s.writes t m addr v r ∧ r.name.clears = true)
    ∧ (∃ (t : Nat) (m : Master) (v : Word) (s : State) (p : Instr × RName), p ∈ [(Instr.tcompClear t m v, RName.lenTcclr), (.defClear t m v, .winCntclr), (.swClear t m v, .winCntclr), (.qlimClear t m v, .fscCntclr), (.rejClear t m v, .fscCntclr), (.chaffClear t m v, .lnkCntclr), (.otherClear t m v, .lnkCntclr), (.gapClear t m v, .recCntclr), (.markClear t m v, .recCntclr), (.shfCountClear t m v, .shfCntclr), (.cklostClear t m v, .redCntclr), (.takeClear t m v, .redCntclr), (.sizeClear t m v, .redCntclr), (.memCountClear t m v, .memCntclr), (.safCountClear t m v, .safCntclr), (.netCountClear t m v, .netCntclr), (.violClear t m v, .fltCntclr)] ∧ s.writes t m (regAddr p.2) v ⟨p.2, 0, 0⟩) :=
  ⟨⟨.violClear 0 1 1, 0, 1, _, 1, wOn .armed, ⟨.fltCntclr, 0, 0⟩, rfl, by decide, by decide⟩,
    ⟨0, 1, 1, wOn .armed, (.tcompClear 0 1 1, .lenTcclr), by decide, by decide⟩⟩

/-- AllowedReadReturnsWord: clauses 1, 2. -/
theorem witness_AllowedReadReturnsWord :
    (∃ (c : Instr) (t : Nat) (m : Master) (addr : Nat) (s : State) (r : Reg), readRowOf c = some (t, m, addr) ∧ s.mode ≠ .off ∧ regAt addr = some r ∧ (s.begin t).absentReg r = false ∧ (s.begin t).mayAccess m.toNat false r = true ∧ mbxReadCheck (s.begin t) m.toNat r = none ∧ smallOf addr = none)
    ∧ (∃ (t : Nat) (n : Nat) (m : Master) (s : State) (p : Instr × Reg), p ∈ [(Instr.sampleSnapshot t m false n, (⟨.filNout, n, 0⟩ : Reg)), (.sampleSnapshot t m true n, ⟨.filPout, n, 0⟩), (.resultSnapshot t m false n, ⟨.madRes, n, 0⟩), (.resultSnapshot t m true n, ⟨.madInjres, 0, 0⟩), (.nowSnapshot t m, ⟨.timNowtl, 0, 0⟩), (.logSnapshot t m n, ⟨.fltLog, n, 0⟩), (.crcVallRead t m n, ⟨.crcVall, n, 0⟩)] ∧ s.mode ≠ .off ∧ p.2.i < p.2.name.spec.n ∧ (s.begin t).absentReg p.2 = false ∧ (s.begin t).mayAccess m.toNat false p.2 = true) :=
  ⟨⟨.nowSnapshot 0 1, 0, 1, _, wOn .armed, ⟨.timNowtl, 0, 0⟩, rfl, by decide, by decide, by decide, by decide, by decide, by decide⟩,
    ⟨0, 0, 1, wOn .armed, (.sampleSnapshot 0 1 false 0, ⟨.filNout, 0, 0⟩), by decide, by decide, by decide, by decide, by decide⟩⟩

/-- RefusedWriteChangesNothing: clause 1. -/
theorem witness_RefusedWriteChangesNothing : ∃ (c : Instr) (t : Nat) (m : Master) (addr : Nat) (v : Word) (s : State) (b : State), regRowOf c = some (t, m, addr, v) ∧ s.mode ≠ .off ∧ b = s.begin t :=
  ⟨.registerWrite 0 1 0xFFFFC 5, 0, 1, _, 5, wOn .armed, _, rfl, by decide, rfl⟩

/-- MailboxWritesTakeEffect: clauses 1, 2, 3, 4, 5, 6. -/
theorem witness_MailboxWritesTakeEffect :
    (∃ (t : Nat) (m : Master) (c : Nat) (v : Word) (s : State) (b : State), b = s.begin t ∧ s.writes t m (regAddr .mbxSend c) v ⟨.mbxSend, c, 0⟩)
    ∧ (∃ (t : Nat) (m : Master) (c : Nat) (v : Word) (s : State) (b : State) (g : Msg) (rest : List Msg), b = s.begin t ∧ s.writes t m (regAddr .mbxAck c) v ⟨.mbxAck, c, 0⟩ ∧ v.getLsbD 0 = true ∧ (s.chan c).msgs = g :: rest)
    ∧ (∃ (t : Nat) (m : Master) (v : Word) (s : State) (b : State), b = s.begin t ∧ s.writes t m (regAddr .mbxDbell) v ⟨.mbxDbell, 0, 0⟩ ∧ (∀ c < 32, v.getLsbD c = true → s.bindDst c = m.toNat ∧ s.bindEn c = true))
    ∧ (∃ (t : Nat) (m : Master) (v : Word) (s : State) (b : State), b = s.begin t ∧ s.writes t m (regAddr .mbxNote) v ⟨.mbxNote, 0, 0⟩ ∧ (∀ c < 32, v.getLsbD c = true → s.bindSrc c = m.toNat ∧ s.bindEn c = true))
    ∧ (∃ (t : Nat) (m : Master) (v : Word) (s : State), s.writes t m (regAddr .mbxCtrl) v ⟨.mbxCtrl, 0, 0⟩)
    ∧ (∃ (t : Nat) (a : Nat) (b : Nat) (s : State) (z : State), z = s.begin t ∧ a < 32 ∧ b < 32 ∧ a ≠ b ∧ s.bindEn a = true ∧ s.bindEn b = true ∧ s.bindSrc a = s.bindDst b ∧ s.bindDst a = s.bindSrc b ∧ (s.chan a).cross = false ∧ (∀ c, c = a ∨ c = b → (s.chan c).msgs ≠ [] ∧ (s.chan c).since + s.rf .mbxCtrl 8 8 * 40000 < max s.now t)) :=
  ⟨⟨0, 1, 31, 64, wBind, _, rfl, by decide⟩,
    ⟨0, 2, 31, 1, wBind.setChan 31 { Chan.empty with msgs := [⟨[1], true, 0⟩] }, _, ⟨[1], true, 0⟩, [], rfl, by decide, by decide, by decide⟩,
    ⟨0, 2, 0x80000000, wBind, _, rfl, by decide, by decide⟩,
    ⟨0, 1, 0x80000000, wBind, _, rfl, by decide, by decide⟩,
    ⟨0, 0, 0x0A01, wOn .armed, by decide⟩,
    ⟨400001, 30, 31, ((wBind.rs .mbxBind (fld 0 2 ||| fld 4 1 ||| bitAt 8 true) 30).setChan 30 { Chan.empty with msgs := [⟨[1], false, 0⟩] }).setChan 31 { Chan.empty with msgs := [⟨[2], false, 0⟩] }, _, rfl, by decide, by decide, by decide, by decide, by decide, by decide, by decide, by decide, by rintro c (rfl | rfl) <;> decide⟩⟩

/-- MasterResetLeavesOrphans: clauses 1, 2, 3, 4. -/
theorem witness_MasterResetLeavesOrphans :
    (∃ (s : State) (m : Nat) (c : Nat), c < 32 ∧ s.bindEn c = true ∧ s.bindSrc c = m ∧ s.bindDst c ≠ m)
    ∧ (∃ (s : State) (m : Nat) (c : Nat), c < 32 ∧ s.bindEn c = true ∧ s.bindDst c = m ∧ (∀ g ∈ (s.chan c).msgs, g.sent < s.now))
    ∧ (∃ (s : State) (m : Nat) (c : Nat), c < 32 ∧ s.bindEn c = true ∧ s.bindDst c = m ∧ s.bindSrc c ≠ m)
    ∧ (∃ (s : State) (c : Nat) (g : Msg) (rest : List Msg), (s.chan c).msgs = g :: rest ∧ g.orphan = true) :=
  ⟨⟨wBind, 1, 31, by decide, by decide, by decide, by decide⟩,
    ⟨wBind, 2, 31, by decide, by decide, by decide, by decide⟩,
    ⟨wBind.setChan 31 { Chan.empty with msgs := [⟨[1], false, 0⟩] }, 2, 31, by decide, by decide, by decide, by decide⟩,
    ⟨wBind.setChan 31 { Chan.empty with msgs := [⟨[1], true, 0⟩] }, 31, ⟨[1], true, 0⟩, [], by decide, by decide⟩⟩

/-- CrcRowsTakeEffect: clauses 1, 2, 3, 4, 5, 6, 7, 8, 9. -/
theorem witness_CrcRowsTakeEffect :
    (∃ (t : Nat) (m : Master) (u : Nat) (v : Word) (s : State) (b : State), b = s.begin t ∧ s.writes t m (regAddr .crcCfg u) v ⟨.crcCfg, u, 0⟩)
    ∧ (∃ (t : Nat) (m : Master) (u : Nat) (v : Word) (s : State) (b : State), b = s.begin t ∧ s.writes t m (regAddr .crcDatab u) v ⟨.crcDatab, u, 0⟩)
    ∧ (∃ (t : Nat) (m : Master) (u : Nat) (v : Word) (s : State) (b : State), b = s.begin t ∧ s.writes t m (regAddr .crcDataw u) v ⟨.crcDataw, u, 0⟩)
    ∧ (∃ (t : Nat) (m : Master) (u : Nat) (v : Word) (s : State) (b : State), b = s.begin t ∧ s.writes t m (regAddr .crcDatad u) v ⟨.crcDatad, u, 0⟩)
    ∧ (∃ (t : Nat) (m : Master) (u : Nat) (v : Word) (s : State) (b : State), b = s.begin t ∧ s.writes t m (regAddr .crcClaim u) v ⟨.crcClaim, u, 0⟩ ∧ v.getLsbD 4 = true)
    ∧ (∃ (t : Nat) (m : Master) (u : Nat) (v : Word) (s : State) (b : State), b = s.begin t ∧ s.writes t m (regAddr .crcClaim u) v ⟨.crcClaim, u, 0⟩ ∧ v.getLsbD 4 = false)
    ∧ (∃ (t : Nat) (m : Master) (u : Nat) (v : Word) (s : State) (b : State), b = s.begin t ∧ s.writes t m (regAddr .crcValh u) v ⟨.crcValh, u, 0⟩)
    ∧ (∃ (t : Nat) (m : Master) (u : Nat) (v : Word) (s : State) (b : State), b = s.begin t ∧ s.writes t m (regAddr .crcVall u) v ⟨.crcVall, u, 0⟩)
    ∧ (∃ (t : Nat) (m : Master) (u : Nat) (s : State) (b : State), b = s.begin t ∧ s.mode ≠ .off ∧ u < 4 ∧ b.mayAccess m.toNat false ⟨.crcVall, u, 0⟩ = true) :=
  ⟨⟨0, 1, 3, 0x3A0, wCrc, _, rfl, by decide⟩,
    ⟨0, 1, 3, 0x31, wCrc, _, rfl, by decide⟩,
    ⟨0, 1, 3, 1, wCrc, _, rfl, by decide⟩,
    ⟨0, 1, 3, 1, wCrc, _, rfl, by decide⟩,
    ⟨0, 1, 3, 16, wOn .armed, _, rfl, by decide, by decide⟩,
    ⟨0, 1, 3, 0, wCrc, _, rfl, by decide, by decide⟩,
    ⟨0, 1, 3, 1, wCrc, _, rfl, by decide⟩,
    ⟨0, 1, 3, 1, wCrc, _, rfl, by decide⟩,
    ⟨0, 1, 3, wOn .armed, _, rfl, by decide, by decide, by decide⟩⟩

/-- ContextSwitchKeepsCrcUnit: clauses 1, 5. -/
theorem witness_ContextSwitchKeepsCrcUnit :
    (∃ (s : State) (m : Nat) (u : Nat), u < 4 ∧ s.mayAccess m false ⟨.crcVall, u, 0⟩ = true)
    ∧ (∃ (s : State) (z : State) (m : Nat) (u : Nat) (w : State), s.rg .crcCfg u &&& ~~~ 0x3FF = 0 ∧ z.rg .crcCfg u &&& ~~~ 0x3FF = 0 ∧ s.rg .crcAlivelast u &&& ~~~ 0x1FFFF = 0 ∧ w = (writeEffect m ⟨.crcAlivelast, u, 0⟩ (s.rg .crcAlivelast u) (writeEffect m ⟨.crcVall, u, 0⟩ (s.rg .crcVall u) (writeEffect m ⟨.crcValh, u, 0⟩ (s.rg .crcValh u) (writeEffect m ⟨.crcCfg, u, 0⟩ (s.rg .crcCfg u) z).1).1).1).1) :=
  ⟨⟨wOn .armed, 1, 3, by decide, by decide⟩,
    ⟨State.reset, State.reset, 1, 3, _, by decide, by decide, by decide, rfl⟩⟩

/-- AliveCounterIsCompared: clauses 1, 2, 3. -/
theorem witness_AliveCounterIsCompared :
    (∃ (s : State) (m : Nat) (u : Nat) (v : Word) (x : State), x = (writeEffect m ⟨.crcAlive, u, 0⟩ v s).1)
    ∧ (∃ (v : Word) (k : Nat), k < 2 ∧ v.getLsbD k = true)
    ∧ (∃ (t : Nat) (m : Master) (u : Nat) (v : Word) (s : State), s.writes t m (regAddr .crcAlive u) v ⟨.crcAlive, u, 0⟩) :=
  ⟨⟨State.reset, 1, 3, 0xFFFF, _, rfl⟩,
    ⟨2, 1, by decide, by decide⟩,
    ⟨0, 1, 3, 0xFFFF, wCrc, by decide⟩⟩

/-- MemoryReadsWhatWasWritten: clauses 1, 2. -/
theorem witness_MemoryReadsWhatWasWritten :
    (∃ (dram : Bool) (m : Nat) (addr : Nat) (off : Nat) (data : List Byte) (s : State) (r : _), (∀ w, off / 8 ≤ w → w ≤ (off + data.length - 1) / 8 → (s.mark dram w).kind = 0) ∧ r = writeRange dram m addr (data.length / 8 + 2) 0 off data s)
    ∧ (∃ (dram : Bool) (off : Nat) (len : Nat) (s : State), (∀ w, off / 8 ≤ w → w ≤ (off + len - 1) / 8 → (s.mark dram w).kind = 0)) :=
  ⟨⟨false, 7, 0, 7, [1, 2], State.reset, _, by intro w _ _; show Mark.clean.kind = 0; decide, rfl⟩,
    ⟨false, 7, 2, State.reset, by intro w _ _; show Mark.clean.kind = 0; decide⟩⟩

/-- WordOutcomeFollowsItsCheckBits: clause 2. -/
theorem witness_WordOutcomeFollowsItsCheckBits : ∃ (dram : Bool) (pat : BitVec 64) (n : Nat) (w : Nat) (s : State) (z : State), z = fillWords dram pat n w s :=
  ⟨true, 1, 1, 0, State.reset, _, rfl⟩

/-- MemoryUpkeepTakesEffect: clauses 1, 2, 3, 4, 5, 6, 7, 8. -/
theorem witness_MemoryUpkeepTakesEffect :
    (∃ (m : Nat) (off : Nat) (len : Nat), 7 ≤ m ∧ m ≤ 11 ∧ 1 ≤ len ∧ off % 4 = 0 ∧ off + len ≤ 0x1800000)
    ∧ (∃ (s : State), s.pwr.boot = 1)
    ∧ (∃ (t : Nat) (m : Master) (v : Word) (s : State) (b : State), b = s.begin t ∧ s.writes t m (regAddr .memRetire) v ⟨.memRetire, 0, 0⟩ ∧ v.toNat % 2 ^ 21 < (if v.getLsbD 31 then 2080768 else 24576) ∧ ((v.getLsbD 31 = true → s.hasDram = true)) ∧ s.mem.retire = none ∧ s.isRetired (v.toNat / 2 ^ 31) (v.toNat % 2 ^ 21) = false ∧ s.retCnt < 64 ∧ (s.freeSpare (v.toNat / 2 ^ 31)).isSome = true)
    ∧ (∃ (s : State) (k : Nat) (i : Nat), s.mem.retire = some (k, i))
    ∧ (∃ (s : State) (w : _), s.mode ≠ .off ∧ w = (s.rg .memGleanpos).toNat)
    ∧ (∃ (s : State) (w : _), s.mode ≠ .off ∧ s.hasDram = true ∧ s.rb .memCtrl 0 = true ∧ w = (s.rg .memGleanposd).toNat)
    ∧ (∃ (dram : Bool) (w : _) (s : State), (s.mark dram w).kind = 0)
    ∧ (∃ (t : Nat) (s : State) (res : List BistRes) (z : State), s.bst.running = true ∧ s.bst.start + bistTicks s.bst.mask ≤ max s.now t ∧ z = (bistUnits s.bst.mask).foldl (bistResult res) { s.begin t with bst := { s.bst with running := false, unit := (bistUnits s.bst.mask).getLastD 0, mask := 0 } }) :=
  ⟨⟨11, 0x17FFFFC, 4, by decide, by decide, by decide, by decide, by decide⟩,
    ⟨{ wOn .init with pwr := { State.reset.pwr with boot := 1 } }, by decide⟩,
    ⟨0, 1, 0x801FBFFF, wOn .armed, _, rfl, by decide, by decide, by decide, by decide, by decide, by decide, by decide⟩,
    ⟨{ wOn .armed with mem := { State.reset.mem with retire := some (1, 0) } }, 1, 0, by decide⟩,
    ⟨(wOn .armed).rs .memGleanpos 3145727, _, by decide, rfl⟩,
    ⟨{ (wOn .armed).rs .memCtrl 1 with mem := { State.reset.mem with dram := [(0, 0)] } }, _, by decide, by decide, by decide, rfl⟩,
    ⟨true, 0, { State.reset with mem := { State.reset.mem with dram := [(0, 0)] } }, by decide⟩,
    ⟨400000000000, { wOn .armed with bst := ⟨true, 1, 0, 0, false⟩ }, [], _, by decide, by decide, rfl⟩⟩

/-- RaisedFaultIsLogged: clauses 1, 2. -/
theorem witness_RaisedFaultIsLogged :
    (∃ (f : FaultArg) (s : State) (r : _), 1 ≤ f.code / 256 ∧ f.code / 256 ≤ 13 ∧ r = raise0 f s)
    ∧ (∃ (f : FaultArg), 1 ≤ f.code / 256 ∧ f.code / 256 ≤ 13) :=
  ⟨⟨{ code := 0x0DFF, base := .l3 }, State.reset, _, by decide, by decide, rfl⟩,
    ⟨{ code := 0x0DFF, base := .l3 }, by decide, by decide⟩⟩

/-- LevelDecidesTheAction: clauses 2, 3, 4, 5, 6, 7. -/
theorem witness_LevelDecidesTheAction :
    (∃ (s : State), s.mode = .run ∧ s.pairReady = false)
    ∧ (∃ (s : State), s.mode = .run ∧ s.pairReady = true)
    ∧ (∃ (s : State), s.mode = .precharge)
    ∧ (∃ (s : State), s.mode ≠ .run ∧ s.mode ≠ .precharge)
    ∧ (∃ (s : State), (s.mode = .armed ∨ s.mode = .precharge ∨ s.mode = .run ∨ s.mode = .stopping ∨ s.mode = .service))
    ∧ (∃ (s : State), (s.mode = .init ∨ s.mode = .standbyCold ∨ s.mode = .tripped ∨ s.mode = .factoryTest)) :=
  ⟨⟨wRun .gf, by decide, by decide⟩,
    ⟨{ wPair .run with sub := .gf }, by decide, by decide⟩,
    ⟨wAwn .precharge, by decide⟩,
    ⟨wAwn .stopping, by decide, by decide⟩,
    ⟨wAwn .service, by decide⟩,
    ⟨wOn .factoryTest, by decide⟩⟩

/-- ViolationsAreCapped: clauses 1, 2. -/
theorem witness_ViolationsAreCapped :
    (∃ (s : State), 64 ≤ (s.flt.viol.filter (fun t => decide (s.now < t + 400000000))).length)
    ∧ (∃ (s : State) (acc : Nat) (addr : Nat) (m : Nat) (st : Status) (x : State), (s.flt.viol.filter (fun t => decide (s.now < t + 400000000))).length < 64 ∧ (∀ q < 4, (s.path q).queue.length < 1024) ∧ x = violation acc addr m st s) :=
  ⟨⟨{ wOn .armed with flt := { State.reset.flt with viol := List.replicate 64 0 } }, by decide⟩,
    ⟨{ wOn .armed with flt := { State.reset.flt with viol := List.replicate 63 0 } }, 1, 0, 7, .state, _, by decide, by decide, rfl⟩⟩

/-- AcknowledgementClearsItsClasses: clauses 1, 2. -/
theorem witness_AcknowledgementClearsItsClasses :
    (∃ (mask : Nat) (s : State) (x : State), x = ackMask mask s)
    ∧ (∃ (k : Nat), k < 5) :=
  ⟨⟨0x3FFE, State.reset, _, rfl⟩,
    ⟨4, by decide⟩⟩

/-- PowerAndThermalRowsTakeEffect: clauses 2, 3, 4, 5, 6, 7, 8, 9. -/
theorem witness_PowerAndThermalRowsTakeEffect :
    (∃ (leg : Leg) (s : State), s.pwr.leg leg = 1)
    ∧ (∃ (leg : Leg) (s : State), s.pwr.leg leg = 1)
    ∧ (∃ (s : State), s.pwr.holdup = true ∧ s.mode ≠ .off)
    ∧ (∃ (s : State), s.pwr.legA ≠ 1 ∧ s.pwr.legB ≠ 1 ∧ s.pwr.good = true)
    ∧ (∃ (s : State), (s.pwr.legA = 1 ∨ s.pwr.legB = 1))
    ∧ (∃ (s : State), s.mode ≠ .off)
    ∧ (∃ (t : Nat) (s : State) (e : Nat), s.pwr.burstEnd = some e ∧ e + 24000000000 ≤ max s.now t)
    ∧ (∃ (t : Nat) (s : State) (a : Nat), s.pwr.burstStart = some a ∧ s.len.bur.on = true ∧ (s.begin t).onGrid 40000 = true ∧ ((a + burstLimit s.pwr.inlet ≤ max s.now t ∨ 550 < s.pwr.inlet ∨ 1100 ≤ s.pwr.junc))) :=
  ⟨⟨.a, wOn .armed, by decide⟩,
    ⟨.b, wOn .armed, by decide⟩,
    ⟨{ wOn .armed with pwr := { (wOn .armed).pwr with legA := 0, legB := 0, holdup := true } }, by decide, by decide⟩,
    ⟨{ wOn .armed with pwr := { (wOn .armed).pwr with legA := 0, legB := 2 } }, by decide, by decide, by decide⟩,
    ⟨wOn .armed, by decide⟩,
    ⟨wOn .armed, by decide⟩,
    ⟨24000000000, { wOn .armed with pwr := { (wOn .armed).pwr with burstEnd := some 0 } }, 0, by decide, by decide⟩,
    ⟨40000, { wRun .frt with pwr := { (wOn .armed).pwr with burstStart := some 0, inlet := 551 }, len := { LenSt.init with bur := { LenSt.init.bur with on := true } } }, 0, by decide, by decide, by decide, by decide⟩⟩

/-- StartupFollowsItsSteps: clauses 1, 2, 3, 4, 5, 6. -/
theorem witness_StartupFollowsItsSteps :
    (∃ (s : State), s.pwr.good = true ∧ s.mode = .off)
    ∧ (∃ (okA : Bool) (okB : Bool) (s : State) (first : Nat) (ok : Nat → Bool), s.mode = .init ∧ s.pwr.boot = 1 ∧ s.pwr.fillDone = true ∧ first = (if s.pwr.trialPend then 1 - s.pwr.prefFlash else s.pwr.prefFlash) ∧ ok = (fun b : Nat => (if b = 0 then okA else okB) && decide (s.pwr.broken ≠ some b)))
    ∧ (∃ (s : State), s.pwr.progBusy = true ∧ s.pwr.runBank = 0)
    ∧ (∃ (s : State), s.pwr.progBusy = true ∧ s.pwr.runBank = 1)
    ∧ (∃ (s : State), s.mode = .init ∧ (s.pwr.boot = 2 ∨ s.pwr.boot = 3) ∧ s.bistFailed = false ∧ s.pwr.cfgOk = true ∧ s.bst.running = false ∧ s.rb .redCtrl 0 = true)
    ∧ (∃ (s : State), s.mode = .init ∧ (s.pwr.boot = 2 ∨ s.pwr.boot = 3) ∧ s.bistFailed = false ∧ s.pwr.cfgOk = true ∧ s.bst.running = false ∧ s.rb .redCtrl 0 = false ∧ s.nextEpoch < 2 ^ 32) :=
  ⟨⟨{ State.reset with pwr := { State.reset.pwr with good := true, legA := 1 } }, by decide, by decide⟩,
    ⟨false, true, { wOn .init with pwr := { (wOn .init).pwr with boot := 1 } }, _, _, by decide, by decide, by decide, rfl, rfl⟩,
    ⟨{ wOn .armed with pwr := { (wOn .armed).pwr with progBusy := true } }, by decide, by decide⟩,
    ⟨{ wOn .armed with pwr := { (wOn .armed).pwr with progBusy := true, runBank := 1 } }, by decide, by decide⟩,
    ⟨(wOn .init).rs .redCtrl 1, by decide, by decide, by decide, by decide, by decide, by decide⟩,
    ⟨(wOn .init).rs .redCtrl 0, by decide, by decide, by decide, by decide, by decide, by decide, by decide⟩⟩

/-- ClockAndFirmwareCommandsTakeEffect: clauses 1, 2, 3, 4, 5, 6, 7, 8, 9, 10, 11, 12, 13. -/
theorem witness_ClockAndFirmwareCommandsTakeEffect :
    (∃ (t : Nat) (m : Master) (v : Word) (s : State) (b : State), b = s.begin t ∧ s.writes t m (regAddr .pwrFwctrl) v ⟨.pwrFwctrl, 0, 0⟩ ∧ v.getLsbD 1 = true ∧ v.getLsbD 2 = false ∧ v.getLsbD 3 = false)
    ∧ (∃ (t : Nat) (m : Master) (v : Word) (s : State) (b : State), b = s.begin t ∧ s.writes t m (regAddr .pwrFwctrl) v ⟨.pwrFwctrl, 0, 0⟩ ∧ v.getLsbD 1 = false ∧ v.getLsbD 2 = true ∧ v.getLsbD 3 = false)
    ∧ (∃ (t : Nat) (m : Master) (v : Word) (s : State) (b : State), b = s.begin t ∧ s.writes t m (regAddr .pwrFwctrl) v ⟨.pwrFwctrl, 0, 0⟩ ∧ v.getLsbD 1 = false ∧ v.getLsbD 2 = false ∧ v.getLsbD 3 = true)
    ∧ (∃ (t : Nat) (m : Master) (v : Word) (s : State) (b : State), b = s.begin t ∧ s.writes t m (regAddr .clkNfrac) v ⟨.clkNfrac, 0, 0⟩)
    ∧ (∃ (c : Instr) (t : Nat) (m : Master) (v : Word) (s : State) (b : State) (y : State) (z : State), (c = .trial t m v ∨ c = .commit t m v ∨ c = .prog t m v) ∧ b = s.begin t ∧ s.writes t m (regAddr .pwrFwctrl) v ⟨.pwrFwctrl, 0, 0⟩ ∧ y = { b with pwr := { s.pwr with prefFlash := v.toNat % 2, trialPend := s.pwr.trialPend || v.getLsbD 1 } } ∧ z = (if v.getLsbD 2 then { y with pwr := { y.pwr with prefFlash := s.pwr.runBank, trialActive := false } } else y))
    ∧ (∃ (t : Nat) (m : Master) (v : Word) (s : State) (b : State), b = s.begin t ∧ s.writes t m (regAddr .clkCtrl) v ⟨.clkCtrl, 0, 0⟩)
    ∧ (∃ (s : State), s.mode ≠ .off ∧ s.rb .clkStat 1 = false)
    ∧ (∃ (s : State), s.rb .clkCtrl 0 = true ∧ s.clk.locking = true ∧ s.bandFor s.clk.nApplied = none)
    ∧ (∃ (s : State) (k : Nat), s.rb .clkCtrl 0 = true ∧ s.clk.locking = true ∧ s.bandFor s.clk.nApplied = some k)
    ∧ (∃ (t : Nat) (s : State), s.rb .clkStat 2 = true ∧ s.rb .clkStat 3 = true ∧ s.clk.settledFrom + 64 * (if s.rf .clkCtrl 1 2 = 1 then 400000000 else 40) ≤ max s.now t)
    ∧ (∃ (s : State), s.rb .clkStat 2 = true)
    ∧ (∃ (s : State), s.rb .clkCtrl 0 = true ∧ s.rf .clkCtrl 1 2 ≠ 1)
    ∧ (∃ (s : State), (s.rb .clkCtrl 0 = false ∨ s.rf .clkCtrl 1 2 = 1)) :=
  ⟨⟨0, 10, 2, wOn .service, _, rfl, by decide, by decide, by decide, by decide⟩,
    ⟨0, 10, 4, { wOn .service with pwr := { (wOn .service).pwr with trialActive := true } }, _, rfl, by decide, by decide, by decide, by decide⟩,
    ⟨0, 10, 8, ((wOn .service).rs .pwrFwsrc 0x10000000).rs .pwrFwlen 8, _, rfl, by decide, by decide, by decide, by decide⟩,
    ⟨0, 1, 0, wOn .armed, _, rfl, by decide⟩,
    ⟨.trial 0 10 2, 0, 10, 2, wOn .service, _, _, _, by decide, rfl, by decide, rfl, rfl⟩,
    ⟨0, 1, 0x6401, (wOn .armed).rs .clkBand 0x80000001, _, rfl, by decide⟩,
    ⟨wOn .armed, by decide, by decide⟩,
    ⟨{ (wOn .armed).rs .clkCtrl 1 with clk := { State.reset.clk with locking := true } }, by decide, by decide, by decide⟩,
    ⟨{ ((wOn .armed).rs .clkCtrl 1).rs .clkBand 0x8000FFFF 0 with clk := { State.reset.clk with locking := true } }, 0, by decide, by decide, by decide⟩,
    ⟨2560, (wOn .armed).rs .clkStat 0xC, by decide, by decide, by decide⟩,
    ⟨(wOn .armed).rs .clkStat 4, by decide⟩,
    ⟨(wOn .armed).rs .clkCtrl 1, by decide, by decide⟩,
    ⟨wOn .armed, by decide⟩⟩

/-- StationTimeDoesNotJump: clause 2. -/
theorem witness_StationTimeDoesNotJump : ∃ (d : Nat) (s : State) (e : Int), d < 2 ∧ s.inUse d = true ∧ (s.deltaAt s.cnt - e).natAbs ≤ 400000000 * 65536 ∧ -(2 ^ 63 * 65536) ≤ s.ofs d + e ∧ s.ofs d + e < 2 ^ 63 * 65536 :=
  ⟨0, { wOn .armed with tim := { State.reset.tim with isSet := true, d0 := { DomSt.init with st := 3, best := some ⟨1, 2, 0, 0, 0, 0, 0, 0, 2, 0, 0⟩ } } }, 1, by decide, by decide, by decide, by decide, by decide⟩

/-- TimeFormsConvert: clauses 1, 2, 4. -/
theorem witness_TimeFormsConvert :
    (∃ (ns : Nat), ns < 1000000000 ∧ 2 * ns % 5 = 0)
    ∧ (∃ (ns : Nat) (frac : Nat), ns < 1000000000 ∧ frac < 65536)
    ∧ (∃ (x : Int) (y : Int), -(2 ^ 31) < x - y ∧ x - y < 2 ^ 31) :=
  ⟨⟨999999995, by decide, by decide⟩,
    ⟨999999999, 65535, by decide, by decide⟩,
    ⟨2147483647, 0, by decide, by decide⟩⟩

/-- TimeMessagesTakeEffect: clauses 1, 2, 3, 4, 5. -/
theorem witness_TimeMessagesTakeEffect :
    (∃ (t : Nat) (d : Nat) (s : State) (m : PtpSync) (f : Foreign) (z : State), z = dropMasters d (s.begin t) ∧ d < 2 ∧ (z.dmn d).best = some f ∧ f.ident = m.src ∧ 2 ≤ (z.dmn d).st ∧ -4 ≤ m.logInt ∧ m.logInt ≤ 0 ∧ m.twoStep = true)
    ∧ (∃ (t : Nat) (d : Nat) (s : State) (m : PtpSync) (f : Foreign) (z : State) (y : State), z = dropMasters d (s.begin t) ∧ d < 2 ∧ (z.dmn d).best = some f ∧ f.ident = m.src ∧ 2 ≤ (z.dmn d).st ∧ -4 ≤ m.logInt ∧ m.logInt ≤ 0 ∧ m.twoStep = false ∧ y = (z.setDmn d { z.dmn d with lastSync := z.now, interval := 400000000 / 2 ^ m.logInt.natAbs, pend := none }).rsb .timDStat 3 false d)
    ∧ (∃ (t : Nat) (d : Nat) (seq : Nat) (rx : Int) (s : State) (b : State), b = s.begin t ∧ d < 2 ∧ (s.dmn d).pend = some (seq, rx))
    ∧ (∃ (p : Nat) (a : PtpAnnounce) (s : State) (d : Nat), d < 2 ∧ s.rb .timDCfg 0 d = true ∧ s.domPort d = p ∧ s.rf .timDCfg 4 8 d = a.domnum ∧ (s.dmn d).st ≠ 0)
    ∧ (∃ (s : State), s.mode ≠ .off) :=
  ⟨⟨0, 0, { wOn .armed with tim := { State.reset.tim with isSet := true, d0 := { DomSt.init with st := 3, best := some ⟨1, 2, 0, 0, 0, 0, 0, 0, 2, 0, 0⟩, masters := [⟨1, 2, 0, 0, 0, 0, 0, 0, 2, 0, 0⟩] } } }, ⟨0, true, -4, 1, 0, 0⟩, ⟨1, 2, 0, 0, 0, 0, 0, 0, 2, 0, 0⟩, _, rfl, by decide, by decide, by decide, by decide, by decide, by decide, by decide⟩,
    ⟨0, 0, { wOn .armed with tim := { State.reset.tim with isSet := true, d0 := { DomSt.init with st := 3, best := some ⟨1, 2, 0, 0, 0, 0, 0, 0, 2, 0, 0⟩, masters := [⟨1, 2, 0, 0, 0, 0, 0, 0, 2, 0, 0⟩] } } }, ⟨0, false, 0, 1, 0, 0⟩, ⟨1, 2, 0, 0, 0, 0, 0, 0, 2, 0, 0⟩, _, _, rfl, by decide, by decide, by decide, by decide, by decide, by decide, by decide, rfl⟩,
    ⟨0, 1, 7, 5, (wOn .armed).setDmn 1 { DomSt.init with pend := some (7, 5) }, _, rfl, by decide, by decide⟩,
    ⟨0, ⟨0, 1, 2, 0, 0, 0, 0, 0, 0⟩, ((wOn .armed).setDmn 1 { DomSt.init with st := 1 }).rs .timDCfg 1 1, 1, by decide, by decide, by decide, by decide, by decide⟩,
    ⟨wOn .armed, by decide⟩⟩

/-- TimeEventsTakeEffect: clauses 1, 2, 3, 4, 5, 7, 8, 9, 10, 11. -/
theorem witness_TimeEventsTakeEffect :
    (∃ (t : Nat) (d : Nat) (s : State) (z : State), z = dropMasters d (s.begin t) ∧ d < 2 ∧ (z.dmn d).st = 3 ∧ ((z.dmn d).lastSync + 3 * (z.dmn d).interval ≤ z.now ∨ (z.dmn d).best = none))
    ∧ (∃ (t : Nat) (s : State) (b : State), b = s.begin t ∧ s.rb .timCtrl 1 = true ∧ s.rb .timCtrl 2 = true ∧ s.tim.sel = 1 ∧ s.tim.d0.st = 3 ∧ s.tim.d0.lockedAt + s.rf .timCtrl 8 8 * 400000000 ≤ b.now)
    ∧ (∃ (t : Nat) (s : State) (d : Nat) (b : State), b = s.begin t ∧ d = s.tim.sel ∧ s.tim.holdover = true ∧ (s.dmn d).hoRaised = false ∧ (s.dmn d).hoStart + s.rf .timDCfg 16 8 d * 24000000000 ≤ b.now)
    ∧ (∃ (t : Nat) (s : State), s.tim.initPend = true ∧ s.tim.isSet = false ∧ s.running = false ∧ (s.begin t).onGrid s.framePeriod = true)
    ∧ (∃ (s : State), s.tim.steps ≠ [] ∧ (s.begin s.now).onGrid s.framePeriod = true)
    ∧ (∃ (t : Nat) (s : State) (e : Nat) (z : State), s.tim.lastPps = some e ∧ s.tim.ppsLost = false ∧ e + 440000000 ≤ max s.now t ∧ z = (timeEvent 6 0 { s.begin t with tim := { s.tim with ppsLost := true }, clk := { s.clk with ppsOk := false } }).rsb .clkEvt 3 true)
    ∧ (∃ (t : Nat) (s : State) (z : State), z = ppsFall (s.begin t) ∧ z.ppsOn = true ∧ (z.ticks / 400000000).toNat ≠ z.tim.ppsSec)
    ∧ (∃ (s : State) (e : Nat), s.tim.ppsHigh = some e ∧ (e ≤ s.now ∨ s.ppsOn = false))
    ∧ (∃ (t : Nat) (s : State) (a : Nat), s.tim.diffSince = some a ∧ s.tim.follow = true ∧ s.tim.pairRaised = false ∧ a + 400000000 ≤ max s.now t)
    ∧ (∃ (t : Nat) (m : Master) (addr : Nat) (v : Word) (s : State) (b : State) (d : Nat) (n : RName), b = s.begin t ∧ (n = .timDOfsl ∨ n = .timDOfsh ∨ n = .timDOfsf) ∧ s.writes t m addr v ⟨n, d, 0⟩) :=
  ⟨⟨1200000000, 0, { wOn .armed with tim := { State.reset.tim with isSet := true, d0 := { DomSt.init with st := 3, best := some ⟨1, 2, 0, 0, 0, 0, 0, 0, 2, 0, 0⟩, masters := [⟨1, 2, 0, 0, 0, 0, 0, 0, 2, 0, 0⟩] } } }, _, rfl, by decide, by decide, by decide⟩,
    ⟨102000000000, { ((wOn .armed).rs .timCtrl 0x0A06) with tim := { State.reset.tim with sel := 1, d0 := { DomSt.init with st := 3 } } }, _, rfl, by decide, by decide, by decide, by decide, by decide⟩,
    ⟨6120000000000, { wOn .armed with tim := { State.reset.tim with holdover := true } }, 0, _, rfl, by decide, by decide, by decide, by decide⟩,
    ⟨4000, { wOn .armed with tim := { State.reset.tim with initPend := true } }, by decide, by decide, by decide, by decide⟩,
    ⟨{ wOn .armed with now := 4000, tim := { State.reset.tim with steps := [.toRef] } }, by decide, by decide⟩,
    ⟨440000000, { wOn .armed with tim := { State.reset.tim with lastPps := some 0 } }, 0, _, by decide, by decide, by decide, rfl⟩,
    ⟨400000000, { (wOn .armed).rs .timPpsout 1 with tim := { State.reset.tim with isSet := true } }, _, rfl, by decide, by decide⟩,
    ⟨{ wOn .armed with tim := { State.reset.tim with ppsHigh := some 0 } }, 0, by decide, by decide⟩,
    ⟨400000000, { wOn .standbyCold with tim := { State.reset.tim with follow := true, diffSince := some 0 } }, 0, by decide, by decide, by decide, by decide⟩,
    ⟨0, 1, regAddr .timDOfsf 1, 1, (wOn .armed).rs .timDCfg 0 1, _, 1, .timDOfsf, rfl, by decide, by decide⟩⟩

/-- RingsAndResetsTakeEffect: clauses 1, 2, 4, 5, 6. -/
theorem witness_RingsAndResetsTakeEffect :
    (∃ (t : Nat) (m : Master) (v : Word) (s : State) (r : _) (z : State), (s.begin t).serves .pcie = true ∧ r = writeReg m.toNat (regAddr .netCqtail) v (s.begin t) ∧ r.2 = .ok ∧ z = noteLink .pcie (r.1.put (.wrote .ok)))
    ∧ (∃ (t : Nat) (m : Master) (v : Word) (s : State) (b : State), b = s.begin t ∧ b.accepts m.toNat (regAddr .netRqhead) v ⟨.netRqhead, 0, 0⟩)
    ∧ (∃ (p : Nat), p < 3)
    ∧ (∃ (m : Master) (s : State), s.mode ≠ .off ∧ m.toNat ≤ 6 ∧ s.hasMaster m.toNat = true)
    ∧ (∃ (t : Nat) (m : Master) (s : State) (a : Nat) (w : _) (b : State) (z : State), b = s.begin t ∧ s.mode ≠ .off ∧ m.toNat ≤ 6 ∧ s.hasMaster m.toNat = true ∧ w = a / 8 ∧ z = logUe 0 2 (s.mark false w).poison (s.mark false w).syn (some m.toNat) (w * 8) 2 .l2 2 (0x10000000 + a) b) :=
  ⟨⟨0, 7, 0, ((wOn .armed).rs .netCqsize 64).rs .netRingctl 1, _, _, by decide, rfl, by decide, rfl⟩,
    ⟨0, 7, 0, (wOn .armed).rs .netRqsize 64, _, rfl, by decide⟩,
    ⟨2, by decide⟩,
    ⟨6, wOn .armed, by decide, by decide, by decide⟩,
    ⟨0, 6, wOn .armed, 8, _, _, _, rfl, by decide, by decide, by decide, rfl, rfl⟩⟩

/-- MeteringRowsTakeEffect: clauses 1, 2, 3, 4, 5, 6, 7, 8, 9, 10, 11, 12, 13, 14. -/
theorem witness_MeteringRowsTakeEffect :
    (∃ (t : Nat) (s : State) (b : State) (x : Nat), b = s.begin t ∧ s.mode ≠ .off ∧ s.mad.lastX = some x ∧ x + s.rf .madSync 8 8 * 400000 ≤ b.now)
    ∧ (∃ (t : Nat) (s : State) (b : State), b = s.begin t ∧ s.mode ≠ .off ∧ s.mad.lastX = none)
    ∧ (∃ (t : Nat) (s : State) (x : Nat), s.mad.lastX = some x ∧ max s.now t < x + s.rf .madSync 8 8 * 400000)
    ∧ (∃ (t : Nat) (s : State) (b : State), b = s.begin t ∧ s.mode ≠ .off ∧ s.mad.timer = false ∧ s.mad.lastB + 10000000 ≤ b.now)
    ∧ (∃ (t : Nat) (s : State), s.mode ≠ .off ∧ s.mad.timer = true ∧ s.mad.lastB + 8000000 ≤ max s.now t)
    ∧ (∃ (t : Nat) (s : State) (b : State) (c : Conv) (e : Nat), b = s.begin t ∧ s.mad.await = none ∧ s.mad.conv = some c ∧ c.rundown = some e ∧ e ≤ b.now)
    ∧ (∃ (t : Nat) (s : State) (b : State) (c : Conv), b = s.begin t ∧ s.mad.await = some c)
    ∧ (∃ (c : Conv), c.src = 0)
    ∧ (∃ (c : Conv), c.src = 1)
    ∧ (∃ (c : Conv), c.src = 0)
    ∧ (∃ (t : Nat) (m : Master) (v : Word) (s : State) (b : State), b = s.begin t ∧ s.writes t m (regAddr .madCtrl) v ⟨.madCtrl, 0, 0⟩ ∧ v.getLsbD 0 = true ∧ s.rb .madCtrl 0 = false)
    ∧ (∃ (t : Nat) (m : Master) (v : Word) (s : State) (b : State), b = s.begin t ∧ s.writes t m (regAddr .madCtrl) v ⟨.madCtrl, 0, 0⟩ ∧ v.getLsbD 0 = false ∧ s.rb .madCtrl 0 = true)
    ∧ (∃ (t : Nat) (m : Master) (v : Word) (s : State) (b : State), b = s.begin t ∧ s.writes t m (regAddr .madInj) v ⟨.madInj, 0, 0⟩ ∧ v.getLsbD 31 = true)
    ∧ (∃ (t : Nat) (m : Master) (v : Word) (s : State) (b : State), b = s.begin t ∧ s.writes t m (regAddr .madCalreq) v ⟨.madCalreq, 0, 0⟩ ∧ v.getLsbD 31 = true) :=
  ⟨⟨102000000, { wOn .armed with mad := { State.reset.mad with lastX := some 0 } }, _, 0, rfl, by decide, by decide, by decide⟩,
    ⟨0, wOn .armed, _, rfl, by decide, by decide⟩,
    ⟨0, { wOn .armed with mad := { State.reset.mad with lastX := some 1000 } }, 1000, by decide, by decide⟩,
    ⟨10000000, wOn .armed, _, rfl, by decide, by decide, by decide⟩,
    ⟨8000000, { wOn .armed with mad := { State.reset.mad with timer := true } }, by decide, by decide, by decide⟩,
    ⟨0, { wOn .armed with mad := { State.reset.mad with conv := some ⟨0, 0, 0, 1, 1, 0, 0, some 0, false, false⟩ } }, _, ⟨0, 0, 0, 1, 1, 0, 0, some 0, false, false⟩, 0, rfl, by decide, by decide, by decide, by decide⟩,
    ⟨0, { wOn .armed with mad := { State.reset.mad with await := some ⟨0, 0, 0, 1, 1, 0, 0, some 0, false, false⟩ } }, _, ⟨0, 0, 0, 1, 1, 0, 0, some 0, false, false⟩, rfl, by decide⟩,
    ⟨⟨0, 0, 0, 1, 1, 0, 0, some 0, false, false⟩, by decide⟩,
    ⟨⟨1, 0, 0, 1, 1, 0, 0, some 0, false, false⟩, by decide⟩,
    ⟨⟨0, 0, 0, 1, 1, 0, 0, some 0, false, false⟩, by decide⟩,
    ⟨0, 1, 1, wOn .armed, _, rfl, by decide, by decide, by decide⟩,
    ⟨0, 1, 0, { (wOn .armed).rs .madCtrl 1 with mad := { State.reset.mad with conv := some ⟨0, 0, 0, 1, 1, 0, 0, some 0, false, false⟩ } }, _, rfl, by decide, by decide, by decide⟩,
    ⟨0, 1, 0x80000000, wOn .armed, _, rfl, by decide, by decide⟩,
    ⟨0, 1, 0x80000001, wOn .armed, _, rfl, by decide, by decide⟩⟩

/-- FilterRowsTakeEffect: clauses 4, 5, 6, 7, 8, 9. -/
theorem witness_FilterRowsTakeEffect :
    (∃ (t : Nat) (i : Nat) (s : State) (b : State), b = s.begin t ∧ i < 24 ∧ (s.inp i).stuck = false ∧ s.mode ≠ .off ∧ (∀ l : Int, (s.inp i).lastT = some l → l + ((s.rf .filCtrl 0 8 * 20 : Nat) : Int) ≤ b.ticks))
    ∧ (∃ (t : Nat) (i : Nat) (s : State) (b : State) (z : State), b = s.begin t ∧ z = b.when (decide ((s.inp i).since < b.ticks - 400000)) (transition i (b.ticks - 400000)) ∧ i < 24 ∧ (z.inp i).stuck = false ∧ (z.inp i).okFrom ≤ b.ticks - 400000)
    ∧ (∃ (t : Nat) (m : Master) (v : Word) (s : State), s.writes t m (regAddr .filNrun) v ⟨.filNrun, 0, 0⟩)
    ∧ (∃ (t : Nat) (m : Master) (v : Word) (s : State), s.writes t m (regAddr .filNrun) v ⟨.filNrun, 0, 0⟩)
    ∧ (∃ (t : Nat) (m : Master) (v : Word) (s : State) (b : State), b = s.begin t ∧ s.writes t m (regAddr .filPctrl) v ⟨.filPctrl, 0, 0⟩ ∧ v.getLsbD 0 = true ∧ s.pRuns = false)
    ∧ (∃ (t : Nat) (m : Master) (v : Word) (s : State) (z : State), z = privRec (storeReg ⟨.filPctrl, 0, 0⟩ v (s.begin t)) ∧ s.writes t m (regAddr .filPctrl) v ⟨.filPctrl, 0, 0⟩ ∧ v.getLsbD 0 = false ∧ s.pRuns = true) :=
  ⟨⟨0, 23, wOn .armed, _, rfl, by decide, by decide, by decide, by decide⟩,
    ⟨400000, 23, wOn .armed, _, _, rfl, rfl, by decide, by decide, by decide⟩,
    ⟨0, 1, 0x3FFFF, wOn .armed, by decide⟩,
    ⟨0, 1, 0, { wOn .armed with fil := { State.reset.fil with ch := [(17, { NChan.init with run := true })] } }, by decide⟩,
    ⟨0, 1, 1, wOn .armed, _, rfl, by decide, by decide, by decide⟩,
    ⟨0, 1, 0, ((wOn .armed).rs .filPctrl 1).setEng { PEng.init with run := true }, _, rfl, by decide, by decide, by decide⟩⟩

/-- RecorderRowsTakeEffect: clauses 1, 2, 3, 4, 5, 6, 7, 8, 9, 10, 11, 12. -/
theorem witness_RecorderRowsTakeEffect :
    (∃ (t : Nat) (s : State) (a : Nat), s.rcd.curAt = some a ∧ ((s.rcd.curLen = 4096 ∨ a + 400000 ≤ max s.now t)))
    ∧ (∃ (t : Nat) (s : State) (b : State), b = s.begin t ∧ s.rcd.closed = [] ∧ s.streaming = false ∧ b.hostRoom s.rcd.ueOffs.length = true)
    ∧ (∃ (t : Nat) (s : State) (b : State) (g : State) (z : State) (u : RUnit) (rest : List RUnit), b = s.begin t ∧ s.rcd.closed = u :: rest ∧ b.hostRoom (s.rcd.ueOffs.length + 1) = true ∧ g = sendGaps ((u.recs.map recStamp).headD s.rcd.sentTo) b ∧ z = sendUnit u.recs u.off { g with rcd := { g.rcd with closed := rest } })
    ∧ (∃ (t : Nat) (s : State) (b : State) (z : State) (u : RUnit) (rest : List RUnit), b = s.begin t ∧ s.rcd.closed = u :: rest ∧ z = logUe (if s.hasDram then 2 else 3) 3 false (Config.syndrome 3) none u.off 3 .l1 3 u.off (b.rsb .recEvt 3 true))
    ∧ (∃ (t : Nat) (s : State) (b : State) (r : RecSt), b = s.begin t ∧ r = s.rcd ∧ r.loss = true ∧ s.ringUsed + 4194304 ≤ s.ringBytes - 65536)
    ∧ (∃ (t : Nat) (s : State) (b : State) (z : State), b = s.begin t ∧ s.streaming = true ∧ s.rcd.lastTime + 400000 ≤ b.now ∧ z = timeRec false { b with rcd := { s.rcd with lastTime := b.now } })
    ∧ (∃ (t : Nat) (n : Nat) (s : State) (b : State), b = s.begin t ∧ n < 4)
    ∧ (∃ (t : Nat) (s : State) (b : State), b = s.begin t)
    ∧ (∃ (t : Nat) (u : Nat) (s : State) (h : Nat), (s.trg u).hold = some h ∧ h ≤ max s.now t)
    ∧ (∃ (t : Nat) (o : Nat) (s : State) (e : Nat) (z : State), s.rcd.pulse.getD o none = some e ∧ e ≤ max s.now t ∧ z = { s.begin t with rcd := { s.rcd with pulse := s.rcd.pulse.set o none } })
    ∧ (∃ (t : Nat) (m : Master) (v : Word) (s : State) (b : State), b = s.begin t ∧ s.writes t m (regAddr .recHrd) v ⟨.recHrd, 0, 0⟩)
    ∧ (∃ (u : Nat) (x1 : Int) (t1 : Word) (s : State), (s.trg u).prev = some (x1, t1)) :=
  ⟨⟨400000, { wOn .armed with rcd := { State.reset.rcd with curAt := some 0 } }, 0, by decide, by decide⟩,
    ⟨0, (wOn .armed).rs .recHsize 64, _, rfl, by decide, by decide, by decide⟩,
    ⟨0, { (wOn .armed).rs .recHsize 64 with rcd := { State.reset.rcd with closed := [⟨[], 0⟩] } }, _, _, _, ⟨[], 0⟩, [], rfl, by decide, by decide, rfl, rfl⟩,
    ⟨0, { (wOn .armed).rs .recHsize 64 with rcd := { State.reset.rcd with closed := [⟨[], 0⟩] } }, _, _, ⟨[], 0⟩, [], rfl, by decide, rfl⟩,
    ⟨0, { (wOn .armed).rs .recRing 64 with rcd := { State.reset.rcd with loss := true } }, _, _, rfl, rfl, by decide, by decide⟩,
    ⟨400000, { (wOn .armed).rs .recCtrl 1 with rcd := { State.reset.rcd with live := (0, 0x3FFFF, 0) } }, _, _, rfl, by decide, by decide, rfl⟩,
    ⟨0, 3, wOn .armed, _, rfl, by decide⟩,
    ⟨0, wOn .armed, _, rfl⟩,
    ⟨5, 3, (wOn .armed).setTrg 3 { TrgSt.init with hold := some 5 }, 5, by decide, by decide⟩,
    ⟨5, 2, { wOn .armed with rcd := { State.reset.rcd with pulse := [none, none, some 5] } }, 5, _, by decide, by decide, rfl⟩,
    ⟨0, 1, 0, (wOn .armed).rs .recHsize 64, _, rfl, by decide⟩,
    ⟨3, -1, 0, (wOn .armed).setTrg 3 { TrgSt.init with prev := some (-1, 0) }, by decide⟩⟩

/-- CrossingTimeIsInterpolated: clause 1. -/
theorem witness_CrossingTimeIsInterpolated : ∃ (u : Nat) (x : Int) (x1 : Int) (t1 : Word) (t2 : Word) (s : State) (m : MarkInfo), (s.trg u).prev = some (x1, t1) ∧ crossing u x t2 s = some m :=
  ⟨3, 0, -1, 0, 0, (wOn .armed).setTrg 3 { TrgSt.init with prev := some (-1, 0), low := true }, ⟨3, true, 255, 0, 0, 0, 0, 0⟩, by decide, by decide⟩

/-- OpenSheafTimesOut: clauses 1, 2, 3, 4, 5. -/
theorem witness_OpenSheafTimesOut :
    (∃ (t : Nat) (n : Nat) (s : State) (x : Sheaf), s.sheaf n = some x ∧ x.state = 1 ∧ s.rf .shfCtrl 0 8 ≠ 0 ∧ x.opened + s.rf .shfCtrl 0 8 * 400000000 ≤ max s.now t)
    ∧ (∃ (s : State), s.rf .shfCtrl 0 8 = 0)
    ∧ (∃ (t : Nat) (h : Hdr) (s : State) (n : Nat) (es : List SheafEntry), s.takes t h (.sheafAdd n es) ∧ s.sheaf n = none)
    ∧ (∃ (t : Nat) (h : Hdr) (s : State) (n : Nat) (mode : Nat) (time : Word), s.takes t h (.sheafCommit n mode time) ∧ s.sheaf n = none)
    ∧ (∃ (t : Nat) (h : Hdr) (s : State) (n : Nat), s.takes t h (.sheafDiscard n) ∧ s.sheaf n = none) :=
  ⟨⟨24000000000, 7, (wOn .armed).setSheaf 7 (wSheaf 1), wSheaf 1, by decide, by decide, by decide, by decide⟩,
    ⟨(wOn .armed).rs .shfCtrl 0, by decide⟩,
    ⟨0, wA, wAwn .armed, 7, [⟨1, 0, 0, 0⟩], by decide, by decide⟩,
    ⟨0, wA, wAwn .armed, 7, 1, 0, by decide, by decide⟩,
    ⟨0, wA, wAwn .armed, 7, by decide, by decide⟩⟩

/-- SheafBoundariesTakeEffect: clauses 1, 2, 3, 4. -/
theorem witness_SheafBoundariesTakeEffect :
    (∃ (t : Nat) (n : Nat) (s : State) (x : Sheaf) (b : State) (k : Nat), b = s.begin t ∧ s.sheaf n = some x ∧ x.state = 2 ∧ (∀ d, x.due = some d → d - 16000 ≤ b.ticks) ∧ ((x.due = none → b.openLinks x = [])) ∧ k = 0x2000 + (b.openLinks x).headD ((x.links.map (fun p => p.1)).headD 0))
    ∧ (∃ (t : Nat) (n : Nat) (s : State) (x : Sheaf) (d : Int) (b : State) (w : State) (y : State) (z : State), b = applyBefore n (s.begin t) ∧ b.sheaf n = some x ∧ x.state = 3 ∧ x.due = some d ∧ d ≤ b.ticks ∧ b.sheafRules n x = none ∧ w = x.es.foldl (applyEntry n x.owner) b ∧ y = w.when (x.es.any (fun e => decide (e.kind = 2) && (regAt e.addr).any (fun r => decide (r.name = .lenBank) && decide (r.i = b.len.reg.bank))) && w.running) (bankRewritten (fun j => b.bankNum b.len.reg.bank j)) ∧ z = (applyBanks x.es y).when x.hasGdp (applySet x d))
    ∧ (∃ (t : Nat) (n : Nat) (s : State) (x : _) (d : Nat) (f : _) (b : State), b = applyBefore n (s.begin t) ∧ b.sheaf n = some x ∧ x.state = 3 ∧ x.due = some d ∧ d ≤ b.ticks ∧ b.sheafRules n x = some f)
    ∧ (∃ (n : Nat), n < 8) :=
  ⟨⟨0, 7, (wOn .armed).setSheaf 7 ({ wSheaf 2 with due := some 16000 }), { wSheaf 2 with due := some 16000 }, _, _, rfl, by decide, by decide, by decide, by decide, rfl⟩,
    ⟨0, 7, (wOn .armed).setSheaf 7 ({ wSheaf 3 with due := some 0 }), { wSheaf 3 with due := some 0 }, 0, _, _, _, _, rfl, by decide, by decide, by decide, by decide, by decide, rfl, rfl, rfl⟩,
    ⟨0, 7, (wOn .armed).setSheaf 7 ({ wSheaf 3 with due := some 0, es := [⟨1, regAddr .lenBase 2, 0, 0⟩] }), { wSheaf 3 with due := some 0, es := [⟨1, regAddr .lenBase 2, 0, 0⟩] }, 0, (.notAwnHolder, 4096), _, rfl, by decide, by decide, by decide, by decide, by decide⟩,
    ⟨7, by decide⟩⟩

/-- LoopRowsTakeEffect: clauses 1, 2, 3, 4, 5, 6, 7, 8, 9, 10, 11, 12, 13, 14, 15. -/
theorem witness_LoopRowsTakeEffect :
    (∃ (t : Nat) (m : Master) (v : Word) (s : State) (b : State), b = s.begin t ∧ s.writes t m (regAddr .lenBase 2) v ⟨.lenBase, 2, 0⟩)
    ∧ (∃ (t : Nat) (m : Master) (v : Word) (s : State) (b : State), b = s.begin t ∧ s.writes t m (regAddr .lenBankctl) v ⟨.lenBankctl, 0, 0⟩ ∧ v.getLsbD 4 = true)
    ∧ (∃ (t : Nat) (m : Master) (v : Word) (s : State) (b : State), b = s.begin t ∧ s.writes t m (regAddr .lenBankctl) v ⟨.lenBankctl, 0, 0⟩ ∧ v.getLsbD 4 = false)
    ∧ (∃ (t : Nat) (m : Master) (v : Word) (s : State) (b : State), b = s.begin t ∧ s.writes t m (regAddr .fltInjctrl) v ⟨.fltInjctrl, 0, 0⟩ ∧ v.getLsbD 31 = true)
    ∧ (∃ (t : Nat) (m : Master) (v : Word) (s : State) (b : State), b = s.begin t ∧ s.writes t m (regAddr .safCtrl) v ⟨.safCtrl, 0, 0⟩ ∧ v.getLsbD 0 = true)
    ∧ (∃ (t : Nat) (s : State) (b : State), b = s.begin t ∧ b.launchDue = true)
    ∧ (∃ (k : Nat) (s : State), s.running = true ∧ k < 15 ∧ 10 ≤ s.len.inp.miss.getD k 0 ∧ s.len.inp.stale.getD k false = false)
    ∧ (∃ (t : Nat) (s : State) (z : State) (a : Nat) (b : Nat), z = budgetTick (s.begin t) ∧ z.len.lim.start = some a ∧ z.len.lim.below = some b ∧ b + 8000000 ≤ z.now)
    ∧ (∃ (t : Nat) (s : State) (z : State) (a : Nat), z = budgetTick (s.begin t) ∧ z.len.lim.start = some a ∧ z.len.lim.peak = true ∧ a + ((s.gl 12).mul (Num.ofInt 400000)).round.toNat ≤ z.now)
    ∧ (∃ (t : Nat) (s : State) (z : State) (a : Nat), z = budgetTick (s.begin t) ∧ z.len.lim.start = some a ∧ z.len.lim.budget = 0 ∧ z.len.lim.spent = false)
    ∧ (∃ (t : Nat) (s : State) (z : State) (b : Nat), z = budgetTick (s.begin t) ∧ z.len.lim.below = some b ∧ b + 80000000 ≤ z.now)
    ∧ (∃ (t : Nat) (s : State), s.len.reg.dwell ≤ 1 ∧ s.len.outerAt + 40000 ≤ max s.now t)
    ∧ (∃ (t : Nat) (s : State) (a : Nat), s.len.reg.blendAt = some a ∧ a + s.len.reg.blendLen ≤ max s.now t)
    ∧ (∃ (t : Nat) (s : State) (a : Nat), s.mode = .run ∧ some a ∈ s.len.ene.dev ∧ a + 40000000 ≤ max s.now t ∧ s.len.ene.devRaised = false)
    ∧ (∃ (t : Nat) (s : State) (b : State) (a : Nat), b = s.begin t ∧ s.win.readySince = some a ∧ s.mode = .precharge ∧ b.readyNow = true ∧ a + s.rf .winReady 8 8 * 400000 ≤ b.now) :=
  ⟨⟨0, 1, 0x42480000, wOn .service, _, rfl, by decide⟩,
    ⟨0, 1, 17, wOn .armed, _, rfl, by decide, by decide⟩,
    ⟨0, 1, 0, wOn .armed, _, rfl, by decide, by decide⟩,
    ⟨0, 13, 0x80000000, wFac, _, rfl, by decide, by decide⟩,
    ⟨0, 8, 1, wOn .armed, _, rfl, by decide, by decide⟩,
    ⟨5280, wRun .gf, _, rfl, by decide⟩,
    ⟨14, { wRun .gf with len := { LenSt.init with inp := { LenSt.init.inp with miss := List.replicate 15 10 } } }, by decide, by decide, by decide, by decide⟩,
    ⟨8000000, { wRun .gf with len := { LenSt.init with lim := { LenSt.init.lim with start := some 0, below := some 0 } } }, _, 0, 0, rfl, by decide, by decide, by decide⟩,
    ⟨400000000, { wRun .gf with len := { LenSt.init with lim := { LenSt.init.lim with start := some 0, peak := true } } }, _, 0, rfl, by decide, by decide, by decide⟩,
    ⟨0, { wRun .gf with len := { LenSt.init with lim := { LenSt.init.lim with start := some 0, budget := 0 } } }, _, 0, rfl, by decide, by decide, by decide⟩,
    ⟨80000000, { wRun .gf with len := { LenSt.init with lim := { LenSt.init.lim with below := some 0 } } }, _, 0, rfl, by decide, by decide⟩,
    ⟨40000, wRun .gf, by decide, by decide⟩,
    ⟨4000, { wRun .gf with len := { LenSt.init with reg := { LenSt.init.reg with blendAt := some 0, blendLen := 4000 } } }, 0, by decide, by decide⟩,
    ⟨40000000, { wRun .gf with len := { LenSt.init with ene := { LenSt.init.ene with dev := [some 0] } } }, 0, by decide, by decide, by decide, by decide⟩,
    ⟨40000000000, wReady, _, 0, rfl, by decide, by decide, by decide, by decide⟩⟩

/-- SubModeMovesTakeEffect: clauses 1, 2, 3, 4, 5, 6, 7, 8, 9, 10, 11, 12. -/
theorem witness_SubModeMovesTakeEffect :
    (∃ (t : Nat) (s : State) (b : State), b = s.begin t ∧ b.atOuter = true)
    ∧ (∃ (s : State) (z : State) (a : Nat), z = openBoundary (s.begin s.now) ∧ (s.begin s.now).atOuter = true ∧ z.mode = .precharge ∧ z.undecided = true ∧ z.asked opStop = false ∧ z.len.run.estAt = some a ∧ a + secTicks (num2.div z.fb) ≤ z.now)
    ∧ (∃ (s : State) (z : State) (h : Nat), z = openBoundary (s.begin s.now) ∧ (s.begin s.now).atOuter = true ∧ z.mode = .run ∧ z.sub = .frt ∧ z.undecided = true ∧ z.len.run.stopReq = false ∧ ((z.red.takeReq = true → z.pairReady = true)) ∧ z.len.run.tieReq ≠ some false ∧ z.len.frt.hold = some h ∧ h + msTicks (z.prf z.len.frt.prof 6) < z.now ∧ z.recovers z.len.frt.prof = true ∧ z.now < z.len.frt.entered + secTicks (z.prf z.len.frt.prof 7))
    ∧ (∃ (s : State) (z : State), z = openBoundary (s.begin s.now) ∧ (s.begin s.now).atOuter = true ∧ z.mode = .run ∧ z.sub = .frt ∧ z.undecided = true ∧ z.len.frt.entered + secTicks (z.prf z.len.frt.prof 7) ≤ z.now)
    ∧ (∃ (s : State) (z : State) (a : Nat), z = openBoundary (s.begin s.now) ∧ (s.begin s.now).atOuter = true ∧ z.mode = .run ∧ z.sub = .gf ∧ z.undecided = true ∧ z.len.run.stopReq = false ∧ ((z.red.takeReq = true → z.pairReady = true)) ∧ z.len.run.tieReq ≠ some false ∧ z.rb .lenModecfg 1 = true ∧ z.len.run.islSince = some a ∧ a + secTicks (z.gl 16) ≤ z.now)
    ∧ (∃ (t : Nat) (s : State) (a : Nat), s.len.rs.ok = some a ∧ s.len.rs.on = true ∧ s.len.rs.paused = false ∧ s.len.rs.permit = false ∧ a + msTicks (s.gl 18) ≤ max s.now t)
    ∧ (∃ (t : Nat) (s : State) (z : State) (a : Nat), z = openBoundary (s.begin t) ∧ (s.begin t).atOuter = true ∧ z.mode = .run ∧ z.sub = .island ∧ z.undecided = true ∧ z.len.run.stopReq = false ∧ ((z.red.takeReq = true → z.pairReady = true)) ∧ z.len.run.tieReq ≠ some true ∧ z.len.rs.permit = true ∧ z.len.rs.close = some a ∧ a + 8000000 ≤ z.now)
    ∧ (∃ (t : Nat) (s : State), s.len.rs.on = true ∧ s.len.rs.started + secTicks (s.gl 19) ≤ max s.now t)
    ∧ (∃ (s : State) (z : State) (a : Nat), z = openBoundary (s.begin s.now) ∧ (s.begin s.now).atOuter = true ∧ z.mode = .run ∧ z.sub = .blackstart ∧ z.undecided = true ∧ z.len.run.stopReq = false ∧ ((z.red.takeReq = true → z.pairReady = true)) ∧ z.len.run.bsPaused ≤ 2 * secTicks (z.gl 22) + 400000000 ∧ z.len.run.bsOk = some a ∧ a + 40000000 ≤ z.now)
    ∧ (∃ (s : State) (z : State), z = openBoundary (s.begin s.now) ∧ (s.begin s.now).atOuter = true ∧ z.mode = .run ∧ z.sub = .blackstart ∧ z.undecided = true ∧ z.len.run.stopReq = false ∧ ((z.red.takeReq = true → z.pairReady = true)) ∧ 2 * secTicks (z.gl 22) + 400000000 < z.len.run.bsPaused)
    ∧ (∃ (t : Nat) (s : State), s.mode = .stopping ∧ s.len.run.stopEnd ≤ max s.now t)
    ∧ (∃ (t : Nat) (s : State) (a : Nat), s.len.run.guardBack = some a ∧ s.len.run.guard = true ∧ a + 40000000 ≤ max s.now t) :=
  ⟨⟨40000, wRun .gf, _, rfl, by decide⟩,
    ⟨wAt 400000000 { wAwn .precharge with len := { LenSt.init with run := { LenSt.init.run with estAt := some 0 } } }, _, 0, rfl, by decide, by decide, by decide, by decide, by decide, by decide⟩,
    ⟨wAt 400000000 { wRun .frt with len := { LenSt.init with frt := { LenSt.init.frt with hold := some 0, entered := 400000000 }, emf := { LenSt.init.emf with v1m := num1 } } }, _, 0, rfl, by decide, by decide, by decide, by decide, by decide, by decide, by decide, by decide, by decide, by decide, by decide⟩,
    ⟨wAt 400000000000 (wRun .frt), _, rfl, by decide, by decide, by decide, by decide, by decide⟩,
    ⟨wAt 400000000000 { (wRun .gf).rs .lenModecfg 2 with len := { LenSt.init with run := { LenSt.init.run with islSince := some 0 } } }, _, 0, rfl, by decide, by decide, by decide, by decide, by decide, by decide, by decide, by decide, by decide, by decide⟩,
    ⟨40000000000, { wRun .island with len := { LenSt.init with rs := { LenSt.init.rs with ok := some 0, on := true } } }, 0, by decide, by decide, by decide, by decide, by decide⟩,
    ⟨8000000, wAt 8000000 { wRun .island with len := { LenSt.init with rs := { LenSt.init.rs with close := some 0, permit := true } } }, _, 0, rfl, by decide, by decide, by decide, by decide, by decide, by decide, by decide, by decide, by decide, by decide⟩,
    ⟨400000000000, { wRun .island with len := { LenSt.init with rs := { LenSt.init.rs with on := true } } }, by decide, by decide⟩,
    ⟨wAt 40000000 { wRun .blackstart with len := { LenSt.init with run := { LenSt.init.run with bsOk := some 0 } } }, _, 0, rfl, by decide, by decide, by decide, by decide, by decide, by decide, by decide, by decide, by decide⟩,
    ⟨wAt 40000000 { wRun .blackstart with len := { LenSt.init with run := { LenSt.init.run with bsPaused := 400000000000 } } }, _, rfl, by decide, by decide, by decide, by decide, by decide, by decide, by decide⟩,
    ⟨0, { wAwn .stopping with now := 400000000000 }, by decide, by decide⟩,
    ⟨40000000, { wRun .gf with len := { LenSt.init with run := { LenSt.init.run with guard := true, guardBack := some 0 } } }, 0, by decide, by decide, by decide⟩⟩

/-- CellAndFrameRowsTakeEffect: clauses 1, 2, 3, 4, 5, 6, 7, 8, 9, 10, 12, 13, 14, 15, 16. -/
theorem witness_CellAndFrameRowsTakeEffect :
    (∃ (t : Nat) (a : Nat) (s : State) (b : State) (v : Machine.Num), b = s.begin t ∧ b.sortDue a = true ∧ v = (mean (((s.arm a).sortNext.filter (fun p => b.usable p.1)).map (fun p => kvOf p.2))).clear)
    ∧ (∃ (t : Nat) (s : State) (b : State), b = s.begin t ∧ b.pubDue = true)
    ∧ (∃ (t : Nat) (a : Nat) (s : State) (b : State) (x : Target) (n : Int), b = s.begin t ∧ x = (if a < 6 then Target.pwm a else if a < 12 then .fixed (a - 6) else .own (a - 12)) ∧ b.nextLoad x = some n ∧ n ≤ b.ticks)
    ∧ (∃ (t : Nat) (i : Nat) (s : State), (s.begin t).cst i ≠ 0 ∧ s.rf .winCtrl 0 8 ≤ (s.cell i).tel.stale ∧ (s.cell i).tel.excl = false)
    ∧ (∃ (t : Nat) (i : Nat) (s : State) (b : State) (o : Int), b = s.begin t ∧ b.bsOrigin i b.ticks = some o ∧ b.isBs i = true ∧ s.running = true ∧ (s.cell i).prot.rest = none ∧ b.tBsMax - b.restWin ≤ b.ticks - o)
    ∧ (∃ (t : Nat) (i : Nat) (s : State) (b : State) (o : Int) (a : Nat) (d : Bool), b = s.begin t ∧ a = b.armOf i ∧ b.bsOrigin i b.winStart = some o ∧ b.isBs i = true ∧ s.running = true ∧ b.usable i = true ∧ (s.cell i).prot.rest = none ∧ o + b.tBsMax < b.winStart + (b.framePeriod : Int) ∧ d = decide (((b.usableOf a).filter (fun j => !(b.restsAt j b.winStart))).length < (b.arm a).n.natAbs + (if (b.arm a).pwm.isSome then 1 else 0) + 1))
    ∧ (∃ (t : Nat) (i : Nat) (s : State) (b : State) (p : CellSt) (w : Int) (e : Int), b = s.begin t ∧ p = (s.cell i).prot ∧ p.rest = some (w, e) ∧ e ≤ b.ticks)
    ∧ (∃ (t : Nat) (s : State), s.win.episode = true ∧ s.win.lastDef + 40000000 ≤ max s.now t)
    ∧ (∃ (t : Nat) (i : Nat) (s : State) (b : State) (o : Int), b = s.begin t ∧ b.bsOrigin i b.ticks = some o ∧ b.isBs i = true ∧ s.bench = true ∧ b.rb .winFixen (b.armOf i) = true ∧ b.cst i = 4 ∧ o + b.tBsMax ≤ b.ticks)
    ∧ (∃ (t : Nat) (s : State) (b : State), b = s.begin t ∧ b.atFrame = true)
    ∧ (∃ (t : Nat) (a : Nat) (bits : BitVec 32) (s : State) (b : State), b = s.begin t ∧ s.awn = true ∧ a < 6 ∧ b.comparator a bits = true)
    ∧ (∃ (a : Nat) (tc : Nat) (s : State) (x : State), x = operate a tc s ∧ a < 6 ∧ s.frameOf s.now ≤ s.frameOf tc)
    ∧ (∃ (t : Nat) (a : Nat) (s : State), a < 6 ∧ (s.arm a).oc = true ∧ (s.arm a).ocLast + field s.win.occ 8 8 * 4000 ≤ max s.now t ∧ (s.begin t).frameHigh.any (fun m => !(m.testBit a)) = true)
    ∧ (∃ (t : Nat) (a : Nat) (s : State), s.awn = true ∧ a < 6 ∧ (s.arm a).oc = true ∧ (s.arm a).ocRaised = false ∧ (s.arm a).ocFirst + 800000 ≤ max s.now t)
    ∧ (∃ (t : Nat) (i : Nat) (s : State) (a : Nat), s.awn = true ∧ (s.cell i).prot.bypAt = some a ∧ (s.cell i).prot.st = 6 ∧ a + s.rf .celCtrl 8 8 * 400000 ≤ max s.now t) :=
  ⟨⟨2460, 5, { wOn .armed with win := { WinSt.init with sortAt := some 0 } }, _, _, rfl, by decide, rfl⟩,
    ⟨400000, { wRun .gf with len := { LenSt.init with launched := some 0 } }, _, rfl, by decide⟩,
    ⟨0, 0, (wRun .gf).setArm 0 { Arm.init with pwmCar := { Carrier.init with origin := some 0, last := -80000 } }, _, _, 0, rfl, rfl, by decide, by decide⟩,
    ⟨0, 1535, ((wOn .armed).setProt 1535 { wP with st := 4 }).setTel 1535 { wT with stale := 255 }, by decide, by decide, by decide⟩,
    ⟨720000, 0, wBs (wRun .gf), _, 0, rfl, by decide, by decide, by decide, by decide, by decide⟩,
    ⟨800000, 0, wBs (wRun .gf), _, 0, _, _, rfl, rfl, by decide, by decide, by decide, by decide, by decide, by decide, rfl⟩,
    ⟨5, 3071, (wOn .armed).setProt 3071 { wP with st := 5, rest := some (0, 5) }, _, _, 0, 5, rfl, rfl, by decide, by decide⟩,
    ⟨40000000, { wRun .gf with win := { WinSt.init with episode := true } }, by decide, by decide⟩,
    ⟨800000, 0, (wBs (wOn .service)).rs .winFixen 0x3F, _, 0, rfl, by decide, by decide, by decide, by decide, by decide, by decide⟩,
    ⟨4000, wOn .armed, _, rfl, by decide⟩,
    ⟨4000, 5, 0xFFFFFFFF, { (wRun .gf).setEng { PEng.init with run := true } with win := { WinSt.init with occ := 0x3F, octh := List.replicate 6 0x42C80000 } }, _, rfl, by decide, by decide, by decide⟩,
    ⟨5, 0, wRun .gf, _, rfl, by decide, by decide⟩,
    ⟨400000000, 5, { (wRun .gf).setArm 5 { Arm.init with oc := true } with tim := { State.reset.tim with frameAt := some 400000000 }, win := { ((wRun .gf).setArm 5 { Arm.init with oc := true }).win with occ := 0x00500000, relPrev := some 0x1F } }, by decide, by decide, by decide, by decide⟩,
    ⟨800000, 5, (wRun .gf).setArm 5 { Arm.init with oc := true }, by decide, by decide, by decide, by decide, by decide⟩,
    ⟨400000000, 0, (wRun .gf).setProt 0 { wP with st := 6, bypAt := some 0 }, 0, by decide, by decide, by decide, by decide⟩⟩

/-- LinkRowsTakeEffect: clauses 1, 2, 3, 4, 5, 6, 7, 8, 9, 10, 11, 12, 13, 14, 15, 16, 17, 18, 19, 20, 21. -/
theorem witness_LinkRowsTakeEffect :
    (∃ (t : Nat) (l : Nat) (bytes : List Byte) (s : State) (b : State), b = s.begin t ∧ l < s.links ∧ ((s.link l).stage = 1 ∨ (s.link l).stage = 2) ∧ uplinkTest b l false bytes = none ∧ (useInjection l true b).2 = none)
    ∧ (∃ (t : Nat) (l : Nat) (portErr : Bool) (bytes : List Byte) (s : State) (b : State) (c : Nat), b = s.begin t ∧ l < s.links ∧ (s.link l).stage ≠ 0 ∧ uplinkTest b l portErr bytes = some c)
    ∧ (∃ (t : Nat) (l : Nat) (bytes : List Byte) (s : State) (b : State) (c : Nat), b = s.begin t ∧ l < s.links ∧ ((s.link l).stage = 1 ∨ (s.link l).stage = 2) ∧ uplinkTest b l false bytes = none ∧ (useInjection l true b).2 = some c)
    ∧ (∃ (t : Nat) (l : Nat) (bytes : List Byte) (s : State) (z : State) (c : Nat), z = memFault 3 .l1 3 l none (s.begin t) ∧ l < s.links ∧ (s.link l).stage ≠ 0 ∧ uplinkTest z l true bytes = some c)
    ∧ (∃ (l : Nat) (s : State), l < s.links ∧ ((s.link l).stage = 1 ∨ (s.link l).stage = 2))
    ∧ (∃ (l : Nat) (tid : Nat) (s : State) (x : Txn) (h : Hdr), (s.link l).flight.find? (fun x => decide (x.tid = tid)) = some x ∧ x.org = .host h)
    ∧ (∃ (t : Nat) (l : Nat) (tid : Nat) (s : State) (b : State) (x : Txn) (z : State), b = s.begin t ∧ (s.link l).flight.find? (fun x => decide (x.tid = tid)) = some x ∧ s.len.bur.on = false ∧ x.sent + s.rf .lnkTxnto 0 16 * 4000 ≤ b.now ∧ z = faultAt 0x0268 .l0 .lnkTxn l (((b.setLink l { s.link l with flight := removeFirst (fun y => decide (y.tid = tid)) (s.link l).flight }).rsat .lnkTxn 16 16 1 l).rsb .lnkEvt 9 true))
    ∧ (∃ (t : Nat) (l : Nat) (s : State) (b : State), b = s.begin t ∧ l < s.links ∧ s.rb .lnkLctrl 0 l = true ∧ s.mode ≠ .off ∧ (s.link l).stage = 0)
    ∧ (∃ (t : Nat) (l : Nat) (s : State), (s.link l).stage = 1 ∧ (s.link l).raisedFail = false ∧ (s.link l).trainAt + 20000000 ≤ max s.now t)
    ∧ (∃ (t : Nat) (l : Nat) (s : State) (a : Nat), (s.link l).idBad = some a ∧ (s.link l).stage = 1 ∧ a + 400000000 ≤ max s.now t)
    ∧ (∃ (l : Nat) (s : State), (s.link l).stage = 2)
    ∧ (∃ (l : Nat) (s : State), ((s.link l).stage = 1 ∨ (s.link l).stage = 2) ∧ ((s.link l).downs.filter (fun t => decide (s.now < t + 24000000000))).length < 2)
    ∧ (∃ (l : Nat) (s : State), l < s.links)
    ∧ (∃ (t : Nat) (l : Nat) (s : State) (b : State) (tries : _), b = s.begin t ∧ tries = triesNow b.now (s.link l).tries ∧ (s.link l).stage = 3 ∧ (s.link l).quarAt + s.rf .lnkCtrl 8 8 * 400000000 ≤ b.now ∧ (s.link l).quarLeft < s.rf .lnkCtrl 16 4)
    ∧ (∃ (t : Nat) (l : Nat) (j : Nat) (s : State) (b : State) (i : Nat) (tries : _), b = s.begin t ∧ i = 24 * l + j ∧ tries = triesNow b.now (s.cell i).prot.qTries ∧ j < 24 ∧ (s.cell i).prot.st = 8 ∧ (s.link l).stage ≠ 3 ∧ (s.cell i).prot.qAt + s.rf .lnkCtrl 8 8 * 400000000 ≤ b.now ∧ (s.cell i).prot.qLeft < s.rf .lnkCtrl 16 4)
    ∧ (∃ (l : Nat) (margin : Nat) (s : State), l < s.links ∧ margin < 256 ∧ s.rf .lnkMargin 0 8 ≤ margin)
    ∧ (∃ (t : Nat) (l : Nat) (margin : Nat) (s : State) (a : Nat), l < s.links ∧ margin < s.rf .lnkMargin 0 8 ∧ (s.link l).lowSince = some a ∧ a + 4000000000 ≤ max s.now t ∧ (s.link l).marginRaised = false)
    ∧ (∃ (t : Nat) (m : Master) (l : Nat) (v : Word) (s : State) (b : State), b = s.begin t ∧ s.writes t m (regAddr .lnkLctrl l) v ⟨.lnkLctrl, l, 0⟩ ∧ (v.getLsbD 0 = true ∨ s.rb .lnkLctrl 0 l = false) ∧ v.getLsbD 2 = false ∧ v.getLsbD 3 = false)
    ∧ (∃ (t : Nat) (m : Master) (l : Nat) (v : Word) (s : State) (b : State), b = s.begin t ∧ s.writes t m (regAddr .lnkLctrl l) v ⟨.lnkLctrl, l, 0⟩ ∧ v.getLsbD 0 = false ∧ v.getLsbD 2 = false ∧ v.getLsbD 3 = false ∧ s.rb .lnkLctrl 0 l = true)
    ∧ (∃ (t : Nat) (m : Master) (l : Nat) (v : Word) (s : State) (b : State), b = s.begin t ∧ s.writes t m (regAddr .lnkLctrl l) v ⟨.lnkLctrl, l, 0⟩ ∧ v.getLsbD 0 = true ∧ v.getLsbD 2 = true ∧ v.getLsbD 3 = false ∧ (s.link l).stage = 3)
    ∧ (∃ (t : Nat) (m : Master) (l : Nat) (v : Word) (s : State) (b : State), b = s.begin t ∧ s.writes t m (regAddr .lnkLctrl l) v ⟨.lnkLctrl, l, 0⟩ ∧ v.getLsbD 0 = true ∧ v.getLsbD 2 = false ∧ v.getLsbD 3 = true ∧ ((s.link l).stage = 1 ∨ (s.link l).stage = 2)) :=
  ⟨⟨0, 127, wUp, (wOn .armed).setLink 127 { Link.init with stage := 1 }, _, rfl, by decide, by decide, by decide, by decide⟩,
    ⟨0, 127, true, [], (wOn .armed).setLink 127 { Link.init with stage := 2 }, _, 1, rfl, by decide, by decide, by decide⟩,
    ⟨0, 127, wUp, { (wOn .armed).setLink 127 { Link.init with stage := 1 } with flt := { State.reset.flt with inj := [⟨127, 3, 1, true⟩] } }, _, 3, rfl, by decide, by decide, by decide, by decide⟩,
    ⟨0, 127, [], (wOn .armed).setLink 127 { Link.init with stage := 2 }, _, 1, rfl, by decide, by decide, by decide⟩,
    ⟨127, (wOn .armed).setLink 127 { Link.init with stage := 2 }, by decide, by decide⟩,
    ⟨127, 5, (wOn .armed).setLink 127 { Link.init with stage := 2, flight := [wTxn] }, wTxn, wA, by decide, by decide⟩,
    ⟨400000000, 127, 5, (wOn .armed).setLink 127 { Link.init with stage := 2, flight := [wTxn] }, _, wTxn, _, rfl, by decide, by decide, by decide, rfl⟩,
    ⟨0, 127, (wOn .armed).rs .lnkLctrl 1 127, _, rfl, by decide, by decide, by decide, by decide⟩,
    ⟨20000000, 127, (wOn .armed).setLink 127 { Link.init with stage := 1 }, by decide, by decide, by decide⟩,
    ⟨400000000, 127, (wOn .armed).setLink 127 { Link.init with stage := 1, idBad := some 0 }, 0, by decide, by decide, by decide⟩,
    ⟨127, (wOn .armed).setLink 127 { Link.init with stage := 2 }, by decide⟩,
    ⟨127, (wOn .armed).setLink 127 { Link.init with stage := 2 }, by decide, by decide⟩,
    ⟨127, wOn .armed, by decide⟩,
    ⟨400000000000, 127, (wOn .armed).setLink 127 { Link.init with stage := 3 }, _, _, rfl, rfl, by decide, by decide, by decide⟩,
    ⟨400000000000, 127, 23, (wOn .armed).setProt 3071 { wP with st := 8 }, _, _, _, rfl, rfl, rfl, by decide, by decide, by decide, by decide, by decide⟩,
    ⟨127, 255, wOn .armed, by decide, by decide, by decide⟩,
    ⟨4000000000, 127, 0, (wOn .armed).setLink 127 { Link.init with stage := 2, lowSince := some 0 }, 0, by decide, by decide, by decide, by decide, by decide⟩,
    ⟨0, 1, 127, 1, wOn .armed, _, rfl, by decide, by decide, by decide, by decide⟩,
    ⟨0, 1, 127, 0, (wOn .armed).rs .lnkLctrl 1 127, _, rfl, by decide, by decide, by decide, by decide, by decide⟩,
    ⟨0, 1, 127, 5, (wOn .armed).setLink 127 { Link.init with stage := 3 }, _, rfl, by decide, by decide, by decide, by decide, by decide⟩,
    ⟨0, 1, 127, 9, (wOn .armed).setLink 127 { Link.init with stage := 2 }, _, rfl, by decide, by decide, by decide, by decide, by decide⟩⟩

/-- PairRowsTakeEffect: clauses 1, 2, 3, 4, 5, 6, 7, 8, 9. -/
theorem witness_PairRowsTakeEffect :
    (∃ (t : Nat) (ue : Bool) (s : State) (z : State), z = (s.begin t).when ue (memFault 3 .l1 3 (regAddr .redCkseq) none) ∧ s.rb .redCtrl 0 = true ∧ s.red.linkUp = true ∧ s.mode = .standbyCold ∧ s.awn = false)
    ∧ (∃ (t : Nat) (bytes : List Byte) (s : State) (b : State) (p : Beat) (a : Nat), b = s.begin t ∧ s.mode ≠ .off ∧ s.rb .redCtrl 0 = true ∧ parseBeat bytes b.now = some p ∧ p.side ≠ s.slotId.testBit 0 ∧ (a = (if s.red.linkUp = true ∨ b.now < s.red.lastBeat + 12800 then s.red.acc else 0)) ∧ (∀ q, s.red.beat = some q → a = 0 ∨ 0 < signed 32 (p.bseq + 2 ^ 32 - q.bseq)))
    ∧ (∃ (t : Nat) (bytes : List Byte) (s : State) (b : State) (p : Beat), b = s.begin t ∧ s.mode ≠ .off ∧ s.rb .redCtrl 0 = true ∧ parseBeat bytes b.now = some p ∧ p.side = s.slotId.testBit 0)
    ∧ (∃ (t : Nat) (s : State), s.red.linkUp = true ∧ s.red.lastBeat + 12800 ≤ max s.now t)
    ∧ (∃ (t : Nat) (s : State) (b : State) (a : Int), b = s.begin t ∧ s.red.holderLease = some a ∧ s.rb .redCtrl 0 = true ∧ s.rb .redCtrl 1 = true ∧ ((s.rb .redCtrl 2 = true → b.confirmed a = true)) ∧ s.mode = .standbyCold ∧ s.awn = false ∧ s.red.linkUp = false ∧ a + 4000 ≤ b.ticks ∧ b.nextEpoch < 2 ^ 32)
    ∧ (∃ (t : Nat) (s : State) (b : State) (a : Int), b = s.begin t ∧ s.red.holderLease = some a ∧ s.rb .redCtrl 0 = true ∧ s.rb .redCtrl 1 = true ∧ ((s.rb .redCtrl 2 = true → b.confirmed a = true)) ∧ s.mode = .standbyCold ∧ s.awn = false ∧ s.red.linkUp = false ∧ a + 4000 ≤ b.ticks ∧ 2 ^ 32 ≤ b.nextEpoch)
    ∧ (∃ (s : State) (p : Nat), s.red.restoredAt = some p ∧ s.ticks % 4000 = 0)
    ∧ (∃ (t : Nat) (s : State) (b : State) (ck : CkBody), b = s.begin t ∧ s.red.ck = some ck ∧ ck.handover = true ∧ s.rb .redCtrl 0 = true ∧ s.mode = .standbyCold ∧ s.awn = false ∧ ck.takenAt + 40000 ≤ b.ticks ∧ (s.rg .redEpochseen).toNat ≤ ck.epoch ∧ b.nextEpoch < 2 ^ 32)
    ∧ (∃ (t : Nat) (s : State) (b : State) (a : Nat), b = s.begin t ∧ s.red.hand = some a ∧ s.awn = true ∧ a + 52000 ≤ b.now) :=
  ⟨⟨0, true, { (wOn .standbyCold).rs .redCtrl 1 with red := { RedSt.init with linkUp := true } }, _, rfl, by decide, by decide, by decide, by decide⟩,
    ⟨0, wBeat 1, { (wOn .standbyCold).rs .redCtrl 1 with red := { RedSt.init with linkUp := true } }, _, ⟨true, false, false, false, false, 0, 0, 0, 0, 0, 0, 0, 0, 0⟩, _, rfl, by decide, by decide, by decide, by decide, rfl, by decide⟩,
    ⟨0, wBeat 0, { (wOn .standbyCold).rs .redCtrl 1 with red := { RedSt.init with linkUp := true } }, _, ⟨false, false, false, false, false, 0, 0, 0, 0, 0, 0, 0, 0, 0⟩, rfl, by decide, by decide, by decide, by decide⟩,
    ⟨12800, { (wOn .standbyCold).rs .redCtrl 1 with red := { RedSt.init with linkUp := true } }, by decide, by decide⟩,
    ⟨4000, { (wOn .standbyCold).rs .redCtrl 3 with red := { RedSt.init with holderLease := some 0, ck := some wCk } }, _, 0, rfl, by decide, by decide, by decide, by decide, by decide, by decide, by decide, by decide, by decide⟩,
    ⟨4000, ({ (wOn .standbyCold).rs .redCtrl 3 with red := { RedSt.init with holderLease := some 0 } }).rs .redEpochseen 0xFFFFFFFF, _, 0, rfl, by decide, by decide, by decide, by decide, by decide, by decide, by decide, by decide, by decide⟩,
    ⟨{ wAwn .run with red := { RedSt.init with restoredAt := some 0, awn := true } }, 0, by decide, by decide⟩,
    ⟨40000, { (wOn .standbyCold).rs .redCtrl 1 with red := { RedSt.init with ck := some { wCk with handover := true } } }, _, { wCk with handover := true }, rfl, by decide, by decide, by decide, by decide, by decide, by decide, by decide, by decide⟩,
    ⟨52000, { wAwn .run with red := { RedSt.init with awn := true, hand := some 0 } }, _, 0, rfl, by decide, by decide, by decide⟩⟩

/-- SafetyRowsTakeEffect: clauses 1, 2, 3, 4, 5, 6, 7, 8, 10, 11, 12, 13, 14. -/
theorem witness_SafetyRowsTakeEffect :
    (∃ (t : Nat) (s : State), (s.begin t).lanesRun = true)
    ∧ (∃ (t : Nat) (n : Nat) (s : State) (b : State), b = s.begin t ∧ b.lanesRun = true ∧ 1 ≤ n ∧ (s.si (n - 1)).rel = true ∧ (setInp (n - 1) { s.si (n - 1) with rel := false } b).resetOk = true)
    ∧ (∃ (t : Nat) (n : Nat) (low : Bool) (s : State), (s.begin t).lanesRun = true ∧ 1 ≤ n ∧ n ≤ 4 ∧ (s.so (n - 1)).faulted = false ∧ (s.so (n - 1)).hi = true ∧ (s.so (n - 1)).lo = true ∧ s.saf.cycle % 240000 = darkSlot (n - 1) low)
    ∧ (∃ (t : Nat) (n : Nat) (low : Bool) (s : State), (s.begin t).lanesRun = true ∧ 1 ≤ n ∧ n ≤ 4 ∧ (s.so (n - 1)).test = (if low then 2 else 1))
    ∧ (∃ (t : Nat) (n : Nat) (low : Bool) (s : State), (s.begin t).lanesRun = true ∧ 1 ≤ n ∧ n ≤ 4 ∧ (s.so (n - 1)).test = (if low then 2 else 1) ∧ (s.begin t).soWanted (n - 1) = true)
    ∧ (∃ (t : Nat) (s : State) (a : Nat), (s.begin t).lanesRun = true ∧ s.saf.accessSince = some a ∧ a + s.img 54 2 * 400000000 ≤ max s.now t)
    ∧ (∃ (t : Nat) (s : State), (s.begin t).lanesRun = true ∧ s.saf.image.isSome = true ∧ s.saf.lastSend + s.img 48 1 * 400000 ≤ max s.now t)
    ∧ (∃ (t : Nat) (p : Nat) (s : State), (s.begin t).lanesRun = true ∧ p < 2)
    ∧ (∃ (t : Nat) (s : State), (s.begin t).lanesRun = true ∧ s.saf.image.isSome = true ∧ s.saf.timedOut = false ∧ max s.saf.adopted (if s.saf.everRx then s.saf.lastRx else 0) + 16000000 ≤ max s.now t)
    ∧ (∃ (t : Nat) (s : State) (im : List Byte) (w : Nat), s.saf.pend = some (im, w) ∧ w + 240000000000 ≤ max s.now t)
    ∧ (∃ (t : Nat) (s : State), (s.begin t).lanesRun = true ∧ s.saf.ioLost = false)
    ∧ (∃ (t : Nat) (n : Nat) (s : State), (s.begin t).lanesRun = true ∧ 1 ≤ n ∧ n ≤ 4 ∧ (s.so (n - 1)).faulted = false)
    ∧ (∃ (t : Nat) (s : State), (s.begin t).lanesRun = true ∧ s.saf.ocxo = false) :=
  ⟨⟨0, wSaf, by decide⟩,
    ⟨0, 8, setInp 7 { InSt.init with rel := true } { wSaf with saf := { wSaf.saf with causes := 0 } }, _, rfl, by decide, by decide, by decide, by decide⟩,
    ⟨0, 4, true, setSo 3 { OutSt.init with hi := true, lo := true } { wSaf with saf := { wSaf.saf with cycle := darkSlot 3 true } }, by decide, by decide, by decide, by decide, by decide, by decide, by decide⟩,
    ⟨0, 4, true, setSo 3 { OutSt.init with test := 2 } wSaf, by decide, by decide, by decide, by decide⟩,
    ⟨0, 4, false, { wSaf with saf := { (setSo 3 { OutSt.init with test := 1 } wSaf).saf with image := some (List.replicate 47 0 ++ [3] ++ List.replicate 80 0) } }, by decide, by decide, by decide, by decide, by decide⟩,
    ⟨400000000000, { wSaf with saf := { wSaf.saf with accessSince := some 0 } }, 0, by decide, by decide, by decide⟩,
    ⟨400000000, wSaf, by decide, by decide, by decide⟩,
    ⟨0, 1, wSaf, by decide, by decide⟩,
    ⟨16000000, wSaf, by decide, by decide, by decide, by decide⟩,
    ⟨240000000000, { wSaf with saf := { wSaf.saf with pend := some ([], 0) } }, [], 0, by decide, by decide⟩,
    ⟨0, wSaf, by decide, by decide⟩,
    ⟨0, 4, wSaf, by decide, by decide, by decide, by decide⟩,
    ⟨0, wSaf, by decide, by decide⟩⟩

end Sys2Proof.Machine
end

section
/-!
PROOFS. The machine as a whole: every command gives a next state and keeps the canonical form. Packets, register writes and
register reads each go through their shared row; every other command has its pair of lemmas in Laws/Exec.
-/
namespace Sys2Proof.Machine

/-! ### Commands by kind -/

/-- A packet is carried out by the shared row of host operations. -/
theorem exec_packet {c : Instr} {x : Nat × Hdr × HostOp} (h : hostOf c = some x) (s : State) :
    exec c s = hostRow x.1 x.2.1 x.2.2 s := by
  cases c <;> cases h <;> rfl

/-- A register write is carried out by the shared row of register writes. -/
theorem exec_regWrite {c : Instr} {x : Nat × Master × Nat × Word} (h : regRowOf c = some x) (s : State) :
    exec c s = regRow x.1 x.2.1 x.2.2.1 x.2.2.2 s := by
  cases c <;> cases h <;> rfl

/-- A register read is carried out by the shared row of register reads. -/
theorem exec_regRead {c : Instr} {x : Nat × Master × Nat} (h : readRowOf c = some x) (s : State) :
    exec c s = readRow x.1 x.2.1 x.2.2 s := by
  cases c <;> cases h <;> rfl

theorem stampOf_packet {c : Instr} {x : Nat × Hdr × HostOp} (h : hostOf c = some x) : stampOf c = some x.1 := by
  cases c <;> cases h <;> rfl

theorem stampOf_regWrite {c : Instr} {x : Nat × Master × Nat × Word} (h : regRowOf c = some x) : stampOf c = some x.1 := by
  cases c <;> cases h <;> rfl

theorem stampOf_regRead {c : Instr} {x : Nat × Master × Nat} (h : readRowOf c = some x) : stampOf c = some x.1 := by
  cases c <;> cases h <;> rfl

/-! ### Every command goes on -/

/-- Command `c` gives a next state from `s`: variant and queue stay, the clock moves on to the command's time, and the
canonical form is kept. -/
def GoesOn (c : Instr) (s : State) : Prop :=
  (∃ s', exec c s = .next s' ∧ s'.base = (s.variant, s.pending, max s.now ((stampOf c).getD s.now)))
    ∧ (s.canon → ∃ s', exec c s = .next s' ∧ s'.canon)

theorem packet_goesOn {c : Instr} {x : Nat × Hdr × HostOp} (h : hostOf c = some x) (s : State) : GoesOn c s := by
  rw [GoesOn, exec_packet h, stampOf_packet h]
  exact ⟨hostRow_base .., hostRow_canon _ _ _ s⟩

theorem regWrite_goesOn {c : Instr} {x : Nat × Master × Nat × Word} (h : regRowOf c = some x) (s : State) : GoesOn c s := by
  rw [GoesOn, exec_regWrite h, stampOf_regWrite h]
  exact ⟨regRow_base .., regRow_canon _ _ _ _ s⟩

theorem regRead_goesOn {c : Instr} {x : Nat × Master × Nat} (h : readRowOf c = some x) (s : State) : GoesOn c s := by
  rw [GoesOn, exec_regRead h, stampOf_regRead h]
  exact ⟨readRow_base .., readRow_canon _ _ _ s⟩

/-- The commands that are neither packets nor register accesses: one line per command. -/
theorem event_goesOn {c : Instr} (hp : hostOf c = none) (hw : regRowOf c = none) (hr : readRowOf c = none) (s : State) :
    GoesOn c s := by
  cases c with
  | memFillDone t => exact ⟨execMemFillDone_base t s, execMemFillDone_canon t s⟩
  | sheafTimeout t n => exact ⟨execSheafTimeout_base t n s, execSheafTimeout_canon t n s⟩
  | prepareDeadline t n => exact ⟨execPrepareDeadline_base t n s, execPrepareDeadline_canon t n s⟩
  | sheafApply t n => exact ⟨execSheafApply_base t n s, execSheafApply_canon t n s⟩
  | bistComplete t res => exact ⟨execBistComplete_base t res s, execBistComplete_canon t res s⟩
  | pcieMemRead t bar off len => exact ⟨execPcieMemRead_base t bar off len s, execPcieMemRead_canon t bar off len s⟩
  | pcieMemWrite t bar off data => exact ⟨execPcieMemWrite_base t bar off data s, execPcieMemWrite_canon t bar off data s⟩
  | arpRequest t p ip => exact ⟨execArpRequest_base t p ip s, execArpRequest_canon t p ip s⟩
  | icmpEcho t p ip data => exact ⟨execIcmpEcho_base t p ip data s, execIcmpEcho_canon t p ip data s⟩
  | reassemblyTimeout t p ident => exact ⟨execReassemblyTimeout_base t p ident s, execReassemblyTimeout_canon t p ident s⟩
  | cqTailWrite t m v slots => exact ⟨execCqTailWrite_base t m v slots s, execCqTailWrite_canon t m v slots s⟩
  | replyRingRoom t m v => exact ⟨execReplyRingRoom_base t m v s, execReplyRingRoom_canon t m v s⟩
  | replyCacheExpiry t q => exact ⟨execReplyCacheExpiry_base t q s, execReplyCacheExpiry_canon t q s⟩
  | event t q => exact ⟨execEvent_base t q s, execEvent_canon t q s⟩
  | pcieReset t => exact ⟨execPcieReset_base t s, execPcieReset_canon t s⟩
  | portLinkDown t p => exact ⟨execPortLinkDown_base t p s, execPortLinkDown_canon t p s⟩
  | coreReset t m fetch => exact ⟨execCoreReset_base t m fetch s, execCoreReset_canon t m fetch s⟩
  | mbCross t a b => exact ⟨execMbCross_base t a b s, execMbCross_canon t a b s⟩
  | retirementCopyDone t => exact ⟨execRetirementCopyDone_base t s, execRetirementCopyDone_canon t s⟩
  | gleanWord t dram => exact ⟨execGleanWord_base t dram s, execGleanWord_canon t dram s⟩
  | hardwareFillDone t => exact ⟨execHardwareFillDone_base t s, execHardwareFillDone_canon t s⟩
  | programmingDone t ok => exact ⟨execProgrammingDone_base t ok s, execProgrammingDone_canon t ok s⟩
  | syncCrossing t => exact ⟨execSyncCrossing_base t s, execSyncCrossing_canon t s⟩
  | timerMode t => exact ⟨execTimerMode_base t s, execTimerMode_canon t s⟩
  | timerTick t => exact ⟨execTimerTick_base t s, execTimerTick_canon t s⟩
  | conversionResult t raw exc => exact ⟨execConversionResult_base t raw exc s, execConversionResult_canon t raw exc s⟩
  | privSampleSet t bits => exact ⟨execPrivSampleSet_base t bits s, execPrivSampleSet_canon t bits s⟩
  | normalSample t n bits => exact ⟨execNormalSample_base t n bits s, execNormalSample_canon t n bits s⟩
  | inputStuck t k => exact ⟨execInputStuck_base t k s, execInputStuck_canon t k s⟩
  | inputRecovered t k => exact ⟨execInputRecovered_base t k s, execInputRecovered_canon t k s⟩
  | frameBoundary t ue => exact ⟨execFrameBoundary_base t ue s, execFrameBoundary_canon t ue s⟩
  | sortComplete t a => exact ⟨execSortComplete_base t a s, execSortComplete_canon t a s⟩
  | innerCycle t ue => exact ⟨execInnerCycle_base t ue s, execInnerCycle_canon t ue s⟩
  | inputStale t k => exact ⟨execInputStale_base t k s, execInputStale_canon t k s⟩
  | publication t => exact ⟨execPublication_base t s, execPublication_canon t s⟩
  | outerBoundary t ue => exact ⟨execOuterBoundary_base t ue s, execOuterBoundary_canon t ue s⟩
  | resyncPermitOn t => exact ⟨execResyncPermitOn_base t s, execResyncPermitOn_canon t s⟩
  | closureDetected t => exact ⟨execClosureDetected_base t s, execClosureDetected_canon t s⟩
  | resyncTimeout t => exact ⟨execResyncTimeout_base t s, execResyncTimeout_canon t s⟩
  | episodeEnd t => exact ⟨execEpisodeEnd_base t s, execEpisodeEnd_canon t s⟩
  | peakStageEnd t => exact ⟨execPeakStageEnd_base t s, execPeakStageEnd_canon t s⟩
  | limitBudgetExhausted t => exact ⟨execLimitBudgetExhausted_base t s, execLimitBudgetExhausted_canon t s⟩
  | peakRearm t => exact ⟨execPeakRearm_base t s, execPeakRearm_canon t s⟩
  | stopTimeout t => exact ⟨execStopTimeout_base t s, execStopTimeout_canon t s⟩
  | dcGuardEnd t => exact ⟨execDcGuardEnd_base t s, execDcGuardEnd_canon t s⟩
  | dwellEnd t => exact ⟨execDwellEnd_base t s, execDwellEnd_canon t s⟩
  | blendEnd t => exact ⟨execBlendEnd_base t s, execBlendEnd_canon t s⟩
  | burstForcedExit t => exact ⟨execBurstForcedExit_base t s, execBurstForcedExit_canon t s⟩
  | burstAvail t => exact ⟨execBurstAvail_base t s, execBurstAvail_canon t s⟩
  | energyDeviation t => exact ⟨execEnergyDeviation_base t s, execEnergyDeviation_canon t s⟩
  | energyReady t => exact ⟨execEnergyReady_base t s, execEnergyReady_canon t s⟩
  | staleExcl t k => exact ⟨execStaleExcl_base t k s, execStaleExcl_canon t k s⟩
  | restDue t k => exact ⟨execRestDue_base t k s, execRestDue_canon t k s⟩
  | forcedRest t k => exact ⟨execForcedRest_base t k s, execForcedRest_canon t k s⟩
  | restEnd t k => exact ⟨execRestEnd_base t k s, execRestEnd_canon t k s⟩
  | deficitEpisodeEnd t => exact ⟨execDeficitEpisodeEnd_base t s, execDeficitEpisodeEnd_canon t s⟩
  | fixedRest t k => exact ⟨execFixedRest_base t k s, execFixedRest_canon t k s⟩
  | downlinkFrame t l ue => exact ⟨execDownlinkFrame_base t l ue s, execDownlinkFrame_canon t l ue s⟩
  | loadBoundary t a => exact ⟨execLoadBoundary_base t a s, execLoadBoundary_canon t a s⟩
  | uplinkFrame t l portErr sof bytes ue => exact ⟨execUplinkFrame_base t l portErr sof bytes ue s, execUplinkFrame_canon t l portErr sof bytes ue s⟩
  | txnResponse t l tid result data => exact ⟨execTxnResponse_base t l tid result data s, execTxnResponse_canon t l tid result data s⟩
  | txnTimeout t l tid => exact ⟨execTxnTimeout_base t l tid s, execTxnTimeout_canon t l tid s⟩
  | linkTrain t l => exact ⟨execLinkTrain_base t l s, execLinkTrain_canon t l s⟩
  | trainFail t l => exact ⟨execTrainFail_base t l s, execTrainFail_canon t l s⟩
  | identityRetry t l => exact ⟨execIdentityRetry_base t l s, execIdentityRetry_canon t l s⟩
  | codeErrors t l => exact ⟨execCodeErrors_base t l s, execCodeErrors_canon t l s⟩
  | lossOfLight t l => exact ⟨execLossOfLight_base t l s, execLossOfLight_canon t l s⟩
  | reenrol t l cell => exact ⟨execReenrol_base t l cell s, execReenrol_canon t l cell s⟩
  | laneMargin t l pwr margin => exact ⟨execLaneMargin_base t l pwr margin s, execLaneMargin_canon t l pwr margin s⟩
  | armOvercurrent t a bits => exact ⟨execArmOvercurrent_base t a bits s, execArmOvercurrent_canon t a bits s⟩
  | armDeblock t a => exact ⟨execArmDeblock_base t a s, execArmDeblock_canon t a s⟩
  | overcurrentPersist t a => exact ⟨execOvercurrentPersist_base t a s, execOvercurrentPersist_canon t a s⟩
  | bypassFail t k => exact ⟨execBypassFail_base t k s, execBypassFail_canon t k s⟩
  | unitClose t => exact ⟨execUnitClose_base t s, execUnitClose_canon t s⟩
  | hostCopy t ue => exact ⟨execHostCopy_base t ue s, execHostCopy_canon t ue s⟩
  | gap t => exact ⟨execGap_base t s, execGap_canon t s⟩
  | timeRecord t => exact ⟨execTimeRecord_base t s, execTimeRecord_canon t s⟩
  | trigInEdge t n rising => exact ⟨execTrigInEdge_base t n rising s, execTrigInEdge_canon t n rising s⟩
  | xtrigAssert t => exact ⟨execXtrigAssert_base t s, execXtrigAssert_canon t s⟩
  | holdOffEnd t u => exact ⟨execHoldOffEnd_base t u s, execHoldOffEnd_canon t u s⟩
  | pulseEnd t o => exact ⟨execPulseEnd_base t o s, execPulseEnd_canon t o s⟩
  | beatReceived t bytes rxAt => exact ⟨execBeatReceived_base t bytes rxAt s, execBeatReceived_canon t bytes rxAt s⟩
  | pairLinkDown t => exact ⟨execPairLinkDown_base t s, execPairLinkDown_canon t s⟩
  | checkpointSegment t seg ue => exact ⟨execCheckpointSegment_base t seg ue s, execCheckpointSegment_canon t seg ue s⟩
  | takeover t => exact ⟨execTakeover_base t s, execTakeover_canon t s⟩
  | handoverClaim t => exact ⟨execHandoverClaim_base t s, execHandoverClaim_canon t s⟩
  | handoverAbort t => exact ⟨execHandoverAbort_base t s, execHandoverAbort_canon t s⟩
  | laneCycle t io => exact ⟨execLaneCycle_base t io s, execLaneCycle_canon t io s⟩
  | resetInput t n => exact ⟨execResetInput_base t n s, execResetInput_canon t n s⟩
  | darkTest t n low => exact ⟨execDarkTest_base t n low s, execDarkTest_canon t n low s⟩
  | darkTestResult t n low fell => exact ⟨execDarkTestResult_base t n low fell s, execDarkTestResult_canon t n low fell s⟩
  | accessDelay t => exact ⟨execAccessDelay_base t s, execAccessDelay_canon t s⟩
  | telegramSend t => exact ⟨execTelegramSend_base t s, execTelegramSend_canon t s⟩
  | telegramCopy t p ip udp bytes => exact ⟨execTelegramCopy_base t p ip udp bytes s, execTelegramCopy_canon t p ip udp bytes s⟩
  | windowClose t alive => exact ⟨execWindowClose_base t alive s, execWindowClose_canon t alive s⟩
  | telegramTimeout t => exact ⟨execTelegramTimeout_base t s, execTelegramTimeout_canon t s⟩
  | configTimeout t => exact ⟨execConfigTimeout_base t s, execConfigTimeout_canon t s⟩
  | ioSupplyLoss t => exact ⟨execIoSupplyLoss_base t s, execIoSupplyLoss_canon t s⟩
  | outputCurrentLimit t n => exact ⟨execOutputCurrentLimit_base t n s, execOutputCurrentLimit_canon t n s⟩
  | ocxoFail t => exact ⟨execOcxoFail_base t s, execOcxoFail_canon t s⟩
  | syncMsg t d msg => exact ⟨execSyncMsg_base t d msg s, execSyncMsg_canon t d msg s⟩
  | followUp t d seq origin => exact ⟨execFollowUp_base t d seq origin s, execFollowUp_canon t d seq origin s⟩
  | announce t p ann => exact ⟨execAnnounce_base t p ann s, execAnnounce_canon t p ann s⟩
  | pdelayReq t p seq rx => exact ⟨execPdelayReq_base t p seq rx s, execPdelayReq_canon t p seq rx s⟩
  | pdelayResp t p t1 t2 t3 t4 => exact ⟨execPdelayResp_base t p t1 t2 t3 t4 s, execPdelayResp_canon t p t1 t2 t3 t4 s⟩
  | syncTimeout t d => exact ⟨execSyncTimeout_base t d s, execSyncTimeout_canon t d s⟩
  | revert t => exact ⟨execRevert_base t s, execRevert_canon t s⟩
  | holdoverLimit t => exact ⟨execHoldoverLimit_base t s, execHoldoverLimit_canon t s⟩
  | timeSet t => exact ⟨execTimeSet_base t s, execTimeSet_canon t s⟩
  | pairTime t => exact ⟨execPairTime_base t s, execPairTime_canon t s⟩
  | ppsInEdge t => exact ⟨execPpsInEdge_base t s, execPpsInEdge_canon t s⟩
  | ppsinLoss t => exact ⟨execPpsinLoss_base t s, execPpsinLoss_canon t s⟩
  | ppsOut t => exact ⟨execPpsOut_base t s, execPpsOut_canon t s⟩
  | syspllLoss t => exact ⟨execSyspllLoss_base t s, execSyspllLoss_canon t s⟩
  | stationPllLock t => exact ⟨execStationPllLock_base t s, execStationPllLock_canon t s⟩
  | outputRelease t => exact ⟨execOutputRelease_base t s, execOutputRelease_canon t s⟩
  | spllUnlock t => exact ⟨execSpllUnlock_base t s, execSpllUnlock_canon t s⟩
  | refLoss t => exact ⟨execRefLoss_base t s, execRefLoss_canon t s⟩
  | legGood t leg mv => exact ⟨execLegGood_base t leg mv s, execLegGood_canon t leg mv s⟩
  | legLost t leg mv => exact ⟨execLegLost_base t leg mv s, execLegLost_canon t leg mv s⟩
  | legOv t leg mv => exact ⟨execLegOv_base t leg mv s, execLegOv_canon t leg mv s⟩
  | holdupLow t => exact ⟨execHoldupLow_base t s, execHoldupLow_canon t s⟩
  | powerGoodLost t => exact ⟨execPowerGoodLost_base t s, execPowerGoodLost_canon t s⟩
  | storeFull t => exact ⟨execStoreFull_base t s, execStoreFull_canon t s⟩
  | resetRelease t slotId factory => exact ⟨execResetRelease_base t slotId factory s, execResetRelease_canon t slotId factory s⟩
  | bootVerified t okA okB => exact ⟨execBootVerified_base t okA okB s, execBootVerified_canon t okA okB s⟩
  | initEnd t => exact ⟨execInitEnd_base t s, execInitEnd_canon t s⟩
  | tempSample t inlet junc => exact ⟨execTempSample_base t inlet junc s, execTempSample_canon t inlet junc s⟩
  | undefinedOpcode t q bytes => exact ⟨execUndefinedOpcode_base t q bytes s, execUndefinedOpcode_canon t q bytes s⟩
  | timeStep => exact ⟨execTimeStep_base s, execTimeStep_canon s⟩
  | filterStart => exact ⟨execFilterStart_base s, execFilterStart_canon s⟩
  | deblock => exact ⟨execDeblock_base s, execDeblock_canon s⟩
  | frtExit => exact ⟨execFrtExit_base s, execFrtExit_canon s⟩
  | frtTimeout => exact ⟨execFrtTimeout_base s, execFrtTimeout_canon s⟩
  | autoIslanding => exact ⟨execAutoIslanding_base s, execAutoIslanding_canon s⟩
  | blackstartDone => exact ⟨execBlackstartDone_base s, execBlackstartDone_canon s⟩
  | blackstartFail => exact ⟨execBlackstartFail_base s, execBlackstartFail_canon s⟩
  | firstEdgeFrame => exact ⟨execFirstEdgeFrame_base s, execFirstEdgeFrame_canon s⟩
  | _ => simp [hostOf, regRowOf, readRowOf] at hp hw hr

/-- Every command goes on, whatever its kind. -/
theorem exec_goesOn (c : Instr) (s : State) : GoesOn c s := by
  cases hp : hostOf c with
  | some x => exact packet_goesOn hp s
  | none =>
    cases hw : regRowOf c with
    | some x => exact regWrite_goesOn hw s
    | none =>
      cases hr : readRowOf c with
      | some x => exact regRead_goesOn hr s
      | none => exact event_goesOn hp hw hr s

theorem exec_canon {c : Instr} {s s' : State} (hs : s.canon) (h : exec c s = .next s') : s'.canon := by
  obtain ⟨z, hz, hc⟩ := (exec_goesOn c s).2 hs
  cases h.symm.trans hz
  exact hc

theorem State.base_eq {s : State} {v : Variant} {q : List Instr} {n : Nat} :
    s.base = (v, q, n) ↔ s.variant = v ∧ s.pending = q ∧ s.now = n := by
  rw [State.base, Prod.mk.injEq, Prod.mk.injEq]

/-- Settles O2: a packet and a register access through their shared row, any other command by its own lemma. -/
theorem everyCommandGoesOn : Obligations.EveryCommandGoesOn := by
  intro c s
  obtain ⟨s', hs, hb⟩ := (exec_goesOn c s).1
  exact ⟨s', hs, State.base_eq.mp hb⟩

/-- Settles O3, by the commands: with an empty queue nothing changes, and the front command keeps the form. -/
theorem stepKeepsCanonicalForm : Obligations.StepKeepsCanonicalForm := by
  intro s s' hs h
  cases hp : s.pending with
  | nil =>
    have : s = s' := by simpa [step, hp] using h
    exact this ▸ hs
  | cons c rest =>
    have hc : ({ s with pending := rest } : State).canon := hs
    exact exec_canon hc (by simpa [step, hp] using h)

end Sys2Proof.Machine
end

section
/-!
PROOFS. The registers: where each stands, what it holds after a write, and how a register access by a master ends.
-/
namespace Sys2Proof.Machine

/-! ### Places -/

/-- What `locate` answers stands at the address asked for, within the array's indices. -/
theorem RName.locate_some {n : RName} {a : Nat} {r : Reg} (h : n.locate a = some r) :
    r.name = n ∧ regAddr n r.i r.j = a ∧ r.i < n.spec.n ∧ r.j < n.spec.n2 := by
  simp only [RName.locate, Option.ite_none_left_eq_some, Option.ite_none_right_eq_some] at h
  obtain ⟨hoff, ⟨hi, hj, hrem, -⟩, hr⟩ := h
  cases hr
  refine ⟨rfl, ?_, hi, hj⟩
  by_cases hn : n.spec.n = 1
  · simp only [regAddr, hn, if_true, zero_mul] at hrem ⊢
    have hword := Nat.div_add_mod' (a - n.spec.off) n.spec.st2
    omega
  · simp only [regAddr, hn, if_false] at hrem ⊢
    have hentry := Nat.div_add_mod' (a - n.spec.off) n.spec.st
    have hword := Nat.div_add_mod' ((a - n.spec.off) % n.spec.st) n.spec.st2
    omega

/-- An address that holds a register is aligned, and the register is one that its array locates there. -/
theorem decodeReg_some {a : Nat} {r : Reg} (h : decodeReg a = some r) : a % 4 = 0 ∧ ∃ n : RName, n.locate a = some r := by
  unfold decodeReg at h
  split at h
  · cases h
  · rename_i h4
    obtain ⟨n, -, hn⟩ := List.exists_of_findSome?_eq_some h
    exact ⟨by omega, n, hn⟩

theorem decodeReg_of_regAt {a : Nat} {r : Reg} (h : regAt a = some r) : decodeReg a = some r := by
  unfold regAt at h
  split at h
  · rename_i hd
    split at h
    · cases h
    · rwa [hd]
  · cases h

theorem regAddr_of_regAt {a : Nat} {r : Reg} (h : regAt a = some r) : regAddr r.name r.i r.j = a := by
  obtain ⟨-, n, hn⟩ := decodeReg_some (decodeReg_of_regAt h)
  obtain ⟨rfl, ha, -, -⟩ := RName.locate_some hn
  exact ha

/-- Settles O22, through the array in whose range the address lies. -/
theorem registerStandsAtItsAddress : Obligations.RegisterStandsAtItsAddress := by
  intro addr r h
  obtain ⟨h4, n, hn⟩ := decodeReg_some (decodeReg_of_regAt h)
  obtain ⟨rfl, ha, hi, hj⟩ := RName.locate_some hn
  exact ⟨ha, h4, hi, hj⟩

/-! ### Words -/

@[simp] theorem State.rg_rs_same (s : State) (n : RName) (v : Word) (i j : Nat) : (s.rs n v i j).rg n i j = v :=
  Tab.get_set_same ..

theorem State.rg_rs_other (s : State) {n m : RName} (v : Word) {i j k l : Nat} (h : regAddr m k l ≠ regAddr n i j) :
    (s.rs n v i j).rg m k l = s.rg m k l := Tab.get_set_other _ _ _ _ _ h

/-- Settles O23, by what a sparse table reads after a write. -/
theorem storedWordReadsBack : Obligations.StoredWordReadsBack := fun s n v i j =>
  ⟨State.rs_canon s n v i j, s.rg_rs_same n v i j, fun _ _ _ h => s.rg_rs_other v h⟩

/-! ### Writes -/

/-- A write row of a module that is on ends as its access does. -/
theorem regRow_on {t : Nat} {m : Master} {addr : Nat} {v : Word} {s : State} (h : s.mode ≠ .off) :
    regRow t m addr v s = .next (settle (writeAs t m addr v s)) := by
  rw [regRow, if_neg h]

/-- A write command whose access leaves `x`: the status stands among the outputs. -/
theorem exec_write_of {c : Instr} {t : Nat} {m : Master} {addr : Nat} {v : Word} {s x : State} {st : Status}
    (hc : regRowOf c = some (t, m, addr, v)) (hon : s.mode ≠ .off) (hx : writeReg m.toNat addr v (s.begin t) = (x, st)) :
    exec c s = .next (settle (x.put (.wrote st))) := by
  rw [exec_regWrite hc, regRow_on hon, writeAs, hx]

theorem injection_allowed {s : State} {r : Reg} (h : r.name.isInj = true → s.mode = .factoryTest) :
    ¬ (r.name.isInj = true ∧ s.mode ≠ .factoryTest) := fun ⟨hi, hm⟩ => hm (h hi)

/-- The access of an accepted write is the register's effect, seen by the others. -/
theorem writeReg_accepted {s : State} {m addr : Nat} {v : Word} {r : Reg} (h : s.accepts m addr v r) :
    writeReg m addr v s = (afterWrite none m addr r (writeEffect m r v s).1, (writeEffect m r v s).2) := by
  obtain ⟨hr, habs, hacc, hinj, hwr, hchk, hheld, hcell, hpair⟩ := h
  have hfree : ¬ (s.heldBySheaf none addr = true ∨ r.name = .celCmd ∧ s.cellHeld none (field v 0 12) = true) := by
    rintro (h1 | ⟨h1, h2⟩)
    · simp [hheld] at h1
    · simp [hcell h1] at h2
  have hpair' : ¬ (r.name.replicated = true ∧ s.rb .redCtrl 0 = true ∧ ¬ s.awn = true ∧ s.red.linkUp = true ∧ m ≠ 11) := by
    simpa using hpair
  simp only [writeReg, hr, habs, hacc, hwr, hchk, injection_allowed hinj, hfree, hpair', not_true_eq_false, if_false,
    Bool.false_eq_true]

/-- An accepted write command has the register's effect and answers its status. -/
theorem exec_write_accepted {c : Instr} {t : Nat} {m : Master} {addr : Nat} {v : Word} {s : State} {r : Reg}
    (hc : regRowOf c = some (t, m, addr, v)) (h : s.writes t m addr v r) :
    exec c s = .next (wrote m addr r (writeEffect m.toNat r v (s.begin t))) :=
  exec_write_of hc h.1 (writeReg_accepted h.2)

/-- Settles O24: whatever row brings the write, its rules accept it and its effect follows. -/
theorem acceptedWriteTakesEffect : Obligations.AcceptedWriteTakesEffect :=
  ⟨fun _ _ _ _ _ _ _ hc h => exec_write_accepted hc h, fun _ _ _ _ _ _ h => exec_write_accepted rfl h⟩

theorem Reg.unit_of {n : RName} {i j u : Nat} (h : n.spec.off / 65536 = u) : (⟨n, i, j⟩ : Reg).unit = u := h

/-- The effect of a write to a setting or event register is to store the merged word. -/
theorem writeEffect_plain {r : Reg} (hp : r.name.plain = true) (m : Nat) (v : Word) (s : State) :
    writeEffect m r v s = (storeReg r v s, .ok) := by
  obtain ⟨n, i, j⟩ := r
  cases n with
  | mbxBind => exact writeEffect_mbx (Reg.unit_of rfl)
  | clkNint | clkEvt => exact writeEffect_clk (Reg.unit_of rfl)
  | timAsym | timSlewcfg | timEvt => exact writeEffect_tim (Reg.unit_of rfl)
  | crcPolyl | crcPolyh | crcInitl | crcInith | crcAlivelast | crcStat => exact writeEffect_crc (Reg.unit_of rfl)
  | memHostwin | memEvt => exact writeEffect_mem (Reg.unit_of rfl)
  | pwrEvt => exact writeEffect_pwr (Reg.unit_of rfl)
  | safEvt => exact writeEffect_saf (Reg.unit_of rfl)
  | madEvt | madSync | madSettle => exact writeEffect_mad (Reg.unit_of rfl)
  | filInevt | filSatstk => exact writeEffect_fil (Reg.unit_of rfl)
  | lenBankctl | lenBlken | lenEvt | lenRegdwell => exact writeEffect_len (Reg.unit_of rfl) nofun
  | winCtrl | winEvt | winBscfg => exact writeEffect_win (Reg.unit_of rfl)
  | celCtrl | celOccfg | celEvt => exact writeEffect_cel (Reg.unit_of rfl)
  | lnkCtrl | lnkTxnto | lnkMargin | lnkEvt => exact writeEffect_lnk (Reg.unit_of rfl)
  | recHrd | recNmask | recTulevel | recTuhyst | recEvt => exact writeEffect_rec (Reg.unit_of rfl)
  | redCtrl | redEvt => exact writeEffect_red (Reg.unit_of rfl)
  | shfCtrl | shfEvt => exact writeEffect_shf (Reg.unit_of rfl)
  | netCtrl | netIp | netMask | netGw | netRingctl | netCqbasel | netCqbaseh | netCqsize | netRqbasel | netRqbaseh
  | netRqsize => exact writeEffect_net (Reg.unit_of rfl)
  | _ => cases hp

theorem rwBits_plain {r : Reg} (hp : r.name.plain = true) : r.rwBits = r.name.spec.rw := by
  obtain ⟨n, i, j⟩ := r
  cases n <;> cases hp <;> rfl

/-- Bit by bit, the word that a write leaves: a W1C bit written as 1 clears, an RW bit takes the word, any other stays. -/
theorem mergedWord_bit (s : State) (r : Reg) (v : Word) {k : Nat} (hk : k < 32) :
    (mergedWord s r v).getLsbD k =
      if r.name.spec.w1c.testBit k && v.getLsbD k then false
      else if r.rwBits.testBit k then v.getLsbD k else (s.rg r.name r.i r.j).getLsbD k := by
  simp only [mergedWord, BitVec.getLsbD_and, BitVec.getLsbD_or, BitVec.getLsbD_not, BitVec.getLsbD_ofNat, hk]
  cases r.name.spec.w1c.testBit k <;> cases r.rwBits.testBit k <;> cases v.getLsbD k <;> simp

/-- Settles O25: the effect is to store the merged word, which is read bit by bit. -/
theorem plainWriteChangesOneWord : Obligations.PlainWriteChangesOneWord := by
  intro c t m addr v s r hc h hp
  have ⟨_, hr, _⟩ := h
  have haddr : regAddr r.name r.i r.j = addr := regAddr_of_regAt hr
  refine ⟨storeReg r v (s.begin t), ?_, fun k hk => ?_, fun a ha => ?_, rfl⟩
  · rw [exec_write_accepted hc h, writeEffect_plain hp]
  · rw [← haddr, ← rwBits_plain hp]
    simpa [storeReg, State.rs, State.rg] using mergedWord_bit (s.begin t) r v hk
  · exact Tab.get_set_other _ _ _ _ _ (haddr ▸ ha)

/-- Settles O28: one branch of the access per rule, in the order of the rules. -/
theorem refusedWriteChangesNothing : Obligations.RefusedWriteChangesNothing := by
  intro c t m addr v s b hc hon hb
  subst hb
  refine ⟨fun hr => ?_, fun r hr habs => ?_, fun r hr habs hacc => ?_, fun r hr habs hacc hinj hm => ?_,
    fun r hr habs hacc hinj => ?_⟩
  · exact exec_write_of hc hon (by simp [writeReg, hr])
  · exact exec_write_of hc hon (by simp [writeReg, hr, habs])
  · exact exec_write_of hc hon (by simp [writeReg, hr, habs, hacc])
  · exact exec_write_of hc hon (by simp [writeReg, hr, habs, hacc, hinj, hm])
  · have hfac : ¬ (r.name.isInj = true ∧ (s.begin t).mode ≠ .factoryTest) := injection_allowed hinj
    refine ⟨fun hw => ?_, fun d hw hd => ?_, fun hw hd hheld => ?_⟩
    · exact exec_write_of hc hon (by simp only [writeReg, hr, habs, hacc, hfac, hw]; rfl)
    · exact exec_write_of hc hon (by simp only [writeReg, hr, habs, hacc, hfac, hw, hd]; rfl)
    · exact exec_write_of hc hon (by simp only [writeReg, hr, habs, hacc, hfac, hw, hd, hheld, true_or]; rfl)

end Sys2Proof.Machine
end

section
/-!
PROOFS. Register reads that are allowed: the register at the address of a named row, and what the read answers.
-/
namespace Sys2Proof.Machine

/-! ### The register at a row's address -/

/-- The first address past a register array. -/
def RSpec.top (p : RSpec) : Nat := p.off + if p.n = 1 then p.n2 * p.st2 else p.n * p.st

theorem RName.spec_sizes_pos (n : RName) : 0 < n.spec.st ∧ 0 < n.spec.st2 ∧ 0 < n.spec.n2 := by
  cases n <;> decide

theorem RName.locate_below {n : RName} {a : Nat} (h : a < n.spec.off) : n.locate a = none := by
  rw [RName.locate, if_pos h]

/-- An array holds no register at or past its top. -/
theorem RName.locate_past {n : RName} {a : Nat} (h : n.spec.top ≤ a) : n.locate a = none := by
  obtain ⟨hst, hst2, -⟩ := n.spec_sizes_pos
  cases hl : n.locate a with
  | none => rfl
  | some r =>
    simp only [RName.locate, Option.ite_none_left_eq_some, Option.ite_none_right_eq_some] at hl
    obtain ⟨-, ⟨hi, hj, -, -⟩, -⟩ := hl
    unfold RSpec.top at h
    by_cases hn : n.spec.n = 1
    · simp only [hn, if_true] at h hj
      rw [Nat.div_lt_iff_lt_mul hst2] at hj
      omega
    · simp only [hn, if_false] at h hi
      rw [Nat.div_lt_iff_lt_mul hst] at hi
      omega

/-- An array holds its register `i`, word 0, at that register's address. -/
theorem RName.locate_regAddr {n : RName} {i : Nat} (hi : i < n.spec.n) (hh : n.hole i 0 = false) :
    n.locate (regAddr n i) = some ⟨n, i, 0⟩ := by
  obtain ⟨hst, -, hn2⟩ := n.spec_sizes_pos
  by_cases hn : n.spec.n = 1
  · obtain rfl : i = 0 := by omega
    simp [RName.locate, regAddr, hn, hn2, hh]
  · simp [RName.locate, regAddr, hn, hn2, hh, hi, hst]

/-- One array of a list locates an address and every other locates nothing there: the search ends at that array. -/
theorem findSome_locate {l : List RName} {n : RName} {a : Nat} {r : Reg} (hn : n ∈ l) (hr : n.locate a = some r)
    (hl : ∀ x ∈ l, x ≠ n → x.locate a = none) : l.findSome? (fun x => x.locate a) = some r := by
  obtain ⟨before, after, rfl, hnot⟩ := List.eq_append_cons_of_mem hn
  have hnone : before.findSome? (fun x => x.locate a) = none :=
    List.findSome?_eq_none_iff.mpr fun x hx => hl x (by simp [hx]) fun e => hnot (e ▸ hx)
  rw [List.findSome?_append, hnone, List.findSome?_cons, hr, Option.none_or]

/-- The array `n` of unit `u` is aligned, stays inside its unit's block and apart from every other array of the unit. -/
abbrev RName.apart (n : RName) (u : Nat) : Prop :=
  n ∈ unitRegs u ∧ 4 ∣ n.spec.off ∧ 4 ∣ n.spec.st ∧ u * 65536 ≤ n.spec.off ∧ n.spec.off + n.spec.n * n.spec.st ≤ (u + 1) * 65536
    ∧ ∀ x ∈ unitRegs u, x ≠ n → n.spec.off + n.spec.n * n.spec.st ≤ x.spec.off ∨ x.spec.top ≤ n.spec.off

theorem regAddr_unit {n : RName} {u i : Nat} (h : n.apart u) (hi : i < n.spec.n) : regAddr n i / 65536 = u := by
  obtain ⟨-, -, -, hlo, hhi, -⟩ := h
  have hend : i * n.spec.st < n.spec.n * n.spec.st := Nat.mul_lt_mul_of_pos_right hi n.spec_sizes_pos.1
  rw [regAddr]
  omega

/-- At the address of register `i`, word 0, of an array that lies apart stands that register. -/
theorem decodeReg_regAddr {n : RName} {u i : Nat} (h : n.apart u) (hi : i < n.spec.n) (hh : n.hole i 0 = false) :
    decodeReg (regAddr n i) = some ⟨n, i, 0⟩ := by
  have hunit := regAddr_unit h hi
  obtain ⟨hmem, hoff, hst, -, -, hothers⟩ := h
  have haddr : regAddr n i = n.spec.off + i * n.spec.st := by simp [regAddr]
  have halign : 4 ∣ regAddr n i := haddr ▸ hoff.add (hst.mul_left i)
  have hend : i * n.spec.st < n.spec.n * n.spec.st := Nat.mul_lt_mul_of_pos_right hi n.spec_sizes_pos.1
  rw [decodeReg, if_neg (by omega), hunit]
  refine findSome_locate hmem (RName.locate_regAddr hi hh) fun x hx hxn => ?_
  rcases hothers x hx hxn with h | h
  · exact RName.locate_below (by omega)
  · exact RName.locate_past (by omega)

/-- Outside the self-test unit the register at an address is the one that the map decodes. -/
theorem regAt_of_decodeReg {a : Nat} {r : Reg} (h : decodeReg a = some r)
    (hn : r.name ≠ .bstSig ∧ r.name ≠ .bstRef ∧ r.name ≠ .bstDet) : regAt a = some r := by
  obtain ⟨h1, h2, h3⟩ := hn
  simp [regAt, h, h1, h2, h3]

/-- The small memories lie in the units MBX, LEN and CEL. -/
theorem smallOf_of_unit {a u : Nat} (h : a / 65536 = u) (hu : u ≠ 2 ∧ u ≠ 11 ∧ u ≠ 14) : smallOf a = none := by
  rw [smallOf, if_neg (by omega), if_neg (by omega)]

/-- Register `i`, word 0, of array `n` stands at its address, and no small memory holds it. -/
abbrev RName.stands (n : RName) (i : Nat) : Prop := regAt (regAddr n i) = some ⟨n, i, 0⟩ ∧ smallOf (regAddr n i) = none

theorem RName.apart.stands {n : RName} {u i : Nat} (h : n.apart u) (hi : i < n.spec.n) (hh : n.hole i 0 = false)
    (hn : n ≠ .bstSig ∧ n ≠ .bstRef ∧ n ≠ .bstDet) (hu : u ≠ 2 ∧ u ≠ 11 ∧ u ≠ 14) : n.stands i :=
  ⟨regAt_of_decodeReg (decodeReg_regAddr h hi hh) hn, smallOf_of_unit (regAddr_unit h hi) hu⟩

theorem filNout_stands {i : Nat} (hi : i < 18) : RName.stands .filNout i :=
  RName.apart.stands (u := 10) (by decide) hi rfl (by decide) (by decide)

theorem filPout_stands {i : Nat} (hi : i < 6) : RName.stands .filPout i :=
  RName.apart.stands (u := 10) (by decide) hi rfl (by decide) (by decide)

theorem madRes_stands {i : Nat} (hi : i < 16) : RName.stands .madRes i :=
  RName.apart.stands (u := 9) (by decide) hi rfl (by decide) (by decide)

theorem fltLog_stands {i : Nat} (hi : i < 256) : RName.stands .fltLog i :=
  RName.apart.stands (u := 1) (by decide) hi rfl (by decide) (by decide)

theorem madInjres_stands : RName.stands .madInjres 0 := by decide

theorem timNowtl_stands : RName.stands .timNowtl 0 := by decide

/-- The words of the four check units interleave with the unit's other arrays: the four are checked one by one. -/
theorem crcVall_stands : ∀ {u : Nat}, u < 4 → RName.stands .crcVall u := by decide

/-! ### Reads -/

/-- The access of an allowed read gives the register's word and takes its snapshot. -/
theorem readReg_allowed {s : State} {m addr : Nat} {r : Reg} (hr : regAt addr = some r) (habs : s.absentReg r = false)
    (hacc : s.mayAccess m false r = true) (hmbx : mbxReadCheck s m r = none) (hsmall : smallOf addr = none) :
    readReg m addr s = (snapshot r s, .ok, s.regWord r) := by
  simp [readReg, hr, habs, hacc, hmbx, hsmall]

/-- An allowed read command puts out the register's word and takes its snapshot. -/
theorem exec_read_allowed {c : Instr} {t : Nat} {m : Master} {addr : Nat} {s : State} {r : Reg}
    (hc : readRowOf c = some (t, m, addr)) (hon : s.mode ≠ .off) (hr : regAt addr = some r)
    (habs : (s.begin t).absentReg r = false) (hacc : (s.begin t).mayAccess m.toNat false r = true)
    (hmbx : mbxReadCheck (s.begin t) m.toNat r = none) (hsmall : smallOf addr = none) :
    exec c s = .next (settle ((snapshot r (s.begin t)).put (.readData ((s.begin t).regWord r)))) := by
  rw [exec_regRead hc, readRow, if_neg hon, readAs, readReg_allowed hr habs hacc hmbx hsmall]
  rfl

theorem mbxReadCheck_other {s : State} {m : Nat} {r : Reg} (h : r.name ≠ .mbxRdata) : mbxReadCheck s m r = none := by
  unfold mbxReadCheck
  split
  · exact absurd ‹_› h
  · rfl

/-- A read command that names word 0 of an array outside the mailboxes. -/
theorem exec_read_stands {c : Instr} {t : Nat} {m : Master} {n : RName} {i : Nat} {s : State} (hn : n.stands i)
    (hc : readRowOf c = some (t, m, regAddr n i)) (hmbx : n ≠ .mbxRdata) (hon : s.mode ≠ .off)
    (habs : (s.begin t).absentReg ⟨n, i, 0⟩ = false) (hacc : (s.begin t).mayAccess m.toNat false ⟨n, i, 0⟩ = true) :
    exec c s = .next (settle ((snapshot ⟨n, i, 0⟩ (s.begin t)).put (.readData ((s.begin t).regWord ⟨n, i, 0⟩)))) :=
  exec_read_allowed hc hon hn.1 habs hacc (mbxReadCheck_other hmbx) hn.2

/-- Settles O27: the rule for any read row, then each named row at its register's place. -/
theorem allowedReadReturnsWord : Obligations.AllowedReadReturnsWord := by
  refine ⟨fun c t m addr s r hc hon hr habs hacc hmbx hsmall => exec_read_allowed hc hon hr habs hacc hmbx hsmall,
    fun t n m s p hp hon hi habs hacc => ?_⟩
  simp only [List.mem_cons, List.not_mem_nil, or_false] at hp
  rcases hp with rfl | rfl | rfl | rfl | rfl | rfl | rfl
  · exact exec_read_stands (filNout_stands hi) rfl nofun hon habs hacc
  · exact exec_read_stands (filPout_stands hi) rfl nofun hon habs hacc
  · exact exec_read_stands (madRes_stands hi) rfl nofun hon habs hacc
  · exact exec_read_stands madInjres_stands rfl nofun hon habs hacc
  · exact exec_read_stands timNowtl_stands rfl nofun hon habs hacc
  · exact exec_read_stands (fltLog_stands hi) rfl nofun hon habs hacc
  · exact exec_read_stands (crcVall_stands hi) rfl nofun hon habs hacc

end Sys2Proof.Machine
end

section
/-!
PROOFS. What reports, replies and a change of module state leave alone, and what a fault's effective level does.
-/
namespace Sys2Proof.Machine

/-! ### What reports and replies leave alone -/

/-- The state apart from its registers, faults, paths, mailboxes and outputs: what neither an event record nor a reply
touches. -/
def State.body (s : State) : State :=
  { s with regs := [], flt := State.reset.flt, cmd := [], mbx := [], ringWait := [], out := [] }

-- Stated with `(rfl)`, these are ordinary rewriting rules: `simp` then keeps their proofs, which `State.when_body` needs.
@[simp] theorem State.rs_body (s : State) (n v i j) : (s.rs n v i j).body = s.body := (rfl)
@[simp] theorem State.rsf_body (s : State) (n lo len v i j) : (s.rsf n lo len v i j).body = s.body := (rfl)
@[simp] theorem State.rsb_body (s : State) (n k b i j) : (s.rsb n k b i j).body = s.body := (rfl)
@[simp] theorem State.rsat_body (s : State) (n lo len a i j) : (s.rsat n lo len a i j).body = s.body := (rfl)
@[simp] theorem State.put_body (s : State) (o) : (s.put o).body = s.body := (rfl)
@[simp] theorem State.setPath_body (s : State) (q p) : (s.setPath q p).body = s.body := (rfl)
@[simp] theorem State.setChan_body (s : State) (c x) : (s.setChan c x).body = s.body := (rfl)
@[simp] theorem State.body_update (s : State) (r f c m w o) :
    ({ s with regs := r, flt := f, cmd := c, mbx := m, ringWait := w, out := o } : State).body = s.body := (rfl)

@[simp] theorem ite_body (c : Prop) [Decidable c] (a b : State) :
    (if c then a else b).body = if c then a.body else b.body := apply_ite ..

/-- A quantity that each step of a fold leaves alone, the fold leaves alone. -/
theorem foldl_keeps {σ α β : Type} (q : σ → β) {g : σ → α → σ} (h : ∀ s x, q (g s x) = q s) (l : List α) (s : σ) :
    q (l.foldl g s) = q s := by
  induction l generalizing s with
  | nil => rfl
  | cons x r ih => rw [List.foldl_cons, ih, h]

@[simp] theorem State.when_body (s : State) (b : Bool) (f : State → State) (h : ∀ s, (f s).body = s.body) :
    (s.when b f).body = s.body := by
  cases b with
  | false => rfl
  | true => exact h s

@[simp] theorem pushOn_body (q r s) : (pushOn q r s).1.body = s.body := by
  simp [pushOn]

@[simp] theorem pushAll_body (r s) : (pushAll r s).1.body = s.body :=
  foldl_keeps (fun x : State × Nat => x.1.body) (fun _ _ => pushOn_body ..) _ _

@[simp] theorem logEntry_body (f lvl esc first s) : (logEntry f lvl esc first s).body = s.body := by
  simp [logEntry]

@[simp] theorem capture_body (c f lvl s) : (capture c f lvl s).body = s.body := by
  simp [capture]

@[simp] theorem raise0_body (f s) : (raise0 f s).1.body = s.body := by
  simp [raise0]

@[simp] theorem overflowFaults_body (fuel n s) : (overflowFaults fuel n s).body = s.body := by
  induction fuel generalizing n s with
  | zero => simp [overflowFaults]
  | succ k ih => cases n <;> simp [overflowFaults, ih]

@[simp] theorem emit_body (kind ident d s x) : (emit kind ident d s x).body = s.body := by
  simp [emit]

@[simp] theorem mailSignal_body (ident m c s) : (mailSignal ident m c s).body = s.body := by
  simp [mailSignal]

@[simp] theorem ringBell_body (c s) : (ringBell c s).body = s.body := by
  simp [ringBell]

@[simp] theorem mailPush_body (c b s) : (mailPush c b s).body = s.body := by
  simp [mailPush]

@[simp] theorem ringAdvance_body (v s) : (ringAdvance v s).body = s.body := by
  simp [ringAdvance]

@[simp] theorem deliver_body (r s) : (deliver r s).body = s.body := by
  unfold deliver
  split
  · simp
  · split <;> simp

@[simp] theorem cacheReply_body (r s) : (cacheReply r s).body = s.body := by
  simp [cacheReply]

@[simp] theorem answer_body (o st d b s) : (answer o st d b s).body = s.body := by
  simp [answer]

@[simp] theorem answerAll_body (w st d b s) : (answerAll w st d b s).body = s.body :=
  foldl_keeps State.body (fun _ _ => foldl_keeps State.body (fun _ _ => answer_body ..) _ _) _ _

@[simp] theorem logOverride_body (c old new m s) : (logOverride c old new m s).body = s.body := by
  simp [logOverride]

@[simp] theorem setGlobal_body (v m s) : (setGlobal v m s).body = s.body := by
  simp [setGlobal]

@[simp] theorem releaseTrip_body (s) : (releaseTrip s).body = s.body := by
  simp [releaseTrip]

theorem State.body_withMode {x y : State} (h : x.body = y.body) (m : Mode) (b : Sub) :
    ({ x with mode := m, sub := b } : State).body = ({ y with mode := m, sub := b } : State).body :=
  congrArg (fun z => ({ z with mode := m, sub := b } : State)) h

/-- A change of module state changes nothing else of the body. -/
theorem setMode_body (m b s) : (setMode m b s).body = ({ s with mode := m, sub := b } : State).body := by
  unfold setMode
  split
  next h =>
    obtain ⟨rfl, rfl⟩ := h
    rfl
  next =>
    rw [emit_body]
    exact State.body_withMode (by simp) m b

/-- A quantity of the body is the same in states with the same body. -/
theorem State.of_body {β : Type} (q : State → β) (hq : ∀ s, q s.body = q s) {x y : State} (h : x.body = y.body) :
    q x = q y := by
  rw [← hq x, h, hq]

@[simp] theorem setMode_mode (m b s) : (setMode m b s).mode = m :=
  State.of_body State.mode (fun _ => rfl) (setMode_body m b s)
@[simp] theorem setMode_arm (m b s a) : (setMode m b s).arm a = s.arm a :=
  (State.of_body (State.arm · a) (fun _ => rfl) (setMode_body m b s)).trans rfl
@[simp] theorem setMode_saf (m b s) : (setMode m b s).saf = s.saf :=
  (State.of_body State.saf (fun _ => rfl) (setMode_body m b s)).trans rfl

@[simp] theorem answerAll_mode (w st d b s) : (answerAll w st d b s).mode = s.mode :=
  State.of_body State.mode (fun _ => rfl) (answerAll_body w st d b s)
@[simp] theorem answerAll_arm (w st d b s a) : (answerAll w st d b s).arm a = s.arm a :=
  State.of_body (State.arm · a) (fun _ => rfl) (answerAll_body w st d b s)
@[simp] theorem answerAll_saf (w st d b s) : (answerAll w st d b s).saf = s.saf :=
  State.of_body State.saf (fun _ => rfl) (answerAll_body w st d b s)

/-! ### Arms blocked and the engine stopped -/

/-- Arm `a` blocked. -/
def blockArm (s : State) (a : Nat) : State := s.setArm a { s.arm a with deblocked := false, pwm := none }

theorem blockArms_eq (s : State) : blockArms s = (List.range 6).foldl blockArm s := rfl

@[simp] theorem State.arm_setArm_same (s : State) (a : Nat) (x : Arm) : (s.setArm a x).arm a = x := Tab.get_set_same ..

theorem State.arm_setArm_other (s : State) {a b : Nat} (x : Arm) (h : b ≠ a) : (s.setArm a x).arm b = s.arm b :=
  Tab.get_set_other _ _ _ _ _ h

@[simp] theorem State.arm_update (s : State) (r : RedSt) (f : FltSt) (a : Nat) :
    ({ s with red := r, flt := f } : State).arm a = s.arm a := rfl

/-- Blocking one arm deblocks no other. -/
theorem blockArm_blocked {s : State} {a b : Nat} (h : b = a ∨ (s.arm b).deblocked = false) :
    ((blockArm s a).arm b).deblocked = false := by
  by_cases hb : b = a
  · simp [hb, blockArm]
  · rw [blockArm, State.arm_setArm_other s _ hb]
    exact h.resolve_left hb

theorem foldl_blockArm_blocked {l : List Nat} {s : State} {b : Nat} (h : b ∈ l ∨ (s.arm b).deblocked = false) :
    ((l.foldl blockArm s).arm b).deblocked = false := by
  induction l generalizing s with
  | nil => simpa using h
  | cons a r ih =>
    refine ih ?_
    rw [List.mem_cons] at h
    rcases h with (h | h) | h
    · exact .inr (blockArm_blocked (.inl h))
    · exact .inl h
    · exact .inr (blockArm_blocked (.inr h))

theorem blockArms_blocked (s : State) {a : Nat} (h : a < 6) : ((blockArms s).arm a).deblocked = false := by
  rw [blockArms_eq]
  exact foldl_blockArm_blocked (.inl (List.mem_range.mpr h))

@[simp] theorem blockArms_saf (s) : (blockArms s).saf = s.saf := by
  rw [blockArms_eq]
  exact foldl_keeps (g := blockArm) State.saf (fun _ _ => rfl) _ _

@[simp] theorem endBurst_saf (s) : (endBurst s).saf = s.saf := by
  unfold endBurst
  split <;> rfl

@[simp] theorem endBurst_arm (s a) : (endBurst s).arm a = s.arm a := by
  unfold endBurst
  split <;> rfl

@[simp] theorem stopEngine_saf (s) : (stopEngine s).saf = s.saf := by
  simp [stopEngine]

@[simp] theorem stopEngine_arm (s a) : (stopEngine s).arm a = s.arm a :=
  endBurst_arm ..

/-- In ARMED, entered from a running state, every arm is blocked. -/
theorem enterArmed_blocked (s : State) :
    (enterArmed s).mode = .armed ∧ ∀ a < 6, ((enterArmed s).arm a).deblocked = false := by
  refine ⟨setMode_mode .., fun a ha => ?_⟩
  rw [enterArmed, setMode_arm, stopEngine_arm]
  exact blockArms_blocked s ha

/-! ### The trip -/

/-- The presence of the safety unit rests on the variant alone. -/
theorem State.hasSaf_of_base {x y : State} (h : x.base = y.base) : x.hasSaf = y.hasSaf := by
  have hv : x.variant = y.variant := congrArg Prod.fst h
  rw [State.hasSaf, State.hasSaf, State.sysCap, State.sysCap, hv]

@[simp] theorem askSf1_mode (trip s) : (askSf1 trip s).mode = s.mode := by
  unfold askSf1
  split <;> rfl

theorem askSf1_modReq (trip : Bool) {s : State} (h : s.hasSaf = true) : (askSf1 trip s).saf.modReq = true := by
  rw [askSf1, if_pos h]

@[simp] theorem driveTrip_mode (s) : (driveTrip s).mode = s.mode := by
  unfold driveTrip
  split <;> rfl

@[simp] theorem driveTrip_saf (s) : (driveTrip s).saf = s.saf := by
  unfold driveTrip
  split <;> rfl

@[simp] theorem abortBist_mode (s) : (abortBist s).mode = s.mode := by
  unfold abortBist
  split
  · simp
  · rfl

/-- Where no cell switches a trip asks for SF1 and leaves the module state; in TRIPPED it also drives the trip output. -/
theorem tripNow_stays (blocked trip : Bool) {s : State}
    (h : s.mode = .init ∨ s.mode = .standbyCold ∨ s.mode = .tripped ∨ s.mode = .factoryTest) :
    (tripNow blocked trip s).mode = s.mode ∧ (s.hasSaf = true → (tripNow blocked trip s).saf.modReq = true) := by
  have hsaf : (abortBist s).hasSaf = s.hasSaf := State.hasSaf_of_base (abortBist_base s)
  have hmode := abortBist_mode s
  rw [← hmode] at h
  rw [← hsaf, ← hmode]
  unfold tripNow
  generalize abortBist s = z at h
  have hask : (askSf1 trip z).mode = z.mode ∧ (z.hasSaf = true → (askSf1 trip z).saf.modReq = true) :=
    ⟨askSf1_mode trip z, askSf1_modReq trip⟩
  rcases h with h | h | h | h <;> simp only [h] at hask ⊢
  · exact hask
  · exact hask
  · simpa using hask
  · exact hask

/-- The states in which cells may switch share one branch of a trip: it ends in TRIPPED with every arm blocked. -/
theorem tripNow_trips (blocked trip : Bool) {s : State}
    (h : s.mode = .armed ∨ s.mode = .precharge ∨ s.mode = .run ∨ s.mode = .stopping ∨ s.mode = .service) :
    (tripNow blocked trip s).mode = .tripped ∧ (∀ a < 6, ((tripNow blocked trip s).arm a).deblocked = false)
      ∧ (s.hasSaf = true → (tripNow blocked trip s).saf.modReq = true) := by
  rw [← abortBist_mode s] at h
  have hbase := abortBist_base s
  unfold tripNow
  generalize abortBist s = z at h hbase
  rcases h with h | h | h | h | h <;> simp only [h]
  all_goals
    refine ⟨setMode_mode .., fun a ha => ?_, fun hs => ?_⟩
    · simp only [setMode_arm, State.arm_update, answerAll_arm, stopEngine_arm]
      exact blockArms_blocked _ ha
    · simp only [setMode_saf, answerAll_saf, stopEngine_saf, blockArms_saf, driveTrip_saf]
      exact askSf1_modReq _ ((State.hasSaf_of_base (by simp [hbase])).trans hs)

/-! ### The orderly stop -/

/-- In RUN an L2 fault asks for the handover where the partner is ready, else for the orderly stop. -/
theorem stopNow_run {s : State} (hm : s.mode = .run) :
    stopNow s = if s.pairReady then { s with red := { s.red with takeReq := true } }
      else { s with len := { s.len with run := { s.len.run with stopReq := true } } } := by
  simp only [stopNow, hm]

theorem stopNow_precharge {s : State} (hm : s.mode = .precharge) :
    (stopNow s).mode = .armed ∧ ∀ a < 6, ((stopNow s).arm a).deblocked = false := by
  simp only [stopNow, hm]
  exact enterArmed_blocked _

theorem stopNow_idle {s : State} (hr : s.mode ≠ .run) (hp : s.mode ≠ .precharge) : stopNow s = s := by
  unfold stopNow
  split
  · exact absurd ‹_› hr
  · exact absurd ‹_› hp
  · rfl

/-- Settles O38, by level: an L2 fault goes through `stopNow`, an L3 fault through `tripNow`. -/
theorem levelDecidesTheAction : Obligations.LevelDecidesTheAction :=
  ⟨fun _ _ _ => ⟨rfl, rfl⟩, fun _ _ _ hm hp => (stopNow_run hm).trans (if_neg (by simp [hp])),
    fun _ _ _ hm hp => (stopNow_run hm).trans (if_pos hp), fun _ _ _ hm => stopNow_precharge hm,
    fun _ _ _ hr hp => stopNow_idle hr hp, fun _ _ _ h => tripNow_trips _ _ h, fun _ _ _ h => tripNow_stays _ _ h⟩

end Sys2Proof.Machine
end

section
/-!
PROOFS. Packets that are taken: the state in which the operation runs, how its answer ends the command, and the mode requests
and reports of group 0x03; and what reset leaves.
-/
namespace Sys2Proof.Machine

/-! ### The state in which a packet's operation runs -/

/-- The arrival of a packet writes NET_STAT and nothing else. -/
theorem noteLink_eq (q : Path) (s : State) : ∃ v, noteLink q s = s.rs .netStat v := by
  cases q <;> exact ⟨_, rfl⟩

@[simp] theorem noteLink_masterOf (q p : Path) (s : State) : (noteLink q s).masterOf p = s.masterOf p := by
  obtain ⟨v, hv⟩ := noteLink_eq q s
  rw [hv]
  rfl

theorem State.taken_body (s : State) (t h op) : (s.taken t h op).body = (s.begin t).body := by
  obtain ⟨v, hv⟩ := noteLink_eq h.path (s.begin t)
  rw [State.taken, hv]
  rfl

/-- A quantity of the body that the clock does not enter is in the state taken what it was. -/
theorem State.taken_of {β : Type} (q : State → β) (hq : ∀ s, q s.body = q s) (s : State) (t h op)
    (hb : q (s.begin t) = q s := by rfl) : q (s.taken t h op) = q s :=
  (State.of_body q hq (s.taken_body t h op)).trans hb

@[simp] theorem State.taken_mode (s : State) (t h op) : (s.taken t h op).mode = s.mode :=
  State.taken_of State.mode (fun _ => rfl) s t h op
@[simp] theorem State.taken_sub (s : State) (t h op) : (s.taken t h op).sub = s.sub :=
  State.taken_of State.sub (fun _ => rfl) s t h op
@[simp] theorem State.taken_len (s : State) (t h op) : (s.taken t h op).len = s.len :=
  State.taken_of State.len (fun _ => rfl) s t h op
@[simp] theorem State.taken_bst (s : State) (t h op) : (s.taken t h op).bst = s.bst :=
  State.taken_of State.bst (fun _ => rfl) s t h op
@[simp] theorem State.taken_awn (s : State) (t h op) : (s.taken t h op).awn = s.awn :=
  State.taken_of State.awn (fun _ => rfl) s t h op
@[simp] theorem State.taken_acOpen (s : State) (t h op) : (s.taken t h op).acOpen = s.acOpen :=
  State.taken_of State.acOpen (fun _ => rfl) s t h op

/-- Every register but NET_STAT is in the state taken what it was. -/
theorem State.taken_rg (s : State) (t h op) {n : RName} {i j : Nat} (ha : regAddr n i j ≠ regAddr .netStat) :
    (s.taken t h op).rg n i j = s.rg n i j := by
  obtain ⟨v, hv⟩ := noteLink_eq h.path (s.begin t)
  rw [State.taken, hv]
  exact State.rg_rs_other (s.begin t) v ha

/-! ### How a taken packet ends -/

/-- What the answer of operation `o` makes of its command: it waits, or the reply leaves and what follows the reply. -/
def ended (h : Hdr) (o : HostOp) (r : State × Ans) : State :=
  match r.2 with
  | .wait w => setWait ⟨h, o.opcode, .ring⟩ w r.1
  | .now st detail data => afterReply h o (answer ⟨h, o.opcode, .ring⟩ st detail data r.1)

/-- A taken packet runs its operation in the state taken; the operation's answer ends it. -/
theorem exec_taken {c : Instr} {t : Nat} {h : Hdr} {o : HostOp} {s : State} (hc : hostOf c = some (t, h, o))
    (ht : s.takes t h o) :
    exec c s = .next (settle (ended h o (runOp h ((s.begin t).masterOf h.path) o (s.taken t h o.opcode)))) := by
  obtain ⟨⟨hserve, hdup, hroom⟩, hadm⟩ := ht
  rw [exec_packet hc, hostRow, if_pos hserve, ingress, hdup]
  rw [State.taken] at hadm ⊢
  simp only [noteLink_masterOf, if_neg (Nat.not_le.mpr hroom), hadm]
  rfl

/-- An operation that waits leaves its command outstanding. -/
theorem exec_taken_wait {c : Instr} {t : Nat} {h : Hdr} {o : HostOp} {s x : State} {w : Wait}
    (hc : hostOf c = some (t, h, o)) (ht : s.takes t h o)
    (hr : runOp h ((s.begin t).masterOf h.path) o (s.taken t h o.opcode) = (x, .wait w)) :
    exec c s = .next (left h o w x) := by
  rw [exec_taken hc ht, hr]
  rfl

/-- An operation that answers ends its command, unless a reset follows the reply. -/
theorem exec_taken_now {c : Instr} {t : Nat} {h : Hdr} {o : HostOp} {s x : State} {st : Status} {detail : Nat}
    {data : List Byte} (hc : hostOf c = some (t, h, o)) (ht : s.takes t h o)
    (hr : runOp h ((s.begin t).masterOf h.path) o (s.taken t h o.opcode) = (x, .now st detail data))
    (ho : ∀ z, afterReply h o z = z) : exec c s = .next (answered h o st detail data x) := by
  rw [exec_taken hc ht, hr]
  simp only [ended, ho, answered]

/-! ### Mode requests -/

theorem askPrecharge_accepts {s : State} (ha : s.awn = true) (hm : s.mode = .armed) (hp : s.mayPrecharge = true) :
    askPrecharge s = accept (enterPrecharge s) :=
  (if_neg (not_not.mpr ha)).trans (if_pos ⟨hm, hp⟩)

/-- A mode request of the awn holder whose condition holds waits for its boundary. -/
theorem askMode_accepts {op : Nat} {ok : Bool} {f : State → State} {s : State} (ha : s.awn = true) (hok : ok = true) :
    askMode op ok f s = (f s, .wait (.mode op)) :=
  (if_neg (not_not.mpr ha)).trans (if_pos hok)

theorem State.runs_iff {s : State} {l : List Sub} : s.runs l = true ↔ s.mode = .run ∧ s.sub ∈ l := by
  simp [State.runs]

theorem askStart_accepts {s : State} (ha : s.awn = true) (hs : s.canStart = true) (hac : s.acClosed = true)
    (hv : Num.le (Num.ofRatio 85 100) s.len.emf.v1m = true) : askStart s = (beginEstimate s, .wait (.mode opStart)) :=
  askMode_accepts ha (by simp [hs, hac, hv])

theorem askBlack_accepts {s : State} (ha : s.awn = true) (hs : s.canStart = true)
    (hv : Num.lt s.len.emf.v1m (Num.ofRatio 1 10) = true) (hdc : Num.le (Num.ofRatio 9 10) s.len.emf.vdcPu = true) :
    askBlack s = (s, .wait (.mode opBlack)) :=
  askMode_accepts ha (by simp [hs, hv, hdc])

theorem askIsland_accepts {s : State} (ha : s.awn = true) (hm : s.mode = .run) (hb : s.sub = .gf) :
    askIsland s = (s, .wait (.mode opIsland)) :=
  askMode_accepts ha (State.runs_iff.mpr (by simp [hm, hb]))

theorem askResync_accepts {s : State} (ha : s.awn = true) (hm : s.mode = .run) (hb : s.sub = .island)
    (hin : s.rb .lenInsel 8 3 = true) : askResyncMode false s = (s, .wait (.mode opResync)) :=
  askMode_accepts ha (by simp [State.runs_iff, hm, hb, hin])

theorem askCancel_accepts {s : State} (ha : s.awn = true) (hm : s.mode = .run) (hb : s.sub = .island) :
    askResyncMode true s = (s, .wait (.mode opCancel)) :=
  askMode_accepts ha (State.runs_iff.mpr (by simp [hm, hb]))

/-- The sub-modes from which STOP is accepted are all but FRT. -/
theorem Sub.mem_stoppable {b : Sub} (h : b ≠ .frt) : b ∈ [Sub.gf, .island, .blackstart] := by
  cases b with
  | frt => exact absurd rfl h
  | _ => decide

theorem askStop_accepts {s : State} (ha : s.awn = true) (hm : s.mode = .precharge ∨ (s.mode = .run ∧ s.sub ≠ .frt)) :
    askStop s = (s, .wait (.mode opStop)) := by
  refine askMode_accepts ha ?_
  rcases hm with hm | ⟨hm, hb⟩
  · simp [hm]
  · simp [State.runs_iff, hm, Sub.mem_stoppable hb]

/-- Settles O16: each request finds its condition in the state taken. -/
theorem modeRequestsAreAccepted : Obligations.ModeRequestsAreAccepted := by
  refine ⟨fun t h s ht ha hm hp => ?_, fun t h s ht ha hs hac hv => ?_, fun t h s ht ha hs hv hdc => ?_,
    fun t h s ht ha hm hb => ?_, fun t h s ht ha hm hb hin => ?_, fun t h s ht ha hm hb => ?_, fun t h s ht ha hm => ?_⟩
  · exact exec_taken_now rfl ht (askPrecharge_accepts (by simpa) (by simpa) hp) fun _ => rfl
  · exact exec_taken_wait rfl ht (askStart_accepts (by simpa) hs hac (by simpa))
  · exact exec_taken_wait rfl ht (askBlack_accepts (by simpa) hs (by simpa) (by simpa))
  · exact exec_taken_wait rfl ht (askIsland_accepts (by simpa) (by simpa) (by simpa))
  · refine exec_taken_wait rfl ht (askResync_accepts (by simpa) (by simpa) (by simpa) ?_)
    rwa [State.rb, State.taken_rg _ _ _ _ (by decide)]
  · exact exec_taken_wait rfl ht (askCancel_accepts (by simpa) (by simpa) (by simpa))
  · exact exec_taken_wait rfl ht (askStop_accepts (by simpa) (by simpa))

/-! ### Reports and service commands -/

theorem tieStatus_breaker {s : State} {time : Word} (closed : Bool) (hp : s.pastOk time = true) :
    tieStatus closed true time s
      = accept (s.setLen { s.len with run := { s.len.run with ac := some (closed, time) } }) :=
  if_neg (not_not.mpr hp)

theorem tieStatus_tie {s : State} {time : Word} (closed : Bool) (hp : s.pastOk time = true) :
    tieStatus closed false time s = accept (s.setLen { s.len with run := { s.len.run with
      tie := some (closed, time), tieReq := if s.awn = true ∧ s.mode = .run then some closed else s.len.run.tieReq } }) :=
  if_neg (not_not.mpr hp)

theorem resetTrip_accepts {service : Bool} {s : State} (hm : s.mode = .tripped) (hac : s.acOpen = true)
    (hsv : ¬ (service = true ∧ s.rb .redCtrl 0 = true)) (hj : s.justTripped = false) :
    resetTrip service s
      = accept (setMode (if service then .service else if s.awn then .armed else .standbyCold) s.sub s) :=
  if_neg (by simpa [hm, hac, hj] using hsv)

theorem serviceEnter_accepts {s : State} (hm : s.mode = .armed) (hr : s.rb .redCtrl 0 = false) :
    serviceEnter s = accept (setMode .service s.sub s) :=
  if_pos (by simp [hm, hr])

theorem serviceLeave_accepts {s : State} (hm : s.mode = .service) (hf : s.bistFailed = false) (hb : s.bst.running = false) :
    serviceLeave s = accept (setMode .armed s.sub (blockArms (s.when (decide (s.rf .winFixen 0 6 ≠ 0)) blockAll))) :=
  (if_neg (by simp [hm, hf])).trans (if_neg (by simp [hb]))

/-- Settles O17: each command passes its checks in the state taken, and its effect is stated in terms of the state before. -/
theorem modeReportsTakeEffect : Obligations.ModeReportsTakeEffect := by
  refine ⟨fun t h s closed time ht hp => ?_, fun t h s closed time ht hp => ?_, fun t h s service ht hm hac hsv hj => ?_,
    fun t h s ht hm hr => ?_, fun t h s z ht hz hm hf hb => ?_⟩
  · rw [exec_taken_now rfl ht (tieStatus_breaker closed hp) fun _ => rfl, State.taken_len]
    rfl
  · rw [exec_taken_now rfl ht (tieStatus_tie closed hp) fun _ => rfl, State.taken_len, State.taken_awn, State.taken_mode]
    rfl
  · rw [exec_taken_now rfl ht (resetTrip_accepts (by simpa) (by simpa) hsv hj) fun _ => rfl, State.taken_sub, State.taken_awn]
    rfl
  · rw [exec_taken_now rfl ht (serviceEnter_accepts (by simpa) hr) fun _ => rfl, State.taken_sub]
    rfl
  · subst hz
    rw [exec_taken_now rfl ht (serviceLeave_accepts (by simpa) hf (by simpa)) fun _ => rfl, State.taken_sub]
    rfl

/-! ### What reset leaves -/

/-- No link is up after reset: the four words of LNK_UP are 0. -/
theorem reset_linkUp {l : Nat} (h : l < 128) : State.reset.linkUp l = false := by
  have hwords : ∀ i < 4, State.reset.rg .lnkUp i = 0 := by decide
  rw [State.linkUp, State.rb, hwords _ (by omega)]
  simp [bit]

/-- Settles O5: every table is empty after reset, and reads as its reset word or its initial entry. -/
theorem resetLeavesModuleOff : Obligations.ResetLeavesModuleOff :=
  ⟨rfl, fun _ _ _ => rfl, fun _ => rfl, fun _ => rfl, fun _ => rfl, fun _ hl => ⟨reset_linkUp hl, rfl⟩, fun _ => ⟨rfl, rfl⟩,
    rfl, rfl⟩

end Sys2Proof.Machine
end

section
/-!
PROOFS. The loop engine: its register writes, its cycles and limits, and the regions, energy and precharge times that end.
-/
namespace Sys2Proof.Machine

/-! ### Register writes (R71, R93, R403, R455) -/

/-- A write of LEN_FB stores the word with small numbers flushed, and sets F_SET to it (R71). -/
theorem writeEffect_lenFb (m : Nat) (v : Word) (s : State) : writeEffect m ⟨.lenBase, 2, 0⟩ v s
    = ((storeReg ⟨.lenBase, 2, 0⟩ (b32Flush v) s).rs .lenGlob (b32Flush v) 6, .ok) :=
  writeEffect_len rfl nofun

/-- Every bit of LEN_FB is stored: a write leaves the written word. -/
theorem mergedWord_lenFb (s : State) (v : Word) : mergedWord s ⟨.lenBase, 2, 0⟩ v = v := by
  refine BitVec.eq_of_getLsbD_eq fun k hk => ?_
  have hw1c : RName.lenBase.spec.w1c = 0 := rfl
  have hrw : ∀ k < 32, (Reg.rwBits ⟨.lenBase, 2, 0⟩).testBit k = true := by decide
  rw [mergedWord_bit s _ v hk, hw1c, hrw k hk]
  simp

theorem writeEffect_injectGo {v : Word} (hv : v.getLsbD 31 = true) (m : Nat) (s : State) :
    writeEffect m ⟨.fltInjctrl, 0, 0⟩ v s = injectGo m (storeReg ⟨.fltInjctrl, 0, 0⟩ v s) :=
  (writeEffect_flt rfl).trans (if_pos hv)

theorem writeEffect_sf1Req {v : Word} (hv : v.getLsbD 0 = true) (m : Nat) (s : State) :
    writeEffect m ⟨.safCtrl, 0, 0⟩ v s = ({ s with saf := { s.saf with hostReq := true } }, .ok) :=
  (writeEffect_saf rfl).trans (congrArg (fun x => (x, Status.ok)) (if_pos hv))

theorem exec_lenFbWrite {t : Nat} {m : Master} {v : Word} {s : State}
    (h : s.writes t m (regAddr .lenBase 2) v ⟨.lenBase, 2, 0⟩) : ∃ x,
      exec (.lenFbWrite t m v) s = .next (wrote m (regAddr .lenBase 2) ⟨.lenBase, 2, 0⟩ (x, .ok))
        ∧ x.rg .lenBase 2 = b32Flush v ∧ x.rg .lenGlob 6 = b32Flush v ∧ { x with regs := s.regs } = s.begin t := by
  refine ⟨_, by rw [exec_write_accepted rfl h, writeEffect_lenFb], ?_, State.rg_rs_same .., rfl⟩
  rw [State.rg_rs_other _ _ (by decide), storeReg, mergedWord_lenFb, State.rg_rs_same]

/-! ### Inner cycles and limits (R31-R33, R64, R73) -/

theorem exec_innerCycle {t : Nat} {ue : List Nat} {s : State} (h : (s.begin t).launchDue = true) :
    exec (.innerCycle t ue) s = .next (innerCycle ue (s.begin t)) :=
  congrArg Host.Outcome.next (if_pos h)

theorem exec_inputStale {t k : Nat} {s : State} (hr : s.running = true) (hk : k < 15)
    (hm : 10 ≤ s.len.inp.miss.getD k 0) (hs : s.len.inp.stale.getD k false = false) :
    exec (.inputStale t k) s = .next (fault 0x0531 .l2 (({ s.begin t with len := { s.len with inp := { s.len.inp with
      stale := s.len.inp.stale.set k true } } } : State).rsb .lenEvt 3 true) k) :=
  congrArg Host.Outcome.next (if_pos ⟨hr, hk, hm, hs⟩)

/-- Carrying the overload budget to now changes nothing outside the loop engine. -/
theorem budgetTick_frame (s : State) (l : LenSt) : { { budgetTick s with len := l } with len := s.len } = s := rfl

theorem exec_episodeEnd {t a b : Nat} {s z : State} (hz : z = budgetTick (s.begin t)) (ha : z.len.lim.start = some a)
    (hb : z.len.lim.below = some b) (ht : b + 8000000 ≤ z.now) :
    exec (.episodeEnd t) s = .next { z with len := { z.len with
      frt := { z.len.frt with islPeak := false },
      lim := { z.len.lim with start := none, peak := false, active := false, armed := z.len.lim.armed && !z.len.lim.peak } } } := by
  subst hz
  change execEpisodeEnd t s = _
  simp only [execEpisodeEnd, ha, hb, if_pos ht]

theorem exec_peakStageEnd {t a : Nat} {s z : State} (hz : z = budgetTick (s.begin t)) (ha : z.len.lim.start = some a)
    (hp : z.len.lim.peak = true) (ht : a + s.peakTicks ≤ z.now) :
    exec (.peakStageEnd t) s = .next { z with len := { z.len with lim := { z.len.lim with peak := false, armed := false } } } := by
  subst hz
  have ht' : a + (budgetTick (s.begin t)).peakTicks ≤ (budgetTick (s.begin t)).now := ht
  change execPeakStageEnd t s = _
  simp only [execPeakStageEnd, ha, hp, true_and, if_pos ht']

theorem exec_limitBudgetExhausted {t a : Nat} {s z : State} (hz : z = budgetTick (s.begin t))
    (ha : z.len.lim.start = some a) (hb : z.len.lim.budget = 0) (hs : z.len.lim.spent = false) :
    exec (.limitBudgetExhausted t) s = .next (fault 0x0522 .l1 { z with len := { z.len with lim := { z.len.lim with
      spent := true, peak := false, armed := z.len.lim.armed && !z.len.lim.peak } } }) := by
  subst hz
  exact congrArg Host.Outcome.next (if_pos ⟨hb, by rw [ha]; rfl, by rw [hs]; nofun⟩)

theorem exec_peakRearm {t b : Nat} {s z : State} (hz : z = budgetTick (s.begin t)) (hb : z.len.lim.below = some b)
    (ht : b + 80000000 ≤ z.now) :
    exec (.peakRearm t) s = .next { z with len := { z.len with lim := { z.len.lim with armed := true } } } := by
  subst hz
  change execPeakRearm t s = _
  simp only [execPeakRearm, hb, if_pos ht]

/-! ### Regions, energy and precharge (R88, R91, R109, R111) -/

theorem exec_dwellEnd {t : Nat} {s : State} (hd : s.len.reg.dwell ≤ 1) (ht : s.len.outerAt + 40000 ≤ max s.now t) :
    exec (.dwellEnd t) s = .next { s.begin t with len := { s.len with reg := { s.len.reg with dwell := 0 } } } :=
  congrArg Host.Outcome.next (if_pos ⟨hd, ht⟩)

theorem exec_blendEnd {t a : Nat} {s : State} (ha : s.len.reg.blendAt = some a)
    (ht : a + s.len.reg.blendLen ≤ max s.now t) :
    exec (.blendEnd t) s = .next { s.begin t with len := { s.len with reg := { s.len.reg with blendAt := none } } } := by
  change execBlendEnd t s = _
  simp only [execBlendEnd, State.begin_len, ha]
  exact congrArg Host.Outcome.next (if_pos ht)

theorem exec_energyDeviation {t a : Nat} {s : State} (hm : s.mode = .run) (ha : some a ∈ s.len.ene.dev)
    (ht : a + 40000000 ≤ max s.now t) (hr : s.len.ene.devRaised = false) :
    exec (.energyDeviation t) s = .next (fault 0x0441 .l1 (({ s.begin t with
      len := { s.len with ene := { s.len.ene with devRaised := true } } } : State).rsb .winEvt 4 true)) :=
  congrArg Host.Outcome.next
    (if_pos ⟨hm, List.any_eq_true.mpr ⟨some a, ha, decide_eq_true ht⟩, by simp [hr]⟩)

theorem exec_energyReady {t a : Nat} {s : State} (ha : s.win.readySince = some a) (hm : s.mode = .precharge)
    (hr : (s.begin t).readyNow = true) (ht : a + s.rf .winReady 8 8 * 400000 ≤ (s.begin t).now) :
    exec (.energyReady t) s = .next { s.begin t with win := { s.win with ready := true } } := by
  change execEnergyReady t s = _
  simp only [execEnergyReady, State.begin_win, ha]
  exact congrArg Host.Outcome.next (if_pos ⟨hm, hr, ht⟩)

/-- Settles O55: the rows that write registers go through their unit's effect, each timed row through its condition. -/
theorem loopRowsTakeEffect : Obligations.LoopRowsTakeEffect := by
  refine ⟨⟨fun t m v s b hb h => ?_, fun t m v s b hb h _ => ?_, fun t m v s b hb h _ => ?_, fun t m v s b hb h hv => ?_,
      fun t m v s b hb h hv => ?_⟩,
    ⟨fun t ue s b hb h => ?_, fun t k s => exec_inputStale, fun t s z a b hz ha hb ht => ?_, fun t s z a hz ha hp ht => ?_,
      fun t s z a => exec_limitBudgetExhausted, fun t s z b => exec_peakRearm⟩,
    fun t s => exec_dwellEnd, fun t s a => exec_blendEnd, fun t s a => exec_energyDeviation,
    fun t s b a hb ha hm hr ht => ?_⟩
  · subst hb
    exact exec_lenFbWrite h
  · rw [exec_write_accepted rfl h, writeEffect_plain rfl, hb]
  · rw [exec_write_accepted rfl h, writeEffect_plain rfl, hb]
  · rw [exec_write_accepted rfl h, writeEffect_injectGo hv, hb]
  · subst hb
    rw [exec_write_accepted rfl h, writeEffect_sf1Req hv]
    rfl
  · subst hb
    exact exec_innerCycle h
  · exact ⟨_, exec_episodeEnd hz ha hb ht, rfl, rfl, rfl, rfl, rfl, hz ▸ budgetTick_frame ..⟩
  · exact ⟨_, exec_peakStageEnd hz ha hp ht, rfl, rfl, ha, hz ▸ budgetTick_frame ..⟩
  · subst hb
    exact exec_energyReady ha hm hr ht

end Sys2Proof.Machine
end

section
/-!
PROOFS. What a saturation's fault leaves alone, and the registers that no report, reply or change of module state writes.
-/
namespace Sys2Proof.Machine

/-! ### Addresses by block (R6) -/

/-- An array lies within the 64 KiB of one block. -/
theorem RName.spec_inBlock (n : RName) :
    (n.spec.off + (n.spec.n - 1) * n.spec.st + (n.spec.n2 - 1) * n.spec.st2) / 65536 = n.spec.off / 65536 := by
  cases n <;> decide

/-- A register of an array stands in the array's block. -/
theorem regAddr_block {n : RName} {i j : Nat} (hi : i < n.spec.n) (hj : j < n.spec.n2) :
    regAddr n i j / 65536 = n.spec.off / 65536 := by
  have hfirst : i * n.spec.st ≤ (n.spec.n - 1) * n.spec.st := Nat.mul_le_mul_right _ (by omega)
  have hword : j * n.spec.st2 ≤ (n.spec.n2 - 1) * n.spec.st2 := Nat.mul_le_mul_right _ (by omega)
  have hin := n.spec_inBlock
  rw [regAddr]
  omega

/-! ### Registers outside the blocks of reports -/

/-- The blocks in which reports (FLT), replies (MBX, NET) and a change of module state (WIN, FSC) write. -/
def reportBlocks : List Nat := [1, 2, 12, 13, 20]

/-- The registers outside the blocks of reports: what no report, reply or change of module state writes. -/
def State.settings (s : State) (a : Nat) : Word := if a / 65536 ∈ reportBlocks then 0 else Tab.get regReset s.regs a

/-- A register outside the blocks of reports is the same in states with the same settings. -/
theorem State.rg_of_settings {x y : State} {n : RName} {i j : Nat} (h : x.settings = y.settings)
    (hn : regAddr n i j / 65536 ∉ reportBlocks) : x.rg n i j = y.rg n i j := by
  have ha := congrFun h (regAddr n i j)
  rwa [State.settings, State.settings, if_neg hn, if_neg hn] at ha

/-- A write in a block of reports leaves the settings. -/
theorem State.rs_settings (s : State) {n : RName} (v : Word) {i j : Nat} (hn : n.spec.off / 65536 ∈ reportBlocks)
    (hi : i < n.spec.n) (hj : j < n.spec.n2) : (s.rs n v i j).settings = s.settings := by
  funext a
  by_cases ha : a / 65536 ∈ reportBlocks
  · simp only [State.settings, if_pos ha]
  · simp only [State.settings, if_neg ha]
    refine Tab.get_set_other _ _ _ _ _ fun e => ha ?_
    rwa [e, regAddr_block hi hj]

/-- The single registers that reports, replies and changes of module state write. -/
abbrev reportRegs : List RName :=
  [.fltStat, .fltLogptr, .fltUnack, .mbxDbell, .netRqtail, .winFixen, .fscStat, .fscGlbovr, .fscOvrlogptr]

@[simp] theorem State.rs_report_settings (s : State) {n : RName} (v : Word) (hn : n ∈ reportRegs) :
    (s.rs n v).settings = s.settings := by
  have hsingle : ∀ n ∈ reportRegs, n.spec.off / 65536 ∈ reportBlocks ∧ 0 < n.spec.n ∧ 0 < n.spec.n2 := by decide
  obtain ⟨hb, hi, hj⟩ := hsingle n hn
  exact s.rs_settings v hb hi hj

@[simp] theorem State.rsf_settings (s : State) (n lo len v i j) :
    (s.rsf n lo len v i j).settings = (s.rs n (setField (s.rg n i j) lo len v) i j).settings := rfl
@[simp] theorem State.rsb_settings (s : State) (n k b i j) :
    (s.rsb n k b i j).settings = (s.rsf n k 1 (if b then 1 else 0) i j).settings := rfl
@[simp] theorem State.rsat_settings (s : State) (n lo len a i j) :
    (s.rsat n lo len a i j).settings = (s.rsf n lo len (satAdd (2 ^ len - 1) (s.rf n lo len i j) a) i j).settings := rfl
@[simp] theorem State.put_settings (s : State) (o) : (s.put o).settings = s.settings := rfl
@[simp] theorem State.setPath_settings (s : State) (q p) : (s.setPath q p).settings = s.settings := rfl
@[simp] theorem State.setChan_settings (s : State) (c x) : (s.setChan c x).settings = s.settings := rfl
@[simp] theorem State.setLen_settings (s : State) (l) : (s.setLen l).settings = s.settings := rfl
@[simp] theorem State.settings_update (s : State) (m b f c x w o) :
    ({ s with mode := m, sub := b, flt := f, cmd := c, mbx := x, ringWait := w, out := o } : State).settings = s.settings := rfl

@[simp] theorem ite_settings (c : Prop) [Decidable c] (a b : State) :
    (if c then a else b).settings = if c then a.settings else b.settings := apply_ite ..

@[simp] theorem State.when_settings (s : State) (b : Bool) (f : State → State) (h : ∀ s, (f s).settings = s.settings) :
    (s.when b f).settings = s.settings := by
  cases b with
  | false => rfl
  | true => exact h s

/-! ### What reports and replies leave of the registers -/

@[simp] theorem pushOn_settings (q r s) : (pushOn q r s).1.settings = s.settings := by
  simp [pushOn]

@[simp] theorem pushAll_settings (r s) : (pushAll r s).1.settings = s.settings :=
  foldl_keeps (fun x : State × Nat => x.1.settings) (fun _ _ => pushOn_settings ..) _ _

@[simp] theorem State.rs_fltLog_settings (s : State) (v k j) (hj : j < 4) : (s.rs .fltLog v (k % 256) j).settings = s.settings :=
  s.rs_settings (n := .fltLog) v (by decide) (Nat.mod_lt k (by decide)) hj

@[simp] theorem logEntry_settings (f lvl esc first s) : (logEntry f lvl esc first s).settings = s.settings := by
  simp [logEntry]

/-- The capture and the counts of the 14 classes stand in FLT. -/
theorem capture_settings {c : Nat} (hc : c < 14) (f lvl s) : (capture c f lvl s).settings = s.settings := by
  rw [capture, State.rs_settings (n := .fltFecnt) _ _ (by decide) hc (by decide),
    State.rs_settings (n := .fltFetimeh) _ _ (by decide) hc (by decide),
    State.rs_settings (n := .fltFetimel) _ _ (by decide) hc (by decide),
    State.rs_settings (n := .fltFeaddr) _ _ (by decide) hc (by decide),
    State.rs_settings (n := .fltFecode) _ _ (by decide) hc (by decide)]

theorem State.rs_fltFecnt_settings {c : Nat} (hc : c < 14) (s : State) (v) :
    (s.rs .fltFecnt v c).settings = s.settings :=
  s.rs_settings (n := .fltFecnt) _ (by decide) hc (by decide)

theorem raise0_settings {f : FaultArg} (hc : f.code / 256 < 14) (s) : (raise0 f s).1.settings = s.settings := by
  simp [raise0, State.rs_fltFecnt_settings hc, capture_settings hc]

@[simp] theorem overflowFaults_settings (fuel n s) : (overflowFaults fuel n s).settings = s.settings := by
  induction fuel generalizing n s with
  | zero => simp [overflowFaults]
  | succ k ih => cases n <;> simp [overflowFaults, ih, raise0_settings]

@[simp] theorem emit_settings (kind ident d s x) : (emit kind ident d s x).settings = s.settings := by
  simp [emit]

@[simp] theorem mailSignal_settings (ident m c s) : (mailSignal ident m c s).settings = s.settings := by
  simp [mailSignal]

@[simp] theorem ringBell_settings (c s) : (ringBell c s).settings = s.settings := by
  simp [ringBell]

@[simp] theorem mailPush_settings (c b s) : (mailPush c b s).settings = s.settings := by
  simp [mailPush]

@[simp] theorem ringAdvance_settings (v s) : (ringAdvance v s).settings = s.settings := by
  simp [ringAdvance]

@[simp] theorem deliver_settings (r s) : (deliver r s).settings = s.settings := by
  unfold deliver
  split
  · simp
  · split <;> simp

@[simp] theorem cacheReply_settings (r s) : (cacheReply r s).settings = s.settings := by
  simp [cacheReply]

@[simp] theorem answer_settings (o st d b s) : (answer o st d b s).settings = s.settings := by
  simp [answer]

@[simp] theorem answerAll_settings (w st d b s) : (answerAll w st d b s).settings = s.settings :=
  foldl_keeps State.settings (fun _ _ => foldl_keeps State.settings (fun _ _ => answer_settings ..) _ _) _ _

/-! ### What a change of module state leaves of the registers -/

/-- The override log has 32 entries, and its pointer five bits. -/
@[simp] theorem State.rs_fscOvrlog_settings (s : State) (v w j) (hj : j < 2) :
    (s.rs .fscOvrlog v (field w 0 5) j).settings = s.settings :=
  s.rs_settings (n := .fscOvrlog) v (by decide) (Nat.mod_lt _ (by decide)) hj

@[simp] theorem logOverride_settings (c old new m s) : (logOverride c old new m s).settings = s.settings := by
  simp [logOverride, State.rf]

@[simp] theorem setGlobal_settings (v m s) : (setGlobal v m s).settings = s.settings := by
  simp [setGlobal]

@[simp] theorem releaseTrip_settings (s) : (releaseTrip s).settings = s.settings := by
  simp [releaseTrip]

@[simp] theorem setMode_settings (m b s) : (setMode m b s).settings = s.settings := by
  simp [setMode]

/-! ### What a fault of level L0 leaves alone -/

/-- The body of a state apart from the recorder: what neither a report nor a trigger unit touches. -/
def State.core (s : State) : State := { s.body with rcd := State.reset.rcd }

theorem State.core_of_body {x y : State} (h : x.body = y.body) : x.core = y.core :=
  congrArg (fun z => ({ z with rcd := State.reset.rcd } : State)) h

/-- A quantity of the core is the same in states with the same core. -/
theorem State.of_core {β : Type} (q : State → β) (hq : ∀ s, q s.core = q s) {x y : State} (h : x.core = y.core) : q x = q y := by
  rw [← hq x, h, hq]

@[simp] theorem State.rs_core (s : State) (n v i j) : (s.rs n v i j).core = s.core := (rfl)
@[simp] theorem State.rsb_core (s : State) (n k b i j) : (s.rsb n k b i j).core = s.core := (rfl)
@[simp] theorem State.rsat_core (s : State) (n lo len a i j) : (s.rsat n lo len a i j).core = s.core := (rfl)
@[simp] theorem State.put_core (s : State) (o) : (s.put o).core = s.core := (rfl)
@[simp] theorem State.setTrg_core (s : State) (u x) : (s.setTrg u x).core = s.core := (rfl)
@[simp] theorem State.core_update (s : State) (r) : ({ s with rcd := r } : State).core = s.core := (rfl)

@[simp] theorem ite_core (c : Prop) [Decidable c] (a b : State) :
    (if c then a else b).core = if c then a.core else b.core := apply_ite ..

@[simp] theorem State.when_core (s : State) (b : Bool) (f : State → State) (h : ∀ s, (f s).core = s.core) :
    (s.when b f).core = s.core := by
  cases b with
  | false => rfl
  | true => exact h s

@[simp] theorem closeUnit_core (s) : (closeUnit s).core = s.core := by
  simp [closeUnit]

@[simp] theorem placeRec_core (b s) : (placeRec b s).core = s.core := by
  simp [placeRec]

@[simp] theorem placeMark_core (b s) : (placeMark b s).core = s.core := by
  simp [placeMark]

@[simp] theorem startPulse_core (o s) : (startPulse o s).core = s.core := by
  simp [startPulse]

@[simp] theorem fireOutputs_core (u s) : (fireOutputs u s).core = s.core := by
  simp [fireOutputs]

@[simp] theorem markCoinc_core (s) : (markCoinc s).core = s.core := by
  simp [markCoinc]

@[simp] theorem fireOne_core (c o m s) : (fireOne c o m s).core = s.core := by
  simp [fireOne]

@[simp] theorem fireUnits_core (ms s) : (fireUnits ms s).core = s.core := by
  have hfold (l : List MarkInfo) (c : Bool) (o : MarkInfo → Bool) (x : State) :
      (l.foldl (fun s m => fireOne c (o m) m s) x).core = x.core := foldl_keeps State.core (fun _ _ => fireOne_core ..) _ _
  simp [fireUnits, hfold]

@[simp] theorem faultTrigger_core (code lvl s) : (faultTrigger code lvl s).core = s.core := by
  simp [faultTrigger]

/-- Escalation raises a fault of level L0 to L1 at most, and neither level acts. -/
theorem levelAction_raise0_l0 {f : FaultArg} (hf : f.base = .l0) (s z : State) (blocked : Bool) :
    levelAction f.code (raise0 f s).2.2 blocked z = z := by
  have hl : (raise0 f s).2.2 = if s.unack (f.code / 256) then .l1 else .l0 := by
    simp [raise0, hf, levelUp]
  rw [hl]
  split <;> rfl

/-- A fault of level L0 leaves the core. -/
theorem fault_l0_core (code s i) : (fault code .l0 s i).core = s.core := by
  rw [fault, raise, levelAction_raise0_l0 rfl, faultTrigger_core]
  exact State.core_of_body (by simp)

@[simp] theorem noteSat_core (b s) : (noteSat b s).core = s.core := by
  simp [noteSat, fault_l0_core]

end Sys2Proof.Machine
end

section
/-!
PROOFS. The moves of the sub-modes: the cause that is the highest at an outer boundary, and what the move it makes leaves.
-/
namespace Sys2Proof.Machine

/-! ### The highest cause (R39) -/

theorem firstCause_cons (b : Bool) (c : Cause) (l : List (Bool × Cause)) :
    firstCause ((b, c) :: l) = if b then some c else firstCause l := rfl

/-- At an outer boundary a row whose cause is the highest makes its move. -/
theorem boundaryCause_takes {cs : List Cause} {c : Cause} {s : State} (ho : s.atOuter = true) (hc : (openBoundary s).cause = some c)
    (hm : cs.contains c = true) : boundaryCause cs s = takeCause c (openBoundary s) := by
  simp only [boundaryCause, ho, not_true_eq_false, if_false, hc, hm, if_true]

/-- Neither an L2 fault nor a handover that lost its partner asks for the orderly stop. -/
theorem noStop_iff {s : State} : (s.len.run.stopReq || (s.red.takeReq && !s.pairReady)) = false
    ↔ s.len.run.stopReq = false ∧ (s.red.takeReq = true → s.pairReady = true) := by
  simp

theorem cause_precharge {s : State} (hu : s.undecided = true) (hm : s.mode = .precharge) (ha : s.asked opStop = false)
    (hd : s.deblockDue = true) : s.cause = some .deblock := by
  simp only [State.cause, hu, hm, not_true_eq_false, if_false, firstCause_cons, ha, hd, Bool.false_eq_true, if_true]

theorem cause_run {s : State} (hu : s.undecided = true) (hm : s.mode = .run) : s.cause = firstCause s.runCauses := by
  simp only [State.cause, hu, hm, not_true_eq_false, if_false]

section
variable {s : State} (hu : s.undecided = true) (hm : s.mode = .run)
include hu hm

/-- T_MAX in FRT overrides every other cause where the profile trips. -/
theorem cause_frtTrip (ht : s.frtTimedOut = true) (hp : s.prfFlag s.len.frt.prof 3 = true) : s.cause = some .frtTrip := by
  simp [cause_run hu hm, State.runCauses, firstCause_cons, ht, hp]

variable (hs : s.len.run.stopReq = false) (ht : s.red.takeReq = true → s.pairReady = true)
include hs ht

theorem cause_frtStop (hx : s.frtTimedOut = true) (hp : s.prfFlag s.len.frt.prof 3 = false) : s.cause = some .frtStop := by
  have hstop := noStop_iff.mpr ⟨hs, ht⟩
  simp [cause_run hu hm, State.runCauses, firstCause_cons, hx, hp, hstop]

theorem cause_bsFail (hb : s.sub = .blackstart) (hf : s.bsFailed = true) : s.cause = some .bsFail := by
  have hstop := noStop_iff.mpr ⟨hs, ht⟩
  simp [cause_run hu hm, State.runCauses, firstCause_cons, hstop, hf, State.frtTimedOut, hb]

theorem cause_autoIsland (hb : s.sub = .gf) (hr : s.len.run.tieReq ≠ some false) (hd : s.autoDue = true) :
    s.cause = some .autoIsland := by
  have hstop := noStop_iff.mpr ⟨hs, ht⟩
  simp [cause_run hu hm, State.runCauses, firstCause_cons, hstop, hr, hd, State.frtTimedOut, State.bsFailed, hb]

theorem cause_closure (hb : s.sub = .island) (hr : s.len.run.tieReq ≠ some true) (hd : s.closureDue = true) :
    s.cause = some .closure := by
  have hstop := noStop_iff.mpr ⟨hs, ht⟩
  simp [cause_run hu hm, State.runCauses, firstCause_cons, hstop, hr, hd, State.frtTimedOut, State.bsFailed, State.autoDue, hb]

theorem cause_frtExit (hb : s.sub = .frt) (hr : s.len.run.tieReq ≠ some false) (hx : s.frtTimedOut = false)
    (hd : s.frtExitDue = true) : s.cause = some .frtExit := by
  have hstop := noStop_iff.mpr ⟨hs, ht⟩
  simp [cause_run hu hm, State.runCauses, firstCause_cons, hstop, hr, hx, hd, State.bsFailed, State.autoDue,
    State.closureDue, hb]

theorem cause_bsDone (hb : s.sub = .blackstart) (hf : s.bsFailed = false) (hd : s.bsComplete = true) :
    s.cause = some .bsDone := by
  have hstop := noStop_iff.mpr ⟨hs, ht⟩
  simp [cause_run hu hm, State.runCauses, firstCause_cons, hstop, hf, hd, State.frtTimedOut, State.autoDue,
    State.closureDue, State.frtExitDue, hb]

end

/-! ### What a move leaves (R36, R37, R46, R57) -/

@[simp] theorem setMode_sub (m b s) : (setMode m b s).sub = b :=
  State.of_body State.sub (fun _ => rfl) (setMode_body m b s)

/-- The module state and the sub-mode belong to the core. -/
theorem State.mode_sub_of_core {x y : State} (h : x.core = y.core) : x.mode = y.mode ∧ x.sub = y.sub :=
  ⟨State.of_core State.mode (fun _ => rfl) h, State.of_core State.sub (fun _ => rfl) h⟩

theorem overtake_body (s) : (overtake s).body = s.body := answerAll_body ..

theorem overtake_settings (s) : (overtake s).settings = s.settings := answerAll_settings ..

/-- What follows a change of module state in a move keeps that state. -/
theorem moved_of_core {x : State} {m b s} (h : x.core = (setMode m b s).core) : x.mode = m ∧ x.sub = b := by
  obtain ⟨hm, hb⟩ := State.mode_sub_of_core h
  exact ⟨hm.trans (setMode_mode ..), hb.trans (setMode_sub ..)⟩

theorem takeCause_deblock (s : State) : (takeCause .deblock s).mode = .run ∧ (takeCause .deblock s).sub = .gf := by
  have hcore : (takeCause .deblock s).core = (enterRun .gf (startEmf (noteMove s)) (noteMove s)).core :=
    State.core_of_body ((overtake_body _).trans (answerAll_body ..))
  exact moved_of_core (hcore.trans (noteSat_core ..))

theorem takeCause_frtExit (s : State) : (takeCause .frtExit s).mode = .run ∧ (takeCause .frtExit s).sub = .gf :=
  moved_of_core (State.core_of_body ((overtake_body _).trans (emit_body ..)))

/-- The end of a black start stores BS_VT as V_SET, and nothing after it writes that register. -/
theorem takeCause_bsDone (s : State) : (takeCause .bsDone s).mode = .run ∧ (takeCause .bsDone s).sub = .gf
    ∧ (takeCause .bsDone s).rg .lenGlob 7 = s.rg .lenGlob 21 := by
  obtain ⟨hm, hb⟩ := moved_of_core (x := takeCause .bsDone s) (State.core_of_body ((overtake_body _).trans (emit_body ..)))
  refine ⟨hm, hb, ?_⟩
  have hset : (takeCause .bsDone s).settings = ((leaveSub (noteMove s)).rs .lenGlob (s.rg .lenGlob 21) 7).settings := by
    rw [takeCause, overtake_settings, emit_settings, setMode_settings, State.setLen_settings]
  rw [State.rg_of_settings hset (by decide), State.rg_rs_same]

/-! ### The times of the causes -/

theorem State.deblockDue_of {s : State} {a : Nat} (ha : s.len.run.estAt = some a) (ht : a + secTicks (num2.div s.fb) ≤ s.now) :
    s.deblockDue = true := by
  simp [State.deblockDue, ha, ht]

theorem State.frtTimedOut_of {s : State} (hb : s.sub = .frt)
    (ht : s.len.frt.entered + secTicks (s.prf s.len.frt.prof 7) ≤ s.now) : s.frtTimedOut = true := by
  simp [State.frtTimedOut, hb, ht]

theorem State.frtTimedOut_before {s : State} (ht : s.now < s.len.frt.entered + secTicks (s.prf s.len.frt.prof 7)) :
    s.frtTimedOut = false := by
  simp [State.frtTimedOut, ht]

theorem State.frtExitDue_of {s : State} {h : Nat} (hb : s.sub = .frt) (hh : s.len.frt.hold = some h)
    (ht : h + msTicks (s.prf s.len.frt.prof 6) < s.now) (hr : s.recovers s.len.frt.prof = true) : s.frtExitDue = true := by
  simp [State.frtExitDue, hb, hh, ht, hr]

theorem State.autoDue_of {s : State} {a : Nat} (hb : s.sub = .gf) (he : s.rb .lenModecfg 1 = true)
    (ha : s.len.run.islSince = some a) (ht : a + secTicks (s.gl 16) ≤ s.now) : s.autoDue = true := by
  simp [State.autoDue, hb, he, ha, ht]

theorem State.closureDue_of {s : State} {a : Nat} (hb : s.sub = .island) (hp : s.len.rs.permit = true)
    (ha : s.len.rs.close = some a) (ht : a + 8000000 ≤ s.now) : s.closureDue = true := by
  simp [State.closureDue, hb, hp, ha, ht]

theorem State.bsComplete_of {s : State} {a : Nat} (hb : s.sub = .blackstart) (ha : s.len.run.bsOk = some a)
    (ht : a + 40000000 ≤ s.now) : s.bsComplete = true := by
  simp [State.bsComplete, hb, ha, ht]

theorem State.bsFailed_of {s : State} (hb : s.sub = .blackstart) (ht : 2 * secTicks (s.gl 22) + 400000000 < s.len.run.bsPaused) :
    s.bsFailed = true := by
  simp [State.bsFailed, hb, ht]

theorem State.bsFailed_before {s : State} (ht : s.len.run.bsPaused ≤ 2 * secTicks (s.gl 22) + 400000000) :
    s.bsFailed = false := by
  simp [State.bsFailed, ht]

/-! ### The rows -/

/-- A row whose cause is the highest at its outer boundary takes it. -/
theorem exec_move {cs : List Cause} {c : Cause} {i : Instr} {s z : State} {t : Nat} (hz : z = openBoundary (s.begin t))
    (ho : (s.begin t).atOuter = true) (hc : z.cause = some c)
    (hi : exec i s = .next (boundaryCause cs (s.begin t)) := by rfl) (hm : cs.contains c = true := by rfl) :
    exec i s = .next (takeCause c z) := by
  subst hz
  rw [hi, boundaryCause_takes ho hc hm]

theorem exec_resyncPermitOn {t a : Nat} {s : State} (ha : s.len.rs.ok = some a) (hon : s.len.rs.on = true)
    (hp : s.len.rs.paused = false) (hpm : s.len.rs.permit = false) (ht : a + msTicks (s.gl 18) ≤ max s.now t) :
    exec (.resyncPermitOn t) s
      = .next (emit 0 4 0 { s.begin t with len := { s.len with rs := { s.len.rs with permit := true } } }) := by
  change execResyncPermitOn t s = _
  simp only [execResyncPermitOn, State.begin_len, ha]
  exact congrArg Host.Outcome.next (if_pos ⟨hon, by simp [hp], by simp [hpm], ht⟩)

theorem exec_resyncTimeout {t : Nat} {s : State} (hon : s.len.rs.on = true)
    (ht : s.len.rs.started + secTicks (s.gl 19) ≤ max s.now t) :
    exec (.resyncTimeout t) s = .next (emit 0 6 0 (stopResync (s.begin t))) :=
  congrArg Host.Outcome.next (if_pos ⟨hon, ht⟩)

theorem exec_stopTimeout {t : Nat} {s : State} (hm : s.mode = .stopping) (ht : s.len.run.stopEnd ≤ max s.now t) :
    exec (.stopTimeout t) s = .next (enterArmed (blockAll (s.begin t))) :=
  congrArg Host.Outcome.next (if_pos ⟨hm, ht⟩)

theorem exec_dcGuardEnd {t a : Nat} {s : State} (ha : s.len.run.guardBack = some a) (hg : s.len.run.guard = true)
    (ht : a + 40000000 ≤ max s.now t) :
    exec (.dcGuardEnd t) s = .next { s.begin t with len := { s.len with run := { s.len.run with
      guard := false, guardBack := none } } } := by
  change execDcGuardEnd t s = _
  simp only [execDcGuardEnd, State.begin_len, ha]
  exact congrArg Host.Outcome.next (if_pos ⟨hg, ht⟩)

/-- Settles O56: a move at an outer boundary is the highest cause there and is taken; the others find their own condition. -/
theorem subModeMovesTakeEffect : Obligations.SubModeMovesTakeEffect := by
  refine ⟨fun t ue s b hb ho => ?_, fun s z a hz ho hm hu hstop ha ht => ?_,
    fun s z h hz ho hm hb hu hs hk hr hh ht hrec hx => ?_, fun s z hz ho hm hb hu ht => ⟨fun hp => ?_, fun hp hs hk => ?_⟩,
    fun s z a hz ho hm hb hu hs hk hr he ha ht => ?_, fun t s a => exec_resyncPermitOn,
    fun t s z a hz ho hm hb hu hs hk hr hp ha ht => ?_, fun t s => exec_resyncTimeout,
    fun s z a hz ho hm hb hu hs hk hf ha ht => ?_, fun s z hz ho hm hb hu hs hk ht => ?_, fun t s hm ht => ?_,
    fun t s a => exec_dcGuardEnd⟩
  · subst hb
    exact congrArg Host.Outcome.next (if_pos ho)
  · have hc := cause_precharge hu hm hstop (State.deblockDue_of ha ht)
    exact ⟨_, exec_move hz ho hc, takeCause_deblock z⟩
  · have hc := cause_frtExit hu hm hs hk hb hr (State.frtTimedOut_before hx) (State.frtExitDue_of hb hh ht hrec)
    exact ⟨_, exec_move hz ho hc, takeCause_frtExit z⟩
  · exact exec_move (c := .frtTrip) hz ho (cause_frtTrip hu hm (State.frtTimedOut_of hb ht) hp)
  · exact exec_move (c := .frtStop) hz ho (cause_frtStop hu hm hs hk (State.frtTimedOut_of hb ht) hp)
  · exact exec_move (c := .autoIsland) hz ho (cause_autoIsland hu hm hs hk hb hr (State.autoDue_of hb he ha ht))
  · exact exec_move (c := .closure) hz ho (cause_closure hu hm hs hk hb hr (State.closureDue_of hb hp ha ht))
  · have hc := cause_bsDone hu hm hs hk hb (State.bsFailed_before hf) (State.bsComplete_of hb ha ht)
    exact ⟨_, exec_move hz ho hc, takeCause_bsDone z⟩
  · exact exec_move (c := .bsFail) hz ho (cause_bsFail hu hm hs hk hb (State.bsFailed_of hb ht))
  · exact ⟨_, exec_stopTimeout hm ht, enterArmed_blocked _⟩

end Sys2Proof.Machine
end

section
/-!
PROOFS. Writes to the clear registers: which counters each clears, and that no other register changes.
-/
namespace Sys2Proof.Machine

/-! ### Registers masked by address -/

/-- The register at address `p.1` keeps the bits of `p.2` and loses the others. -/
def State.keep (s : State) (p : Nat × Word) : State :=
  { s with regs := Tab.set regReset s.regs p.1 (Tab.get regReset s.regs p.1 &&& p.2) }

/-- Each register listed keeps its listed bits. -/
def State.keepAll (s : State) (l : List (Nat × Word)) : State := l.foldl State.keep s

/-- What is left of the word `w` at address `a` where the registers listed keep their listed bits. -/
def keptWord (l : List (Nat × Word)) (a : Nat) (w : Word) : Word :=
  match l.find? (fun p => decide (p.1 = a)) with
  | some p => w &&& p.2
  | none => w

theorem keptWord_cons_same (p : Nat × Word) (l : List (Nat × Word)) (w : Word) : keptWord (p :: l) p.1 w = w &&& p.2 := by
  rw [keptWord, List.find?_cons_of_pos (by simp)]

theorem keptWord_cons_other {p : Nat × Word} {a : Nat} (h : a ≠ p.1) (l : List (Nat × Word)) (w : Word) :
    keptWord (p :: l) a w = keptWord l a w := by
  rw [keptWord, List.find?_cons_of_neg (by simpa using h.symm)]
  rfl

theorem keptWord_unlisted {l : List (Nat × Word)} {a : Nat} (h : a ∉ l.map Prod.fst) (w : Word) : keptWord l a w = w := by
  have hnone : l.find? (fun p => decide (p.1 = a)) = none :=
    List.find?_eq_none.mpr fun p hp e => h (List.mem_map.mpr ⟨p, hp, of_decide_eq_true e⟩)
  rw [keptWord, hnone]

/-- Where no address is listed twice, each register is left with the bits that the list keeps of it. -/
theorem State.keepAll_get {l : List (Nat × Word)} (hl : (l.map Prod.fst).Nodup) (s : State) (a : Nat) :
    Tab.get regReset (s.keepAll l).regs a = keptWord l a (Tab.get regReset s.regs a) := by
  induction l generalizing s with
  | nil => rfl
  | cons p l ih =>
    obtain ⟨hp, hl⟩ := List.nodup_cons.mp hl
    refine (ih hl (s.keep p)).trans ?_
    by_cases ha : a = p.1
    · rw [ha, keptWord_unlisted hp, keptWord_cons_same]
      exact Tab.get_set_same ..
    · rw [keptWord_cons_other ha]
      exact congrArg (keptWord l a) (Tab.get_set_other _ _ _ _ _ ha)

theorem State.keepAll_frame (s : State) (l : List (Nat × Word)) : { s.keepAll l with regs := s.regs } = s :=
  foldl_keeps (g := State.keep) (fun x : State => { x with regs := s.regs }) (fun _ _ => rfl) l s

theorem State.keepAll_append (s : State) (l k : List (Nat × Word)) : s.keepAll (l ++ k) = (s.keepAll l).keepAll k :=
  List.foldl_append

theorem State.when_keepAll (s : State) (b : Bool) (l : List (Nat × Word)) :
    s.when b (fun s => s.keepAll l) = s.keepAll (if b then l else []) := by
  cases b <;> rfl

/-! ### Arrays of counters -/

/-- The first `k` registers of array `n`, each with the bits it keeps. -/
def arrayKept (k : Nat) (n : RName) (keep : Word) : List (Nat × Word) := (List.range k).map fun i => (regAddr n i, keep)

/-- Writing a register after register is masking the array, where each write masks its register. -/
theorem foldl_keepAll {f : State → Nat → State} {n : RName} {keep : Word} (hf : ∀ s i, f s i = s.keep (regAddr n i, keep))
    (k : Nat) (s : State) : (List.range k).foldl f s = s.keepAll (arrayKept k n keep) := by
  rw [State.keepAll, arrayKept, List.foldl_map, funext₂ hf]

theorem State.rs_zero (s : State) (n : RName) (i : Nat) : s.rs n 0 i = s.keep (regAddr n i, 0) := by
  simp [State.rs, State.keep]

/-- Setting the upper half to 0 keeps the lower half. -/
theorem setField_upperHalf (w : Word) : setField w 16 16 0 = w &&& 0xFFFF := BitVec.or_zero

theorem State.rsf_upperHalf (s : State) (n : RName) (i : Nat) : s.rsf n 16 16 0 i = s.keep (regAddr n i, 0xFFFF) := by
  rw [State.rsf, setField_upperHalf]
  rfl

theorem State.rs_zero_keepAll (s : State) (n : RName) : s.rs n 0 = s.keepAll (arrayKept 1 n 0) := s.rs_zero n 0

theorem State.rsf_upperHalf_keepAll (s : State) (n : RName) : s.rsf n 16 16 0 = s.keepAll (arrayKept 1 n 0xFFFF) :=
  s.rsf_upperHalf n 0

theorem State.rclear_keepAll (s : State) (n : RName) (k : Nat) : s.rclear n k = s.keepAll (arrayKept k n 0) :=
  foldl_keepAll (fun s i => s.rs_zero n i) k s

/-! ### The effect of a clear register (R102, R132, R174, R210, R289, R340, R360, R390, R418, R442, R461) -/

/-- A write to a clear register masks the registers that it names, unit by unit. -/
theorem writeEffect_clears {r : Reg} (h : r.name.clears = true) (m : Nat) (v : Word) (s : State) :
    writeEffect m r v s = (s.keepAll (keptBits r.name v), .ok) := by
  obtain ⟨n, i, j⟩ := r
  cases n with
  | lenTcclr =>
    rw [writeEffect_len (r := ⟨.lenTcclr, i, j⟩) (Reg.unit_of rfl) nofun]
    simp only [lenWrite, State.rsf_upperHalf_keepAll, State.when_keepAll]
    rfl
  | winCntclr =>
    rw [writeEffect_win (Reg.unit_of rfl)]
    simp only [winWrite, State.rclear_keepAll, State.when_keepAll, ← State.keepAll_append]
    rfl
  | fscCntclr =>
    rw [writeEffect_fsc (Reg.unit_of rfl)]
    simp only [fscWrite, State.rs_zero_keepAll, State.when_keepAll, ← State.keepAll_append]
    rfl
  | lnkCntclr =>
    rw [writeEffect_lnk (Reg.unit_of rfl)]
    simp only [lnkWrite, State.rclear_keepAll, foldl_keepAll fun s i => s.rsf_upperHalf .lnkTxn i,
      State.when_keepAll, ← State.keepAll_append]
    rfl
  | recCntclr =>
    rw [writeEffect_rec (Reg.unit_of rfl)]
    simp only [recWrite, State.rs_zero_keepAll, State.rclear_keepAll, State.when_keepAll, ← State.keepAll_append]
    rfl
  | shfCntclr =>
    rw [writeEffect_shf (Reg.unit_of rfl)]
    simp only [shfWrite, State.rs_zero_keepAll, State.when_keepAll, ← State.keepAll_append]
    rfl
  | redCntclr =>
    rw [writeEffect_red (Reg.unit_of rfl)]
    simp only [redWrite, State.rs_zero_keepAll, State.rsf_upperHalf_keepAll, State.when_keepAll, ← State.keepAll_append]
    rfl
  | memCntclr =>
    rw [writeEffect_mem (Reg.unit_of rfl)]
    simp only [memRegWrite, State.rclear_keepAll, State.when_keepAll, ← State.keepAll_append]
    rfl
  | safCntclr =>
    rw [writeEffect_saf (Reg.unit_of rfl)]
    simp only [safWrite, State.rs_zero_keepAll, State.rclear_keepAll, State.when_keepAll, ← State.keepAll_append]
    rfl
  | netCntclr =>
    rw [writeEffect_net (Reg.unit_of rfl)]
    simp only [netWrite, State.rclear_keepAll, State.when_keepAll, ← State.keepAll_append]
    rfl
  | fltCntclr =>
    rw [writeEffect_flt (Reg.unit_of rfl)]
    simp only [fltWrite, State.rs_zero_keepAll, State.when_keepAll]
    rfl
  | _ => cases h

/-! ### The counters of one clear register stand apart -/

/-- An array of counters: the bit (`flag`) that clears it, the number of its registers, and the bits that these keep. -/
structure ClearPart where
  flag : Nat
  size : Nat
  name : RName
  keep : Word

/-- The counters of a clear register, array by array. -/
def RName.clearParts : RName → List ClearPart
  | .lenTcclr => [⟨0, 1, .lenTcomp, 0xFFFF⟩]
  | .winCntclr => [⟨0, 6, .winDefcnt, 0⟩, ⟨1, 6, .winSwcnt, 0⟩]
  | .fscCntclr => [⟨0, 1, .fscQlimcnt, 0⟩, ⟨1, 1, .fscRejcnt, 0⟩]
  | .lnkCntclr => [⟨0, 128, .lnkChaff0, 0⟩, ⟨0, 128, .lnkChaff1, 0⟩, ⟨0, 128, .lnkChaff2, 0⟩, ⟨1, 128, .lnkGap, 0⟩,
      ⟨1, 128, .lnkTxn, 0xFFFF⟩]
  | .recCntclr => [⟨0, 6, .recGaptot, 0⟩, ⟨1, 1, .recMarklost, 0⟩, ⟨1, 4, .recTucnt, 0⟩]
  | .shfCntclr => [⟨0, 1, .shfCommitcnt, 0⟩, ⟨0, 1, .shfAbortcnt, 0⟩]
  | .redCntclr => [⟨0, 1, .redCklost, 0⟩, ⟨1, 1, .redTakecnt, 0⟩, ⟨2, 1, .redCksize, 0xFFFF⟩]
  | .memCntclr => [⟨0, 4, .memCecnt, 0⟩, ⟨0, 4, .memUecnt, 0⟩]
  | .safCntclr => [⟨0, 2, .safTgerr, 0⟩, ⟨0, 1, .safTgsingle, 0⟩]
  | .netCntclr => [⟨0, 4, .netDrop, 0⟩, ⟨0, 4, .netBusy, 0⟩, ⟨0, 4, .netDup, 0⟩]
  | .fltCntclr => [⟨0, 1, .fltVioldrop, 0⟩]
  | _ => []

/-- What a write of `v` leaves of an array of counters. -/
def ClearPart.kept (v : Word) (p : ClearPart) : List (Nat × Word) :=
  if bit v p.flag then arrayKept p.size p.name p.keep else []

theorem ite_append_nil {α : Type} (c : Prop) [Decidable c] (l k : List α) :
    (if c then l ++ k else []) = (if c then l else []) ++ (if c then k else []) := by
  split <;> rfl

theorem keptBits_eq_flatMap (n : RName) (v : Word) : keptBits n v = n.clearParts.flatMap (ClearPart.kept v) := by
  cases n with
  | lenTcclr | winCntclr | fscCntclr | lnkCntclr | recCntclr | shfCntclr | redCntclr | memCntclr | safCntclr | netCntclr
  | fltCntclr =>
    simp only [keptBits, RName.clearParts, ite_append_nil, List.flatMap_cons, List.flatMap_nil, List.append_nil,
      List.append_assoc]
    rfl
  | _ => rfl

/-- The address past the last register of an array of counters. -/
def ClearPart.top (p : ClearPart) : Nat := p.name.spec.off + p.size * p.name.spec.st

/-- Two arrays of counters lie one past the other, or interleave with one stride at different offsets. -/
abbrev ClearPart.apart (p q : ClearPart) : Prop :=
  p.top ≤ q.name.spec.off ∨ q.top ≤ p.name.spec.off
    ∨ p.name.spec.st = q.name.spec.st ∧ p.name.spec.off % p.name.spec.st ≠ q.name.spec.off % q.name.spec.st

theorem RName.clearParts_apart (n : RName) : n.clearParts.Pairwise ClearPart.apart := by
  cases n <;> decide

theorem regAddr_word0 (n : RName) (i : Nat) : regAddr n i = n.spec.off + i * n.spec.st := by
  simp [regAddr]

theorem ClearPart.regAddr_bounds (p : ClearPart) {i : Nat} (hi : i < p.size) :
    p.name.spec.off ≤ regAddr p.name i ∧ regAddr p.name i < p.top := by
  have hend : i * p.name.spec.st < p.size * p.name.spec.st := Nat.mul_lt_mul_of_pos_right hi p.name.spec_sizes_pos.1
  rw [regAddr_word0, ClearPart.top]
  omega

theorem ClearPart.apart.regAddr_ne {p q : ClearPart} (h : p.apart q) {i j : Nat} (hi : i < p.size) (hj : j < q.size) :
    regAddr p.name i ≠ regAddr q.name j := by
  obtain ⟨hpi, hip⟩ := p.regAddr_bounds hi
  obtain ⟨hqj, hjq⟩ := q.regAddr_bounds hj
  obtain h | h | ⟨hst, hoff⟩ := h
  · omega
  · omega
  · intro e
    have hmod := congrArg (· % p.name.spec.st) e
    simp only [regAddr_word0, hst, Nat.add_mul_mod_self_right] at hmod
    exact hoff (hst ▸ hmod)

theorem mem_arrayKept_fst {k : Nat} {n : RName} {keep : Word} {a : Nat} :
    a ∈ (arrayKept k n keep).map Prod.fst ↔ ∃ i < k, regAddr n i = a := by
  simp [arrayKept]

theorem regAddr_injective (n : RName) : Function.Injective (fun i => regAddr n i) := by
  intro i j h
  simp only [regAddr_word0, Nat.add_left_cancel_iff] at h
  exact Nat.eq_of_mul_eq_mul_right n.spec_sizes_pos.1 h

theorem arrayKept_nodup (k : Nat) (n : RName) (keep : Word) : ((arrayKept k n keep).map Prod.fst).Nodup := by
  rw [arrayKept, List.map_map]
  exact List.nodup_range.map (regAddr_injective n)

theorem ClearPart.kept_nodup (p : ClearPart) (v : Word) : ((p.kept v).map Prod.fst).Nodup := by
  unfold ClearPart.kept
  split
  · exact arrayKept_nodup ..
  · exact .nil

theorem ClearPart.mem_kept_fst {p : ClearPart} {v : Word} {a : Nat} (h : a ∈ (p.kept v).map Prod.fst) :
    ∃ i < p.size, regAddr p.name i = a := by
  unfold ClearPart.kept at h
  split at h
  · exact mem_arrayKept_fst.mp h
  · cases h

theorem ClearPart.apart.kept_disjoint {p q : ClearPart} (h : p.apart q) (v : Word) :
    ((p.kept v).map Prod.fst).Disjoint ((q.kept v).map Prod.fst) := by
  intro a hp hq
  obtain ⟨i, hi, rfl⟩ := ClearPart.mem_kept_fst hp
  obtain ⟨j, hj, e⟩ := ClearPart.mem_kept_fst hq
  exact h.regAddr_ne hi hj e.symm

/-- No write to a clear register clears a counter twice. -/
theorem keptBits_nodup (n : RName) (v : Word) : ((keptBits n v).map Prod.fst).Nodup := by
  rw [keptBits_eq_flatMap, List.map_flatMap, List.nodup_flatMap]
  exact ⟨fun p _ => p.kept_nodup v, n.clearParts_apart.imp fun h => h.kept_disjoint v⟩

/-- Settles O26: the effect masks the counters listed, each at its own address; every row brings its write there. -/
theorem clearWriteClearsItsCounters : Obligations.ClearWriteClearsItsCounters := by
  refine ⟨fun c t m addr v s r hc h hr => ?_, fun t m v s p hp h => ?_⟩
  · refine ⟨(s.begin t).keepAll (keptBits r.name v), ?_, ?_, State.keepAll_frame ..⟩
    · rw [exec_write_accepted hc h, writeEffect_clears hr]
    · exact State.keepAll_get (keptBits_nodup r.name v) (s.begin t)
  · refine exec_write_accepted ?_ h
    fin_cases hp <;> rfl

end Sys2Proof.Machine
end

section
/-!
PROOFS. Cells and frames: the sort, the loads and the rests as events, the block that an arm's overcurrent orders, and the
faults that follow a block or a bypass that lasts too long.
-/
namespace Sys2Proof.Machine

/-! ### Sorts, publications and loads (R97, R112, R118, R165) -/

theorem exec_sortComplete {t a : Nat} {s b : State} {v : Num} (hb : b = s.begin t) (hd : b.sortDue a = true)
    (hv : v = (mean (((s.arm a).sortNext.filter (fun p => b.usable p.1)).map (fun p => kvOf p.2))).clear) :
    exec (.sortComplete t a) s
      = .next ((b.setArm a { s.arm a with sort := (s.arm a).sortNext, vAvg := v }).rs .winVavg v.toB32 a) := by
  subst hb hv
  exact congrArg Host.Outcome.next (if_pos hd)

theorem exec_publication {t : Nat} {s b : State} (hb : b = s.begin t) (hp : b.pubDue = true) :
    exec (.publication t) s = .next (publish b) := by
  subst hb
  exact congrArg Host.Outcome.next (if_pos hp)

theorem takeLoad_due {x : Target} {n : Int} {s : State} (hn : s.nextLoad x = some n) (ht : n ≤ s.ticks) :
    takeLoad x s = loadCarrier x n s := by
  simp only [takeLoad, hn, if_pos ht]

/-! ### Stale cells and rests (R117, R120, R127-R130) -/

theorem exec_staleExcl {t i : Nat} {s : State} (hc : (s.begin t).cst i ≠ 0)
    (hs : s.rf .winCtrl 0 8 ≤ (s.cell i).tel.stale) (hx : (s.cell i).tel.excl = false) :
    exec (.staleExcl t i) s
      = .next (((s.begin t).setTel i { (s.cell i).tel with excl := true }).rsb .winEvt 2 true) :=
  congrArg Host.Outcome.next (if_pos ⟨hc, hs, Bool.eq_false_iff.mp hx⟩)

theorem exec_restDue {t i : Nat} {s b : State} {o : Int} (hb : b = s.begin t) (ho : b.bsOrigin i b.ticks = some o)
    (hbs : b.isBs i = true) (hr : s.running = true) (hn : (s.cell i).prot.rest = none)
    (ht : b.tBsMax - b.restWin ≤ b.ticks - o) :
    exec (.restDue t i) s = .next (b.setProt i { (s.cell i).prot with restDue := true }) := by
  subst hb
  change execRestDue t i s = _
  simp only [execRestDue, ho]
  exact congrArg Host.Outcome.next (if_pos ⟨hbs, hr, Option.isNone_iff_eq_none.mpr hn, ht⟩)

theorem exec_forcedRest {t i a : Nat} {s b : State} {o : Int} {d : Bool} (hb : b = s.begin t) (ha : a = b.armOf i)
    (ho : b.bsOrigin i b.winStart = some o) (hbs : b.isBs i = true) (hr : s.running = true) (hu : b.usable i = true)
    (hn : (s.cell i).prot.rest = none) (ht : o + b.tBsMax < b.winStart + (b.framePeriod : Int))
    (hd : d = decide (((b.usableOf a).filter (fun j => !(b.restsAt j b.winStart))).length
      < (b.arm a).n.natAbs + (if (b.arm a).pwm.isSome then 1 else 0) + 1)) :
    exec (.forcedRest t i) s = .next (enterRest i ((startRest i b.winStart b).when d (noteDeficit a))) := by
  subst hb ha hd
  change execForcedRest t i s = _
  simp only [execForcedRest, ho]
  exact congrArg Host.Outcome.next (if_pos ⟨hbs, hr, hu, Option.isNone_iff_eq_none.mpr hn, ht⟩)

theorem endRest_over {i : Nat} {s : State} {p : CellSt} {w e : Int} (hp : p = (s.cell i).prot) (hr : p.rest = some (w, e))
    (he : e ≤ s.ticks) :
    endRest i s = s.setProt i { p with
      rest := none, st := if p.st = 5 then 4 else p.st, restCheck := some (secondBoundary e) } := by
  subst hp
  simp only [endRest, hr, if_pos he]

theorem exec_deficitEpisodeEnd {t : Nat} {s : State} (he : s.win.episode = true)
    (ht : s.win.lastDef + 40000000 ≤ max s.now t) :
    exec (.deficitEpisodeEnd t) s = .next { s.begin t with win := { s.win with episode := false } } :=
  congrArg Host.Outcome.next (if_pos ⟨he, ht⟩)

theorem exec_fixedRest {t i : Nat} {s b : State} {o : Int} (hb : b = s.begin t) (ho : b.bsOrigin i b.ticks = some o)
    (hbs : b.isBs i = true) (hm : s.bench = true) (hf : b.rb .winFixen (b.armOf i) = true) (hc : b.cst i = 4)
    (ht : o + b.tBsMax ≤ b.ticks) :
    exec (.fixedRest t i) s = .next ((b.setProt i { (s.cell i).prot with
      st := 5, rest := some (o + b.tBsMax, o + b.tBsMax + b.tRefresh), bsFrom := none
      offFrom := some (o + b.tBsMax) }).rsb .winEvt 3 true) := by
  subst hb
  change execFixedRest t i s = _
  simp only [execFixedRest, ho]
  exact congrArg Host.Outcome.next (if_pos ⟨hbs, hm, hf, hc, ht⟩)

/-! ### Block orders (R189) -/

/-- The state apart from its links, cells and outputs: what a block order leaves alone. -/
def State.offLinks (s : State) : State := { s with lnk := [], cells := [], out := [] }

/-- A quantity that needs no link, cell or output is the same in states that differ in these only. -/
theorem State.of_offLinks {β : Type} (q : State → β) (hq : ∀ s, q s.offLinks = q s) {x y : State}
    (h : x.offLinks = y.offLinks) : q x = q y := by
  rw [← hq x, h, hq]

theorem orderOut_offLinks (l : Nat) (s : State) : (orderOut l s).offLinks = s.offLinks := by
  unfold orderOut State.when
  dsimp only
  split
  · rfl
  · split <;> rfl

theorem blockLinks_offLinks (on leave : Nat → Bool) (s : State) : (blockLinks on leave s).offLinks = s.offLinks := by
  refine foldl_keeps State.offLinks (fun s l => ?_) _ s
  unfold State.when
  split
  · exact orderOut_offLinks l s
  · rfl

/-! ### The operation of an arm's comparator (R224-R226) -/

@[simp] theorem State.arm_rs (s : State) (n v i j a) : (s.rs n v i j).arm a = s.arm a := rfl

/-- What an operation of arm `a` orders on the links: blocks for the arm's own cells, or for every cell. -/
def orderLinks (a : Nat) (others : Bool) (s : State) : State :=
  if others then blockAll s
  else blockLinks (fun l => ((s.mappedTo a).map linkOf).contains l) (fun i => decide (s.armOf i = a)) s

theorem orderLinks_offLinks (a : Nat) (others : Bool) (s : State) : (orderLinks a others s).offLinks = s.offLinks := by
  unfold orderLinks
  split <;> exact blockLinks_offLinks ..

/-- Beside what it orders on the links, a block order marks the arm as blocked and notes the arm and the crossing. -/
theorem orderBlock_eq (a tc : Nat) (others : Bool) (s : State) :
    orderBlock a tc others s = (((orderLinks a others s).setArm a { s.arm a with
      oc := true, ocFirst := if (s.arm a).oc then (s.arm a).ocFirst else tc, ocLast := tc
      ocFrame := some (s.frameOf tc), ocRaised := (s.arm a).oc && (s.arm a).ocRaised }).rs .celLastoc
        (fld 0 a ||| bitAt 3 others)).rs .celLastoct (s.shortOf tc) := by
  have h := orderLinks_offLinks a others s
  rw [← State.of_offLinks (State.frameOf · tc) (fun _ => rfl) h, ← State.of_offLinks (State.shortOf · tc) (fun _ => rfl) h]
  rfl

@[simp] theorem orderBlock_win (a tc others s) : (orderBlock a tc others s).win = s.win := by
  rw [orderBlock_eq]
  exact State.of_offLinks (x := orderLinks a others s) State.win (fun _ => rfl) (orderLinks_offLinks a others s)

theorem orderBlock_arm (a tc others s) :
    ((orderBlock a tc others s).arm a).oc = true ∧ ((orderBlock a tc others s).arm a).ocLast = tc := by
  rw [orderBlock_eq, State.arm_rs, State.arm_rs, State.arm_setArm_same]
  exact ⟨rfl, rfl⟩

theorem orderBlock_celLastoct (a tc others s) : (orderBlock a tc others s).rg .celLastoct = s.shortOf tc := by
  rw [orderBlock_eq, State.rg_rs_same]

/-- The arm stands in the three low bits of CEL_LASTOC. -/
theorem field_lastoc : ∀ a < 6, ∀ others, field (fld 0 a ||| bitAt 3 others) 0 3 = a := by decide

theorem orderBlock_celLastoc {a : Nat} (ha : a < 6) (tc others s) : (orderBlock a tc others s).rf .celLastoc 0 3 = a := by
  rw [orderBlock_eq, State.rf, State.rg_rs_other _ _ (by decide), State.rg_rs_same, field_lastoc a ha]

/-- In a frame that is still open an operation orders the block and waits for the frame's close. -/
theorem operate_open {a tc : Nat} {s : State} (h : s.frameOf s.now ≤ s.frameOf tc) : ∃ others,
    operate a tc s = { orderBlock a tc others s with win := { s.win with ops := s.win.ops ++ [(a, s.frameOf tc)] } } := by
  have hopen : decide (s.frameOf tc < s.frameOf s.now) = false := decide_eq_false (Nat.not_lt.mpr h)
  simp only [operate, hopen, Bool.false_and, Bool.false_eq_true, not_false_eq_true, if_true, orderBlock_win]
  exact ⟨_, rfl⟩

/-! ### Frames, blocks and bypasses (R133, R218, R221, R225) -/

theorem exec_frameBoundary {t : Nat} {ue : List Nat} {s b : State} (hb : b = s.begin t) (hf : b.atFrame = true) :
    exec (.frameBoundary t ue) s = .next (frameBoundary ue b) := by
  subst hb
  exact congrArg Host.Outcome.next (if_pos hf)

theorem exec_armOvercurrent {t a : Nat} {bits : BitVec 32} {s b : State} (hb : b = s.begin t) (hw : s.awn = true)
    (ha : a < 6) (hc : b.comparator a bits = true) :
    exec (.armOvercurrent t a bits) s = .next (operate a (b.now - 300) b) := by
  subst hb
  exact congrArg Host.Outcome.next (if_pos ⟨hw, ha, hc⟩)

theorem exec_armDeblock {t a : Nat} {s : State} (ha : a < 6) (ho : (s.arm a).oc = true)
    (ht : (s.arm a).ocLast + field s.win.occ 8 8 * 4000 ≤ max s.now t)
    (hl : (s.begin t).frameHigh.any (fun m => !(m.testBit a)) = true) :
    exec (.armDeblock t a) s = .next ((s.begin t).setArm a { s.arm a with oc := false, ocRaised := false }) :=
  congrArg Host.Outcome.next (if_pos ⟨ha, ho, ht, hl⟩)

theorem exec_overcurrentPersist {t a : Nat} {s : State} (hw : s.awn = true) (ha : a < 6) (ho : (s.arm a).oc = true)
    (hr : (s.arm a).ocRaised = false) (ht : (s.arm a).ocFirst + 800000 ≤ max s.now t) :
    exec (.overcurrentPersist t a) s = .next (faultAt 0x0472 .l3 .celOcth a
      (((s.begin t).setArm a { s.arm a with ocRaised := true }).rsb .celEvt 9 true)) :=
  congrArg Host.Outcome.next (if_pos ⟨ha, ho, Bool.eq_false_iff.mp hr, ht, hw⟩)

theorem exec_bypassFail {t i a : Nat} {s : State} (hw : s.awn = true) (hb : (s.cell i).prot.bypAt = some a)
    (hs : (s.cell i).prot.st = 6) (ht : a + s.rf .celCtrl 8 8 * 400000 ≤ max s.now t) :
    exec (.bypassFail t i) s = .next (faultAt 0x0375 .l3 .celState i
      (((s.begin t).setProt i { (s.cell i).prot with bypAt := none }).rsb .celEvt 5 true)) := by
  change execBypassFail t i s = _
  simp only [execBypassFail, State.begin_cell, hb]
  exact congrArg Host.Outcome.next (if_pos ⟨hs, hw, ht⟩)

/-- Settles O57: each row finds its condition; an operation in an open frame is a block order and its note. -/
theorem cellAndFrameRowsTakeEffect : Obligations.CellAndFrameRowsTakeEffect := by
  refine ⟨⟨fun t a s b v => exec_sortComplete, fun t s b => exec_publication, fun t a s b x n hb hx hn ht => ?_,
      fun t i s => exec_staleExcl, fun t i s b o => exec_restDue, fun t i s b o a d => exec_forcedRest,
      fun t i s b p w e hb hp hr he => ?_, fun t s => exec_deficitEpisodeEnd, fun t i s b o => exec_fixedRest⟩,
    fun t ue s b => exec_frameBoundary, fun t l ue s => rfl, fun t a bits s b => exec_armOvercurrent,
    fun a tc s x hx ha ho => ?_, fun t a s => exec_armDeblock, fun t a s => exec_overcurrentPersist,
    fun t i s a => exec_bypassFail⟩
  · subst hb hx
    exact congrArg Host.Outcome.next (takeLoad_due hn ht)
  · subst hb
    exact congrArg Host.Outcome.next (endRest_over hp hr he)
  · obtain ⟨others, e⟩ := operate_open (a := a) ho
    obtain ⟨hoc, hlast⟩ := orderBlock_arm a tc others s
    rw [hx, e]
    exact ⟨hoc, hlast, rfl, orderBlock_celLastoc ha .., orderBlock_celLastoct ..⟩

end Sys2Proof.Machine
end

section
/-!
PROOFS. Cell and link commands of the host: a command that is the write of a command register, and transactions.
-/
namespace Sys2Proof.Machine

/-! ### Writes to command registers -/

/-- Outside the small memories and the replicated registers a write leaves a note in the open sheaves and nothing else. -/
theorem afterWrite_note {addr : Nat} {r : Reg} (hs : smallOf addr = none) (hr : r.name.replicated = false)
    (own : Option Nat) (m : Nat) (s : State) : afterWrite own m addr r s = noteWritten own addr s := by
  simp [afterWrite, smallWrite, hs, hr]

/-- Two numbers side by side in a word, each inside its place. -/
theorem toNat_fld_or {lo a b : Nat} (hlo : lo ≤ 32) (ha : a < 2 ^ lo) (hb : b < 2 ^ (32 - lo)) :
    (fld 0 a ||| fld lo b).toNat = b * 2 ^ lo + a := by
  have hpow : 2 ^ (32 - lo) * 2 ^ lo = 2 ^ 32 := by rw [← pow_add, Nat.sub_add_cancel hlo]
  have hbs : b <<< lo < 2 ^ 32 := by
    rw [Nat.shiftLeft_eq, ← hpow]
    exact Nat.mul_lt_mul_of_pos_right hb (Nat.two_pow_pos lo)
  have has : a < 2 ^ 32 := ha.trans_le (Nat.pow_le_pow_right two_pos hlo)
  rw [fld, fld, BitVec.toNat_or, BitVec.toNat_ofNat, BitVec.toNat_ofNat, Nat.shiftLeft_zero, Nat.mod_eq_of_lt has,
    Nat.mod_eq_of_lt hbs, Nat.or_comm, ← Nat.shiftLeft_add_eq_or_of_lt ha, Nat.shiftLeft_eq]

/-- The two fields of the word of a cell command (R229). -/
theorem field_cellCmd {cell cmd : Nat} (hcell : cell < 4096) (hcmd : cmd < 16) :
    field (fld 0 cell ||| fld 12 cmd) 0 12 = cell ∧ field (fld 0 cell ||| fld 12 cmd) 12 4 = cmd := by
  have hw := toNat_fld_or (lo := 12) (a := cell) (b := cmd) (by decide) hcell (by omega)
  simp only [field, hw, Nat.shiftRight_eq_div_pow]
  omega

/-- A cell command that the rules accept names a slot that is present. -/
theorem slot_of_cellCmdCheck {s : State} {i cmd : Nat} (h : cellCmdCheck s i cmd = none) : i < s.slots := by
  by_contra hi
  unfold cellCmdCheck at h
  split at h
  · cases h
  · rw [if_pos (Nat.not_lt.mp hi)] at h
    cases h

/-- CELL_CMD whose write is accepted carries out its command on the cell (R229). -/
theorem cellCommand_accepts {s : State} {m cell cmd : Nat} (hcell : cell < 4096) (hcmd : cmd < 16)
    (h : s.accepts m (regAddr .celCmd) (fld 0 cell ||| fld 12 cmd) ⟨.celCmd, 0, 0⟩) :
    cellCommand m cell cmd s = accept (noteWritten none (regAddr .celCmd) (cellCmd cell cmd s)) := by
  obtain ⟨hlow, hhigh⟩ := field_cellCmd hcell hcmd
  have ⟨_, _, _, _, _, hcheck, _⟩ := h
  change cellCmdCheck s (field _ 0 12) (field _ 12 4) = none at hcheck
  rw [hlow, hhigh] at hcheck
  have heff : writeEffect m ⟨.celCmd, 0, 0⟩ (fld 0 cell ||| fld 12 cmd) s = (cellCmd cell cmd s, .ok) := by
    rw [writeEffect_cel rfl, celWrite, hlow, hhigh]
  rw [cellCommand, if_neg (Nat.not_le.mpr (slot_of_cellCmdCheck hcheck)), if_neg (Nat.not_le.mpr hcmd),
    writeReg_accepted h, heff, afterWrite_note (by decide) rfl]
  rfl

theorem cellCmd_release (i : Nat) (s : State) :
    cellCmd i 3 s = enrolSlot i (s.setProt i { (s.cell i).prot with st := 0, qTries := [] }) := rfl

theorem exec_cellCmd {c : Instr} {t : Nat} {h : Hdr} {s : State} {cell cmd : Nat}
    (hc : hostOf c = some (t, h, .cellCmd cell cmd)) (ht : s.takes t h (.cellCmd cell cmd)) (hcell : cell < 4096)
    (hcmd : cmd < 16) (ha : (s.taken t h 0x0500).accepts ((s.begin t).masterOf h.path) (regAddr .celCmd)
      (fld 0 cell ||| fld 12 cmd) ⟨.celCmd, 0, 0⟩) :
    exec c s = .next (answered h (.cellCmd cell cmd) .ok 0 []
      (noteWritten none (regAddr .celCmd) (cellCmd cell cmd (s.taken t h 0x0500)))) :=
  exec_taken_now hc ht (cellCommand_accepts hcell hcmd ha) fun _ => rfl

/-! ### Transactions and block orders -/

/-- CELL_TXN that its rules allow waits on the link for its response (R197). -/
theorem cellTxn_accepts {h : Hdr} {m l slot op : Nat} {addr : Word} {data : List Byte} {s : State} (hl : l < s.links)
    (hop : op = 1 ∨ op = 7 ∨ (op = 2 ∧ s.awn = true ∧ s.running = false)) (hd : data.length ≤ 64)
    (hslot : slot < 24 ∨ slot = 31) (hup : s.linkUp l = true) :
    cellTxn h m l slot op addr data s
      = (pushTxn l op slot 0 addr.toNat (if op = 1 then [] else data) data.length (.host h) s, .wait (.txn l 0)) := by
  have hfields : ¬ (¬ (op = 1 ∨ op = 2 ∨ op = 7) ∨ 64 < data.length ∨ ¬ (slot < 24 ∨ slot = 31)) := by omega
  have hawn : ¬ (op = 2 ∧ ¬ s.awn = true) := by
    rintro ⟨rfl, hn⟩
    simp [hn] at hop
  have hstate : ¬ (¬ s.linkUp l = true ∨ (op = 2 ∧ s.running = true)) := by
    rintro (hn | ⟨rfl, hr⟩)
    · exact hn hup
    · simp [hr] at hop
  rw [cellTxn, if_neg (Nat.not_le.mpr hl), if_neg hfields, if_neg hawn, if_neg hstate]

/-- A write of LNK_BLKCMD with ALL clear orders the block on the link that it names, where that is enabled (R189, R210). -/
theorem lnkWrite_blockOne {v : Word} {s : State} (hv : bit v 7 = false) (he : s.rb .lnkLctrl 0 (field v 0 7) = true) :
    lnkWrite ⟨.lnkBlkcmd, 0, 0⟩ v s = blockLink (field v 0 7) s :=
  (if_neg (Bool.eq_false_iff.mp hv)).trans (if_pos he)

/-- A write of LNK_BLKCMD with ALL set orders the block on every link that is UP (R189, R210). -/
theorem lnkWrite_blockAll {v : Word} {s : State} (hv : bit v 7 = true) :
    lnkWrite ⟨.lnkBlkcmd, 0, 0⟩ v s = blockAll s :=
  if_pos hv

/-- A write of LNK_BLKCMD with ALL clear that the rules accept names a link that is present. -/
theorem link_of_blkcmdCheck {v : Word} {s : State} (hv : bit v 7 = false)
    (h : lnkCheck s ⟨.lnkBlkcmd, 0, 0⟩ v = none) : field v 0 7 < s.links := by
  by_contra hl
  simp [lnkCheck, hv, Nat.not_lt.mp hl, refuse, firstOf] at h

/-- LINK_BLOCK whose write of LNK_BLKCMD is accepted has the effect of that write. -/
theorem linkBlock_accepts {s : State} {m link : Nat} {all : Bool} {v : Word} (hv : fld 0 (link % 128) ||| bitAt 7 all = v)
    (hl : all = false → link < s.links) (h : s.accepts m (regAddr .lnkBlkcmd) v ⟨.lnkBlkcmd, 0, 0⟩) :
    linkBlock m link all s = accept (noteWritten none (regAddr .lnkBlkcmd) (lnkWrite ⟨.lnkBlkcmd, 0, 0⟩ v s)) := by
  have hpresent : ¬ (s.links ≤ link ∧ ¬ all = true) := fun ⟨hle, hall⟩ =>
    Nat.not_lt.mpr hle (hl (Bool.eq_false_iff.mpr hall))
  rw [linkBlock, if_neg hpresent, hv, writeReg_accepted h, writeEffect_lnk rfl, afterWrite_note (by decide) rfl]
  rfl

/-- The link stands in the seven low bits of LNK_BLKCMD, below ALL. -/
theorem fields_blkcmd : ∀ l < 128, field (fld 0 l) 0 7 = l ∧ bit (fld 0 l) 7 = false := by decide

theorem linkBlock_one {s : State} {m link : Nat} (hl : link < 128) (he : s.rb .lnkLctrl 0 link = true)
    (h : s.accepts m (regAddr .lnkBlkcmd) (fld 0 link) ⟨.lnkBlkcmd, 0, 0⟩) :
    linkBlock m link false s = accept (noteWritten none (regAddr .lnkBlkcmd) (blockLink link s)) := by
  obtain ⟨hlink, hall⟩ := fields_blkcmd link hl
  have ⟨_, _, _, _, _, hcheck, _⟩ := h
  have hpresent := link_of_blkcmdCheck hall hcheck
  have hword : fld 0 (link % 128) ||| bitAt 7 false = fld 0 link := by
    rw [Nat.mod_eq_of_lt hl]
    exact BitVec.or_zero
  rw [← hlink] at he
  rw [linkBlock_accepts hword (fun _ => hlink ▸ hpresent) h, lnkWrite_blockOne hall he, hlink]

theorem linkBlock_all {s : State} {m link : Nat}
    (h : s.accepts m (regAddr .lnkBlkcmd) (fld 0 (link % 128) ||| 0x80) ⟨.lnkBlkcmd, 0, 0⟩) :
    linkBlock m link true s = accept (noteWritten none (regAddr .lnkBlkcmd) (blockAll s)) := by
  have hall : bit (fld 0 (link % 128) ||| 0x80) 7 = true := by simp [bit]
  have hword : fld 0 (link % 128) ||| bitAt 7 true = fld 0 (link % 128) ||| 0x80 := rfl
  rw [linkBlock_accepts hword nofun h, lnkWrite_blockAll hall]

@[simp] theorem State.taken_cell (s : State) (t h op i) : (s.taken t h op).cell i = s.cell i :=
  State.taken_of (State.cell · i) (fun _ => rfl) s t h op
@[simp] theorem State.taken_links (s : State) (t h op) : (s.taken t h op).links = s.links :=
  State.taken_of State.links (fun _ => rfl) s t h op
@[simp] theorem State.taken_running (s : State) (t h op) : (s.taken t h op).running = s.running :=
  State.taken_of State.running (fun _ => rfl) s t h op

/-- Settles O19: a cell command is a write of CEL_CMD, a block order one of LNK_BLKCMD; a transaction passes its checks. -/
theorem cellCommandsTakeEffect : Obligations.CellCommandsTakeEffect := by
  refine ⟨fun t h s cell ht hc ha => exec_cellCmd rfl ht hc (by decide) ha,
    fun t h s cell ht hc ha => exec_cellCmd rfl ht hc (by decide) ha, fun t h s cell ht hc ha => ?_,
    fun t h s link slot op addr data ht hl hop hd hslot hup => ?_,
    fun t h s link ht hl he ha => exec_taken_now rfl ht (linkBlock_one hl he ha) fun _ => rfl,
    fun t h s link ht ha => exec_taken_now rfl ht (linkBlock_all ha) fun _ => rfl⟩
  · rw [exec_cellCmd rfl ht hc (by decide) ha, cellCmd_release, State.taken_cell]
  · exact exec_taken_wait rfl ht (cellTxn_accepts (by simpa) (by simpa) hd hslot hup)

end Sys2Proof.Machine
end

section
/-!
PROOFS. The link rows: a link number far above those present names, in LNK_UP, the word of another register.
-/
namespace Sys2Proof.Machine

/-- The link whose bit in LNK_UP would stand where bit 1 of REC_EVT stands. -/
def farLink : Nat := 32 * 32766 + 1

theorem State.linkUp_farLink (s : State) : s.linkUp farLink = s.rb .recEvt 1 := rfl

/-- Trigger unit 0 is armed for faults, and `farLink` is UP with an enrolled cell. -/
def farState : State :=
  (((({ State.reset with mode := .armed } : State).rs .recTrgctl 1).rs .recTucfg 0x128).setLink farLink
    { Link.init with stage := 2 }).setProt (24 * farLink) { Cell.init.prot with st := 1 }

/-- The loss of the link raises a fault, on which the trigger unit fires and sets its event bit (R284). -/
theorem linkDown_farState : (linkDown farLink farState).rb .recEvt 1 = true := by decide

/-- Refutes O58: the clause on a link that goes down does not bound the link by those present. In `farState` the fault
LINK_LOST of `farLink` fires a trigger unit, and the event bit that this sets reads back as the link's bit in LNK_UP. -/
theorem not_linkRowsTakeEffect : ¬ Obligations.LinkRowsTakeEffect := by
  intro h
  obtain ⟨⟨-, -, -, -, -, -, -, -, -, -, -, hdown, -⟩, -⟩ := h
  obtain ⟨-, hup⟩ := hdown farLink farState (.inr (by decide)) (by decide)
  rw [State.linkUp_farLink, linkDown_farState] at hup
  cases hup

end Sys2Proof.Machine
end

section
/-!
PROOFS. The filter chain: writes that start and stop its channels and its privileged engine, and inputs that stand still.
-/
namespace Sys2Proof.Machine

/-! ### Normal channels started and stopped (R250) -/

/-- A channel as a write of FIL_NRUN leaves it, by its bit as written and as before: a start waits from now, a stop leaves
only the last sample, and a bit that stays leaves all (R250). -/
def NChan.switched (on was : Bool) (now : Nat) (x : NChan) : NChan :=
  if on = was then x else if on then { x with pend := some now } else { NChan.init with last := x.last }

@[simp] theorem NChan.switched_start (now : Nat) (x : NChan) : x.switched true false now = { x with pend := some now } := rfl
@[simp] theorem NChan.switched_stop (now : Nat) (x : NChan) :
    x.switched false true now = { NChan.init with last := x.last } := rfl
@[simp] theorem NChan.switched_self (on : Bool) (now : Nat) (x : NChan) : x.switched on on now = x := if_pos rfl

/-- The part of a write of `v` to FIL_NRUN in state `s0` that concerns channel `n`. -/
def switchChan (v : Word) (s0 s : State) (n : Nat) : State :=
  if bit v n = s0.nRuns n then s
  else if bit v n then s.setNch n { s.nch n with pend := some s.now }
  else s.setNch n { NChan.init with last := (s.nch n).last }

@[simp] theorem State.nch_setNch_same (s : State) (n : Nat) (x : NChan) : (s.setNch n x).nch n = x := Tab.get_set_same ..
theorem State.nch_setNch_other (s : State) {n k : Nat} (x : NChan) (h : k ≠ n) : (s.setNch n x).nch k = s.nch k :=
  Tab.get_set_other _ _ _ _ _ h

theorem switchChan_nch_same (v : Word) (s0 s : State) (n : Nat) :
    (switchChan v s0 s n).nch n = (s.nch n).switched (bit v n) (s0.nRuns n) s.now := by
  unfold switchChan NChan.switched
  split
  · rfl
  · split <;> exact State.nch_setNch_same ..

theorem switchChan_nch_other (v : Word) (s0 s : State) {n k : Nat} (h : k ≠ n) :
    (switchChan v s0 s n).nch k = s.nch k := by
  unfold switchChan
  split
  · rfl
  · split <;> exact State.nch_setNch_other _ _ h

/-- Apart from the filter block nothing changes. -/
theorem switchChan_frame (v : Word) (s0 : State) (f : FilSt) (s : State) (n : Nat) :
    { switchChan v s0 s n with fil := f } = { s with fil := f } := by
  unfold switchChan
  split
  · rfl
  · split <;> rfl

/-- A write of `v` to FIL_NRUN in state `s0`, over the channels below `k`. -/
def switchChans (v : Word) (s0 : State) (k : Nat) (s : State) : State := (List.range k).foldl (switchChan v s0) s

theorem switchChans_succ (v : Word) (s0 : State) (k : Nat) (s : State) :
    switchChans v s0 (k + 1) s = switchChan v s0 (switchChans v s0 k s) k := by
  rw [switchChans, List.range_succ, List.foldl_append]
  rfl

theorem switchChans_frame (v : Word) (s0 : State) (f : FilSt) (k : Nat) (s : State) :
    { switchChans v s0 k s with fil := f } = { s with fil := f } :=
  foldl_keeps (fun x : State => { x with fil := f }) (switchChan_frame v s0 f) _ s

theorem switchChans_now (v : Word) (s0 : State) (k : Nat) (s : State) : (switchChans v s0 k s).now = s.now :=
  (congrArg State.now (switchChans_frame v s0 s.fil k s) :)

theorem switchChans_nch_above (v : Word) (s0 s : State) {n k : Nat} (h : k ≤ n) :
    (switchChans v s0 k s).nch n = s.nch n := by
  induction k with
  | zero => rfl
  | succ k ih => rw [switchChans_succ, switchChan_nch_other v s0 _ (Nat.ne_of_gt h), ih (Nat.le_of_succ_le h)]

theorem switchChans_nch_below (v : Word) (s0 s : State) {n k : Nat} (h : n < k) :
    (switchChans v s0 k s).nch n = (s.nch n).switched (bit v n) (s0.nRuns n) s.now := by
  induction k with
  | zero => exact absurd h (Nat.not_lt_zero n)
  | succ k ih =>
    rw [switchChans_succ]
    rcases Nat.lt_succ_iff_lt_or_eq.mp h with hlt | rfl
    · rw [switchChan_nch_other v s0 _ (Nat.ne_of_lt hlt), ih hlt]
    · rw [switchChan_nch_same, switchChans_nch_above v s0 s (Nat.le_refl n), switchChans_now]

theorem writeEffect_filNrun (m : Nat) (v : Word) (s : State) :
    writeEffect m ⟨.filNrun, 0, 0⟩ v s = (switchChans v s 18 (storeReg ⟨.filNrun, 0, 0⟩ v s), .ok) :=
  writeEffect_fil rfl

/-- An accepted write of FIL_NRUN switches the channels by their bits and changes nothing outside registers and filter block. -/
theorem exec_filNrunWrite {c : Instr} {t : Nat} {m : Master} {v : Word} {s : State}
    (hc : regRowOf c = some (t, m, regAddr .filNrun, v)) (h : s.writes t m (regAddr .filNrun) v ⟨.filNrun, 0, 0⟩) : ∃ x,
      exec c s = .next (wrote m (regAddr .filNrun) ⟨.filNrun, 0, 0⟩ (x, .ok))
        ∧ (∀ n < 18, x.nch n = (s.nch n).switched (v.getLsbD n) (s.nRuns n) (max s.now t))
        ∧ { x with regs := s.regs, fil := s.fil } = s.begin t := by
  refine ⟨_, by rw [exec_write_accepted hc h, writeEffect_filNrun], fun n hn => ?_, ?_⟩
  · exact switchChans_nch_below v (s.begin t) _ hn
  · exact congrArg (fun x : State => { x with regs := s.regs }) (switchChans_frame v (s.begin t) s.fil 18 _)

/-! ### The privileged engine started and stopped (R250) -/

theorem writeEffect_privStart {v : Word} {s : State} (hv : v.getLsbD 0 = true) (hp : s.pRuns = false) (m : Nat) :
    writeEffect m ⟨.filPctrl, 0, 0⟩ v s
      = ((storeReg ⟨.filPctrl, 0, 0⟩ v s).setEng { s.fil.eng with pend := some s.now }, .ok) := by
  have hmoves : ¬ (bit v 0 = s.pRuns) := by rw [bit, hv, hp]; decide
  exact (writeEffect_fil rfl).trans (congrArg (fun x => (x, Status.ok)) ((if_neg hmoves).trans (if_pos hv)))

theorem writeEffect_privStop {v : Word} {s z : State} (hz : z = privRec (storeReg ⟨.filPctrl, 0, 0⟩ v s))
    (hv : v.getLsbD 0 = false) (hp : s.pRuns = true) (m : Nat) :
    writeEffect m ⟨.filPctrl, 0, 0⟩ v s = (z.setEng { PEng.init with last := z.fil.eng.last }, .ok) := by
  subst hz
  have hmoves : ¬ (bit v 0 = s.pRuns) := by rw [bit, hv, hp]; decide
  exact (writeEffect_fil rfl).trans
    (congrArg (fun x => (x, Status.ok)) ((if_neg hmoves).trans (if_neg (Bool.eq_false_iff.mp hv))))

/-! ### Inputs that stand still and move again (R254) -/

theorem exec_inputStuck {t i : Nat} {s b : State} (hb : b = s.begin t) (hi : i < 24) (hs : (s.inp i).stuck = false)
    (hon : s.mode ≠ .off)
    (hl : ∀ l : Int, (s.inp i).lastT = some l → l + ((s.rf .filCtrl 0 8 * 20 : Nat) : Int) ≤ b.ticks) :
    exec (.inputStuck t i) s
      = .next (stuckFault i ((b.setInp i { s.inp i with stuck := true, since := b.ticks }).rsb .filInevt i true)) := by
  subst hb
  have hquiet : (s.inp i).lastT.any (fun l => decide ((s.begin t).ticks < l + ((s.rf .filCtrl 0 8 * 20 : Nat) : Int))) = false :=
    (Option.any_eq_false_iff_get _ _).mpr fun h => by simpa using hl _ (Option.some_get h).symm
  refine congrArg Host.Outcome.next (if_neg ?_)
  rintro (h | h | h | h)
  · exact Nat.not_lt.mpr h hi
  · exact Bool.eq_false_iff.mp hs h
  · exact hon h
  · exact Bool.eq_false_iff.mp hquiet h

theorem exec_inputRecovered {t i : Nat} {s b z : State} (hb : b = s.begin t)
    (hz : z = b.when (decide ((s.inp i).since < b.ticks - 400000)) (transition i (b.ticks - 400000))) (hi : i < 24)
    (hs : (z.inp i).stuck = false) (ho : (z.inp i).okFrom ≤ b.ticks - 400000) :
    exec (.inputRecovered t i) s = .next (z.setInp i { z.inp i with muted := false }) := by
  subst hb
  have hmoved : (if ((s.begin t).inp i).since < (s.begin t).ticks - 400000
      then transition i ((s.begin t).ticks - 400000) (s.begin t) else s.begin t) = z := by
    simp only [hz, State.when, decide_eq_true_eq]
    rfl
  change execInputRecovered t i s = _
  simp only [execInputRecovered, hmoved]
  exact congrArg Host.Outcome.next (if_pos ⟨hi, Bool.eq_false_iff.mp hs, ho⟩)

/-- Settles O50: a write of FIL_NRUN switches its channels one by one; every other row finds its own condition. -/
theorem filterRowsTakeEffect : Obligations.FilterRowsTakeEffect := by
  refine ⟨fun s => rfl, fun t bits s => rfl, fun t n bits s => rfl, fun t i s b => exec_inputStuck,
    fun t i s b z => exec_inputRecovered, fun t m v s h => ?_, fun t m v s h => ?_, fun t m v s b hb h hv hp => ?_,
    fun t m v s z hz h hv hp => ?_⟩
  · obtain ⟨x, hx, hch, hframe⟩ := exec_filNrunWrite (c := .channelStart t m v) rfl h
    refine ⟨x, hx, fun n hn => ⟨fun hv hr => ?_, fun hv => ?_⟩, hframe⟩
    · rw [hch n hn, hv, hr, NChan.switched_start]
    · rw [hch n hn, hv, NChan.switched_self]
  · obtain ⟨x, hx, hch, hframe⟩ := exec_filNrunWrite (c := .channelStop t m v) rfl h
    refine ⟨x, hx, fun n hn hv hr => ?_, hframe⟩
    rw [hch n hn, hv, hr, NChan.switched_stop]
  · subst hb
    rw [exec_write_accepted rfl h, writeEffect_privStart (s := s.begin t) hv hp]
    rfl
  · rw [exec_write_accepted rfl h, writeEffect_privStop hz hv hp]

end Sys2Proof.Machine
end

section
/-!
PROOFS. The metering converter: its crossings and timer, the delivery of its results, and the writes that ask for conversions.
-/
namespace Sys2Proof.Machine

/-! ### Crossings and the timer (R261, R262) -/

/-- What an accepted crossing leaves before its boundary, the interval since the last one already stored (R261). -/
def acceptCrossing (s : State) : State :=
  { s.rs .madLastsync s.short with mad := { s.mad with lastX := some s.now, timer := false } }

/-- The rate and offset registers of R291, from which a domain's time is read. -/
abbrev domainTimeRegs : List RName := [.timDRatel, .timDRateh, .timDOfsl, .timDOfsh, .timDOfsf]

/-- The registers of a domain repeat every 0x40 bytes, and none of its time registers stands at MAD_PERIOD modulo 0x40:
whatever the domain's number, MAD_PERIOD is another register. -/
theorem regAddr_domainTime_ne_madPeriod {n : RName} (hn : n ∈ domainTimeRegs) (d : Nat) :
    regAddr n d ≠ regAddr .madPeriod := by
  have hstride : ∀ n ∈ domainTimeRegs, n.spec.st = 0x40 ∧ n.spec.off % 0x40 ≠ 0x20 := by decide
  obtain ⟨hst, hoff⟩ := hstride n hn
  have hperiod : regAddr .madPeriod = 0x90020 := rfl
  rw [hperiod, regAddr, hst]
  omega

theorem State.domAt_rs_madPeriod (s : State) (v : Word) (d c : Nat) : (s.rs .madPeriod v).domAt d c = s.domAt d c := by
  have hrg : ∀ n ∈ domainTimeRegs, (s.rs .madPeriod v).rg n d = s.rg n d := fun n hn =>
    s.rg_rs_other v (regAddr_domainTime_ne_madPeriod hn d)
  simp only [domainTimeRegs, List.forall_mem_cons] at hrg
  obtain ⟨hratel, hrateh, hofsl, hofsh, hofsf, -⟩ := hrg
  simp only [State.domAt, State.rate, State.ofs, State.rg64, State.rf, hratel, hrateh, hofsl, hofsh, hofsf]

theorem State.short_rs_madPeriod (s : State) (v : Word) : (s.rs .madPeriod v).short = s.short := by
  simp only [State.short, State.ticks, State.st, State.stAt, State.domAt_rs_madPeriod]
  rfl

theorem exec_syncCrossing_next {t x : Nat} {s : State} (hon : s.mode ≠ .off) (hx : s.mad.lastX = some x)
    (ht : x + s.rf .madSync 8 8 * 400000 ≤ (s.begin t).now) :
    exec (.syncCrossing t) s = .next (madBoundary false (acceptCrossing
      ((s.begin t).rs .madPeriod (BitVec.ofNat 32 (min 0xFFFFFF (((s.begin t).now - x) / 40)))))) := by
  have hx' : (s.begin t).mad.lastX = some x := hx
  refine congrArg Host.Outcome.next ((if_neg ?_).trans ?_)
  · rw [hx']
    rintro (h | h)
    · exact hon h
    · exact Nat.not_lt.mpr ht (of_decide_eq_true h)
  · rw [hx']
    rfl

theorem exec_syncCrossing_first {t : Nat} {s : State} (hon : s.mode ≠ .off) (hx : s.mad.lastX = none) :
    exec (.syncCrossing t) s = .next (madBoundary false (acceptCrossing (s.begin t))) := by
  have hx' : (s.begin t).mad.lastX = none := hx
  refine congrArg Host.Outcome.next ((if_neg ?_).trans ?_)
  · rw [hx']
    rintro (h | h)
    · exact hon h
    · cases h
  · rw [hx']
    rfl

theorem exec_syncCrossing_blanked {t x : Nat} {s : State} (hx : s.mad.lastX = some x)
    (ht : max s.now t < x + s.rf .madSync 8 8 * 400000) : exec (.syncCrossing t) s = .next (s.begin t) := by
  change execSyncCrossing t s = _
  simp only [execSyncCrossing, State.begin_mad, State.begin_rf, State.begin_now, hx]
  exact congrArg Host.Outcome.next (if_pos (.inr (decide_eq_true ht)))

theorem exec_timerMode {t : Nat} {s b : State} (hb : b = s.begin t) (hon : s.mode ≠ .off) (hm : s.mad.timer = false)
    (ht : s.mad.lastB + 10000000 ≤ b.now) :
    exec (.timerMode t) s = .next (fault 0x0590 .l0 (madBoundary true
      (({ b with mad := { s.mad with timer := true } } : State).rsb .madEvt 3 true))) := by
  subst hb
  refine congrArg Host.Outcome.next (if_neg ?_)
  rintro (h | h | h)
  · exact hon h
  · exact Bool.eq_false_iff.mp hm h
  · exact Nat.not_lt.mpr ht h

theorem exec_timerTick {t : Nat} {s : State} (hon : s.mode ≠ .off) (hm : s.mad.timer = true)
    (ht : s.mad.lastB + 8000000 ≤ max s.now t) :
    exec (.timerTick t) s = .next (madBoundary true (s.begin t)) := by
  refine congrArg Host.Outcome.next (if_neg ?_)
  rintro (h | h | h)
  · exact hon h
  · exact h hm
  · exact Nat.not_lt.mpr ht h

/-! ### Results (R260, R263, R265, R269) -/

theorem exec_conversionResult_rundown {t e : Nat} {raw : Int} {exc : Option Bool} {s b : State} {c : Conv}
    (hb : b = s.begin t) (ha : s.mad.await = none) (hc : s.mad.conv = some c) (he : c.rundown = some e) (ht : e ≤ b.now) :
    exec (.conversionResult t raw exc) s = .next (deliverConv c raw exc { b with mad := { s.mad with conv := none } }) := by
  subst hb
  have hended : c.rundown.any (fun e => decide (e ≤ (s.begin t).now)) = true := by
    rw [he]
    exact decide_eq_true ht
  change execConversionResult t raw exc s = _
  simp only [execConversionResult, State.begin_mad, ha, hc]
  exact congrArg Host.Outcome.next (if_pos hended)

theorem exec_conversionResult_await {t : Nat} {raw : Int} {exc : Option Bool} {s b : State} {c : Conv}
    (hb : b = s.begin t) (ha : s.mad.await = some c) :
    exec (.conversionResult t raw exc) s = .next (deliverConv c raw exc { b with mad := { s.mad with await := none } }) := by
  subst hb
  change execConversionResult t raw exc s = _
  simp only [execConversionResult, State.begin_mad, ha]
  rfl

/-! Data records change nothing outside the recorder (R281). -/

theorem closeUnit_frame (s : State) (r : RecSt) : { closeUnit s with rcd := r } = { s with rcd := r } := by
  unfold closeUnit
  dsimp only
  split <;> rfl

theorem placeRec_frame (b : List Byte) (s : State) (r : RecSt) : { placeRec b s with rcd := r } = { s with rcd := r } := by
  unfold placeRec State.when
  split
  · exact closeUnit_frame s r
  · rfl

theorem dataRec_frame (g n : Nat) (stamp : Word) (b : List Byte) (s : State) (r : RecSt) :
    { dataRec g n stamp b s with rcd := r } = { s with rcd := r } := by
  unfold dataRec
  split
  · rfl
  · dsimp only
    split
    · rfl
    · exact placeRec_frame b s r

/-- The value of a result: the corrected count, or the end of the range on the side of an excess (R260). -/
def State.convValue (s : State) (c : Conv) (raw : Int) : Option Bool → Int
  | none => s.madValue c.gain raw
  | some up => if up then 2097151 else -2097151

/-- A stored result's report: the event of an excess, and the record (R269, R276). -/
def reportResult (ch : Nat) (x : MRes) (ovr : Bool) (s : State) : State :=
  madRecord ch x (s.when ovr (fun s => s.rsb .madEvt 4 true))

/-- The end of a single pass with its last result (R264). -/
def endPass (s : State) : State :=
  if s.rb .madCtrl 0 && s.rb .madCtrl 1 && decide (s.madLen ≤ s.mad.pos) && !(s.mad.conv.any (fun k => decide (k.src = 0)))
  then (s.rsb .madEvt 0 true).rsb .madCtrl 0 false else s

theorem deliverConv_regular {c : Conv} (hc : c.src = 0) (raw : Int) (exc : Option Bool) (s : State) {x : MRes}
    (hx : x = mresOf c (s.convValue c raw exc) exc.isSome (s.mres c.ch).count) :
    deliverConv c raw exc s = endPass (reportResult c.ch x exc.isSome
      { s with mad := { s.mad with res := Tab.set (fun _ => MRes.zero) s.mad.res c.ch x } }) := by
  subst hx
  rcases exc with _ | _ | _ <;> simp only [deliverConv, hc] <;> rfl

theorem deliverConv_injected {c : Conv} (hc : c.src = 1) (raw : Int) (exc : Option Bool) (s : State) {x : MRes}
    (hx : x = mresOf c (s.convValue c raw exc) exc.isSome s.mad.injRes.count) :
    deliverConv c raw exc s = reportResult c.ch x exc.isSome
      (({ s with mad := { s.mad with injRes := x } } : State).rsb .madEvt 1 true) := by
  subst hx
  rcases exc with _ | _ | _ <;> simp only [deliverConv, hc] <;> rfl

@[simp] theorem madRecord_regs (ch x s) : (madRecord ch x s).regs = s.regs :=
  (congrArg State.regs (dataRec_frame (s := s) (r := s.rcd) ..) :)

@[simp] theorem madRecord_mad (ch x s) : (madRecord ch x s).mad = s.mad :=
  (congrArg State.mad (dataRec_frame (s := s) (r := s.rcd) ..) :)

@[simp] theorem reportResult_mad (ch x ovr s) : (reportResult ch x ovr s).mad = s.mad := by
  rw [reportResult, madRecord_mad]
  cases ovr <;> rfl

@[simp] theorem endPass_mad (s) : (endPass s).mad = s.mad := by
  unfold endPass
  split <;> rfl

theorem bit_setField_one (w : Word) {k : Nat} (hk : k < 32) (l : Nat) :
    bit (setField w k 1 1) l = (decide (l = k) || bit w l) := by
  have hmask : (BitVec.ofNat 32 (1 <<< k)).getLsbD l = decide (l = k) := by
    rw [BitVec.getLsbD_ofNat, Nat.one_shiftLeft, Nat.testBit_two_pow, Bool.eq_iff_iff]
    simp only [Bool.and_eq_true, decide_eq_true_eq]
    omega
  change ((w &&& ~~~BitVec.ofNat 32 (1 <<< k)) ||| BitVec.ofNat 32 (1 <<< k)).getLsbD l = (decide (l = k) || w.getLsbD l)
  rw [BitVec.getLsbD_or, BitVec.getLsbD_and, BitVec.getLsbD_not, hmask]
  by_cases h : l = k
  · simp [h]
  · simpa [h] using BitVec.lt_of_getLsbD

/-- Setting a bit of a register leaves its other bits. -/
theorem State.rb_rsb_true (s : State) (n : RName) {k : Nat} (hk : k < 32) (l i j : Nat) :
    (s.rsb n k true i j).rb n l i j = (decide (l = k) || s.rb n l i j) := by
  rw [State.rb, State.rsb, State.rsf, State.rg_rs_same]
  exact bit_setField_one _ hk l

theorem madRecord_rb (ch x s n k i j) : (madRecord ch x s).rb n k i j = s.rb n k i j := by
  rw [State.rb, State.rg, madRecord_regs]
  rfl

theorem reportResult_madEvt (ch : Nat) (x : MRes) (ovr : Bool) (s : State) (k : Nat) :
    (reportResult ch x ovr s).rb .madEvt k = ((ovr && decide (k = 4)) || s.rb .madEvt k) := by
  rw [reportResult, madRecord_rb]
  cases ovr with
  | false => rfl
  | true => exact s.rb_rsb_true .madEvt (by decide) k 0 0

/-- The end of a pass leaves every event but its own. -/
theorem endPass_madEvt (s : State) {k : Nat} (h : s.rb .madEvt k = true) : (endPass s).rb .madEvt k = true := by
  unfold endPass
  split
  · rw [State.rb, State.rsb, State.rsf, State.rg_rs_other _ _ (by decide)]
    change (s.rsb .madEvt 0 true).rb .madEvt k = true
    rw [State.rb_rsb_true _ _ (by decide), h, Bool.or_true]
  · exact h

theorem deliverConv_regular_mres {c : Conv} (hc : c.src = 0) (raw : Int) (exc : Option Bool) (s : State) :
    (deliverConv c raw exc s).mres c.ch = mresOf c (s.convValue c raw exc) exc.isSome (s.mres c.ch).count := by
  rw [deliverConv_regular hc raw exc s rfl, State.mres, endPass_mad, reportResult_mad]
  exact Tab.get_set_same ..

theorem deliverConv_injected_injRes {c : Conv} (hc : c.src = 1) (raw : Int) (exc : Option Bool) (s : State) :
    (deliverConv c raw exc s).mad.injRes = mresOf c (s.convValue c raw exc) exc.isSome s.mad.injRes.count := by
  rw [deliverConv_injected hc raw exc s rfl, reportResult_mad]
  rfl

/-- An injected result sets INJ_DONE (R265). -/
theorem deliverConv_injected_done {c : Conv} (hc : c.src = 1) (raw : Int) (exc : Option Bool) (s : State) :
    (deliverConv c raw exc s).rb .madEvt 1 = true := by
  rw [deliverConv_injected hc raw exc s rfl, reportResult_madEvt, State.rb_rsb_true _ _ (by decide)]
  simp

/-- A regular result with an excess sets OVR (R269). -/
theorem deliverConv_regular_ovr {c : Conv} (hc : c.src = 0) (raw : Int) (up : Bool) (s : State) :
    (deliverConv c raw (some up) s).rb .madEvt 4 = true := by
  rw [deliverConv_regular hc raw (some up) s rfl]
  exact endPass_madEvt _ (by simp [reportResult_madEvt])

/-! ### Writes that ask for conversions (R264-R266) -/

theorem writeEffect_sequenceStart {v : Word} {s : State} (hv : v.getLsbD 0 = true) (hr : s.rb .madCtrl 0 = false) (m : Nat) :
    writeEffect m ⟨.madCtrl, 0, 0⟩ v s
      = ({ storeReg ⟨.madCtrl, 0, 0⟩ v s with mad := { s.mad with pos := 0 } }, .ok) := by
  have hstarts : (bit v 0 && !(s.rb .madCtrl 0)) = true := by rw [bit, hv, hr]; rfl
  exact (writeEffect_mad rfl).trans (congrArg (fun x => (x, Status.ok)) (if_pos hstarts))

theorem writeEffect_sequenceStop {v : Word} {s : State} (hv : v.getLsbD 0 = false) (hr : s.rb .madCtrl 0 = true) (m : Nat) :
    writeEffect m ⟨.madCtrl, 0, 0⟩ v s = ({ storeReg ⟨.madCtrl, 0, 0⟩ v s with mad := { s.mad with
      conv := if s.mad.conv.any (fun c => decide (c.src = 0)) then none else s.mad.conv } }, .ok) := by
  have hkeeps : ¬ ((bit v 0 && !(s.rb .madCtrl 0)) = true) := by rw [bit, hv]; nofun
  have hstops : (!(bit v 0) && s.rb .madCtrl 0) = true := by rw [bit, hv, hr]; rfl
  refine (writeEffect_mad rfl).trans (congrArg (fun x => (x, Status.ok)) ((if_neg hkeeps).trans ((if_pos hstops).trans ?_)))
  refine congrArg (fun k => ({ storeReg ⟨.madCtrl, 0, 0⟩ v s with mad := { s.mad with conv := k } } : State)) ?_
  cases s.mad.conv with
  | none => rfl
  | some c => simp

theorem writeEffect_injectedRequest {v : Word} (hv : v.getLsbD 31 = true) (m : Nat) (s : State) :
    writeEffect m ⟨.madInj, 0, 0⟩ v s = ({ storeReg ⟨.madInj, 0, 0⟩ v s with
      mad := { s.mad with inj := some (field v 0 4, field v 4 2, field v 8 4 + 1) } }, .ok) :=
  (writeEffect_mad rfl).trans (congrArg (fun x => (x, Status.ok)) (if_pos hv))

theorem writeEffect_calibrationRequest {v : Word} (hv : v.getLsbD 31 = true) (m : Nat) (s : State) :
    writeEffect m ⟨.madCalreq, 0, 0⟩ v s = ({ storeReg ⟨.madCalreq, 0, 0⟩ v s with mad := { s.mad with
      cal := (List.range 3).filter (fun g => bit v g), calN := field v 8 4 + 1, calPend := true, calZero := none } }, .ok) :=
  (writeEffect_mad rfl).trans (congrArg (fun x => (x, Status.ok)) (if_pos hv))

theorem field_eq_div_mod (w : Word) (lo n : Nat) : field w lo n = w.toNat / 2 ^ lo % 2 ^ n := by
  rw [field, Nat.shiftRight_eq_div_pow]

/-- Settles O49: each event finds its own condition, a result is stored and reported, each write has its register's effect. -/
theorem meteringRowsTakeEffect : Obligations.MeteringRowsTakeEffect := by
  refine ⟨fun t s b x hb hon hx ht => ?_, fun t s b hb hon hx => ?_,
    fun t s x => exec_syncCrossing_blanked, fun t s b => exec_timerMode, fun t s => exec_timerTick,
    fun t raw exc s b c e => exec_conversionResult_rundown, fun t raw exc s b c => exec_conversionResult_await,
    fun c raw s hc => deliverConv_regular_mres hc raw none s,
    fun c raw s hc => ⟨deliverConv_injected_injRes hc raw none s, deliverConv_injected_done hc raw none s⟩,
    fun c up s hc => ⟨?_, deliverConv_regular_ovr hc 0 up s⟩, fun t m v s b hb h hv hr => ?_, fun t m v s b hb h hv hr => ?_,
    fun t m v s b hb h hv => ?_, fun t m v s b hb h hv => ?_⟩
  · subst hb
    rw [exec_syncCrossing_next hon hx ht, acceptCrossing, State.short_rs_madPeriod]
    rfl
  · subst hb
    exact exec_syncCrossing_first hon hx
  · rw [deliverConv_regular_mres hc]
    rfl
  · subst hb
    rw [exec_write_accepted rfl h, writeEffect_sequenceStart (s := s.begin t) hv hr]
    rfl
  · subst hb
    rw [exec_write_accepted rfl h, writeEffect_sequenceStop (s := s.begin t) hv hr]
    rfl
  · subst hb
    rw [exec_write_accepted rfl h, writeEffect_injectedRequest hv]
    simp [field_eq_div_mod]
  · subst hb
    rw [exec_write_accepted rfl h, writeEffect_calibrationRequest hv, field_eq_div_mod]
    rfl

end Sys2Proof.Machine
end

section
/-!
PROOFS. The recorder: the step and the time of a crossing, the units of the stream on their way out, and the trigger
units' events.
-/
namespace Sys2Proof.Machine

/-! ### Crossings (R285, R286) -/

/-- The level lies beyond the earlier sample and not beyond the later, in one direction or the other. -/
def LevelReached (lvl x1 x : Int) : Prop := (x1 < lvl ∧ lvl ≤ x) ∨ (lvl < x1 ∧ x ≤ lvl)

/-- The K of R286: the part of the step from `x1` to `x` at which the level lies, in 256ths. -/
def crossingStep (lvl x1 x : Int) : Nat := (min 255 (max 0 ((256 * (lvl - x1)).fdiv (x - x1)))).toNat

/-- Unit `u`, set for rising crossings and primed for one, finds its level between `x1` and `x` (R285). -/
def State.risesThrough (s : State) (u : Nat) (x1 x : Int) : Prop :=
  s.rf .recTucfg 6 2 u ≠ 1 ∧ (s.trg u).low = true ∧ x1 < (s.rg .recTulevel u).toInt ∧ (s.rg .recTulevel u).toInt ≤ x

/-- Unit `u`, set for falling crossings and primed for one, finds its level between `x` and `x1` (R285). -/
def State.fallsThrough (s : State) (u : Nat) (x1 x : Int) : Prop :=
  s.rf .recTucfg 6 2 u ≠ 0 ∧ (s.trg u).high = true ∧ (s.rg .recTulevel u).toInt < x1 ∧ x ≤ (s.rg .recTulevel u).toInt

/-- The mark of a crossing between `x1` at `t1` and `x` at `t2` (R286). -/
def State.crossingMark (s : State) (u : Nat) (x1 x : Int) (t1 t2 : Word) : MarkInfo :=
  let k := crossingStep (s.rg .recTulevel u).toInt x1 x
  ⟨u, true, k, (s.ticks - shortDiff s.short t1) * 65536 + (k : Int) * shortDiff t2 t1 * 256, t1, t2,
    s.rg .recTulevel u, wordOf x⟩

theorem crossing_eq_some_iff {u : Nat} {x x1 : Int} {t1 t2 : Word} {s : State} (hp : (s.trg u).prev = some (x1, t1))
    (m : MarkInfo) : crossing u x t2 s = some m
      ↔ (s.risesThrough u x1 x ∨ s.fallsThrough u x1 x) ∧ m = s.crossingMark u x1 x t1 t2 := by
  simp only [crossing, hp, State.crossingMark, crossingStep, State.risesThrough, State.fallsThrough, Bool.or_eq_true,
    Bool.and_eq_true, decide_eq_true_eq, and_assoc, ite_eq_iff, Option.some.injEq, reduceCtorEq, and_false, or_false,
    eq_comm (a := m)]

/-- With a usable sample before this one, there is a crossing just where the level is passed in a primed direction. -/
theorem crossing_isSome_iff {u : Nat} {x x1 : Int} {t1 t2 : Word} {s : State} (hp : (s.trg u).prev = some (x1, t1)) :
    (crossing u x t2 s).isSome = true ↔ s.risesThrough u x1 x ∨ s.fallsThrough u x1 x := by
  simp [Option.isSome_iff_exists, crossing_eq_some_iff hp]

theorem levelReached_of_through {s : State} {u : Nat} {x1 x : Int} (h : s.risesThrough u x1 x ∨ s.fallsThrough u x1 x) :
    LevelReached (s.rg .recTulevel u).toInt x1 x := by
  rcases h with ⟨-, -, hx1, hx⟩ | ⟨-, -, hx1, hx⟩
  · exact .inl ⟨hx1, hx⟩
  · exact .inr ⟨hx1, hx⟩

/-- Level and later sample lie on the same side of the earlier one, so the quotient is that of the distances. -/
theorem fdiv_eq_natAbs_div {lvl x1 x : Int} (h : LevelReached lvl x1 x) :
    (256 * (lvl - x1)).fdiv (x - x1) = ((256 * (lvl - x1).natAbs / (x - x1).natAbs : Nat) : Int) := by
  rw [Int.ofNat_fdiv]
  rcases h with ⟨hx1, hx⟩ | ⟨hx1, hx⟩
  · congr 1 <;> omega
  · rw [← Int.neg_fdiv_neg]
    congr 1 <;> omega

theorem crossingStep_eq {lvl x1 x : Int} (h : LevelReached lvl x1 x) :
    crossingStep lvl x1 x = min 255 (256 * (lvl - x1).natAbs / (x - x1).natAbs) := by
  rw [crossingStep, fdiv_eq_natAbs_div h]
  generalize 256 * (lvl - x1).natAbs / (x - x1).natAbs = q
  omega

theorem LevelReached.step_pos {lvl x1 x : Int} (h : LevelReached lvl x1 x) : 0 < (x - x1).natAbs := by
  rcases h with h | h <;> omega

theorem crossingStep_le (lvl x1 x : Int) : crossingStep lvl x1 x ≤ 255 := by
  unfold crossingStep
  omega

/-- K/256 of the step does not reach beyond the level. -/
theorem crossingStep_mul_le {lvl x1 x : Int} (h : LevelReached lvl x1 x) :
    crossingStep lvl x1 x * (x - x1).natAbs ≤ 256 * (lvl - x1).natAbs := by
  rw [crossingStep_eq h]
  exact (Nat.mul_le_mul_right _ (Nat.min_le_right ..)).trans (Nat.div_mul_le_self ..)

/-- (K + 1)/256 of the step reaches beyond the level, unless K is at its limit. -/
theorem lt_crossingStep_succ_mul {lvl x1 x : Int} (h : LevelReached lvl x1 x) :
    256 * (lvl - x1).natAbs < (crossingStep lvl x1 x + 1) * (x - x1).natAbs ∨ crossingStep lvl x1 x = 255 := by
  rw [crossingStep_eq h]
  rcases Nat.le_total 255 (256 * (lvl - x1).natAbs / (x - x1).natAbs) with hk | hk
  · exact .inr (Nat.min_eq_left hk)
  · rw [Nat.min_eq_right hk]
    exact .inl ((Nat.lt_mul_div_succ _ h.step_pos).trans_eq (Nat.mul_comm ..))

/-- Settles O52: a mark is that of a crossing, whose level lies between the samples, so K is the quotient of distances. -/
theorem crossingTimeIsInterpolated : Obligations.CrossingTimeIsInterpolated := by
  intro u x x1 t1 t2 s m hp hm
  obtain ⟨hthrough, rfl⟩ := (crossing_eq_some_iff hp m).mp hm
  have hlvl := levelReached_of_through hthrough
  refine ⟨rfl, crossingStep_le .., ?_, ?_, ?_⟩
  · exact_mod_cast crossingStep_mul_le hlvl
  · exact_mod_cast lt_crossingStep_succ_mul hlvl
  · dsimp only [State.crossingMark]
    ring

/-! ### Units and control records of the stream (R276-R282) -/

theorem exec_unitClose {t a : Nat} {s : State} (ha : s.rcd.curAt = some a)
    (h : s.rcd.curLen = 4096 ∨ a + 400000 ≤ max s.now t) : exec (.unitClose t) s = .next (closeUnit (s.begin t)) := by
  change execUnitClose t s = _
  simp only [execUnitClose, State.begin_rcd, ha]
  exact congrArg Host.Outcome.next (if_pos h)

theorem hostCopy_noUnit {ue : Bool} {s : State} (hc : s.rcd.closed = []) (hs : s.streaming = false)
    (hr : s.hostRoom s.rcd.ueOffs.length = true) : hostCopy ue s = sendGaps s.rcd.sentTo s := by
  simp only [hostCopy, hc]
  exact if_neg (by simp [hs, hr])

theorem hostCopy_unit {u : RUnit} {rest : List RUnit} {s g z : State} (hc : s.rcd.closed = u :: rest)
    (hr : s.hostRoom (s.rcd.ueOffs.length + 1) = true) (hg : g = sendGaps ((u.recs.map recStamp).headD s.rcd.sentTo) s)
    (hz : z = sendUnit u.recs u.off { g with rcd := { g.rcd with closed := rest } }) :
    hostCopy false s = { z with rcd := { z.rcd with sentTo := (u.recs.map recStamp).getLast?.getD z.rcd.sentTo } } := by
  subst hg hz
  simp only [hostCopy, hc]
  exact (if_neg Bool.false_ne_true).trans (if_neg (not_not.mpr hr))

theorem hostCopy_discarded {u : RUnit} {rest : List RUnit} {s z : State} (hc : s.rcd.closed = u :: rest)
    (hz : z = logUe (if s.hasDram then 2 else 3) 3 false (Config.syndrome 3) none u.off 3 .l1 3 u.off
      (s.rsb .recEvt 3 true)) :
    hostCopy true s = { z with rcd := { z.rcd with closed := rest, ueOffs := z.rcd.ueOffs ++ [u.off] } } := by
  subst hz
  simp only [hostCopy, hc]
  rfl

theorem exec_gap {t : Nat} {s : State} (hl : s.rcd.loss = true) (hr : s.ringUsed + 4194304 ≤ s.ringBytes - 65536) :
    exec (.gap t) s
      = .next ((List.range 6).foldl (fun x g => x.rsat .recGaptot 0 32 (s.rcd.lost.getD g 0) g)
        ((placeRec (gapRec false s.rcd.lostFrom s.rcd.lostTo s.rcd.lost)
          { s.begin t with rcd := { s.rcd with loss := false, lost := List.replicate 6 0 } }).rsb .recEvt 0 true)) := by
  refine congrArg Host.Outcome.next (if_neg ?_)
  rintro (h | h)
  · exact h hl
  · exact Nat.not_lt.mpr hr h

theorem exec_timeRecord {t : Nat} {s z : State} (hs : s.streaming = true)
    (ht : s.rcd.lastTime + 400000 ≤ (s.begin t).now)
    (hz : z = timeRec false { s.begin t with rcd := { s.rcd with lastTime := (s.begin t).now } }) :
    exec (.timeRecord t) s
      = .next (if z.rcd.live = (z.rf .recCtrl 4 5, z.rf .recNmask 0 18, z.rf .recCellcfg 0 6) then z else contentRec z) := by
  subst hz
  refine congrArg Host.Outcome.next (if_neg ?_)
  rintro (h | h)
  · exact h hs
  · exact Nat.not_lt.mpr ht h

/-! ### Events of the trigger units (R283, R284, R287) -/

theorem exec_trigInEdge {t n : Nat} (rising : Bool) {s : State} (hn : n < 4) :
    exec (.trigInEdge t n rising) s = .next (fireUnits (edgeMarks (0x20 + n)
      (fun d => decide (d = 2) || decide (d = if rising then 0 else 1)) ((s.begin t).st - 20 * 65536) 0 (s.begin t))
      (s.begin t)) :=
  congrArg Host.Outcome.next (if_neg (Nat.not_le.mpr hn))

theorem exec_holdOffEnd {t u h : Nat} {s : State} (hh : (s.trg u).hold = some h) (ht : h ≤ max s.now t) :
    exec (.holdOffEnd t u) s = .next ((s.begin t).setTrg u { s.trg u with hold := none }) := by
  change execHoldOffEnd t u s = _
  simp only [execHoldOffEnd, State.begin_trg, hh]
  exact congrArg Host.Outcome.next (if_pos ht)

theorem exec_pulseEnd {t o e : Nat} {s z : State} (he : s.rcd.pulse.getD o none = some e) (ht : e ≤ max s.now t)
    (hz : z = { s.begin t with rcd := { s.rcd with pulse := s.rcd.pulse.set o none } }) :
    exec (.pulseEnd t o) s = .next (if o = 0 ∧ s.flt.tripTo = true then z else z.put (.trigOut o false)) := by
  subst hz
  change execPulseEnd t o s = _
  simp only [execPulseEnd, State.begin_rcd, he]
  exact congrArg Host.Outcome.next (if_pos ht)

/-- Settles O51: each event finds its own condition, and a crossing is one of the two directions. -/
theorem recorderRowsTakeEffect : Obligations.RecorderRowsTakeEffect := by
  refine ⟨⟨fun t s a => exec_unitClose, fun t ue s b hb hc hs hr => ?_, fun t s b g z u rest hb hc hr hg hz => ?_,
      fun t s b z u rest hb hc hz => ?_, fun t s b r hb hr hl hu => ?_, fun t s b z hb hs ht hz => ?_,
      fun t n rising s b hb hn => ?_, fun t s b hb => ?_, fun t u s h => exec_holdOffEnd, fun t o s e z => exec_pulseEnd,
      fun t m v s b hb h => ?_⟩,
    fun u x x1 t1 t2 s => crossing_isSome_iff⟩
  · subst hb
    exact congrArg Host.Outcome.next (hostCopy_noUnit hc hs hr)
  · subst hb
    exact congrArg Host.Outcome.next (hostCopy_unit hc hr hg hz)
  · subst hb
    exact congrArg Host.Outcome.next (hostCopy_discarded hc hz)
  · subst hb hr
    exact exec_gap hl hu
  · subst hb
    exact exec_timeRecord hs ht hz
  · subst hb
    exact exec_trigInEdge rising hn
  · subst hb
    rfl
  · rw [exec_write_accepted rfl h, writeEffect_plain rfl, hb]

end Sys2Proof.Machine
end

section
/-!
PROOFS. Station time does not always stand still: the freeze of a rate that Δ cannot take up.
-/
namespace Sys2Proof.Machine

/-- A day after reset: domain 0 is in use and LOCKED, and the rate it recorded in the last 100 s is 100 ppm above the one in
force, both within the range of R291. -/
def lateDay : State :=
  { State.reset with
    mode := .armed
    now := 24 * 3600 * 400000000
    tim := { State.reset.tim with
      isSet := true
      d0 := { DomSt.init with st := 3, rates := [(24 * 3600 * 400000000, 2 ^ 40 + 2 ^ 40 / 10000)] } } }

set_option maxRecDepth 1000 in
/-- A correction of 2 s is refused and the rate frozen at its mean, which moves T_0 by 8.6 s; the limit of Δ takes up 5.4 s of
them, and S goes on by the rest. -/
theorem correct_lateDay : lateDay.st < (correct 0 (800000000 * 65536) lateDay).st := by decide

/-- Refutes O44: a correction that Δ cannot take within 1 s freezes the domain's rate at its mean. T_d is the product of the
counter and the rate, so that this moves it by more the longer the counter has run, and Δ does not take up more than 2^31
ticks. A day after reset 100 ppm are too much. -/
theorem not_stationTimeDoesNotJump : ¬ Obligations.StationTimeDoesNotJump := by
  intro ⟨_, hcorrect⟩
  obtain ⟨_, hrefused⟩ := hcorrect 0 lateDay (by decide) (by decide)
  have hkept : (correct 0 (800000000 * 65536) lateDay).st = lateDay.st := hrefused _ (by decide)
  exact (correct_lateDay.ne hkept.symm)

end Sys2Proof.Machine
end

section
/-!
PROOFS. Time steps, self-test runs, acknowledgements and factory commands: the operation of each in the state taken.
-/
namespace Sys2Proof.Machine

@[simp] theorem State.taken_tim (s : State) (t h op) : (s.taken t h op).tim = s.tim :=
  State.taken_of State.tim (fun _ => rfl) s t h op

@[simp] theorem State.taken_flt (s : State) (t h op) : (s.taken t h op).flt = s.flt := by
  obtain ⟨v, hv⟩ := noteLink_eq h.path (s.begin t)
  rw [State.taken, hv]
  rfl

/-- The states in which a time step may be asked for: before the module takes part, or with the awn where nothing is fired
(R304). -/
abbrev State.maySteps (s : State) : Prop :=
  s.mode = .init ∨ s.mode = .factoryTest ∨ ((s.mode = .armed ∨ s.mode = .service ∨ s.mode = .tripped) ∧ s.awn = true)

theorem State.taken_maySteps {s : State} (hm : s.maySteps) (t h op) : (s.taken t h op).maySteps := by
  simpa only [State.maySteps, State.taken_mode, State.taken_awn] using hm

theorem askStep_accepts {s : State} (x : Step) (hm : s.maySteps) :
    askStep x s = ({ s with tim := { s.tim with steps := s.tim.steps ++ [x] } }, .wait .timeStep) := by
  rcases hm with hm | hm | ⟨hm | hm | hm, ha⟩
  · simp only [askStep, hm]
  · simp only [askStep, hm]
  all_goals simp only [askStep, hm, ha, if_true]

theorem askStepAbs_accepts {sec ns frac : Nat} {s : State} (hn : ns ≤ 999999999) (hm : s.maySteps) :
    askStepAbs sec ns frac s
      = ({ s with tim := { s.tim with steps := s.tim.steps ++ [.abs (ofWire sec ns frac)] } }, .wait .timeStep) :=
  (if_neg (Nat.not_lt.mpr hn)).trans (askStep_accepts _ hm)

theorem askBist_accepts {mask : Word} {s : State} (h : (bistCheck mask.toNat s).1 = .ok) :
    askBist mask s = (bistStart mask.toNat s, .wait .bist) :=
  if_pos h

theorem askAck_accepts {mask : Nat} {s : State} (h0 : mask % 2 = 0) (h1 : mask < 2 ^ 14) :
    askAck mask s = accept (ackMask mask s) (leBytes 2 (s.rg .fltUnack).toNat) :=
  if_neg (by omega)

theorem factoryEnter_accepts {s : State} (hm : (s.mode = .init ∧ s.bistFailed = false) ∨ s.mode = .service)
    (hr : s.rb .redCtrl 0 = false) : factoryEnter s = accept (setMode .factoryTest s.sub s) :=
  if_pos (by simpa [hr] using hm)

/-- Settles O21: each operation passes its checks in the state taken; a reset follows the reply of FACTORY_LEAVE. -/
theorem timeTestAndFactoryCommandsTakeEffect : Obligations.TimeTestAndFactoryCommandsTakeEffect := by
  refine ⟨⟨fun t h s sec ns frac ht hn hm => ?_, fun t h s amount ht hm => ?_, fun t h s ht hm => ?_,
      fun t h s mask ht hc => ?_, fun t h s mask ht h0 h1 => ?_⟩,
    fun t h s ht hm hr => ?_, fun t h s code addr ht r hr => ?_, fun t h s addr a b ht r hr => ?_,
    fun t h s link cause count up ht r hr => ?_, fun t h s ht => ?_, fun t h s ht => ?_⟩
  · rw [exec_taken_wait rfl ht (askStepAbs_accepts hn (State.taken_maySteps hm ..)), State.taken_tim]
    rfl
  · rw [exec_taken_wait rfl ht (askStep_accepts _ (State.taken_maySteps hm ..)), State.taken_tim]
    rfl
  · rw [exec_taken_wait rfl ht (askStep_accepts _ (State.taken_maySteps hm ..)), State.taken_tim]
    rfl
  · exact exec_taken_wait rfl ht (askBist_accepts hc)
  · exact exec_taken_now rfl ht (askAck_accepts h0 h1) fun _ => rfl
  · rw [exec_taken_now rfl ht (factoryEnter_accepts (by rwa [State.taken_mode]) hr) fun _ => rfl, State.taken_sub]
    rfl
  · subst hr
    exact exec_taken_now rfl ht rfl fun _ => rfl
  · subst hr
    exact exec_taken_now rfl ht rfl fun _ => rfl
  · subst hr
    exact exec_taken_now rfl ht rfl fun _ => rfl
  · rw [exec_taken_now rfl ht rfl fun _ => rfl, State.taken_flt]
    rfl
  · exact exec_taken rfl ht

end Sys2Proof.Machine
end

section
/-!
PROOFS. Fields of a register word; the firmware control register, the clock writes, and the events of the PLLs.
-/
namespace Sys2Proof.Machine

/-! ### Fields (R10) -/

/-- Bit by bit, a word with a field replaced: inside the field the number's bits, outside it the word's own. -/
theorem bit_setField (w : Word) {lo n : Nat} (h : lo + n ≤ 32) (v i : Nat) :
    bit (setField w lo n v) i = if lo ≤ i ∧ i < lo + n then v.testBit (i - lo) else bit w i := by
  by_cases hi : i < 32
  · simp only [bit, setField, BitVec.getLsbD_or, BitVec.getLsbD_and, BitVec.getLsbD_not, BitVec.getLsbD_ofNat,
      Nat.testBit_shiftLeft, Nat.testBit_two_pow_sub_one, Nat.testBit_mod_two_pow, hi]
    by_cases hlo : lo ≤ i
    · by_cases hup : i < lo + n
      · simp [hlo, hup, show i - lo < n by omega]
      · simp [hlo, hup, show ¬ i - lo < n by omega]
    · simp [hlo]
  · rw [if_neg (by omega)]
    simp only [bit, BitVec.getLsbD_of_ge _ _ (Nat.not_lt.mp hi)]

theorem testBit_field (w : Word) (lo n k : Nat) : (field w lo n).testBit k = (decide (k < n) && bit w (lo + k)) := by
  rw [field, Nat.testBit_mod_two_pow, Nat.testBit_shiftRight]
  rfl

theorem field_setField (w : Word) {lo n : Nat} (h : lo + n ≤ 32) (v : Nat) : field (setField w lo n v) lo n = v % 2 ^ n := by
  refine Nat.eq_of_testBit_eq fun k => ?_
  rw [testBit_field, bit_setField w h, Nat.testBit_mod_two_pow]
  by_cases hk : k < n
  · simp [hk]
  · simp [hk]

theorem State.rf_rsf_same (s : State) (n : RName) {lo len : Nat} (h : lo + len ≤ 32) (v i j : Nat) :
    (s.rsf n lo len v i j).rf n lo len i j = v % 2 ^ len := by
  rw [State.rf, State.rsf, State.rg_rs_same, field_setField _ h]

/-- A field that is put leaves the bits outside it. -/
theorem State.rb_rsf_outside (s : State) (n : RName) {lo len k : Nat} (h : lo + len ≤ 32) (hk : k < lo ∨ lo + len ≤ k)
    (v i j : Nat) : (s.rsf n lo len v i j).rb n k i j = s.rb n k i j := by
  rw [State.rb, State.rsf, State.rg_rs_same, bit_setField _ h, if_neg (by omega)]
  rfl

theorem State.rb_rsb_same (s : State) (n : RName) {k : Nat} (hk : k < 32) (b : Bool) (i j : Nat) :
    (s.rsb n k b i j).rb n k i j = b := by
  rw [State.rb, State.rsb, State.rsf, State.rg_rs_same, bit_setField _ hk, if_pos ⟨Nat.le_refl _, Nat.lt_succ_self _⟩, Nat.sub_self]
  cases b <;> rfl

/-! ### Firmware control (R470, R471) -/

/-- A write of PWR_FWCTRL: PREF and TRIAL are taken first, then COMMIT. -/
def fwSelect (v : Word) (s : State) : State :=
  let y := { s with pwr := { s.pwr with prefFlash := v.toNat % 2, trialPend := s.pwr.trialPend || v.getLsbD 1 } }
  if v.getLsbD 2 then { y with pwr := { y.pwr with prefFlash := s.pwr.runBank, trialActive := false } } else y

theorem writeEffect_fwctrl (m : Nat) (v : Word) (s : State) : writeEffect m ⟨.pwrFwctrl, 0, 0⟩ v s
    = if v.getLsbD 3 then startProg (fwSelect v s) else (fwSelect v s, .ok) :=
  writeEffect_pwr rfl

theorem exec_fwctrl {c : Instr} {t : Nat} {m : Master} {v : Word} {s : State}
    (hc : regRowOf c = some (t, m, regAddr .pwrFwctrl, v)) (h : s.writes t m (regAddr .pwrFwctrl) v ⟨.pwrFwctrl, 0, 0⟩) :
    exec c s = .next (wrote m (regAddr .pwrFwctrl) ⟨.pwrFwctrl, 0, 0⟩
      (if v.getLsbD 3 then startProg (fwSelect v (s.begin t)) else (fwSelect v (s.begin t), .ok))) := by
  rw [exec_write_accepted hc h, writeEffect_fwctrl]

/-! ### Clock writes (R309, R311) -/

theorem writeEffect_nfrac (m : Nat) (v : Word) (s : State) :
    writeEffect m ⟨.clkNfrac, 0, 0⟩ v s = (applyN (storeReg ⟨.clkNfrac, 0, 0⟩ v s), .ok) :=
  writeEffect_clk rfl

/-- A write of CLK_CTRL gates the outputs off where it changes the enable, or the reference of an enabled PLL. -/
theorem writeEffect_clkCtrl (m : Nat) (v : Word) (s : State) : writeEffect m ⟨.clkCtrl, 0, 0⟩ v s
    = ((storeReg ⟨.clkCtrl, 0, 0⟩ v s).when (v.getLsbD 0 != s.rb .clkCtrl 0
        || (s.rb .clkCtrl 0 && decide (field v 1 2 ≠ s.rf .clkCtrl 1 2))) gateOff, .ok) := by
  refine (writeEffect_clk rfl).trans (congrArg (fun x => (x, Status.ok)) (if_congr ?_ rfl rfl))
  simp [bit]

/-! ### Events of the PLLs (R308, R310, R311) -/

theorem exec_syspllLoss {t : Nat} {s : State} (hm : s.mode ≠ .off) (hl : s.rb .clkStat 1 = false) :
    exec (.syspllLoss t) s = .next (fault 0x0710 .l3
      ((List.range 128).foldl (fun s l => s.when (s.linkUp l) (fun s => s.put (.dark l)))
        ((((s.begin t).rsb .clkStat 0 false).rsb .clkStat 1 true).rsb .clkEvt 0 true))) :=
  congrArg Host.Outcome.next (if_neg (by simp [hm, hl]))

theorem exec_stationPllLock_noBand {t : Nat} {s : State} (he : s.rb .clkCtrl 0 = true) (hl : s.clk.locking = true)
    (hb : s.bandFor s.clk.nApplied = none) : exec (.stationPllLock t) s = .next (fault 0x0713 .l1
      (({ s.begin t with clk := { s.clk with locking := false } } : State).rsb .clkEvt 5 true)) := by
  have hb' : (s.begin t).bandFor (s.begin t).clk.nApplied = none := hb
  refine congrArg Host.Outcome.next ((if_neg (by simp [he, hl])).trans ?_)
  rw [hb']
  rfl

/-- The registers of a station PLL that has locked in band `k`. -/
def noteLock (k : Nat) (s : State) : State := ((s.rsb .clkStat 2 true).rsf .clkStat 6 6 k).rsb .clkEvt 4 true

theorem noteLock_locked (k : Nat) (s : State) : (noteLock k s).rb .clkStat 2 = true := by
  have hother : (noteLock k s).rg .clkStat = ((s.rsb .clkStat 2 true).rsf .clkStat 6 6 k).rg .clkStat :=
    State.rg_rs_other _ _ (by decide)
  rw [State.rb, hother]
  exact (State.rb_rsf_outside _ .clkStat (by decide) (by decide) k 0 0).trans (s.rb_rsb_same .clkStat (by decide) true 0 0)

theorem noteLock_band (k : Nat) (s : State) : (noteLock k s).rf .clkStat 6 6 = k % 64 := by
  have hother : (noteLock k s).rg .clkStat = ((s.rsb .clkStat 2 true).rsf .clkStat 6 6 k).rg .clkStat :=
    State.rg_rs_other _ _ (by decide)
  rw [State.rf, hother]
  exact State.rf_rsf_same _ .clkStat (by decide) k 0 0

theorem noteLock_event (k : Nat) (s : State) : (noteLock k s).rb .clkEvt 4 = true :=
  State.rb_rsb_same _ .clkEvt (by decide) true 0 0

theorem exec_stationPllLock_band {t k : Nat} {s : State} (he : s.rb .clkCtrl 0 = true) (hl : s.clk.locking = true)
    (hb : s.bandFor s.clk.nApplied = some k) : ∃ r, exec (.stationPllLock t) s = .next { noteLock k (s.begin t) with
      clk := { s.clk with locking := false, lockFreq := s.clk.nApplied, settledFrom := max s.now t, ref := r } } := by
  have hb' : (s.begin t).bandFor (s.begin t).clk.nApplied = some k := hb
  refine ⟨if (noteLock k (s.begin t)).rf .clkCtrl 1 2 = 1 then s.clk.ref else some true,
    congrArg Host.Outcome.next ((if_neg (by simp [he, hl])).trans ?_)⟩
  rw [hb']
  rfl

theorem exec_outputRelease {t : Nat} {s : State} (hl : s.rb .clkStat 2 = true) (hg : s.rb .clkStat 3 = true)
    (ht : s.clk.settledFrom + 64 * s.refCycle ≤ max s.now t) :
    exec (.outputRelease t) s = .next (((List.range 4).foldl (fun (x : State) c => x.when (x.rb .clkOut 15 c) (startOut c))
        { (s.begin t).rsb .clkStat 3 false with clk := { s.clk with released := true } }).put (.clkGate false)) := by
  have ht' : (s.begin t).clk.settledFrom + 64 * (s.begin t).refCycle ≤ (s.begin t).now := ht
  exact congrArg Host.Outcome.next (if_pos (by simp only [State.begin_rb, hl, hg, ht', decide_true, Bool.and_true]))

theorem exec_spllUnlock {t : Nat} {s : State} (hl : s.rb .clkStat 2 = true) :
    exec (.spllUnlock t) s = .next (fault 0x0711 .l1 ((gateOff (s.begin t)).rsb .clkEvt 1 true)) :=
  congrArg Host.Outcome.next (if_pos hl)

/-- The loss of REF_IN concerns an enabled PLL that uses it: every reference but the PPS (R311). -/
theorem exec_refLoss_used {t : Nat} {s : State} (he : s.rb .clkCtrl 0 = true) (hr : s.rf .clkCtrl 1 2 ≠ 1) :
    exec (.refLoss t) s = .next (fault 0x0712 .l1
      ((gateOff { s.begin t with clk := { s.clk with ref := some false } }).rsb .clkEvt 2 true)) := by
  refine congrArg Host.Outcome.next (if_pos ?_)
  have he' : ((s.begin t).setClk { s.clk with ref := some false }).rb .clkCtrl 0 = true := he
  have hr' : ((s.begin t).setClk { s.clk with ref := some false }).rf .clkCtrl 1 2 ≠ 1 := hr
  exact Bool.and_eq_true_iff.mpr ⟨he', decide_eq_true hr'⟩

theorem exec_refLoss_unused {t : Nat} {s : State} (h : s.rb .clkCtrl 0 = false ∨ s.rf .clkCtrl 1 2 = 1) :
    exec (.refLoss t) s = .next { s.begin t with clk := { s.clk with ref := some false } } := by
  refine congrArg Host.Outcome.next (if_neg ?_)
  have h' : ((s.begin t).setClk { s.clk with ref := some false }).rb .clkCtrl 0 = false
    ∨ ((s.begin t).setClk { s.clk with ref := some false }).rf .clkCtrl 1 2 = 1 := h
  rcases h' with h' | h' <;> simp [h']

/-- Settles O43: a write goes through its register's effect, each event through its condition. -/
theorem clockAndFirmwareCommandsTakeEffect : Obligations.ClockAndFirmwareCommandsTakeEffect := by
  refine ⟨fun t m v s b hb h h1 h2 h3 => ?_, fun t m v s b hb h h1 h2 h3 => ?_, fun t m v s b hb h h1 h2 h3 => ?_,
    fun t m v s b hb h => ?_, fun c t m v s b y z hc hb h hy hz => ?_, fun t m v s b hb h => ?_, fun t s => exec_syspllLoss,
    fun t s => exec_stationPllLock_noBand, fun t s k he hl hk => ?_, fun t s => exec_outputRelease, fun t s => exec_spllUnlock,
    fun t s => exec_refLoss_used, fun t s => exec_refLoss_unused⟩
  · subst hb
    rw [exec_fwctrl rfl h, h3, fwSelect, h1, h2, Bool.or_true]
    rfl
  · subst hb
    rw [exec_fwctrl rfl h, h3, fwSelect, h1, h2, Bool.or_false]
    rfl
  · subst hb
    rw [exec_fwctrl rfl h, h3, fwSelect, h1, h2, Bool.or_false]
    rfl
  · rw [exec_write_accepted rfl h, writeEffect_nfrac, hb]
  · have hrow : regRowOf c = some (t, m, regAddr .pwrFwctrl, v) := by
      rcases hc with hc | hc | hc <;> rw [hc] <;> rfl
    subst hb hy hz
    exact exec_fwctrl hrow h
  · rw [exec_write_accepted rfl h, writeEffect_clkCtrl, hb]
    rfl
  · obtain ⟨r, hr⟩ := exec_stationPllLock_band (t := t) he hl hk
    exact ⟨_, hr, noteLock_locked k (s.begin t), noteLock_band k (s.begin t), noteLock_event k (s.begin t), rfl, rfl, rfl⟩

end Sys2Proof.Machine
end

section
/-!
PROOFS. Domains and their registers, and what the protocol messages of station time make of them.
-/
namespace Sys2Proof.Machine

/-! ### Domains -/

/-- A quantity of the state that depends on the clock alone. -/
theorem State.now_of_base {x y : State} (h : x.base = y.base) : x.now = y.now :=
  congrArg (fun b : Variant × List Instr × Nat => b.2.2) h

@[simp] theorem State.dmn_setDmn_same (s : State) (d : Nat) (x : DomSt) : (s.setDmn d x).dmn d = x := by
  unfold State.setDmn State.dmn
  split <;> rfl

/-- The two domains are apart. -/
theorem State.dmn_setDmn_other (s : State) {d k : Nat} (hd : d < 2) (hk : k < 2) (h : k ≠ d) (x : DomSt) :
    (s.setDmn k x).dmn d = s.dmn d := by
  have hz : d = 0 ↔ k ≠ 0 := by omega
  unfold State.setDmn State.dmn
  by_cases hk0 : k = 0
  · rw [if_pos hk0, if_neg (by omega), if_neg (by omega)]
  · rw [if_neg hk0, if_pos (by omega), if_pos (by omega)]

@[simp] theorem State.setDmn_regs (s : State) (d x) : (s.setDmn d x).regs = s.regs := by
  unfold State.setDmn
  split <;> rfl

@[simp] theorem State.setDmn_now (s : State) (d x) : (s.setDmn d x).now = s.now :=
  State.now_of_base (State.setDmn_base ..)

@[simp] theorem State.setDmn_mpd (s : State) (d x) : (s.setDmn d x).tim.mpd = s.tim.mpd := by
  unfold State.setDmn
  split <;> rfl

theorem State.dmn_of_tim {x y : State} (h : x.tim = y.tim) (d : Nat) : x.dmn d = y.dmn d := by
  rw [State.dmn, State.dmn, h]

theorem State.rg_of_regs {x y : State} (h : x.regs = y.regs) (n : RName) (i j : Nat) : x.rg n i j = y.rg n i j := by
  rw [State.rg, State.rg, h]

@[simp] theorem State.setDmn_rg (s : State) (d x n i j) : (s.setDmn d x).rg n i j = s.rg n i j :=
  State.rg_of_regs (State.setDmn_regs ..) n i j

@[simp] theorem setDomState_regs (d st s) : (setDomState d st s).regs = s.regs := State.setDmn_regs ..

@[simp] theorem setDomState_mpd (d st s) : (setDomState d st s).tim.mpd = s.tim.mpd := State.setDmn_mpd ..

/-- A change of a domain's state leaves its masters. -/
@[simp] theorem setDomState_masters (d st s) : ((setDomState d st s).dmn d).masters = (s.dmn d).masters := by
  rw [setDomState, State.dmn_setDmn_same]

/-- The registers of a domain's block that the protocol reads or writes (R316). -/
abbrev domainRegs : List RName := [.timDCfg, .timDStat, .timDMpd, .timDGmidl, .timDGmidh]

/-- Two different registers of a domain's block differ modulo its stride of 0x40, whatever the domains. -/
theorem State.rg_rs_domain (s : State) {n m : RName} (hn : n ∈ domainRegs) (hm : m ∈ domainRegs) (h : m ≠ n) (v : Word)
    (d k : Nat) : (s.rs n v k).rg m d = s.rg m d := by
  have hstride : ∀ n ∈ domainRegs, n.spec.st = 0x40 := by decide
  have hplace : ∀ n ∈ domainRegs, ∀ m ∈ domainRegs, m ≠ n → m.spec.off % 0x40 ≠ n.spec.off % 0x40 := by decide
  refine s.rg_rs_other v ?_
  have hoff := hplace n hn m hm h
  rw [regAddr, regAddr, hstride n hn, hstride m hm]
  omega

/-! ### Masters (R295, R297) -/

theorem noteBest_tim (d s) : (noteBest d s).tim = s.tim := by
  unfold noteBest
  split <;> rfl

/-- The masters that a domain still hears. -/
theorem dropMasters_masters (d : Nat) (s : State) :
    ((dropMasters d s).dmn d).masters = (s.dmn d).masters.filter (fun f => decide (s.now < f.last + 1200000000)) := by
  rw [dropMasters, State.dmn_of_tim (noteBest_tim ..), State.dmn_setDmn_same]

/-- LISTENING ends with ACQUIRING, or goes on. -/
theorem listenEnd_cases (d : Nat) (s : State) : listenEnd d s = setDomState d 2 s ∨ listenEnd d s = s := ite_eq_or_eq ..

theorem listenEnd_regs (d s) : (listenEnd d s).regs = s.regs := by
  rcases listenEnd_cases d s with h | h <;> rw [h]
  exact setDomState_regs ..

theorem listenEnd_mpd (d s) : (listenEnd d s).tim.mpd = s.tim.mpd := by
  rcases listenEnd_cases d s with h | h <;> rw [h]
  exact setDomState_mpd ..

theorem listenEnd_masters (d s) : ((listenEnd d s).dmn d).masters = (s.dmn d).masters := by
  rcases listenEnd_cases d s with h | h <;> rw [h]
  exact setDomState_masters ..

theorem listenEnd_other {d k : Nat} (hd : d < 2) (hk : k < 2) (h : k ≠ d) (s : State) :
    (listenEnd k s).dmn d = s.dmn d := by
  rcases listenEnd_cases k s with hs | hs <;> rw [hs]
  exact s.dmn_setDmn_other hd hk h _

/-- A master that is heard stands among the domain's masters, heard now. -/
theorem hearMaster_hears (d : Nat) (a : PtpAnnounce) (s : State) :
    ∃ f ∈ ((hearMaster d a s).dmn d).masters, f.ident = a.src ∧ f.gm = a.gm ∧ f.last = s.now := by
  rw [hearMaster, listenEnd_masters, dropMasters_masters, State.dmn_setDmn_same, State.setDmn_now]
  have hnow : decide (s.now < s.now + 1200000000) = true := decide_eq_true (Nat.lt_add_of_pos_right (by decide))
  exact ⟨_, List.mem_filter.mpr ⟨List.mem_append_right _ (List.mem_singleton.mpr rfl), hnow⟩, rfl, rfl, rfl⟩

/-- What one domain hears is nothing to the other. -/
theorem hearMaster_other {d k : Nat} (hd : d < 2) (hk : k < 2) (h : k ≠ d) (a : PtpAnnounce) (s : State) :
    (hearMaster k a s).dmn d = s.dmn d := by
  rw [hearMaster, listenEnd_other hd hk h, dropMasters, State.dmn_of_tim (noteBest_tim ..),
    State.dmn_setDmn_other _ hd hk h, State.dmn_setDmn_other _ hd hk h]

theorem noteBest_cfg (k : Nat) (s : State) (d : Nat) : (noteBest k s).rg .timDCfg d = s.rg .timDCfg d := by
  unfold noteBest
  split
  · rw [State.rsf, State.rg_rs_domain _ (by decide) (by decide) (by decide),
      State.rg_rs_domain _ (by decide) (by decide) (by decide), State.rg_rs_domain _ (by decide) (by decide) (by decide)]
  · rfl

theorem hearMaster_cfg (k : Nat) (a : PtpAnnounce) (s : State) (d : Nat) :
    (hearMaster k a s).rg .timDCfg d = s.rg .timDCfg d := by
  rw [hearMaster, State.rg_of_regs (listenEnd_regs ..), dropMasters, noteBest_cfg, State.setDmn_rg, State.setDmn_rg]

/-- Domain `d` hears the announces of port `p` that `a` is one of: it is enabled, and port and number are its own. -/
def State.hears (s : State) (p : Nat) (a : PtpAnnounce) (d : Nat) : Bool :=
  s.rb .timDCfg 0 d && decide (s.domPort d = p) && decide (s.rf .timDCfg 4 8 d = a.domnum) && decide ((s.dmn d).st ≠ 0)

/-- An announce as domain `d` takes it. -/
def announceTo (p : Nat) (a : PtpAnnounce) (s : State) (d : Nat) : State := if s.hears p a d then hearMaster d a s else s

theorem exec_announce (t p : Nat) (a : PtpAnnounce) (s : State) :
    exec (.announce t p a) s = .next (announceTo p a (announceTo p a (s.begin t) 0) 1) := rfl

theorem announceTo_now (p a s k) : (announceTo p a s k).now = s.now := by
  unfold announceTo
  split
  · exact State.now_of_base (hearMaster_base ..)
  · rfl

theorem announceTo_other {d k : Nat} (hd : d < 2) (hk : k < 2) (h : k ≠ d) (p : Nat) (a : PtpAnnounce) (s : State) :
    (announceTo p a s k).dmn d = s.dmn d := by
  unfold announceTo
  split
  · exact hearMaster_other hd hk h a s
  · rfl

theorem announceTo_hears_other {d k : Nat} (hd : d < 2) (hk : k < 2) (h : k ≠ d) (p : Nat) (a : PtpAnnounce) (s : State) :
    (announceTo p a s k).hears p a d = s.hears p a d := by
  have hcfg : (announceTo p a s k).rg .timDCfg d = s.rg .timDCfg d := by
    unfold announceTo
    split
    · exact hearMaster_cfg k a s d
    · rfl
  rw [State.hears, State.hears, State.domPort, State.domPort, State.rb, State.rb, State.rf, State.rf, State.rf, State.rf, hcfg,
    announceTo_other hd hk h]

theorem announceTo_heard {d p : Nat} {a : PtpAnnounce} {s : State} (h : s.hears p a d = true) :
    ∃ f ∈ ((announceTo p a s d).dmn d).masters, f.ident = a.src ∧ f.gm = a.gm ∧ f.last = s.now := by
  rw [announceTo, if_pos h]
  exact hearMaster_hears d a s

/-- An announce reaches a domain that hears it, whatever the other domain makes of it. -/
theorem exec_announce_heard {t p d : Nat} {a : PtpAnnounce} {s : State} (hd : d < 2) (h : s.hears p a d = true) :
    ∃ x, exec (.announce t p a) s = .next x ∧ ∃ f ∈ (x.dmn d).masters, f.ident = a.src ∧ f.gm = a.gm ∧ f.last = max s.now t := by
  refine ⟨_, exec_announce t p a s, ?_⟩
  obtain rfl | rfl : d = 0 ∨ d = 1 := by omega
  · rw [announceTo_other (by decide) (by decide) (by decide)]
    exact announceTo_heard h
  · have hheard := announceTo_heard ((announceTo_hears_other (d := 1) (k := 0) (by decide) (by decide) (by decide) p a (s.begin t)).trans h)
    rwa [announceTo_now] at hheard

/-! ### Syncs (R295, R297) -/

/-- A Sync of the chosen master as the domain notes it; a two-step one waits for its Follow_Up. -/
def noteSync (d : Nat) (m : PtpSync) (z : State) : State :=
  (z.setDmn d { z.dmn d with
    lastSync := z.now, interval := 400000000 / 2 ^ m.logInt.natAbs
    pend := if m.twoStep then some (m.seq, m.rx) else none }).rsb .timDStat 3 m.twoStep d

/-- A Sync of the chosen master is noted, and measured unless its Follow_Up is to come. -/
theorem syncMsg_accepted {d : Nat} {s z : State} {m : PtpSync} {f : Foreign} (hz : z = dropMasters d s)
    (hf : (z.dmn d).best = some f) (hsrc : f.ident = m.src) (hst : 2 ≤ (z.dmn d).st) (hlo : -4 ≤ m.logInt)
    (hhi : m.logInt ≤ 0) : syncMsg d m s = if m.twoStep then noteSync d m z
      else offsetOf d ((noteSync d m z).offsetAt d m.rx m.origin) (noteSync d m z) := by
  subst hz
  refine (if_neg ?_).trans rfl
  rw [hf]
  simp only [hsrc, decide_true, not_true_eq_false, false_or]
  omega

theorem exec_syncMsg {t d : Nat} (hd : d < 2) (m : PtpSync) (s : State) :
    exec (.syncMsg t d m) s = .next (syncMsg d m (s.begin t)) := by
  change Host.Outcome.next (syncMsg (d % 2) m (s.begin t)) = _
  rw [Nat.mod_eq_of_lt hd]

/-- A two-step Sync stands with its sequence and its arrival. -/
theorem noteSync_twoStep {d : Nat} {m : PtpSync} (h : m.twoStep = true) (z : State) :
    ((noteSync d m z).dmn d).pend = some (m.seq, m.rx) ∧ ((noteSync d m z).dmn d).lastSync = z.now
      ∧ (noteSync d m z).rb .timDStat 3 d = true := by
  have hdmn : (noteSync d m z).dmn d = { z.dmn d with
      lastSync := z.now, interval := 400000000 / 2 ^ m.logInt.natAbs
      pend := if m.twoStep then some (m.seq, m.rx) else none } := State.dmn_setDmn_same ..
  refine ⟨by rw [hdmn, h]; rfl, by rw [hdmn], ?_⟩
  rw [noteSync, State.rb_rsb_same _ _ (by decide), h]

theorem exec_followUp {t d seq : Nat} {origin rx : Int} {s : State} (hd : d < 2) (hp : (s.dmn d).pend = some (seq, rx)) :
    exec (.followUp t d seq origin) s = .next (offsetOf d ((s.begin t).offsetAt d rx origin)
      ((s.begin t).setDmn d { s.dmn d with pend := none })) := by
  change execFollowUp t d seq origin s = _
  simp only [execFollowUp, Nat.mod_eq_of_lt hd, State.begin_dmn, hp, if_true]

/-! ### Path delays (R295, R296) -/

/-- The mean path delay of port `p` is kept. -/
def keepDelay (p : Nat) (mpd : Int) (s : State) : State := { s with tim := { s.tim with mpd := Tab.put s.tim.mpd p mpd } }

/-- A mean path delay of port `p` as domain `d` takes it. -/
def delayTo (p : Nat) (mpd : Int) (s : State) (d : Nat) : State :=
  if s.domPort d = p then
    listenEnd d ((s.setDmn d { s.dmn d with mpdKnown := true }).rs .timDMpd (wordOf (divNearest mpd 4096)) d)
  else s

theorem exec_pdelayResp (t p : Nat) (t1 t2 t3 t4 : Int) (s : State) {mpd : Int}
    (hm : mpd = divNearest (5 * ((t4 - t1) - (t3 - t2))) 4) : exec (.pdelayResp t p t1 t2 t3 t4) s
      = .next (delayTo p mpd (delayTo p mpd (keepDelay p mpd (s.begin t)) 0) 1) := by
  subst hm
  rfl

theorem delayTo_mpd (p mpd s d) : (delayTo p mpd s d).tim.mpd = s.tim.mpd := by
  unfold delayTo
  split
  · exact (listenEnd_mpd ..).trans (State.setDmn_mpd ..)
  · rfl

theorem delayTo_port (p mpd s k d) : (delayTo p mpd s k).domPort d = s.domPort d := by
  unfold delayTo
  split
  · rw [State.domPort, State.rf, State.rg_of_regs (listenEnd_regs ..), State.rg_rs_domain _ (by decide) (by decide) (by decide),
      State.setDmn_rg]
    rfl
  · rfl

theorem delayTo_same {p d : Nat} {s : State} (h : s.domPort d = p) (mpd : Int) :
    (delayTo p mpd s d).rg .timDMpd d = wordOf (divNearest mpd 4096) := by
  rw [delayTo, if_pos h, State.rg_of_regs (listenEnd_regs ..), State.rg_rs_same]

theorem delayTo_other {d k : Nat} (h : regAddr .timDMpd d ≠ regAddr .timDMpd k) (p mpd s) :
    (delayTo p mpd s k).rg .timDMpd d = s.rg .timDMpd d := by
  unfold delayTo
  split
  · rw [State.rg_of_regs (listenEnd_regs ..), State.rg_rs_other _ _ h, State.setDmn_rg]
  · rfl

/-- Each domain of the port shows the delay, whatever the other domain makes of it. -/
theorem delayTo_both {p d : Nat} {s : State} (hd : d < 2) (h : s.domPort d = p) (mpd : Int) :
    (delayTo p mpd (delayTo p mpd s 0) 1).rg .timDMpd d = wordOf (divNearest mpd 4096) := by
  obtain rfl | rfl : d = 0 ∨ d = 1 := by omega
  · exact (delayTo_other (by decide) ..).trans (delayTo_same h mpd)
  · exact delayTo_same ((delayTo_port ..).trans h) mpd

/-- Settles O46: each message finds its domain, which notes what the message brings. -/
theorem timeMessagesTakeEffect : Obligations.TimeMessagesTakeEffect := by
  refine ⟨fun t d s m f z hz hd hf hsrc hst hlo hhi h2 => ?_, fun t d s m f z y hz hd hf hsrc hst hlo hhi h1 hy => ?_,
    fun t d seq origin rx s b hb hd hp => ?_, fun t p a s d hd hen hport hnum hst => ?_, fun t p seq rx s hon => ?_,
    fun t p t1 t2 t3 t4 s => ?_⟩
  · obtain ⟨hpend, hlast, htwo⟩ := noteSync_twoStep (d := d) h2 z
    have hnow : z.now = max s.now t := State.now_of_base (hz ▸ dropMasters_base ..)
    exact ⟨_, by rw [exec_syncMsg hd, syncMsg_accepted hz hf hsrc hst hlo hhi, if_pos h2], hpend, hlast.trans hnow, htwo⟩
  · have hnoted : noteSync d m z = y := by rw [hy, noteSync, h1]; rfl
    rw [exec_syncMsg hd, syncMsg_accepted hz hf hsrc hst hlo hhi, if_neg (by simp [h1]), hnoted]
  · subst hb
    exact exec_followUp hd hp
  · exact exec_announce_heard hd (by simp [State.hears, hen, hport, hnum, hst])
  · exact congrArg Host.Outcome.next (if_neg hon)
  · refine ⟨_, exec_pdelayResp t p t1 t2 t3 t4 s rfl, ?_, fun d hd hport => ?_⟩
    · rw [delayTo_mpd, delayTo_mpd]
      exact Tab.get_put_same ..
    · exact delayTo_both (s := keepDelay p _ (s.begin t)) hd hport _

end Sys2Proof.Machine
end

section
/-!
PROOFS. Selection and steps of station time: what they leave alone, and the events that set, step and watch it.
-/
namespace Sys2Proof.Machine

/-! ### What selection leaves alone (R298-R300) -/

/-- The body of a state, and of station time the steps that wait: what a change of domain or of selection leaves. -/
def State.untimed (s : State) : State := { s.body with tim := { State.reset.tim with steps := s.tim.steps } }

theorem State.untimed_of_body {x y : State} (h : x.body = y.body) : x.untimed = y.untimed :=
  congrArg (fun z => ({ z with tim := { State.reset.tim with steps := z.tim.steps } } : State)) h

/-- A quantity that selection cannot touch is the same in states alike but for station time. -/
theorem State.of_untimed {β : Type} (q : State → β) (hq : ∀ s, q s.untimed = q s) {x y : State} (h : x.untimed = y.untimed) :
    q x = q y := by
  rw [← hq x, h, hq]

@[simp] theorem State.setDmn_untimed (s d x) : (State.setDmn s d x).untimed = s.untimed := by
  unfold State.setDmn
  split <;> rfl

theorem timeEvent_body (k d s) : (timeEvent k d s).body = s.body := (emit_body ..).trans (State.rsb_body ..)

@[simp] theorem timeEvent_untimed (k d s) : (timeEvent k d s).untimed = s.untimed :=
  State.untimed_of_body (timeEvent_body ..)

@[simp] theorem timeEvent_tim (k d s) : (timeEvent k d s).tim = s.tim :=
  State.of_body State.tim (fun _ => rfl) (timeEvent_body ..)

/-- An event of station time sets its bit, which its record leaves. -/
theorem timeEvent_sets {k : Nat} (hk : k < 32) (d : Nat) (s : State) : (timeEvent k d s).rb .timEvt k = true := by
  have hrecord : (timeEvent k d s).rg .timEvt = (s.rsb .timEvt k true).rg .timEvt :=
    State.rg_of_settings (emit_settings ..) (by decide)
  rw [State.rb, hrecord]
  exact State.rb_rsb_same s .timEvt hk true 0 0

/-- The holdover flag is the only word of station time that its refreshing writes. -/
theorem refreshHoldover_tim (s : State) : ∃ h, (refreshHoldover s).tim = { s.tim with holdover := h } := by
  unfold refreshHoldover
  dsimp only
  split
  · exact ⟨_, timeEvent_tim ..⟩
  · exact ⟨_, rfl⟩

@[simp] theorem refreshHoldover_untimed (s) : (refreshHoldover s).untimed = s.untimed := by
  unfold refreshHoldover
  dsimp only
  split
  · exact timeEvent_untimed ..
  · rfl

@[simp] theorem switchTo_untimed (d s) : (switchTo d s).untimed = s.untimed := by
  unfold switchTo
  split
  · rfl
  · exact (refreshHoldover_untimed _).trans (timeEvent_untimed ..)

/-- A switch to another domain that does not disagree is made, where Δ can take up the difference (R291, R299). -/
theorem switchTo_sel {d : Nat} {s : State} (hsel : s.tim.sel ≠ d) (hst : (s.dmn d).st ≠ 5)
    (hfit : s.tim.isSet = true → clampDelta (s.st - s.dom d) = s.st - s.dom d) : (switchTo d s).tim.sel = d := by
  have hmade : ¬ (s.tim.sel = d ∨ (s.dmn d).st = 5 ∨ (s.tim.isSet = true ∧ clampDelta (s.st - s.dom d) ≠ s.st - s.dom d)) := by
    rintro (h | h | ⟨hset, h⟩)
    · exact hsel h
    · exact hst h
    · exact h (hfit hset)
  rw [switchTo, if_neg hmade]
  obtain ⟨h, hh⟩ := refreshHoldover_tim (timeEvent 2 d { settleDelta s with tim := { (settleDelta s).tim with
    sel := d, delta := if (settleDelta s).tim.isSet then s.st - (settleDelta s).dom d else (settleDelta s).tim.delta, blend := true } })
  refine (congrArg TimSt.sel hh).trans ?_
  rw [timeEvent_tim]

@[simp] theorem wantSet_untimed (s) : (wantSet s).untimed = s.untimed := by
  unfold wantSet
  split <;> rfl

@[simp] theorem ppsFall_untimed (s) : (ppsFall s).untimed = s.untimed := by
  unfold ppsFall
  split <;> rfl

/-- The selection of R298, before the flags that follow it. -/
def selectDom (s : State) : State :=
  if s.rb .timCtrl 1 then
    if (s.dmn s.tim.sel).st ≠ 3 ∧ (s.dmn (1 - s.tim.sel)).st = 3 then switchTo (1 - s.tim.sel) s else s
  else switchTo (s.rf .timCtrl 0 1) s

theorem reselect_eq (s : State) : reselect s = ppsFall (wantSet (refreshHoldover (selectDom s))) := rfl

@[simp] theorem reselect_untimed (s) : (reselect s).untimed = s.untimed := by
  rw [reselect_eq, ppsFall_untimed, wantSet_untimed, refreshHoldover_untimed, selectDom]
  split
  · split
    · exact switchTo_untimed ..
    · rfl
  · exact switchTo_untimed ..

@[simp] theorem setDomState_untimed (d st s) : (setDomState d st s).untimed = s.untimed := State.setDmn_untimed ..

@[simp] theorem restartDom_untimed (d s) : (restartDom d s).untimed = s.untimed := by
  rw [restartDom, reselect_untimed, State.setDmn_untimed, setDomState_untimed]

/-! ### Steps (R304, R305) -/

@[simp] theorem State.setOfs_untimed (s : State) (d v) : (s.setOfs d v).untimed = s.untimed := by
  unfold State.setOfs
  exact rfl

theorem State.untimed_tim (s : State) {x : TimSt} (h : x.steps = s.tim.steps) : ({ s with tim := x } : State).untimed = s.untimed := by
  rw [State.untimed, h]
  rfl

/-- Before S is set, its distance from C is kept with it. -/
theorem State.untimed_base (s : State) (b : Int) :
    (if s.tim.isSet then s else { s with tim := { s.tim with base := b } }).untimed = s.untimed := by
  split
  · rfl
  · exact s.untimed_tim rfl

@[simp] theorem moveS_untimed (a s) : (moveS a s).untimed = s.untimed :=
  (State.untimed_base _ _).trans (by rw [State.setOfs_untimed, State.setOfs_untimed])

@[simp] theorem takeRef_untimed (d s) : (takeRef d s).untimed = s.untimed := by
  unfold takeRef
  split
  · rw [setDomState_untimed, State.setOfs_untimed]
  · rfl

@[simp] theorem applyStep_untimed (s x) : (applyStep s x).untimed = s.untimed := by
  cases x with
  | abs v => exact moveS_untimed ..
  | rel v => exact moveS_untimed ..
  | toRef =>
    refine (reselect_untimed _).trans ((State.untimed_tim _ rfl).trans ((State.untimed_base _ _).trans ?_))
    rw [takeRef_untimed, takeRef_untimed]

/-! The recorder's records and the restart of the filters are nothing to station time. -/

theorem dataRec_core (g n stamp b s) : (dataRec g n stamp b s).core = s.core :=
  congrArg State.body (dataRec_frame g n stamp b s State.reset.rcd)

theorem flushMarks_core (s) : (flushMarks s).core = s.core :=
  foldl_keeps (g := fun s b => placeMark b s) State.core (fun _ _ => placeMark_core ..) _ _

theorem ctlRec_core (b s) : (ctlRec b s).core = s.core := by
  unfold ctlRec
  split
  · exact placeRec_core ..
  · rfl

theorem stepRecs_core (s) : (stepRecs s).core = s.core :=
  (ctlRec_core ..).trans (ctlRec_core ..)

@[simp] theorem stepRecs_tim (s) : (stepRecs s).tim = s.tim :=
  State.of_core State.tim (fun _ => rfl) (stepRecs_core s)

@[simp] theorem privRec_tim (s) : (privRec s).tim = s.tim := by
  unfold privRec
  split
  · rfl
  · exact (State.of_core State.tim (fun _ => rfl) ((flushMarks_core _).trans (dataRec_core ..))).trans rfl

/-- A channel of the filter chain that runs starts afresh at the next boundary. -/
theorem restartFilters_tim (s) : (restartFilters s).tim = s.tim := by
  have hchan : ∀ (z : State) (n : Nat), (if (z.nch n).run then
      z.setNch n { NChan.init with pend := some z.now, last := (z.nch n).last } else z).tim = z.tim := by
    intro z n
    split <;> rfl
  have heng : ∀ z : State, (z.when z.fil.eng.run (fun s =>
      s.setEng { PEng.init with pend := some s.now, last := s.fil.eng.last })).tim = z.tim := by
    intro z
    unfold State.when
    split <;> rfl
  exact (foldl_keeps State.tim hchan _ _).trans ((heng _).trans (privRec_tim s))

theorem answerAll_tim (w st d b s) : (answerAll w st d b s).tim = s.tim :=
  State.of_body State.tim (fun _ => rfl) (answerAll_body ..)

/-- No step waits once the steps that waited have been made. -/
theorem applySteps_none (s : State) : (applySteps s).tim.steps = [] := by
  have hsteps : (s.tim.steps.foldl applyStep
      { s with tim := { s.tim with steps := [], stepAt := some s.now } }).tim.steps = [] :=
    State.of_untimed (fun z => z.tim.steps) (fun _ => rfl) (foldl_keeps State.untimed applyStep_untimed ..)
  unfold applySteps
  rw [answerAll_tim, timeEvent_tim, stepRecs_tim, restartFilters_tim]
  exact hsteps

/-! ### Setting (R303, R305) -/

/-- Where S is set and Δ stands at 0, S is the estimate of the selected domain (R291). -/
theorem State.st_eq_dom {s : State} (hset : s.tim.isSet = true) (hd : s.tim.delta = 0) (hs : s.tim.slope = 0) :
    s.st = s.dom s.tim.sel := by
  simp [State.st, State.stAt, State.deltaAt, State.dom, hset, hd, hs]

/-- S set at its boundary: from the selected domain, with Δ at 0. -/
def setTime (s : State) : State :=
  timeEvent 4 s.tim.sel (stepRecs (restartFilters { s with tim := { s.tim with
    isSet := true, delta := 0, slope := 0, initPend := false, stepAt := some s.now } }))

theorem setTime_tim (s : State) : (setTime s).tim = { s.tim with
    isSet := true, delta := 0, slope := 0, initPend := false, stepAt := some s.now } := by
  rw [setTime, timeEvent_tim, stepRecs_tim, restartFilters_tim]

theorem exec_timeSet {t : Nat} {s : State} (hp : s.tim.initPend = true) (hs : s.tim.isSet = false) (hr : s.running = false)
    (hg : (s.begin t).onGrid s.framePeriod = true) : exec (.timeSet t) s = .next (setTime (s.begin t)) := by
  have hgrid : (s.begin t).onGrid (s.begin t).framePeriod = true := hg
  refine congrArg Host.Outcome.next ((if_pos ?_).trans rfl)
  simp only [State.begin_tim, State.begin_running, hp, hs, hr, hgrid, Bool.not_false, Bool.and_true]

/-! ### Holdover, reversion and the pair (R297, R298, R300, R306) -/

@[simp] theorem State.setDmn_rate (s : State) (d x k) : (s.setDmn d x).rate k = s.rate k := by
  rw [State.rate, State.rg64, State.setDmn_rg, State.setDmn_rg]
  rfl

/-- A LOCKED domain whose Syncs or Announces have stopped goes on at its mean rate. -/
theorem exec_syncTimeout {t d : Nat} {s z : State} (hz : z = dropMasters d (s.begin t)) (hd : d < 2) (hst : (z.dmn d).st = 3)
    (hlost : (z.dmn d).lastSync + 3 * (z.dmn d).interval ≤ z.now ∨ (z.dmn d).best = none) :
    exec (.syncTimeout t d) s = .next (reselect (changeRate d ((z.dmn d).meanRate (z.rate d)) (setDomState d 4 z))) := by
  change execSyncTimeout t d s = _
  have hrate : (setDomState d 4 z).rate d = z.rate d := State.setDmn_rate ..
  rw [execSyncTimeout, Nat.mod_eq_of_lt hd, ← hz]
  refine congrArg Host.Outcome.next ((if_pos ⟨hst, hlost.imp_right fun h => by rw [h]; rfl⟩).trans ?_)
  rw [← hrate]

theorem exec_revert {t : Nat} {s : State} (ha : s.rb .timCtrl 1 = true) (hr : s.rb .timCtrl 2 = true) (hsel : s.tim.sel = 1)
    (hst : s.tim.d0.st = 3) (ht : s.tim.d0.lockedAt + s.rf .timCtrl 8 8 * 400000000 ≤ (s.begin t).now) :
    exec (.revert t) s = .next (switchTo 0 (s.begin t)) := by
  refine congrArg Host.Outcome.next (if_pos ?_)
  simp only [State.begin_rb, State.begin_tim, State.begin_rf, ha, hr, hsel, hst, ht, decide_true, Bool.and_true]

theorem exec_holdoverLimit {t d : Nat} {s : State} (hd : d = s.tim.sel) (hh : s.tim.holdover = true)
    (hr : (s.dmn d).hoRaised = false) (ht : (s.dmn d).hoStart + s.rf .timDCfg 16 8 d * 24000000000 ≤ (s.begin t).now) :
    exec (.holdoverLimit t) s
      = .next (fault 0x0610 .l1 (((s.begin t).setDmn d { s.dmn d with hoRaised := true }).rsb .timEvt 7 true) d) := by
  subst hd
  refine congrArg Host.Outcome.next (if_pos ?_)
  simp only [State.begin_rf, State.begin_tim, State.begin_dmn, hh, hr, ht, decide_true, Bool.not_false, Bool.and_true]

theorem exec_pairTime {t a : Nat} {s : State} (ha : s.tim.diffSince = some a) (hf : s.tim.follow = true)
    (hr : s.tim.pairRaised = false) (ht : a + 400000000 ≤ max s.now t) : exec (.pairTime t) s = .next (fault 0x0612 .l1
      (({ s.begin t with tim := { s.tim with pairRaised := true } } : State).rsb .timEvt 9 true)) := by
  change execPairTime t s = _
  simp only [execPairTime, State.begin_tim, ha]
  exact congrArg Host.Outcome.next (if_pos ⟨hf, by simp [hr], ht⟩)

/-! ### Pulses per second (R307) -/

/-- A state without its clock synthesis but for the presence of PPS_IN. -/
def State.unclocked (s : State) : State := { s with clk := { State.reset.clk with ppsOk := s.clk.ppsOk } }

/-- What the station PLL makes of an edge of PPS_IN stays within it (R309, R312). -/
theorem ppsEdge_unclocked (s : State) : (ppsEdge s).unclocked = s.unclocked := by
  unfold ppsEdge
  split
  · rfl
  · refine (foldl_keeps State.unclocked (fun z c => ?_) _ _).trans ?_
    · dsimp only
      split
      · rfl
      · split <;> rfl
    · split <;> rfl

/-- The edge as it is stamped, before the station PLL follows it. -/
def stampPps (s : State) : State :=
  { s.rs .timPpsin s.short with
    tim := { s.tim with lastPps := some s.now, ppsLost := false }, clk := { s.clk with ppsOk := true } }

theorem exec_ppsInEdge (t : Nat) (s : State) : exec (.ppsInEdge t) s = .next (ppsEdge (stampPps (s.begin t))) := rfl

/-- A quantity beside the clock synthesis is after an edge as it was stamped. -/
theorem ppsEdge_of {β : Type} (q : State → β) (hq : ∀ s, q s.unclocked = q s) (s : State) : q (ppsEdge s) = q s := by
  rw [← hq, ppsEdge_unclocked, hq]

theorem exec_ppsinLoss {t e : Nat} {s z : State} (he : s.tim.lastPps = some e) (hl : s.tim.ppsLost = false)
    (ht : e + 440000000 ≤ max s.now t) (hz : z = (timeEvent 6 0 { s.begin t with
      tim := { s.tim with ppsLost := true }, clk := { s.clk with ppsOk := false } }).rsb .clkEvt 3 true) :
    exec (.ppsinLoss t) s = .next (if z.rb .clkCtrl 0 = true ∧ z.rf .clkCtrl 1 2 = 1
      then fault 0x0712 .l1 ((gateOff z).rsb .clkEvt 2 true) else z) := by
  subst hz
  change execPpsinLoss t s = _
  have hlate : ¬ ((s.begin t).now < e + 440000000 ∨ s.tim.ppsLost = true) := by
    rw [hl]
    rintro (h | h)
    · exact Nat.not_lt.mpr ht h
    · cases h
  simp only [execPpsinLoss, State.begin_tim, he, if_neg hlate]
  exact congrArg Host.Outcome.next
    (if_congr (Bool.and_eq_true_iff.trans (and_congr_right' decide_eq_true_iff)) rfl rfl)

/-- The fall of PPS_OUT writes no register. -/
theorem ppsFall_regs (s) : (ppsFall s).regs = s.regs := by
  unfold ppsFall
  split <;> rfl

theorem exec_ppsOut {t : Nat} {s z : State} (hz : z = ppsFall (s.begin t)) (hon : z.ppsOn = true)
    (hsec : (z.ticks / 400000000).toNat ≠ z.tim.ppsSec) :
    exec (.ppsOut t) s = .next (({ z with tim := { z.tim with
      ppsSec := (z.ticks / 400000000).toNat, ppsHigh := some (z.now + s.rf .timPpsout 8 8 * 400000) } } : State).put (.pps true)) := by
  have hwidth : z.rf .timPpsout 8 8 = s.rf .timPpsout 8 8 := by
    rw [hz, State.rf, State.rg_of_regs (ppsFall_regs _)]
    rfl
  rw [← hwidth]
  subst hz
  exact congrArg Host.Outcome.next (if_pos (by simp only [hon, hsec, decide_true, Bool.and_true, ne_eq, not_false_eq_true]))

theorem ppsFall_over {s : State} {e : Nat} (he : s.tim.ppsHigh = some e) (h : e ≤ s.now ∨ s.ppsOn = false) :
    ppsFall s = ({ s with tim := { s.tim with ppsHigh := none } } : State).put (.pps false) := by
  refine if_pos ?_
  rw [he]
  rcases h with h | h <;> simp [h]

/-! ### Offset writes (R301) -/

/-- A host write to O_d is a correction by what it changes. -/
theorem writeEffect_offset {n : RName} (hn : n = .timDOfsl ∨ n = .timDOfsh ∨ n = .timDOfsf) (m d : Nat) (v : Word) (s : State) :
    writeEffect m ⟨n, d, 0⟩ v s = (correct d ((storeReg ⟨n, d, 0⟩ v s).ofs d - s.ofs d) s, .ok) := by
  rcases hn with rfl | rfl | rfl <;> exact writeEffect_tim (Reg.unit_of rfl)

/-- Settles O47: each event finds its condition; what it reports leaves the rest of station time. -/
theorem timeEventsTakeEffect : Obligations.TimeEventsTakeEffect := by
  refine ⟨fun t d s z => exec_syncTimeout, fun t s b hb ha hr hsel hst ht => ?_, fun t s d b hb hd hh hr ht => ?_,
    fun t s hp hs hr hg => ⟨_, exec_timeSet hp hs hr hg, ?_⟩, fun s hne hg => ⟨?_, applySteps_none _⟩,
    fun t s => ⟨_, exec_ppsInEdge t s, ?_⟩, fun t s e z => exec_ppsinLoss, fun t s z => exec_ppsOut, fun s e => ppsFall_over,
    fun t s a => exec_pairTime, fun t m addr v s b d n hb hn h => ?_⟩
  · subst hb
    exact ⟨exec_revert ha hr hsel hst ht, fun hfit =>
      switchTo_sel (by simp [hsel]) (by simp [State.dmn, hst]) fun _ => hfit⟩
  · subst hb
    exact exec_holdoverLimit hd hh hr ht
  · have hset : (setTime (s.begin t)).tim.isSet = true := by rw [setTime_tim]
    have hdelta : (setTime (s.begin t)).tim.delta = 0 := by rw [setTime_tim]
    have hslope : (setTime (s.begin t)).tim.slope = 0 := by rw [setTime_tim]
    exact ⟨hset, hdelta, timeEvent_sets (by decide) .., State.st_eq_dom hset hdelta hslope⟩
  · exact congrArg Host.Outcome.next (if_pos ⟨by simpa using hne, hg⟩)
  · have htim : (ppsEdge (stampPps (s.begin t))).tim = (stampPps (s.begin t)).tim := ppsEdge_of State.tim (fun _ => rfl) _
    refine ⟨?_, ?_, ?_, ppsEdge_of (fun z => z.clk.ppsOk) (fun _ => rfl) _,
      ppsEdge_of (fun z => ({ z with regs := s.regs, tim := s.tim, clk := s.clk } : State)) (fun _ => rfl) _⟩
    · exact (ppsEdge_of (State.rg · .timPpsin) (fun _ => rfl) _).trans ((s.begin t).rg_rs_same .timPpsin _ 0 0)
    · rw [htim]
      rfl
    · rw [htim]
      rfl
  · subst hb
    rw [exec_write_accepted rfl h, writeEffect_offset hn]
    rfl

end Sys2Proof.Machine
end

section
/-!
PROOFS. Start-up: what a fault does in INIT, the choice of the firmware's bank, and the end of INIT.
-/
namespace Sys2Proof.Machine

/-! ### The log only grows (R447) -/

/-- A measure that no step of a fold lowers, the fold does not lower. -/
theorem le_foldl {σ α : Type} (q : σ → Nat) {g : σ → α → σ} (h : ∀ s x, q s ≤ q (g s x)) (l : List α) (s : σ) :
    q s ≤ q (l.foldl g s) := by
  induction l generalizing s with
  | nil => exact Nat.le_refl _
  | cons x r ih => exact (h s x).trans (ih _)

@[simp] theorem ite_flt (c : Prop) [Decidable c] (a b : State) : (if c then a else b).flt = if c then a.flt else b.flt :=
  apply_ite ..

@[simp] theorem State.when_flt (s : State) (b : Bool) (f : State → State) (h : ∀ s, (f s).flt = s.flt) :
    (s.when b f).flt = s.flt := by
  cases b with
  | false => rfl
  | true => exact h s

@[simp] theorem State.rsf_flt (s : State) (n lo len v i j) : (s.rsf n lo len v i j).flt = s.flt := (rfl)
@[simp] theorem State.rsb_flt (s : State) (n k b i j) : (s.rsb n k b i j).flt = s.flt := (rfl)
@[simp] theorem State.rsat_flt (s : State) (n lo len a i j) : (s.rsat n lo len a i j).flt = s.flt := (rfl)

@[simp] theorem pushOn_flt (q r s) : (pushOn q r s).1.flt = s.flt := by
  simp [pushOn]

@[simp] theorem pushAll_flt (r s) : (pushAll r s).1.flt = s.flt :=
  foldl_keeps (fun x : State × Nat => x.1.flt) (fun _ _ => pushOn_flt ..) _ _

@[simp] theorem logEntry_logged (f lvl esc first s) : (logEntry f lvl esc first s).flt.logged = s.flt.logged + 1 := by
  simp [logEntry]

@[simp] theorem capture_flt (c f lvl s) : (capture c f lvl s).flt = s.flt := (rfl)

/-- A raised fault is logged once. -/
theorem raise0_logged (f s) : (raise0 f s).1.flt.logged = s.flt.logged + 1 := by
  simp [raise0]

theorem overflowFaults_logged (fuel n s) : s.flt.logged ≤ (overflowFaults fuel n s).flt.logged := by
  induction fuel generalizing n s with
  | zero => exact Nat.le_refl _
  | succ k ih =>
    cases n with
    | zero => exact Nat.le_refl _
    | succ n =>
      have hone := raise0_logged { code := 0x0BC2, base := .l0 } s
      exact (by omega : s.flt.logged ≤ _).trans (ih _ _)

theorem emit_logged (kind ident d s x) : s.flt.logged ≤ (emit kind ident d s x).flt.logged := by
  have hpush := overflowFaults_logged 8 (pushAll ⟨kind, ident, d, s.short, x⟩ s).2 (pushAll ⟨kind, ident, d, s.short, x⟩ s).1
  rwa [pushAll_flt] at hpush

theorem replaceCause_logged (k s) : s.flt.logged ≤ (replaceCause k s).flt.logged := by
  unfold replaceCause
  split
  · exact Nat.le_refl _
  · exact emit_logged 3 2 (2 ^ k) (s.rsb .fltReplace k true) 0

/-! Trigger units write no log. -/

@[simp] theorem placeRec_flt (b s) : (placeRec b s).flt = s.flt :=
  (congrArg State.flt (placeRec_frame b s s.rcd) :)

@[simp] theorem placeMark_flt (b s) : (placeMark b s).flt = s.flt := by
  simp [placeMark]

@[simp] theorem startPulse_flt (o s) : (startPulse o s).flt = s.flt := (rfl)

@[simp] theorem fireOutputs_flt (u s) : (fireOutputs u s).flt = s.flt := by
  simp [fireOutputs]

@[simp] theorem State.setTrg_flt (s : State) (u x) : (s.setTrg u x).flt = s.flt := (rfl)

@[simp] theorem fireOne_flt (c o m s) : (fireOne c o m s).flt = s.flt := by
  simp [fireOne]

@[simp] theorem fireUnits_flt (ms s) : (fireUnits ms s).flt = s.flt := by
  have hfold (l : List MarkInfo) (c : Bool) (o : MarkInfo → Bool) (x : State) :
      (l.foldl (fun s m => fireOne c (o m) m s) x).flt = x.flt := foldl_keeps State.flt (fun _ _ => fireOne_flt ..) _ _
  simp [fireUnits, hfold, markCoinc]

@[simp] theorem faultTrigger_flt (code lvl s) : (faultTrigger code lvl s).flt = s.flt :=
  fireUnits_flt ..

/-! Replies may log a lost event record. -/

theorem mailSignal_logged (ident m c s) : s.flt.logged ≤ (mailSignal ident m c s).flt.logged := by
  unfold mailSignal
  split
  · exact emit_logged 5 ident c s 0
  · split
    · exact emit_logged 5 ident c s 0
    · exact Nat.le_refl _

theorem State.when_logged (s : State) (b : Bool) {f : State → State} (h : ∀ s, s.flt.logged ≤ (f s).flt.logged) :
    s.flt.logged ≤ (s.when b f).flt.logged := by
  cases b with
  | false => exact Nat.le_refl _
  | true => exact h s

theorem ringBell_logged (c s) : s.flt.logged ≤ (ringBell c s).flt.logged :=
  State.when_logged (s.rsb .mbxDbell c true) _ fun _ => mailSignal_logged ..

theorem mailPush_logged (c b s) : s.flt.logged ≤ (mailPush c b s).flt.logged :=
  ringBell_logged c (s.setChan c _)

theorem deliver_logged (r s) : s.flt.logged ≤ (deliver r s).flt.logged := by
  unfold deliver
  split
  · exact mailPush_logged _ _ (s.put _)
  · split
    · simp [ringAdvance]
    · exact Nat.le_refl _

theorem answer_logged (o st d b s) : s.flt.logged ≤ (answer o st d b s).flt.logged := by
  unfold answer
  dsimp only
  split
  · have hcache : ∀ r z, (cacheReply r z).flt = z.flt := fun r z => by simp [cacheReply]
    rw [hcache]
    exact deliver_logged _ (s.setPath _ _)
  · exact Nat.le_refl _

theorem answerAll_logged (w st d b s) : s.flt.logged ≤ (answerAll w st d b s).flt.logged :=
  le_foldl (fun s : State => s.flt.logged) (fun _ _ => le_foldl (fun s : State => s.flt.logged) (fun _ _ => answer_logged ..) _ _) _ _

/-! ### Faults in INIT (R20, R21, R445) -/

/-- The state in which a raised fault's level acts. -/
def raised (f : FaultArg) (s : State) : State :=
  faultTrigger f.code (raise0 f s).2.2 (overflowFaults 8 (raise0 f s).2.1 (raise0 f s).1)

theorem raise_eq (f : FaultArg) (s : State) (blocked : Bool) :
    raise f s blocked = levelAction f.code (raise0 f s).2.2 blocked (raised f s) := rfl

theorem raised_core (f s) : (raised f s).core = s.core :=
  (faultTrigger_core ..).trans (State.core_of_body (by simp))

theorem raised_logged (f s) : s.flt.logged < (raised f s).flt.logged := by
  have hone := raise0_logged f s
  have hmore := overflowFaults_logged 8 (raise0 f s).2.1 (raise0 f s).1
  rw [raised, faultTrigger_flt]
  omega

theorem raise0_level (f s) : (raise0 f s).2.2 = if s.unack (f.code / 256) then levelUp f.base else f.base := by
  simp [raise0]

/-- Outside RUN and PRECHARGE a fault of level L1 does nothing, even raised to L2. -/
theorem raise_l1 {f : FaultArg} (hf : f.base = .l1) {s : State} (hr : s.mode ≠ .run) (hp : s.mode ≠ .precharge) (blocked : Bool) :
    raise f s blocked = raised f s := by
  have hm : (raised f s).mode = s.mode := State.of_core State.mode (fun _ => rfl) (raised_core f s)
  rw [raise_eq, raise0_level, hf]
  split
  · exact stopNow_idle (hm ▸ hr) (hm ▸ hp)
  · rfl

/-- In INIT a fault of level L3 asks for SF1. -/
theorem raise_l3_init {f : FaultArg} (hf : f.base = .l3) {s : State} (hm : s.mode = .init) (blocked : Bool) :
    ∃ trip, raise f s blocked = askSf1 trip (abortBist (raised f s)) := by
  have hmode : (abortBist (raised f s)).mode = .init :=
    (abortBist_mode _).trans ((State.of_core State.mode (fun _ => rfl) (raised_core f s)).trans hm)
  have hlvl : (raise0 f s).2.2 = .l3 := by
    rw [raise0_level, hf]
    exact ite_id _
  refine ⟨decide (f.code ≠ 0x0AB1), ?_⟩
  rw [raise_eq, hlvl]
  simp only [levelAction, tripNow, hmode]

/-! ### The firmware's bank (R469) -/

/-- Nothing but registers, reports and records has changed, and the log is no shorter. -/
def State.reportsTo (s x : State) : Prop := x.core = s.core ∧ s.flt.logged ≤ x.flt.logged

theorem State.reportsTo.trans {x y z : State} (h : x.reportsTo y) (g : y.reportsTo z) : x.reportsTo z :=
  ⟨g.1.trans h.1, h.2.trans g.2⟩

theorem State.reportsTo.mode {s x : State} (h : s.reportsTo x) : x.mode = s.mode := State.of_core State.mode (fun _ => rfl) h.1

theorem State.reportsTo.pwr {s x : State} (h : s.reportsTo x) : x.pwr = s.pwr := State.of_core State.pwr (fun _ => rfl) h.1

/-- A fault of level L1 in INIT is a report. -/
theorem raise_reports {f : FaultArg} (hf : f.base = .l1) {s : State} (hm : s.mode = .init) : s.reportsTo (raise f s) := by
  rw [raise_l1 hf (by simp [hm]) (by simp [hm])]
  exact ⟨raised_core f s, (raised_logged f s).le⟩

theorem replaceCause_reports (k s) : State.reportsTo s (replaceCause k s) := by
  refine ⟨?_, replaceCause_logged k s⟩
  unfold replaceCause
  split
  · rfl
  · exact State.core_of_body (emit_body ..)

theorem rs_reports (s : State) (n v i j) : s.reportsTo (s.rs n v i j) := ⟨rfl, Nat.le_refl _⟩

theorem foldl_reports {α : Type} {g : State → α → State} (h : ∀ s x, State.reportsTo s (g s x)) (l : List α) (s : State) :
    s.reportsTo (l.foldl g s) :=
  ⟨foldl_keeps State.core (fun s x => (h s x).1) l s, le_foldl (fun s : State => s.flt.logged) (fun s x => (h s x).2) l s⟩

theorem rsb_reports (s : State) (n k b i j) : s.reportsTo (s.rsb n k b i j) := rs_reports ..

/-- A memory fault of level L1 in INIT is a report. -/
theorem memFault_reports (k acc addr m) {s : State} (hm : s.mode = .init) : s.reportsTo (memFault k .l1 acc addr m s) := by
  have hevt := rsb_reports s .memEvt k true 0 0
  exact hevt.trans (raise_reports rfl (hevt.mode.trans hm))

/-- Retirements put back in INIT are registers and at most a fault of level L1 (R434). -/
theorem reenter_reports (l) {s : State} (hm : s.mode = .init) : s.reportsTo (reenter l s) := by
  have hput : s.reportsTo (l.foldl (fun s p => s.rs .memRet p.1 p.2) s) := foldl_reports (fun _ _ => rs_reports ..) l s
  unfold reenter
  dsimp only
  split
  · exact hput.trans ((memFault_reports 10 5 0 none (hput.mode.trans hm)).trans (replaceCause_reports ..))
  · exact hput

/-- What the firmware puts into registers before it puts back retired pages. -/
def loadRegs (s : State) : State :=
  let s := (List.range 64).foldl (fun s k => s.rs .clkBand (Config.bandRecord k) k) s
  let s := (List.range 32).foldl (fun s c => s.rs .mbxBind (bindingOf c) c) s
  ((s.rs .memHostwin Config.hostWin).rsb .memCtrl 1 true).rs .pwrBootcfg s.pwr.bistFlash

theorem loadRegs_reports (s) : State.reportsTo s (loadRegs s) :=
  (foldl_reports (fun _ _ => rs_reports ..) _ s).trans <| (foldl_reports (fun _ _ => rs_reports ..) _ _).trans <|
    (rs_reports ..).trans <| (rsb_reports ..).trans (rs_reports ..)

/-- One entry of the configuration in flash. -/
theorem setFlash_reports (s : State) (p : Nat × Word) :
    s.reportsTo { s with regs := Tab.set regReset s.regs p.1 p.2 } := ⟨rfl, Nat.le_refl _⟩

theorem loadFirmware_eq (s : State) : loadFirmware s =
    if (reenter ((loadRegs s).retKept 1) (loadRegs s)).pwr.cfgOk then
      (reenter ((loadRegs s).retKept 1) (loadRegs s)).pwr.cfgFlash.foldl
        (fun s p => { s with regs := Tab.set regReset s.regs p.1 p.2 }) (reenter ((loadRegs s).retKept 1) (loadRegs s))
    else fault 0x0DE5 .l1 (reenter ((loadRegs s).retKept 1) (loadRegs s)) := rfl

/-- What the firmware loads in INIT is registers and at most faults of level L1. -/
theorem loadFirmware_reports {s : State} (hm : s.mode = .init) : s.reportsTo (loadFirmware s) := by
  have hregs := loadRegs_reports s
  have hret := hregs.trans (reenter_reports ((loadRegs s).retKept 1) (hregs.mode.trans hm))
  rw [loadFirmware_eq]
  split
  · exact hret.trans (foldl_reports setFlash_reports _ _)
  · exact hret.trans (raise_reports rfl (hret.mode.trans hm))

/-- The self-test that the firmware starts touches neither the power registers nor the log. -/
theorem startFirmware_loads (s : State) :
    (startFirmware s).pwr = (loadFirmware s).pwr ∧ (startFirmware s).flt = (loadFirmware s).flt := by
  unfold startFirmware
  dsimp only
  split <;> exact ⟨rfl, rfl⟩

theorem startFirmware_pwr {s : State} (hm : s.mode = .init) : (startFirmware s).pwr = s.pwr :=
  (startFirmware_loads s).1.trans (loadFirmware_reports hm).pwr

theorem startFirmware_logged {s : State} (hm : s.mode = .init) : s.flt.logged ≤ (startFirmware s).flt.logged := by
  rw [(startFirmware_loads s).2]
  exact (loadFirmware_reports hm).2

/-- Whether bank `b` may run: its signature verifies, and its programming is not broken off (R469, R471). -/
def bankOk (okA okB : Bool) (p : PwrSt) (b : Nat) : Bool := (if b = 0 then okA else okB) && decide (p.broken ≠ some b)

/-- The bank that is tried first. -/
def firstBank (p : PwrSt) : Nat := if p.trialPend then 1 - p.prefFlash else p.prefFlash

/-- The verdict on bank `b` of a state whose power registers were `p0`. -/
def noteBank (okA okB : Bool) (p0 : PwrSt) (b : Nat) (p : PwrSt) : PwrSt :=
  if b = 0 then { p with validA := bankOk okA okB p0 0 } else { p with validB := bankOk okA okB p0 1 }

/-- Both banks have their verdict. -/
def noteBoth (okA okB : Bool) (p : PwrSt) : PwrSt :=
  noteBank okA okB p (1 - firstBank p) (noteBank okA okB p (firstBank p) p)

/-- The power registers when the first bank runs. -/
def pwrFirst (okA okB : Bool) (p : PwrSt) : PwrSt :=
  { noteBank okA okB p (firstBank p) p with runBank := firstBank p, boot := if p.trialPend then 3 else 2, trialPend := false }

/-- The power registers when the other bank runs. -/
def pwrOther (okA okB : Bool) (p : PwrSt) : PwrSt :=
  { noteBoth okA okB p with runBank := 1 - firstBank p, boot := 2, trialPend := false }

/-- The power registers when neither bank may run. -/
def pwrNone (okA okB : Bool) (p : PwrSt) : PwrSt := { noteBoth okA okB p with boot := 4, trialPend := false }

/-- The first bank's firmware starts. -/
def bootFirst (okA okB : Bool) (s : State) : State := startFirmware (s.setPwr (pwrFirst okA okB s.pwr))

/-- The other bank's firmware starts, with a fault. -/
def bootOther (okA okB : Bool) (s : State) : State := startFirmware (fault 0x0DE3 .l1 (s.setPwr (pwrOther okA okB s.pwr)))

/-- Neither bank may run. -/
def bootNone (okA okB : Bool) (s : State) : State := fault 0x0DE4 .l3 (s.setPwr (pwrNone okA okB s.pwr))

/-- The firmware of the chosen bank runs. -/
def bootBank (okA okB : Bool) (s : State) : State :=
  if bankOk okA okB s.pwr (firstBank s.pwr) then bootFirst okA okB s
  else if bankOk okA okB s.pwr (1 - firstBank s.pwr) then bootOther okA okB s
  else bootNone okA okB s

theorem exec_bootVerified {t okA okB} {s : State} (hm : s.mode = .init) (hb : s.pwr.boot = 1) (hf : s.pwr.fillDone = true) :
    exec (.bootVerified t okA okB) s = .next (bootBank okA okB (reenter (s.retKept 0) (s.begin t))) := by
  have hgo : ¬(s.mode ≠ .init ∨ s.pwr.boot ≠ 1 ∨ ¬s.pwr.fillDone) := by simp [hm, hb, hf]
  exact congrArg Host.Outcome.next (if_neg (c := (s.begin t).mode ≠ .init ∨ (s.begin t).pwr.boot ≠ 1 ∨ ¬(s.begin t).pwr.fillDone) hgo)

theorem bootFirst_pwr (okA okB) {s : State} (hm : s.mode = .init) : (bootFirst okA okB s).pwr = pwrFirst okA okB s.pwr :=
  startFirmware_pwr hm

theorem bootOther_spec (okA okB) {s : State} (hm : s.mode = .init) : (bootOther okA okB s).pwr = pwrOther okA okB s.pwr
    ∧ s.flt.logged < (bootOther okA okB s).flt.logged := by
  have hset : (s.setPwr (pwrOther okA okB s.pwr)).mode = .init := hm
  have hf : (s.setPwr (pwrOther okA okB s.pwr)).reportsTo (fault 0x0DE3 .l1 (s.setPwr (pwrOther okA okB s.pwr))) :=
    raise_reports rfl hset
  have hlog : (s.setPwr (pwrOther okA okB s.pwr)).flt.logged < (fault 0x0DE3 .l1 (s.setPwr (pwrOther okA okB s.pwr))).flt.logged := by
    rw [fault, raise_l1 (f := { code := 0x0DE3, base := .l1 }) rfl (by simp [hset]) (by simp [hset])]
    exact raised_logged ..
  exact ⟨(startFirmware_pwr (hf.mode.trans hset)).trans hf.pwr, hlog.trans_le (startFirmware_logged (hf.mode.trans hset))⟩

/-- The self-test's abort leaves the power registers, and its replies only add to the log. -/
theorem abortBist_keeps (s : State) : (abortBist s).pwr = s.pwr ∧ s.flt.logged ≤ (abortBist s).flt.logged := by
  unfold abortBist
  dsimp only
  split
  · exact ⟨(State.of_body State.pwr (fun _ => rfl) (answerAll_body ..) :), le_of_eq_of_le (by rfl) (answerAll_logged ..)⟩
  · exact ⟨rfl, Nat.le_refl _⟩

theorem askSf1_keeps (trip s) : (askSf1 trip s).pwr = s.pwr ∧ (askSf1 trip s).flt = s.flt := by
  unfold askSf1
  split <;> exact ⟨rfl, rfl⟩

/-- With neither bank the fault asks for SF1, and the module stays in INIT. -/
theorem bootNone_spec (okA okB) {s : State} (hm : s.mode = .init) : (bootNone okA okB s).pwr = pwrNone okA okB s.pwr
    ∧ (bootNone okA okB s).mode = .init ∧ s.flt.logged < (bootNone okA okB s).flt.logged := by
  obtain ⟨trip, htrip⟩ := raise_l3_init (f := { code := 0x0DE4, base := .l3 }) (s := s.setPwr (pwrNone okA okB s.pwr)) rfl hm false
  have hcore := raised_core { code := 0x0DE4, base := .l3 } (s.setPwr (pwrNone okA okB s.pwr))
  have hlog := raised_logged { code := 0x0DE4, base := .l3 } (s.setPwr (pwrNone okA okB s.pwr))
  have habort := abortBist_keeps (raised { code := 0x0DE4, base := .l3 } (s.setPwr (pwrNone okA okB s.pwr)))
  rw [bootNone, fault, htrip, (askSf1_keeps ..).1, (askSf1_keeps ..).2, askSf1_mode, abortBist_mode, habort.1]
  exact ⟨State.of_core State.pwr (fun _ => rfl) hcore, (State.of_core State.mode (fun _ => rfl) hcore).trans hm,
    hlog.trans_le habort.2⟩

/-! ### The end of programming (R471) -/

theorem exec_programmingDone {t ok} {s : State} (hb : s.pwr.progBusy = true) {p : PwrSt}
    (hp : p = { s.pwr with progBusy := false, broken := if ok then none else s.pwr.broken }) :
    exec (.programmingDone t ok) s = .next (((s.begin t).setPwr
      (if p.runBank = 0 then { p with validB := ok } else { p with validA := ok })).rsf .pwrFwstat 16 16
        (if ok then 0 else statusCode .check)) := by
  subst hp
  exact congrArg Host.Outcome.next (if_pos (c := (s.begin t).pwr.progBusy = true) hb)

/-- The result of programming stands in PWR_FWSTAT. -/
theorem programming_status (s : State) (ok : Bool) :
    (s.rsf .pwrFwstat 16 16 (if ok then 0 else statusCode .check)).rf .pwrFwstat 16 16 = if ok then 0 else statusCode .check := by
  rw [State.rf_rsf_same _ _ (by decide)]
  cases ok <;> rfl

end Sys2Proof.Machine
end

section
/-!
PROOFS. The end of INIT: the mailboxes' lock and the pair's epochs stay through the bootloader's reset.
-/
namespace Sys2Proof.Machine

/-! ### The words that the end of INIT rests on -/

/-- The mailboxes' control and the pair's control and epochs. -/
def startRegs : List RName := [.mbxCtrl, .redCtrl, .redEpoch, .redEpochseen]

/-- What stands in them. -/
def State.startWords (s : State) : List Word := startRegs.map (s.rg ·)

theorem State.rs_startWords (s : State) {n : RName} (v : Word) {i j : Nat}
    (h : ∀ m ∈ startRegs, regAddr m 0 0 ≠ regAddr n i j) : (s.rs n v i j).startWords = s.startWords :=
  List.map_congr_left fun m hm => State.rg_rs_other s v (h m hm)

/-- The blocks of these registers. -/
def startBlocks : List Nat := [2, 16]

/-- A write to another block leaves them. -/
theorem State.rs_startWords_block (s : State) {n : RName} (v : Word) {i j : Nat} (hn : n.spec.off / 65536 ∉ startBlocks)
    (hi : i < n.spec.n) (hj : j < n.spec.n2) : (s.rs n v i j).startWords = s.startWords := by
  have hblock : ∀ m ∈ startRegs, regAddr m 0 0 / 65536 ∈ startBlocks := by decide
  refine s.rs_startWords v fun m hm e => hn ?_
  rw [← regAddr_block hi hj, ← e]
  exact hblock m hm

/-- The single registers that reports and the reset of a master write. -/
abbrev resetRegs : List RName := [.fltStat, .fltLogptr, .fltUnack, .mbxDbell, .mbxNote, .mbxCross]

@[simp] theorem State.rs_reset_startWords (s : State) {n : RName} (v : Word) (hn : n ∈ resetRegs) :
    (s.rs n v).startWords = s.startWords := by
  have hsingle : ∀ n ∈ resetRegs, ∀ m ∈ startRegs, regAddr m 0 0 ≠ regAddr n 0 0 := by decide
  exact s.rs_startWords v (hsingle n hn)

@[simp] theorem State.rsf_startWords (s : State) (n lo len v i j) :
    (s.rsf n lo len v i j).startWords = (s.rs n (setField (s.rg n i j) lo len v) i j).startWords := rfl
@[simp] theorem State.rsb_startWords (s : State) (n k b i j) :
    (s.rsb n k b i j).startWords = (s.rsf n k 1 (if b then 1 else 0) i j).startWords := rfl
@[simp] theorem State.rsat_startWords (s : State) (n lo len a i j) :
    (s.rsat n lo len a i j).startWords = (s.rsf n lo len (satAdd (2 ^ len - 1) (s.rf n lo len i j) a) i j).startWords := rfl
@[simp] theorem State.put_startWords (s : State) (o) : (s.put o).startWords = s.startWords := rfl
@[simp] theorem State.setPath_startWords (s : State) (q p) : (s.setPath q p).startWords = s.startWords := rfl
@[simp] theorem State.setChan_startWords (s : State) (c x) : (s.setChan c x).startWords = s.startWords := rfl
@[simp] theorem State.startWords_update (s : State) (m b f) :
    ({ s with mode := m, sub := b, flt := f } : State).startWords = s.startWords := rfl

@[simp] theorem ite_startWords (c : Prop) [Decidable c] (a b : State) :
    (if c then a else b).startWords = if c then a.startWords else b.startWords := apply_ite ..

@[simp] theorem State.when_startWords (s : State) (b : Bool) (f : State → State) (h : ∀ s, (f s).startWords = s.startWords) :
    (s.when b f).startWords = s.startWords := by
  cases b with
  | false => rfl
  | true => exact h s

@[simp] theorem pushOn_startWords (q r s) : (pushOn q r s).1.startWords = s.startWords := by
  simp [pushOn]

@[simp] theorem pushAll_startWords (r s) : (pushAll r s).1.startWords = s.startWords :=
  foldl_keeps (fun x : State × Nat => x.1.startWords) (fun _ _ => pushOn_startWords ..) _ _

@[simp] theorem State.rs_fltLog_startWords (s : State) (v k j) (hj : j < 4) :
    (s.rs .fltLog v (k % 256) j).startWords = s.startWords :=
  s.rs_startWords_block (n := .fltLog) v (by decide) (Nat.mod_lt k (by decide)) hj

@[simp] theorem logEntry_startWords (f lvl esc first s) : (logEntry f lvl esc first s).startWords = s.startWords := by
  simp [logEntry]

/-- The registers of the 14 fault classes. -/
abbrev classRegs : List RName := [.fltFecode, .fltFeaddr, .fltFetimel, .fltFetimeh, .fltFecnt]

theorem State.rs_class_startWords {c : Nat} (hc : c < 14) (s : State) {n : RName} (v : Word) (hn : n ∈ classRegs) :
    (s.rs n v c).startWords = s.startWords := by
  have hclass : ∀ n ∈ classRegs, n.spec.off / 65536 ∉ startBlocks ∧ n.spec.n = 14 ∧ 0 < n.spec.n2 := by decide
  obtain ⟨hb, hi, hj⟩ := hclass n hn
  exact s.rs_startWords_block v hb (hi ▸ hc) hj

theorem raise0_startWords {f : FaultArg} (hc : f.code / 256 < 14) (s) : (raise0 f s).1.startWords = s.startWords := by
  simp [raise0, capture, State.rs_class_startWords hc]

@[simp] theorem overflowFaults_startWords (fuel n s) : (overflowFaults fuel n s).startWords = s.startWords := by
  induction fuel generalizing n s with
  | zero => simp [overflowFaults]
  | succ k ih => cases n <;> simp [overflowFaults, ih, raise0_startWords]

@[simp] theorem emit_startWords (kind ident d s x) : (emit kind ident d s x).startWords = s.startWords := by
  simp [emit]

/-! ### The bootloader's reset (R374, R385, R386, R439) -/

@[simp] theorem mailSignal_startWords (ident m c s) : (mailSignal ident m c s).startWords = s.startWords := by
  simp [mailSignal]

@[simp] theorem setNote_startWords (c s) : (setNote c s).startWords = s.startWords := by
  simp [setNote]

theorem endCross_startWords (c s) : (endCross c s).startWords = s.startWords := by
  unfold endCross
  dsimp only
  split
  · refine (foldl_keeps State.startWords (fun x d => ?_) _ _).trans (by simp)
    split <;> simp
  · rfl

theorem mailReset_startWords (m s) : (mailReset m s).startWords = s.startWords := by
  unfold mailReset
  refine (foldl_keeps State.startWords (fun x d => ?_) _ _).trans (foldl_keeps State.startWords (fun x d => ?_) _ _)
  · split <;> simp
  · split <;> simp [endCross_startWords]

/-- The check units are four. -/
theorem crcReleaseOf_startWords (m s) : (crcReleaseOf m s).startWords = s.startWords := by
  have hunit (u : Nat) (hu : u < 4) (x : State) (v : Word) : (x.rs .crcClaim v u).startWords = x.startWords :=
    x.rs_startWords_block (n := .crcClaim) v (by decide) hu (by decide)
  simp [crcReleaseOf, List.range_succ, hunit]

theorem resetMaster_startWords (m s) : (resetMaster m s).startWords = s.startWords :=
  (crcReleaseOf_startWords ..).trans (mailReset_startWords ..)

@[simp] theorem setNote_body (c s) : (setNote c s).body = s.body := by
  simp [setNote]

@[simp] theorem endCross_body (c s) : (endCross c s).body = s.body := by
  unfold endCross
  dsimp only
  split
  · refine (foldl_keeps State.body (fun x d => ?_) _ _).trans (by simp)
    split <;> simp
  · rfl

@[simp] theorem mailReset_body (m s) : (mailReset m s).body = s.body := by
  unfold mailReset
  refine (foldl_keeps State.body (fun x d => ?_) _ _).trans (foldl_keeps State.body (fun x d => ?_) _ _)
  · split <;> simp
  · split <;> simp

@[simp] theorem crcReleaseOf_body (m s) : (crcReleaseOf m s).body = s.body := by
  unfold crcReleaseOf
  exact foldl_keeps State.body (fun x u => by simp) _ s

/-- The reset of a master is registers, mailboxes and reports. -/
theorem resetMaster_body (m s) : (resetMaster m s).body = s.body :=
  (crcReleaseOf_body ..).trans (mailReset_body ..)

/-! ### Leaving INIT (R468) -/

/-- Leaving INIT makes its event record and nothing else. -/
theorem setMode_of_init {m : Mode} (hm : m ≠ .init) {s : State} (hs : s.mode = .init) (b : Sub) :
    (setMode m b s).startWords = s.startWords ∧ (setMode m b s).red = s.red := by
  refine ⟨?_, (State.of_body State.red (fun _ => rfl) (setMode_body m b s)).trans rfl⟩
  have hne : ¬(s.mode = m ∧ s.sub = b) := fun h => hm (h.1.symm.trans hs)
  rw [setMode, if_neg hne]
  simp [hs, Mode.bench, State.when]

/-- The module when its mailboxes are bound and the bootloader's identity ends. -/
def initEnded (s : State) : State :=
  let s := resetMaster 12 (s.rsb .mbxCtrl 0 true)
  let s := s.setPwr { s.pwr with trialActive := decide (s.pwr.boot = 3) }
  s.setLen { s.len with lim := { s.len.lim with budget := s.budgetMax, budgetAt := s.now } }

theorem initEnded_startWords (s) : (initEnded s).startWords = (s.rsb .mbxCtrl 0 true).startWords :=
  resetMaster_startWords ..

theorem initEnded_mode (s) : (initEnded s).mode = s.mode :=
  (State.of_body State.mode (fun _ => rfl) (resetMaster_body 12 (s.rsb .mbxCtrl 0 true)) :)

theorem initEnded_slotId (s) : (initEnded s).slotId = s.slotId :=
  (State.of_body State.slotId (fun _ => rfl) (resetMaster_body 12 (s.rsb .mbxCtrl 0 true)) :)

/-- The word of a register among those that the end of INIT rests on. -/
theorem State.rg_of_startWords {x y : State} (h : x.startWords = y.startWords) {n : RName} (hn : n ∈ startRegs) :
    x.rg n = y.rg n :=
  List.map_inj_left.mp h n hn

/-- The pair's registers are untouched, and the mailboxes are locked. -/
theorem initEnded_rg (s : State) {n : RName} (hn : n ∈ startRegs.tail) : (initEnded s).rg n = s.rg n := by
  have hother : ∀ n ∈ startRegs.tail, n ∈ startRegs ∧ regAddr n 0 0 ≠ regAddr .mbxCtrl 0 0 := by decide
  obtain ⟨hin, hne⟩ := hother n hn
  exact (State.rg_of_startWords (initEnded_startWords s) hin).trans (State.rg_rs_other s _ hne)

theorem initEnded_locked (s : State) : (initEnded s).rb .mbxCtrl 0 = true := by
  rw [State.rb, State.rg_of_startWords (initEnded_startWords s) (by decide)]
  exact State.rb_rsb_same s .mbxCtrl (by decide) true 0 0

theorem initEnded_nextEpoch (s) : (initEnded s).nextEpoch = s.nextEpoch := by
  rw [State.nextEpoch, initEnded_rg s (by decide), initEnded_rg s (by decide), initEnded_slotId]
  rfl

/-- The registers of a claim. -/
def claimRegs (s : State) : State :=
  let e := BitVec.ofNat 32 s.nextEpoch
  let s := (s.rs .redEpoch e).rs .redEpochseen e
  (s.rsat .redTakecnt 0 32 1).rs .redLasttake s.short

theorem claimRegs_mbxCtrl (s : State) : (claimRegs s).rg .mbxCtrl = s.rg .mbxCtrl := by
  have hrs (x : State) (n : RName) (hn : n ∈ [RName.redEpoch, .redEpochseen, .redTakecnt, .redLasttake]) (v : Word) :
      (x.rs n v).rg .mbxCtrl = x.rg .mbxCtrl := by
    have hne : ∀ n ∈ [RName.redEpoch, .redEpochseen, .redTakecnt, .redLasttake], regAddr .mbxCtrl 0 0 ≠ regAddr n 0 0 := by decide
    exact State.rg_rs_other x v (hne n hn)
  rw [claimRegs, hrs _ .redLasttake (by decide)]
  exact (hrs _ .redTakecnt (by decide) _).trans <| (hrs _ .redEpochseen (by decide) _).trans (hrs _ .redEpoch (by decide) _)

/-- The pair and station time at a claim. -/
def holdAwn (s : State) : State :=
  let s := settleDelta (s.setRed { s.red with awn := true, resync := false, resyncReq := false, waitCk := [], ck := none })
  let follows := s.tim.follow
  { s with tim := { s.tim with follow := false, blend := s.tim.blend || follows, diffSince := none } }

theorem holdAwn_spec (s : State) : (holdAwn s).awn = true ∧ (holdAwn s).mode = s.mode ∧ (holdAwn s).regs = s.regs :=
  ⟨rfl, rfl, rfl⟩

/-- A claim below the last epoch is not refused. -/
theorem claimAwn_below {s : State} (h : s.nextEpoch < 2 ^ 32) : claimAwn s = holdAwn (claimRegs s) := by
  rw [claimAwn, if_neg (by omega)]
  rfl

/-- It holds the awn, in the same state of the module and with the mailboxes as they were. -/
theorem claimAwn_holds {s : State} (h : s.nextEpoch < 2 ^ 32) :
    (claimAwn s).awn = true ∧ (claimAwn s).mode = s.mode ∧ (claimAwn s).rg .mbxCtrl = s.rg .mbxCtrl := by
  have hbody : (claimRegs s).body = s.body := by simp [claimRegs]
  obtain ⟨hawn, hmode, hregs⟩ := holdAwn_spec (claimRegs s)
  rw [claimAwn_below h, hmode]
  exact ⟨hawn, State.of_body State.mode (fun _ => rfl) hbody, (State.rg_of_regs hregs ..).trans (claimRegs_mbxCtrl s)⟩

/-- Where INIT leads. -/
def leaveInit (s : State) : State :=
  if s.rb .redCtrl 0 then setMode .standbyCold s.sub s
  else if (claimAwn s).awn then setMode .armed (claimAwn s).sub (claimAwn s) else claimAwn s

theorem exec_initEnd {t} {s : State} (hm : s.mode = .init) (hb : s.pwr.boot = 2 ∨ s.pwr.boot = 3) (hf : s.bistFailed = false)
    (hc : s.pwr.cfgOk = true) (hr : s.bst.running = false) :
    exec (.initEnd t) s = .next (leaveInit (initEnded (s.begin t))) := by
  have hgo : ¬((s.begin t).mode ≠ .init ∨ ¬((s.begin t).pwr.boot = 2 ∨ (s.begin t).pwr.boot = 3) ∨ (s.begin t).bistFailed
      ∨ ¬(s.begin t).pwr.cfgOk ∨ (s.begin t).bst.running) := by
    simp [hm, hb, hf, hc, hr]
  exact congrArg Host.Outcome.next (if_neg hgo)

theorem initEnd_paired {s : State} (hm : s.mode = .init) (hp : s.rb .redCtrl 0 = true) :
    (leaveInit (initEnded s)).mode = .standbyCold ∧ (leaveInit (initEnded s)).rb .mbxCtrl 0 = true := by
  have hpair : (initEnded s).rb .redCtrl 0 = true := by rwa [State.rb, initEnded_rg s (by decide)]
  obtain ⟨hwords, -⟩ := setMode_of_init (m := .standbyCold) (by decide) ((initEnded_mode s).trans hm) (initEnded s).sub
  rw [leaveInit, if_pos hpair, setMode_mode, State.rb, State.rg_of_startWords hwords (by decide)]
  exact ⟨rfl, initEnded_locked s⟩

theorem initEnd_alone {s : State} (hm : s.mode = .init) (hp : s.rb .redCtrl 0 = false) (he : s.nextEpoch < 2 ^ 32) :
    (leaveInit (initEnded s)).mode = .armed ∧ (leaveInit (initEnded s)).awn = true
      ∧ (leaveInit (initEnded s)).rb .mbxCtrl 0 = true := by
  have hpair : (initEnded s).rb .redCtrl 0 = false := by rwa [State.rb, initEnded_rg s (by decide)]
  obtain ⟨hawn, hmode, hlock⟩ := claimAwn_holds (s := initEnded s) (by rwa [initEnded_nextEpoch])
  obtain ⟨hwords, hred⟩ := setMode_of_init (m := .armed) (by decide) (hmode.trans ((initEnded_mode s).trans hm))
    (claimAwn (initEnded s)).sub
  rw [leaveInit, if_neg (by simp [hpair]), if_pos hawn, setMode_mode, State.awn, hred, State.rb,
    State.rg_of_startWords hwords (by decide), hlock]
  exact ⟨rfl, hawn, initEnded_locked s⟩

/-! ### The release of reset (R468) -/

/-- The module when the straps are sampled. -/
def released (slot : Nat) (strap : Bool) (s : State) : State :=
  { s with c0 := s.now, slotId := slot, factory := strap, pwr := { s.pwr with boot := 1 } }

theorem exec_resetRelease {t slot strap} {s : State} (hg : s.pwr.good = true) (ho : s.mode = .off) :
    exec (.resetRelease t slot strap) s =
      .next (restartDom 1 (restartDom 0 (setMode .init .gf (released slot strap (s.begin t))))) :=
  congrArg Host.Outcome.next (if_pos (c := (s.begin t).pwr.good = true ∧ (s.begin t).mode = .off) ⟨hg, ho⟩)

/-- The clocks' listening touches nothing of the start but station time. -/
theorem release_untimed (slot strap) (s : State) :
    (restartDom 1 (restartDom 0 (setMode .init .gf (released slot strap s)))).untimed
      = ({ released slot strap s with mode := .init, sub := .gf } : State).untimed := by
  rw [restartDom_untimed, restartDom_untimed]
  exact State.untimed_of_body (setMode_body ..)

/-- Settles O42: each step by its own equation; a fault in INIT is a report, at L3 with a request for SF1, and the
bootloader's reset leaves the lock of the mailboxes and the pair's epochs. -/
theorem startupFollowsItsSteps : Obligations.StartupFollowsItsSteps := by
  unfold Obligations.StartupFollowsItsSteps
  refine ⟨fun t slot strap s hg ho => ?_, fun t okA okB s first ok hm hb hf hfirst hok => ?_, fun t ok s hb hbank => ?_,
    fun t ok s hb hbank => ?_, fun t s hm hb hf hc hr hp => ?_, fun t s hm hb hf hc hr hp he => ?_⟩
  · have hx := release_untimed slot strap (s.begin t)
    refine ⟨_, exec_resetRelease hg ho, State.of_untimed State.mode (fun _ => rfl) hx, ?_,
      State.of_untimed State.slotId (fun _ => rfl) hx, State.of_untimed State.factory (fun _ => rfl) hx, ?_⟩
    · exact (State.of_untimed State.cnt (fun _ => rfl) hx).trans (Nat.sub_self _)
    · exact congrArg PwrSt.boot (State.of_untimed State.pwr (fun _ => rfl) hx)
  · have hre := reenter_reports (s.retKept 0) (s := s.begin t) hm
    refine ⟨_, exec_bootVerified hm hb hf, ?_⟩
    generalize reenter (s.retKept 0) (s.begin t) = z at hre
    have hpwr : z.pwr = s.pwr := hre.pwr
    have hzm : z.mode = .init := hre.mode.trans hm
    have hlog : s.flt.logged ≤ z.flt.logged := hre.2
    have hz : ok = bankOk okA okB z.pwr := hpwr ▸ hok
    have hfz : first = firstBank z.pwr := hpwr ▸ hfirst
    subst hz hfz
    rw [← hpwr]
    refine ⟨fun h1 => ?_, fun h1 h2 => ?_, fun h1 h2 => ?_⟩
    · rw [bootBank, if_pos h1, bootFirst_pwr okA okB hzm]
      exact ⟨rfl, rfl⟩
    · obtain ⟨hp, hl⟩ := bootOther_spec okA okB hzm
      rw [bootBank, if_neg (by simp [h1]), if_pos h2, hp]
      exact ⟨rfl, rfl, by omega⟩
    · obtain ⟨hp, hmode, hl⟩ := bootNone_spec okA okB hzm
      rw [bootBank, if_neg (by simp [h1]), if_neg (by simp [h2]), hp]
      exact ⟨rfl, hmode, by omega⟩
  · refine ⟨_, exec_programmingDone hb rfl, ?_, programming_status _ ok, rfl⟩
    exact if_pos hbank
  · refine ⟨_, exec_programmingDone hb rfl, ?_, programming_status _ ok, rfl⟩
    exact if_neg (by simp [hbank])
  · exact ⟨_, exec_initEnd hm hb hf hc hr, initEnd_paired hm hp⟩
  · exact ⟨_, exec_initEnd hm hb hf hc hr, initEnd_alone hm hp he⟩

end Sys2Proof.Machine
end

section
/-!
PROOFS. The pair: a domain number far above the two present names, as its O_d, the word that a claim writes.
-/
namespace Sys2Proof.Machine

/-- The domain whose O_d would begin where RED_EPOCHSEEN stands: the registers of a domain repeat without end. -/
def farDomain : Nat := (regAddr .redEpochseen - regAddr .timDOfsl) / RName.timDOfsl.spec.st

/-- S runs from `farDomain`, at counter value 0. -/
def farDomainState : State :=
  { State.reset with tim := { State.reset.tim with isSet := true, sel := farDomain } }

/-- The claim takes epoch 2, which reads back as two ticks of O_d (R291, R324). -/
theorem claimAwn_farDomainState : farDomainState.st < (claimAwn farDomainState).st := by decide

/-- Refutes O59: the clause on a claim does not bound the domain in use by the two present. In `farDomainState` the
epoch that the claim writes to RED_EPOCHSEEN is read as O_d of `farDomain`, and S goes on by it. -/
theorem not_pairRowsTakeEffect : ¬ Obligations.PairRowsTakeEffect := by
  intro ⟨_, hclaim⟩
  obtain ⟨-, hbelow, -⟩ := hclaim farDomainState
  obtain ⟨-, -, -, hkept⟩ := hbelow (by decide)
  exact claimAwn_farDomainState.ne hkept.symm

end Sys2Proof.Machine
end

section
/-!
PROOFS. One step of the machine, and the canonical form after reset.
-/
namespace Sys2Proof.Machine

/-- Settles O1, both clauses by the step's own equations. -/
theorem stepTakesFrontCommand : Obligations.StepTakesFrontCommand := by
  refine ⟨fun c rest s hp => ?_, fun s hp => ?_⟩
  · simp only [step, hp]
  · simp only [step, hp]

/-- Settles O4: after reset the registers and every table of the memories are empty. -/
theorem resetIsCanonical : Obligations.ResetIsCanonical := ⟨rfl, rfl⟩

end Sys2Proof.Machine
end

section
/-!
PROOFS. Bytes: numbers and fields read back from their little-endian bytes, the payload of every operation, and the packet
around it.
-/
namespace Sys2Proof.Machine

/-! ### Numbers as bytes, least significant first -/

@[simp] theorem length_leBytes (n v : Nat) : (leBytes n v).length = n := by
  induction n generalizing v with
  | zero => rfl
  | succ n ih => simp [leBytes, ih]

theorem ofLe_leBytes (n v : Nat) : ofLe (leBytes n v) = v % 256 ^ n := by
  induction n generalizing v with
  | zero => simp [leBytes, ofLe, Nat.mod_one]
  | succ n ih =>
    rw [leBytes, ofLe, ih, BitVec.toNat_ofNat, pow_succ' 256]
    exact (Nat.mod_mul ..).symm

theorem bytesAt_zero (l r : List Byte) : bytesAt (l ++ r) 0 l.length = l := by
  refine List.ext_getElem (by simp [bytesAt]) fun k hk hl => ?_
  simp [bytesAt, List.getD_eq_getElem?_getD, List.getElem?_append_left hl, List.getElem?_eq_getElem hl]

/-- A number is read back from its bytes, modulo their range. -/
@[simp] theorem leAt_leBytes (n v : Nat) (r : List Byte) : leAt (leBytes n v ++ r) 0 n = v % 256 ^ n := by
  have hl := bytesAt_zero (leBytes n v) r
  rw [length_leBytes] at hl
  rw [leAt, hl, ofLe_leBytes]

@[simp] theorem leAt_leBytes_last (n v : Nat) : leAt (leBytes n v) 0 n = v % 256 ^ n := by
  rw [← List.append_nil (leBytes n v), leAt_leBytes]

/-- What stands before a field does not enter its reading. -/
theorem leAt_append (l r : List Byte) (i n : Nat) (h : l.length ≤ i) : leAt (l ++ r) i n = leAt r (i - l.length) n := by
  simp only [leAt, bytesAt, List.getD_eq_getElem?_getD]
  congr 1
  refine List.map_congr_left fun k _ => ?_
  rw [List.getElem?_append_right (by omega), Nat.sub_add_comm h]

/-- A field that lies in the front part is read there. -/
theorem leAt_append_left {l : List Byte} {i n : Nat} (h : i + n ≤ l.length) (r : List Byte) : leAt (l ++ r) i n = leAt l i n := by
  simp only [leAt, bytesAt, List.getD_eq_getElem?_getD]
  congr 1
  refine List.map_congr_left fun k hk => ?_
  rw [List.getElem?_append_left (by have := List.mem_range.mp hk; omega)]

theorem leAt_after {l : List Byte} {k : Nat} (hl : l.length = k) (r : List Byte) (i n : Nat) :
    leAt (l ++ r) (k + i) n = leAt r i n := by
  rw [leAt_append _ _ _ _ (by omega), hl, Nat.add_sub_cancel_left]

@[simp] theorem leAt_skip {k i : Nat} (h : k ≤ i) (v n : Nat) (r : List Byte) :
    leAt (leBytes k v ++ r) i n = leAt r (i - k) n := by
  rw [leAt_append _ _ _ _ (by simpa), length_leBytes]

@[simp] theorem leAt_cons {i : Nat} (h : 0 < i) (b : Byte) (n : Nat) (r : List Byte) : leAt (b :: r) i n = leAt r (i - 1) n :=
  leAt_append [b] r i n h

@[simp] theorem leAt_head (b : Byte) (r : List Byte) : leAt (b :: r) 0 1 = b.toNat := rfl

/-- A bit vector is read back from its number, modulo its range. -/
@[simp] theorem ofNat_toNat_mod {n m : Nat} (x : BitVec n) (h : m = 2 ^ n) : BitVec.ofNat n (x.toNat % m) = x := by
  rw [h, Nat.mod_eq_of_lt x.isLt, BitVec.ofNat_toNat, BitVec.setWidth_eq]

theorem wordAt_eq (p : List Byte) (k : Nat) : wordAt p k = BitVec.ofNat 32 (leAt p k 4) := rfl

/-- A word is read back from its four bytes. -/
@[simp] theorem wordAt_leBytes (w : Word) (r : List Byte) : wordAt (leBytes 4 w.toNat ++ r) 0 = w := by
  simp [wordAt_eq]

@[simp] theorem wordAt_leBytes_last (w : Word) : wordAt (leBytes 4 w.toNat) 0 = w := by
  rw [← List.append_nil (leBytes 4 w.toNat), wordAt_leBytes]

@[simp] theorem wordAt_skip {k i : Nat} (h : k ≤ i) (v : Nat) (r : List Byte) : wordAt (leBytes k v ++ r) i = wordAt r (i - k) := by
  simp [wordAt_eq, h]

@[simp] theorem wordAt_cons {i : Nat} (h : 0 < i) (b : Byte) (r : List Byte) : wordAt (b :: r) i = wordAt r (i - 1) := by
  simp [wordAt_eq, h]

theorem wordAt_after {l : List Byte} {k : Nat} (hl : l.length = k) (r : List Byte) : wordAt (l ++ r) k = wordAt r 0 :=
  congrArg (BitVec.ofNat 32) (leAt_after hl r 0 4)

/-! ### Records of one size -/

theorem length_flatMap_records {α : Type} {f : α → List Byte} {k : Nat} (hf : ∀ x, (f x).length = k) (xs : List α) :
    (xs.flatMap f).length = k * xs.length := by
  induction xs with
  | nil => rfl
  | cons x r ih => simp [hf, ih, Nat.mul_succ, Nat.add_comm]

/-- A field of the j-th record is read at its place in the record. -/
theorem leAt_flatMap {α : Type} {f : α → List Byte} {k : Nat} (hf : ∀ x, (f x).length = k) {xs : List α} {j i n : Nat}
    (hj : j < xs.length) (hi : i + n ≤ k) : leAt (xs.flatMap f) (k * j + i) n = leAt (f xs[j]) i n := by
  induction xs generalizing j with
  | nil => cases hj
  | cons x r ih =>
    rw [List.flatMap_cons]
    cases j with
    | zero => simpa using leAt_append_left (by simpa [hf]) _
    | succ j =>
      rw [Nat.mul_succ, Nat.add_comm (k * j), Nat.add_assoc, leAt_after (hf x), ih (by simpa using hj)]
      rfl

theorem length_leBytes_word (w : Word) : (leBytes 4 w.toNat).length = 4 := length_leBytes ..

/-- Words are read back from their bytes after a head of `k` bytes. -/
theorem wordsAt_flatMap {l : List Byte} {k : Nat} (hl : l.length = k) (ws : List Word) :
    wordsAt (l ++ ws.flatMap (fun w => leBytes 4 w.toNat)) k ws.length = ws := by
  refine List.ext_getElem (by simp [wordsAt]) fun j hj hw => ?_
  have hword := wordAt_leBytes_last ws[j]
  rw [wordAt_eq] at hword
  simp only [wordsAt, List.getElem_map, List.getElem_range]
  rw [wordAt_eq, leAt_after hl, ← Nat.add_zero (4 * j), leAt_flatMap length_leBytes_word hw (by simp), hword]

@[simp] theorem length_sheafBytes (e : SheafEntry) : (sheafBytes e).length = 16 := by simp [sheafBytes]

/-- A sheaf entry is read back from its 16 bytes (R341). -/
theorem entryAt_sheafBytes {e : SheafEntry} (hk : e.kind < 2 ^ 32) (ha : e.addr < 2 ^ 32) : entryAt (sheafBytes e) 0 = e := by
  simp only [Nat.reducePow] at hk ha
  simp [entryAt, sheafBytes, Nat.mod_eq_of_lt hk, Nat.mod_eq_of_lt ha]

/-- Sheaf entries are read back from their bytes after a head of `k` bytes. -/
theorem entryAt_flatMap {l : List Byte} {k : Nat} (hl : l.length = k) {es : List SheafEntry}
    (hes : ∀ e ∈ es, e.kind < 2 ^ 32 ∧ e.addr < 2 ^ 32) :
    (List.range es.length).map (fun j => entryAt (l ++ es.flatMap sheafBytes) (k + 16 * j)) = es := by
  refine List.ext_getElem (by simp) fun j hj he => ?_
  obtain ⟨hkind, haddr⟩ := hes _ (List.getElem_mem he)
  have hfield (i n : Nat) (hi : i + n ≤ 16) :
      leAt (l ++ es.flatMap sheafBytes) (k + 16 * j + i) n = leAt (sheafBytes es[j]) i n := by
    rw [Nat.add_assoc, leAt_after hl, leAt_flatMap length_sheafBytes he hi]
  rw [List.getElem_map, List.getElem_range]
  refine Eq.trans ?_ (entryAt_sheafBytes hkind haddr)
  simp only [entryAt, wordAt_eq, Nat.zero_add]
  rw [hfield 4 4, hfield 8 4, hfield 12 4, ← hfield 0 4] <;> simp

/-! ### The payload of an operation (R376) -/

/-- The reserved bytes of a payload whose first `len0` bytes are fields: those that `named` does not name. -/
def reservedBytes (len0 : Nat) (named : List Nat) : List Nat := (List.range len0).filter (fun k => !named.contains k)

/-- A payload of the right length whose reserved bytes are 0 gives what its fields spell. -/
theorem layout_passes {len len0 : Nat} {named : List Nat} {p : List Byte} {r : Except Deny HostOp} {o : HostOp}
    (hl : p.length = len) (hr : (reservedBytes len0 named).all (fun k => decide (p.getD k 0 = 0)) = true) (ho : r = .ok o) :
    some (layout len len0 named p r) = some (.ok o) := by
  have hzero : ¬ (List.range len0).any (fun k => !named.contains k && decide (p.getD k 0 ≠ 0)) = true := by
    simpa [reservedBytes, or_iff_not_imp_left] using hr
  rw [layout, if_neg (not_not.mpr hl), if_neg hzero, ho]

/-- A flag is read back from its byte. -/
theorem flagAt_of {p : List Byte} {k : Nat} {b : Bool} (h : leAt p k 1 = if b then 1 else 0) (f : Bool → Except Deny HostOp) :
    flagAt p k f = f b := by
  cases b <;> simp [flagAt, h]

@[simp] theorem leAt_flagByte (b : Bool) (r : List Byte) : leAt (flagByte b ++ r) 0 1 = if b then 1 else 0 := by
  cases b <;> rfl

@[simp] theorem leAt_flagByte_last (b : Bool) : leAt (flagByte b) 0 1 = if b then 1 else 0 := by
  cases b <;> rfl

@[simp] theorem leAt_skip_flag {i : Nat} (h : 0 < i) (b : Bool) (n : Nat) (r : List Byte) :
    leAt (flagByte b ++ r) i n = leAt r (i - 1) n := leAt_append _ _ _ _ h

/-- An integer of 80 bits with sign is read back from its low bits. -/
theorem signed_lowBits {v : Int} (h1 : -(2 ^ 79) ≤ v) (h2 : v < 2 ^ 79) : signed 80 (lowBits 80 v) = v := by
  simp only [signed, lowBits]
  norm_num at *
  split_ifs <;> omega

theorem lowBits_parts (v : Int) : lowBits 80 v / 65536 % 18446744073709551616 * 65536 + lowBits 80 v % 65536 = lowBits 80 v := by
  simp only [lowBits]
  omega

theorem parseOp_regWrite {a : Nat} {ws : List Word} (ha : a < 2 ^ 32) (hn : ws.length < 65536) :
    parseOp 0x0101 (HostOp.regWrite a ws).payload = some (.ok (.regWrite a ws)) := by
  simp only [Nat.reducePow] at ha
  have hws := wordsAt_flatMap (l := leBytes 4 a ++ leBytes 2 ws.length ++ [0, 0]) rfl ws
  refine layout_passes ?_ rfl ?_
  · simp [HostOp.payload, length_flatMap_records length_leBytes_word, Nat.mod_eq_of_lt hn]
    omega
  · simpa [HostOp.payload, Nat.mod_eq_of_lt ha, Nat.mod_eq_of_lt hn] using hws

theorem parseOp_sheafAdd {n : Nat} {es : List SheafEntry} (hn : n < 256) (hne : es ≠ [])
    (hes : ∀ e ∈ es, e.kind < 2 ^ 32 ∧ e.addr < 2 ^ 32) :
    parseOp 0x0401 (HostOp.sheafAdd n es).payload = some (.ok (.sheafAdd n es)) := by
  have hlen : (HostOp.sheafAdd n es).payload.length = 4 + 16 * es.length := by
    simp only [HostOp.payload, List.length_append, length_flatMap_records length_sheafBytes, length_leBytes]
    rfl
  have hpos := List.length_pos_iff.mpr hne
  have hents := entryAt_flatMap (l := leBytes 1 n ++ [0, 0, 0]) rfl hes
  refine (congrArg some (if_neg (by omega))).trans (layout_passes rfl rfl ?_)
  rw [hlen]
  simpa [HostOp.payload, Nat.mod_eq_of_lt hn] using hents

/-- Settles O6, by the layout of each operation: its length, its reserved bytes, and its fields one by one. -/
theorem payloadReadsBack : Obligations.PayloadReadsBack := by
  intro o h
  cases o with
  | ping | sysStatus | sysIdent | pathReset | precharge | start | blackStart | island | stop | serviceEnter | serviceLeave
  | sheafOpen | recStatus | safStatus | safReset | pairClaim | pairSwitchover | pairResync | timeGet | timeStepToRef
  | factoryEnter | injClear | factoryLeave => rfl
  | eventSub m => exact layout_passes rfl rfl (by simpa [HostOp.payload, HostOp.fits] using h)
  | regRead a n => exact layout_passes rfl rfl (by simpa [HostOp.payload, HostOp.fits] using h)
  | regWrite a ws =>
    obtain ⟨ha, hn⟩ : a < 2 ^ 32 ∧ ws.length < 65536 := by simpa [HostOp.fits] using h
    exact parseOp_regWrite ha hn
  | regRmw a m v => exact layout_passes rfl rfl (by simpa [HostOp.payload, HostOp.fits] using h)
  | memRead a n => exact layout_passes rfl rfl (by simpa [HostOp.payload, HostOp.fits] using h)
  | memWrite a d =>
    obtain ⟨ha, hn⟩ : a < 4294967296 ∧ d.length < 65536 := by simpa [HostOp.fits] using h
    refine layout_passes (by simp [HostOp.payload, Nat.mod_eq_of_lt hn]; omega) rfl ?_
    simp only [HostOp.payload, List.append_assoc, leAt_leBytes, Nat.reducePow, Nat.mod_eq_of_lt ha]
    rfl
  | memFill a n p => exact layout_passes rfl rfl (by simpa [HostOp.payload, HostOp.fits] using h)
  | resync c => exact layout_passes rfl rfl (flagAt_of (by simp [HostOp.payload]) _)
  | tieStatus c a w =>
    refine layout_passes rfl rfl ((flagAt_of (b := c) (by simp [HostOp.payload]) _).trans
      ((flagAt_of (b := a) (by simp [HostOp.payload]) _).trans ?_))
    simp [HostOp.payload, flagByte]
  | resetTrip x => exact layout_passes rfl rfl (flagAt_of (by simp [HostOp.payload]) _)
  | sheafAdd n es =>
    obtain ⟨⟨hn, hne⟩, hes⟩ : (n < 256 ∧ es ≠ []) ∧ ∀ e ∈ es, e.kind < 2 ^ 32 ∧ e.addr < 2 ^ 32 := by
      simpa [HostOp.fits] using h
    exact parseOp_sheafAdd hn hne hes
  | sheafCommit n m w => exact layout_passes rfl rfl (by simpa [HostOp.payload, HostOp.fits] using h)
  | sheafDiscard n => exact layout_passes rfl rfl (by simpa [HostOp.payload, HostOp.fits] using h)
  | cellCmd i c => exact layout_passes rfl rfl (by simpa [HostOp.payload, HostOp.fits] using h)
  | cellTxn l k o a d =>
    obtain ⟨⟨⟨hl, hk⟩, ho⟩, hn⟩ : ((l < 65536 ∧ k < 256) ∧ o < 256) ∧ d.length < 256 := by simpa [HostOp.fits] using h
    refine layout_passes (by simp [HostOp.payload, Nat.mod_eq_of_lt hn]; omega) rfl ?_
    have hdata : (HostOp.cellTxn l k o a d).payload.drop 12 = d := rfl
    rw [hdata]
    simp [HostOp.payload, hl, hk, ho]
  | linkBlock l a =>
    refine layout_passes rfl rfl ((flagAt_of (b := a) (by simp [HostOp.payload]) _).trans ?_)
    simpa [HostOp.payload, HostOp.fits] using h
  | safConfigWrite im => exact layout_passes (by simpa [HostOp.payload, HostOp.fits] using h) rfl rfl
  | safConfigConfirm l c => exact layout_passes rfl rfl (by simpa [HostOp.payload, HostOp.fits] using h)
  | timeStepAbs x n f => exact layout_passes rfl rfl (by simpa [HostOp.payload, HostOp.fits, and_assoc] using h)
  | timeStepRel v =>
    obtain ⟨h1, h2⟩ : -(2 ^ 79) ≤ v ∧ v < 2 ^ 79 := by simpa [HostOp.fits] using h
    exact layout_passes rfl rfl (by simp [HostOp.payload, lowBits_parts, signed_lowBits h1 h2])
  | bistRun m => exact layout_passes rfl rfl (by simp [HostOp.payload])
  | bistResult m => exact layout_passes rfl rfl (by simp [HostOp.payload])
  | faultAck m => exact layout_passes rfl rfl (by simpa [HostOp.payload, HostOp.fits] using h)
  | faultLogRead j n => exact layout_passes rfl rfl (by simpa [HostOp.payload, HostOp.fits] using h)
  | faultInject c a => exact layout_passes rfl rfl (by simpa [HostOp.payload, HostOp.fits] using h)
  | memInject a x y =>
    cases y with
    | none => exact layout_passes rfl rfl (by simpa [HostOp.payload, HostOp.fits] using h)
    | some y =>
      obtain ⟨⟨ha, hx⟩, hy⟩ : (a < 4294967296 ∧ x < 256) ∧ y < 255 := by simpa [HostOp.fits] using h
      exact layout_passes rfl rfl (by simp [HostOp.payload, ha, hx, Nat.mod_eq_of_lt (Nat.lt_succ_of_lt hy), hy.ne])
  | linkInject l c n u =>
    refine layout_passes rfl rfl ((flagAt_of (b := u) (by simp [HostOp.payload]) _).trans ?_)
    simpa [HostOp.payload, HostOp.fits, and_assoc] using h

/-! ### The packet around the payload (R365) -/

/-- A packet's header and payload, without its check. -/
def packetBody (h : Hdr) (op : Nat) (p : List Byte) : List Byte :=
  ([0x01, 0x00] : List Byte) ++ leBytes 2 op ++ leBytes 2 h.tag.toNat ++ leBytes 2 p.length ++ [0, 0]
    ++ leBytes 2 h.session.toNat ++ leBytes 4 h.seq.toNat ++ p

theorem packetBytes_eq (h : Hdr) (op : Nat) (p : List Byte) :
    packetBytes h op p = packetBody h op p ++ leBytes 4 (crc32c (packetBody h op p)).toNat := rfl

theorem length_packetBody (h : Hdr) (op : Nat) (p : List Byte) : (packetBody h op p).length = 16 + p.length := by
  simp only [packetBody, List.length_append, length_leBytes]
  rfl

/-- Settles O7: the check is over the body, and each field of the header is read at its place. -/
theorem packetReadsBack : Obligations.PacketReadsBack := by
  intro h op p hop hp
  have hlen := length_packetBody h op p
  have hn : leAt (packetBytes h op p) 6 2 = p.length := by
    simp [packetBytes, Nat.mod_eq_of_lt (show p.length < 65536 by omega)]
  have hbody : (packetBytes h op p).take (16 + p.length) = packetBody h op p := by
    rw [packetBytes_eq, List.take_left' hlen]
  have hcheck : wordAt (packetBytes h op p) (16 + p.length) = crc32c (packetBody h op p) := by
    rw [packetBytes_eq, wordAt_after hlen, wordAt_leBytes_last]
  have hsize : (packetBytes h op p).length = 20 + p.length := by
    rw [packetBytes_eq, List.length_append, hlen, length_leBytes]
    omega
  have hpay : ((packetBytes h op p).drop 16).take p.length = p := List.take_left' rfl
  have hopc : leAt (packetBytes h op p) 2 2 = op := by
    simp [packetBytes, Nat.mod_eq_of_lt (show op < 65536 by omega)]
  have hkind : leAt (packetBytes h op p) 0 1 = 1 ∧ leAt (packetBytes h op p) 1 1 = 0 := ⟨rfl, rfl⟩
  have htag : BitVec.ofNat 16 (leAt (packetBytes h op p) 4 2) = h.tag := by
    simp [packetBytes]
  have hsession : BitVec.ofNat 16 (leAt (packetBytes h op p) 10 2) = h.session := by
    simp [packetBytes]
  have hseq : wordAt (packetBytes h op p) 12 = h.seq := by
    simp [packetBytes]
  rw [parsePacket, hn, hbody, hcheck, hsize, hpay, hopc, if_neg (by simpa using hp)]
  simp [hkind, htag, hsession, hseq, hop, Nat.mod_eq_of_lt hop]

end Sys2Proof.Machine
end

section
/-!
PROOFS. Packets on their way in: the same packet as bytes and as a command, packets that repeat another, packets turned away,
and opcodes that no row defines.
-/
namespace Sys2Proof.Machine

/-! ### The arrival of a packet -/

@[simp] theorem noteLink_serves (p q : Path) (via : Via) (s : State) : (noteLink p s).serves q via = s.serves q via := by
  obtain ⟨v, hv⟩ := noteLink_eq p s
  have ha (i : Nat) (hi : i < 2) : regAddr .netPcfg i ≠ regAddr .netStat := by interval_cases i <;> decide
  have hopen : (noteLink p s).portOpen q = s.portOpen q := by
    rw [hv]
    cases q with
    | portA => exact congrArg (bit · 0) (State.rg_rs_other s v (ha 0 (by decide)))
    | portB => exact congrArg (bit · 0) (State.rg_rs_other s v (ha 1 (by decide)))
    | pcie | service => rfl
  rw [State.serves, State.serves, hopen, hv]
  rfl

theorem hostRow_served {t : Nat} {h : Hdr} {o : HostOp} {s : State} (hs : (s.begin t).serves h.path h.via = true) :
    hostRow t h o s = .next (settle (ingress h o.opcode true (some o.checked) (noteLink h.path (s.begin t)))) := by
  rw [hostRow, if_pos hs]

/-- A packet that repeats none is, with fewer than 256 commands outstanding, taken in or answered with the status of the order
it fails (R368). -/
theorem ingress_new {t : Nat} {h : Hdr} {op : Nat} {headOk : Bool} {body : Option (Except Deny HostOp)} {s : State} {st : Status}
    (hnew : s.isNew t h) (ha : (s.taken t h op).admission ((s.begin t).masterOf h.path) op headOk body = .error st) :
    ingress h op headOk body (noteLink h.path (s.begin t)) = answer ⟨h, op, .ring⟩ st 0 []
      ((s.taken t h op).when (!(Deny.quiet body st)) (violation 4 op ((s.begin t).masterOf h.path) st)) := by
  obtain ⟨-, hdup, hroom⟩ := hnew
  rw [State.taken] at ha ⊢
  simp only [ingress, hdup, noteLink_masterOf, if_neg (Nat.not_le.mpr hroom), ha]

/-! ### A packet as bytes -/

theorem HostOp.opcode_lt (o : HostOp) : o.opcode < 0x8000 := by
  cases o <;> simp [HostOp.opcode]

theorem HostOp.checked_of_fits {o : HostOp} (h : o.fits = true) : o.checked = .ok o := by
  cases o with
  | sheafAdd n es =>
    cases es with
    | nil => simp [HostOp.fits] at h
    | cons e es => rfl
  | safConfigWrite im => exact if_pos (by simpa [HostOp.fits] using h)
  | _ => rfl

/-- A packet as bytes on a path that is served. -/
theorem exec_bytes {t : Nat} {q : Path} {bytes : List Byte} {s : State} {x : Packet} (hs : (s.begin t).serves q = true)
    (hx : parsePacket q .port bytes = some x) : exec (.undefinedOpcode t q bytes) s
      = .next (settle (ingress x.hdr x.op x.headOk (parseOp x.op x.payload) (noteLink q (s.begin t)))) := by
  show execUndefinedOpcode t q bytes s = _
  simp only [execUndefinedOpcode, packet, noteLink_serves, hs, hx, if_true, not_true_eq_false, if_false]

/-- Settles O8: the packet is read back from its bytes, and its operation from its payload. -/
theorem receivedPacketIsItsCommand : Obligations.ReceivedPacketIsItsCommand := by
  intro c t h o s hc hvia hfits hlen
  have hread := packetReadsBack h o.opcode o.payload o.opcode_lt hlen
  rw [hvia] at hread
  rw [exec_packet hc]
  by_cases hs : (s.begin t).serves h.path = true
  · rw [exec_bytes hs hread, payloadReadsBack o hfits, hostRow_served (hvia ▸ hs), HostOp.checked_of_fits hfits]
  · show execUndefinedOpcode t h.path _ s = hostRow t h o s
    rw [execUndefinedOpcode, hostRow, hvia, if_neg hs, if_neg hs]

/-! ### Repeated and refused packets -/

/-- Settles O9: the packet is found to repeat one with its own opcode whose reply is still kept. -/
theorem repeatedPacketIsNotRunAgain : Obligations.RepeatedPacketIsNotRunAgain := by
  intro c t h o s r hc hs hdup
  rw [exec_packet hc, hostRow_served hs, ingress, hdup]
  simp only [repeated, ne_eq, not_true_eq_false, if_false]

/-- Settles O10: a path with 256 commands outstanding, and a fresh packet that fails its admission. -/
theorem turnedAwayPacketIsAnswered : Obligations.TurnedAwayPacketIsAnswered := by
  refine ⟨fun c t h o s hc hs hdup hfull => ?_, fun c t h o s st hc hnew hadm => ?_⟩
  · rw [exec_packet hc, hostRow_served hs, ingress, hdup]
    simp only [noteLink_masterOf, if_pos hfull]
  · rw [exec_packet hc, hostRow_served hnew.1, ingress_new hnew hadm]

/-! ### Undefined opcodes -/

/-- One operation of every opcode of R376. -/
def opcodeSamples : List HostOp :=
  [.ping, .sysStatus, .sysIdent, .eventSub 0, .pathReset, .regRead 0 0, .regWrite 0 [], .regRmw 0 0 0, .memRead 0 0,
    .memWrite 0 [], .memFill 0 0 0, .precharge, .start, .blackStart, .island, .resync false, .stop, .tieStatus false false 0,
    .resetTrip false, .serviceEnter, .serviceLeave, .sheafOpen, .sheafAdd 0 [], .sheafCommit 0 0 0, .sheafDiscard 0,
    .cellCmd 0 0, .cellTxn 0 0 0 0 [], .linkBlock 0 false, .recStatus, .safConfigWrite [], .safConfigConfirm 0 0, .safStatus,
    .safReset, .pairClaim, .pairSwitchover, .pairResync, .timeGet, .timeStepToRef, .bistRun 0, .bistResult 0, .faultAck 0,
    .faultLogRead 0 0, .factoryEnter, .faultInject 0 0, .memInject 0 0 none, .linkInject 0 0 0 false, .injClear, .factoryLeave]

/-- An opcode that is read is one of R376's or one of the factory group's. -/
theorem opcode_of_parseOp {op : Nat} {p : List Byte} : parseOp op p ≠ none →
    op ∈ opcodeSamples.map HostOp.opcode ∨ (0x0F06 ≤ op ∧ op ≤ 0x0F0F) := by
  unfold parseOp
  split
  case h_59 => exact fun h => absurd rfl h
  all_goals exact fun _ => by decide

/-- Settles O11: the search of the opcode table finds none, and a packet without an operation fails order 5. -/
theorem undefinedOpcodeIsRefused : Obligations.UndefinedOpcodeIsRefused := by
  refine ⟨fun op p ho hf => ?_, fun t q bytes s x hx hhead hop hnew => ?_⟩
  · by_contra hne
    rcases opcode_of_parseOp hne with hmem | hfactory
    · obtain ⟨o, -, heq⟩ := List.mem_map.mp hmem
      exact ho o heq
    · omega
  have hq : x.hdr.path = q ∧ x.hdr.via = .port := by
    simp only [parsePacket, Option.ite_none_left_eq_some, Option.some.injEq] at hx
    rw [← hx.2]
    exact ⟨rfl, rfl⟩
  obtain ⟨hpath, hvia⟩ := hq
  have hs := hnew.1
  rw [hpath, hvia] at hs
  rw [exec_bytes hs hx, ← hpath, ingress_new hnew (st := .badOpcode) (by simp [State.admission, hhead, hop]), hop]
  rfl

end Sys2Proof.Machine
end

section
/-!
PROOFS. Clean memory: what a byte and a word's mark are after a store, and ranges of clean words written and read.
-/
namespace Sys2Proof.Machine

/-! ### One byte -/

/-- What a DRAM byte is that nothing has written (R423). -/
def State.freeByte (s : State) (a : Nat) : Byte :=
  (Config.dramInit (s.mem.epoch * 2 ^ 40 + a / 8)).1.extractLsb' (8 * (a % 8)) 8

theorem Tab.get_eq_find {α : Type} (d : Nat → α) (t : Tab α) (a : Nat) :
    Tab.get d t a = ((t.find? (fun p => decide (p.1 = a))).map Prod.snd).getD (d a) := by
  induction t with
  | nil => rfl
  | cons p r ih => by_cases h : p.1 = a <;> simp [Tab.get, h, ih]

theorem State.byteOf_dram (s : State) (a : Nat) : s.byteOf true a = Tab.get s.freeByte s.mem.dram a := by
  rw [Tab.get_eq_find]
  simp only [State.byteOf, if_true]
  cases s.mem.dram.find? (fun p => decide (p.1 = a)) <;> rfl

theorem Tab.any_key_put {α : Type} (t : Tab α) (k j : Nat) (v : α) :
    (Tab.put t k v).any (fun p => decide (p.1 = j)) = (decide (k = j) || t.any (fun p => decide (p.1 = j))) := by
  induction t with
  | nil => rfl
  | cons p r ih =>
    rw [Tab.put]
    split
    · rfl
    · split
      · next h => simp [h]
      · simp [ih, Bool.or_left_comm]

theorem setByte_byteOf_same (dram : Bool) (a : Nat) (b : Byte) (s : State) : (setByte dram a b s).byteOf dram a = b := by
  cases dram
  · exact Tab.get_set_same ..
  · exact (State.byteOf_dram ..).trans (Tab.get_put_same ..)

theorem setByte_byteOf_other {dram : Bool} {a j : Nat} (h : j ≠ a) (b : Byte) (s : State) :
    (setByte dram a b s).byteOf dram j = s.byteOf dram j := by
  cases dram
  · exact Tab.get_set_other _ _ _ _ _ h
  · exact (State.byteOf_dram ..).trans ((Tab.get_put_other _ _ _ _ _ h).trans (State.byteOf_dram s j).symm)

theorem setByte_byteOf_not (dram : Bool) (a j : Nat) (b : Byte) (s : State) :
    (setByte dram a b s).byteOf (!dram) j = s.byteOf (!dram) j := by
  cases dram <;> rfl

@[simp] theorem setByte_rest (dram : Bool) (a : Nat) (b : Byte) (s : State) (mem : MemSt) :
    { setByte dram a b s with mem := mem } = { s with mem := mem } := by
  cases dram <;> rfl

/-- A store into another word leaves a word's mark. -/
theorem setByte_mark {dram : Bool} {a w : Nat} (h : a ≠ w * 8) (b : Byte) (s : State) :
    (setByte dram a b s).mark dram w = s.mark dram w := by
  cases dram
  · rfl
  · simp only [State.mark, setByte, if_true, Tab.any_key_put, decide_eq_false h, Bool.false_or]

/-! ### Bytes in a row -/

/-- `n` bytes from address `b`. -/
def storeBytes (dram : Bool) (b n : Nat) (f : Nat → Byte) (s : State) : State :=
  (List.range n).foldl (fun s k => setByte dram (b + k) (f k) s) s

theorem storeBytes_succ (dram : Bool) (b n : Nat) (f : Nat → Byte) (s : State) :
    storeBytes dram b (n + 1) f s = setByte dram (b + n) (f n) (storeBytes dram b n f s) := by
  simp only [storeBytes, List.range_succ, List.foldl_append, List.foldl_cons, List.foldl_nil]

theorem storeBytes_byteOf (dram : Bool) (b n : Nat) (f : Nat → Byte) (s : State) (a : Nat) :
    (storeBytes dram b n f s).byteOf dram a = if b ≤ a ∧ a < b + n then f (a - b) else s.byteOf dram a := by
  induction n with
  | zero => rw [if_neg (by omega)]; rfl
  | succ n ih =>
    rw [storeBytes_succ]
    by_cases h : a = b + n
    · rw [h, setByte_byteOf_same, if_pos (by omega), Nat.add_sub_cancel_left]
    · rw [setByte_byteOf_other h, ih]
      exact if_congr (by omega) rfl rfl

theorem storeBytes_byteOf_not (dram : Bool) (b n : Nat) (f : Nat → Byte) (s : State) (a : Nat) :
    (storeBytes dram b n f s).byteOf (!dram) a = s.byteOf (!dram) a := by
  induction n with
  | zero => rfl
  | succ n ih => rw [storeBytes_succ, setByte_byteOf_not, ih]

theorem storeBytes_rest (dram : Bool) (b n : Nat) (f : Nat → Byte) (s : State) (mem : MemSt) :
    { storeBytes dram b n f s with mem := mem } = { s with mem := mem } := by
  induction n with
  | zero => rfl
  | succ n ih => rw [storeBytes_succ, setByte_rest, ih]

theorem storeBytes_mark {dram : Bool} {b n w : Nat} (h : w * 8 < b ∨ b + n ≤ w * 8) (f : Nat → Byte) (s : State) :
    (storeBytes dram b n f s).mark dram w = s.mark dram w := by
  induction n with
  | zero => rfl
  | succ n ih => rw [storeBytes_succ, setByte_mark (by omega), ih (by omega)]

/-! ### One word -/

@[simp] theorem setMark_byteOf (dram d : Bool) (w : Nat) (x : Mark) (s : State) (a : Nat) :
    (setMark dram w x s).byteOf d a = s.byteOf d a := by
  cases dram <;> rfl

@[simp] theorem setMark_rest (dram : Bool) (w : Nat) (x : Mark) (s : State) (mem : MemSt) :
    { setMark dram w x s with mem := mem } = { s with mem := mem } := by
  cases dram <;> rfl

theorem setMark_mark_other {dram : Bool} {w v : Nat} (h : v ≠ w) (x : Mark) (s : State) :
    (setMark dram w x s).mark dram v = s.mark dram v := by
  cases dram
  · exact Tab.get_set_other _ _ _ _ _ h
  · simp only [State.mark, setMark, if_true, Tab.get_set_other _ _ _ _ _ h]

theorem setWord_eq (dram : Bool) (w : Nat) (bs : List Byte) (x : Mark) (s : State) :
    setWord dram w bs x s = setMark dram w x (storeBytes dram (w * 8) 8 (fun k => bs.getD k 0) s) := rfl

theorem setWord_byteOf (dram : Bool) (w : Nat) (bs : List Byte) (x : Mark) (s : State) (a : Nat) :
    (setWord dram w bs x s).byteOf dram a = if a / 8 = w then bs.getD (a % 8) 0 else s.byteOf dram a := by
  rw [setWord_eq, setMark_byteOf, storeBytes_byteOf]
  by_cases h : a / 8 = w
  · rw [if_pos (by omega), if_pos h, show a - w * 8 = a % 8 by omega]
  · rw [if_neg (by omega), if_neg h]

theorem setWord_byteOf_not (dram : Bool) (w : Nat) (bs : List Byte) (x : Mark) (s : State) (a : Nat) :
    (setWord dram w bs x s).byteOf (!dram) a = s.byteOf (!dram) a := by
  rw [setWord_eq, setMark_byteOf, storeBytes_byteOf_not]

theorem setWord_mark_other {dram : Bool} {w v : Nat} (h : v ≠ w) (bs : List Byte) (x : Mark) (s : State) :
    (setWord dram w bs x s).mark dram v = s.mark dram v := by
  rw [setWord_eq, setMark_mark_other h, storeBytes_mark (by omega)]

theorem setWord_rest (dram : Bool) (w : Nat) (bs : List Byte) (x : Mark) (s : State) (mem : MemSt) :
    { setWord dram w bs x s with mem := mem } = { s with mem := mem } := by
  rw [setWord_eq, setMark_rest, storeBytes_rest]

@[simp] theorem length_wordBytes (s : State) (dram : Bool) (w : Nat) : (s.wordBytes dram w).length = 8 := by
  rw [State.wordBytes, List.length_map, List.length_range]

theorem getD_wordBytes (s : State) (dram : Bool) (w : Nat) {k : Nat} (h : k < 8) :
    (s.wordBytes dram w).getD k 0 = s.byteOf dram (w * 8 + k) := by
  simp [State.wordBytes, List.getD_eq_getElem?_getD, h]

theorem readWord_clean {s : State} {dram : Bool} {w : Nat} (h : (s.mark dram w).kind = 0) (m addr : Nat) :
    readWord dram w m addr s = (s, some (s.wordBytes dram w)) := by
  simp only [readWord, h]

/-! ### A range -/

/-- `z` is `s` with the bytes `data` at `off` of a memory. -/
def State.Stored (s : State) (dram : Bool) (off : Nat) (data : List Byte) (z : State) : Prop :=
  (∀ a, z.byteOf dram a = if off ≤ a ∧ a < off + data.length then data.getD (a - off) 0 else s.byteOf dram a)
    ∧ (∀ a, z.byteOf (!dram) a = s.byteOf (!dram) a) ∧ { z with mem := s.mem } = s

/-- The first bytes of a range stored, then the rest. -/
theorem State.Stored.append {s y z : State} {dram : Bool} {off n : Nat} {data : List Byte} (hn : n ≤ data.length)
    (h1 : s.Stored dram off (data.take n) y) (h2 : y.Stored dram (off + n) (data.drop n) z) : s.Stored dram off data z := by
  obtain ⟨hy, hyn, hyr⟩ := h1
  obtain ⟨hz, hzn, hzr⟩ := h2
  refine ⟨fun a => ?_, fun a => (hzn a).trans (hyn a), ?_⟩
  · rw [hz, hy]
    simp only [List.length_take, List.length_drop, Nat.min_eq_left hn, List.getD_eq_getElem?_getD, List.getElem?_drop]
    by_cases hlate : off + n ≤ a ∧ a < off + n + (data.length - n)
    · rw [if_pos hlate, if_pos (by omega), show n + (a - (off + n)) = a - off by omega]
    · rw [if_neg hlate]
      by_cases hearly : off ≤ a ∧ a < off + n
      · rw [if_pos hearly, if_pos (by omega), List.getElem?_take_of_lt (by omega)]
      · rw [if_neg hearly, if_neg (by omega)]
  · calc { z with mem := s.mem } = { ({ z with mem := y.mem } : State) with mem := s.mem } := rfl
      _ = s := by rw [hzr, hyr]

/-- A write inside one clean word stores its bytes, and marks the word clean (R424). -/
theorem writeWord_clean {s : State} {dram : Bool} {w lo : Nat} {bs : List Byte} (hk : (s.mark dram w).kind = 0)
    (hlen : lo + bs.length ≤ 8) (m addr : Nat) : (writeWord dram w lo bs m addr s).2 = true
      ∧ s.Stored dram (w * 8 + lo) bs (writeWord dram w lo bs m addr s).1
      ∧ ∀ v, v ≠ w → (writeWord dram w lo bs m addr s).1.mark dram v = s.mark dram v := by
  have hw : writeWord dram w lo bs m addr s
      = (setWord dram w ((s.wordBytes dram w).take lo ++ bs ++ (s.wordBytes dram w).drop (lo + bs.length)) Mark.clean s, true) := by
    rw [writeWord]
    split
    · next h =>
      obtain ⟨rfl, h8⟩ := h
      simp [List.drop_of_length_le (show (s.wordBytes dram w).length ≤ bs.length by simpa using h8)]
    · simp only [hk]
  rw [hw]
  refine ⟨rfl, ⟨fun a => ?_, setWord_byteOf_not dram w _ _ s, setWord_rest dram w _ _ s s.mem⟩,
    fun v hv => setWord_mark_other hv _ _ s⟩
  rw [setWord_byteOf]
  by_cases hin : a / 8 = w
  · have hold : (s.wordBytes dram w).getD (a % 8) 0 = s.byteOf dram a := by
      rw [getD_wordBytes _ _ _ (Nat.mod_lt a (by decide)), show w * 8 + a % 8 = a by omega]
    have hl : ((s.wordBytes dram w).take lo).length = lo := by simp; omega
    rw [if_pos hin, ← hold, List.append_assoc]
    simp only [List.getD_eq_getElem?_getD]
    by_cases hbefore : a % 8 < lo
    · rw [if_neg (by omega), List.getElem?_append_left (by omega), List.getElem?_take_of_lt hbefore]
    · rw [List.getElem?_append_right (by omega), hl]
      by_cases hmid : a % 8 < lo + bs.length
      · rw [if_pos (by omega), List.getElem?_append_left (by omega), show a % 8 - lo = a - (w * 8 + lo) by omega]
      · rw [if_neg (by omega), List.getElem?_append_right (by omega), List.getElem?_drop,
          show lo + bs.length + (a % 8 - lo - bs.length) = a % 8 by omega]
  · rw [if_neg hin, if_neg (by omega)]

/-- The words of a range hold no error. -/
def State.cleanRange (s : State) (dram : Bool) (off len : Nat) : Prop :=
  ∀ w, off / 8 ≤ w → w ≤ (off + len - 1) / 8 → (s.mark dram w).kind = 0

/-- What is left of a range after the bytes of its first word. -/
theorem State.cleanRange.tail {s z : State} {dram : Bool} {off len n : Nat} (h : s.cleanRange dram off len)
    (hn : n = min len (8 - off % 8)) (hz : ∀ v, v ≠ off / 8 → z.mark dram v = s.mark dram v) (hpos : len - n ≠ 0) :
    z.cleanRange dram (off + n) (len - n) := by
  intro w hlo hhi
  rw [hz w (by omega)]
  exact h w (by omega) (by omega)

theorem writeRange_clean (dram : Bool) (m : Nat) (fuel : Nat) : ∀ (addr idx off : Nat) (data : List Byte) (s : State),
    (data ≠ [] → off % 8 + data.length ≤ 8 * fuel) → (data ≠ [] → s.cleanRange dram off data.length) →
    (writeRange dram m addr fuel idx off data s).2 = none
      ∧ s.Stored dram off data (writeRange dram m addr fuel idx off data s).1 := by
  have hnone (s : State) (off : Nat) : s.Stored dram off [] s :=
    ⟨fun a => by rw [if_neg (by simp only [List.length_nil]; omega)], fun a => rfl, rfl⟩
  induction fuel with
  | zero =>
    intro addr idx off data s hfuel hclean
    have hnil : data = [] := by
      by_contra h
      have := hfuel h
      have := List.length_pos_of_ne_nil h
      omega
    subst hnil
    exact ⟨rfl, hnone s off⟩
  | succ fuel ih =>
    intro addr idx off data s hfuel hclean
    by_cases hd : data = []
    · subst hd
      exact ⟨rfl, hnone s off⟩
    · have hpos := List.length_pos_of_ne_nil hd
      obtain ⟨n, hn⟩ : ∃ n, n = min data.length (8 - off % 8) := ⟨_, rfl⟩
      have hfits := hfuel hd
      have hlen : (data.take n).length = n := by rw [List.length_take]; omega
      have htail (h : data.drop n ≠ []) : data.length - n ≠ 0 :=
        List.length_drop ▸ (List.length_pos_of_ne_nil h).ne'
      obtain ⟨hok, hstored, hmark⟩ := writeWord_clean (hclean hd (off / 8) le_rfl (by omega))
        (show off % 8 + (data.take n).length ≤ 8 by omega) m addr
      obtain ⟨hrest, hafter⟩ := ih (addr + n) (idx + 1) (off + n) (data.drop n)
        (writeWord dram (off / 8) (off % 8) (data.take n) m addr s).1
        (fun h => by have := htail h; rw [List.length_drop]; omega)
        (fun h => by rw [List.length_drop]; exact (hclean hd).tail hn hmark (htail h))
      rw [show off / 8 * 8 + off % 8 = off by omega] at hstored
      simp only [writeRange, List.isEmpty_iff, if_neg hd, ← hn, hok, if_true]
      exact ⟨hrest, hstored.append (by omega) hafter⟩

theorem readRange_clean (dram : Bool) (m : Nat) (s : State) (fuel : Nat) : ∀ (addr idx off len : Nat),
    (len ≠ 0 → off % 8 + len ≤ 8 * fuel) → (len ≠ 0 → s.cleanRange dram off len) →
    readRange dram m addr fuel idx off len s = (s, (List.range len).map (fun k => s.byteOf dram (off + k)), none) := by
  induction fuel with
  | zero =>
    intro addr idx off len hfuel hclean
    obtain rfl : len = 0 := by
      by_contra h
      have := hfuel h
      omega
    rfl
  | succ fuel ih =>
    intro addr idx off len hfuel hclean
    by_cases hl : len = 0
    · subst hl
      rfl
    · obtain ⟨n, hn⟩ : ∃ n, n = min len (8 - off % 8) := ⟨_, rfl⟩
      have hfits := hfuel hl
      have hrest := ih (addr + n) (idx + 1) (off + n) (len - n) (fun h => by omega)
        (fun h => (hclean hl).tail hn (fun _ _ => rfl) h)
      have hfirst : ((s.wordBytes dram (off / 8)).drop (off % 8)).take n = (List.range n).map (fun k => s.byteOf dram (off + k)) := by
        refine List.ext_getElem (by simp; omega) fun k hk _ => ?_
        simp only [State.wordBytes, List.getElem_take, List.getElem_drop, List.getElem_map, List.getElem_range]
        congr 1
        omega
      simp only [readRange, if_neg hl, ← hn, readWord_clean (hclean hl (off / 8) le_rfl (by omega)), hrest, hfirst]
      conv_rhs => rw [show len = n + (len - n) by omega, List.range_add, List.map_append, List.map_map]
      simp only [Function.comp_def, Nat.add_assoc]

/-- A read of a whole range. -/
theorem readRange_whole {s : State} {dram : Bool} {off len : Nat} (h : s.cleanRange dram off len) (m addr : Nat) :
    readRange dram m addr (len / 8 + 2) 0 off len s = (s, (List.range len).map (fun k => s.byteOf dram (off + k)), none) :=
  readRange_clean dram m s _ addr 0 off len (fun _ => by omega) (fun _ => h)

/-- A write of a whole range. -/
theorem writeRange_whole {s : State} {dram : Bool} {off : Nat} {data : List Byte} (h : s.cleanRange dram off data.length)
    (m addr : Nat) : (writeRange dram m addr (data.length / 8 + 2) 0 off data s).2 = none
      ∧ s.Stored dram off data (writeRange dram m addr (data.length / 8 + 2) 0 off data s).1 :=
  writeRange_clean dram m _ addr 0 off data s (fun _ => by omega) (fun _ => h)

/-- Settles O34, by induction on the words of the range. -/
theorem memoryReadsWhatWasWritten : Obligations.MemoryReadsWhatWasWritten := by
  refine ⟨fun dram m addr off data s hclean r hr => ?_, fun dram m addr off len s hclean => readRange_whole hclean m addr⟩
  obtain ⟨hnone, hbytes, hother, hrest⟩ := writeRange_whole hclean m addr
  subst hr
  refine ⟨hnone, fun k hk => ?_, fun a ha => ?_, hother, hrest⟩
  · rw [hbytes, if_pos (by omega), Nat.add_sub_cancel_left]
  · rw [hbytes, if_neg (by omega)]

end Sys2Proof.Machine
end

section
/-!
PROOFS. The check units: what each access does to a unit's words, context switches, alive counters.
-/
namespace Sys2Proof.Machine

/-! ### Words of one unit -/

/-- Two arrays of one stride that begin at different addresses hold different registers at the same index. -/
theorem regAddr_ne_of_off {n m : RName} (hst : n.spec.st = m.spec.st) (hoff : n.spec.off ≠ m.spec.off) (i : Nat) :
    regAddr n i ≠ regAddr m i := by
  simp only [regAddr, hst]
  omega

theorem State.rg_rs_apart {n m : RName} (hst : n.spec.st = m.spec.st) (hoff : n.spec.off ≠ m.spec.off) (s : State) (v : Word)
    (i : Nat) : (s.rs m v i).rg n i = s.rg n i :=
  s.rg_rs_other v (regAddr_ne_of_off hst hoff i)

@[simp] theorem State.rg_setCrcSt (s : State) (u : Nat) (x : CrcSt) (n : RName) (i j : Nat) :
    (s.setCrcSt u x).rg n i j = s.rg n i j := rfl

@[simp] theorem State.crcSt_setCrcSt (s : State) (u : Nat) (x : CrcSt) : (s.setCrcSt u x).crcSt u = x := Tab.get_set_same ..

@[simp] theorem State.crcSt_rs (s : State) (n : RName) (v : Word) (i j u : Nat) : (s.rs n v i j).crcSt u = s.crcSt u := rfl

theorem crcVal_setCrcVal (u v : Nat) (s : State) : (setCrcVal u v s).crcVal u = v % 2 ^ 64 := by
  rw [State.crcVal, State.rg64, setCrcVal, State.rg_rs_apart (by decide) (by decide), State.rg_rs_same, State.rg_rs_same,
    BitVec.toNat_ofNat, BitVec.toNat_ofNat]
  omega

/-- The running value is all that a new value changes. -/
theorem rg_setCrcVal {n : RName} (hst : n.spec.st = 0x40) (hl : n.spec.off ≠ 0x50014) (hh : n.spec.off ≠ 0x50018) (u v : Nat)
    (s : State) : (setCrcVal u v s).rg n u = s.rg n u := by
  rw [setCrcVal, State.rg_rs_apart hst hh, State.rg_rs_apart hst hl]

theorem rg_crcFeed {n : RName} (hst : n.spec.st = 0x40) (hl : n.spec.off ≠ 0x50014) (hh : n.spec.off ≠ 0x50018) (u : Nat)
    (bs : List Byte) (s : State) : (crcFeed u bs s).rg n u = s.rg n u :=
  rg_setCrcVal hst hl hh u _ s

/-! ### Data and claims -/

theorem leBytes_two (n : Nat) : leBytes 2 n = [BitVec.ofNat 8 n, BitVec.ofNat 8 (n / 2 ^ 8)] := rfl

theorem leBytes_four (n : Nat) : leBytes 4 n
    = [BitVec.ofNat 8 n, BitVec.ofNat 8 (n / 2 ^ 8), BitVec.ofNat 8 (n / 2 ^ 16), BitVec.ofNat 8 (n / 2 ^ 24)] := by
  simp only [leBytes, Nat.div_div_eq_div_mul]
  rfl

/-- A field at bit 0 and a bit above it. -/
theorem fld_or_bitAt {a k : Nat} (hk : k < 32) (ha : a < 2 ^ k) : fld 0 a ||| bitAt k true = BitVec.ofNat 32 (a + 2 ^ k) := by
  have hbit : bitAt k true = fld k 1 := rfl
  have hpow : 2 ^ k * 2 ≤ 2 ^ 32 := by
    rw [← pow_succ]
    exact Nat.pow_le_pow_right two_pos hk
  refine BitVec.eq_of_toNat_eq ?_
  rw [hbit, toNat_fld_or hk.le ha (Nat.one_lt_two_pow (by omega)), BitVec.toNat_ofNat, Nat.mod_eq_of_lt (by omega)]
  omega

theorem writeEffect_crcReg {n : RName} (h : n.spec.off / 65536 = 5) (m u : Nat) (v : Word) (s : State) :
    writeEffect m ⟨n, u, 0⟩ v s = (crcWrite m ⟨n, u, 0⟩ v s, .ok) := writeEffect_crc (Reg.unit_of h)

theorem regWord_crcReg {n : RName} (h : n.spec.off / 65536 = 5) (u : Nat) (s : State) :
    s.regWord ⟨n, u, 0⟩ = (crcRead s ⟨n, u, 0⟩).getD (s.rg n u) := by
  simp only [State.regWord, Reg.unit_of h]

theorem snapshot_crcReg {n : RName} (h : n.spec.off / 65536 = 5) (u : Nat) (s : State) :
    snapshot ⟨n, u, 0⟩ s = crcSnapshot ⟨n, u, 0⟩ s := by
  simp only [snapshot, Reg.unit_of h]

theorem crcVall_present (s : State) (u : Nat) : s.absentReg ⟨.crcVall, u, 0⟩ = false := by
  simp [State.absentReg, State.hasReg, Reg.unit, RName.spec, rr]

/-- Settles O31: each row is an accepted write, or an allowed read, of its register. -/
theorem crcRowsTakeEffect : Obligations.CrcRowsTakeEffect := by
  refine ⟨⟨fun t m u v s b hb h => ?_, fun t m u v s b hb h => ?_, fun t m u v s b hb h => ?_, fun t m u v s b hb h => ?_,
    fun t m u v s b hb h hv => ?_, fun t m u v s b hb h hv => ?_⟩, fun t m u v s b hb h => ?_, fun t m u v s b hb h => ?_,
    fun t m u s b hb hon hu hacc => ?_⟩ <;> subst hb
  · rw [exec_write_accepted rfl h, writeEffect_crcReg rfl]
    rfl
  · rw [exec_write_accepted rfl h, writeEffect_crcReg rfl]
    rfl
  · rw [exec_write_accepted rfl h, writeEffect_crcReg rfl, ← leBytes_four]
    rfl
  · rw [exec_write_accepted rfl h, writeEffect_crcReg rfl]
    simp only [crcWrite, leBytes_four]
    rfl
  · rw [exec_write_accepted rfl h, writeEffect_crcReg rfl]
    simp only [crcWrite, bit, hv, if_true, fld_or_bitAt (show 4 < 32 by decide) (show m.toNat < 2 ^ 4 from m.isLt)]
    rfl
  · rw [exec_write_accepted rfl h, writeEffect_crcReg rfl]
    simp only [crcWrite, bit, hv, if_false, Bool.false_eq_true]
  · rw [exec_write_accepted rfl h, writeEffect_crcReg rfl]
    rfl
  · rw [exec_write_accepted rfl h, writeEffect_crcReg rfl]
    rfl
  · rw [exec_read_stands (crcVall_stands hu) rfl nofun hon (crcVall_present _ u) hacc, snapshot_crcReg rfl, regWord_crcReg rfl]
    rfl

/-! ### Context switches (R437) -/

/-- A register whose bits outside `rw` are clear is stored as it is written. -/
theorem mergedWord_eq_of_clear {s : State} {r : Reg} {v : Word} (hw1c : r.name.spec.w1c = 0)
    (hold : s.rg r.name r.i r.j &&& ~~~BitVec.ofNat 32 r.rwBits = 0) (hnew : v &&& ~~~BitVec.ofNat 32 r.rwBits = 0) :
    mergedWord s r v = v := by
  have hv : v &&& BitVec.ofNat 32 r.rwBits = v := by
    calc v &&& BitVec.ofNat 32 r.rwBits
      _ = (v &&& BitVec.ofNat 32 r.rwBits) ||| (v &&& ~~~BitVec.ofNat 32 r.rwBits) := by rw [hnew]; exact (BitVec.or_zero).symm
      _ = v := by rw [← BitVec.and_or_distrib_left, BitVec.or_not_self, BitVec.and_allOnes]
  simp only [mergedWord, hold, hv, hw1c, BitVec.ofNat_eq_ofNat, BitVec.and_zero, BitVec.zero_or]
  exact BitVec.and_allOnes

/-- What the write back of a unit's words leaves in them, in the order CRC_CFGu, VAL, CRC_ALIVELASTu. -/
theorem writeBack_rg {s z w : State} {m u : Nat} (hs : s.rg .crcCfg u &&& ~~~0x3FF = 0) (hz : z.rg .crcCfg u &&& ~~~0x3FF = 0)
    (ha : s.rg .crcAlivelast u &&& ~~~0x1FFFF = 0)
    (hw : w = (writeEffect m ⟨.crcAlivelast, u, 0⟩ (s.rg .crcAlivelast u) (writeEffect m ⟨.crcVall, u, 0⟩ (s.rg .crcVall u)
        (writeEffect m ⟨.crcValh, u, 0⟩ (s.rg .crcValh u) (writeEffect m ⟨.crcCfg, u, 0⟩ (s.rg .crcCfg u) z).1).1).1).1) :
    w.rg .crcCfg u = s.rg .crcCfg u ∧ w.rg .crcVall u = s.rg .crcVall u ∧ w.rg .crcValh u = s.rg .crcValh u
      ∧ w.rg .crcAlivelast u = s.rg .crcAlivelast u := by
  simp (disch := decide) only [writeEffect_crcReg, crcWrite] at hw
  have hcfg : mergedWord z ⟨.crcCfg, u, 0⟩ (s.rg .crcCfg u) = s.rg .crcCfg u := mergedWord_eq_of_clear rfl hz hs
  subst hw
  refine ⟨?_, ?_, ?_, ?_⟩
  · simp (disch := decide) only [storeReg, State.rg_rs_apart, State.rg_setCrcSt, rg_setCrcVal, hcfg, State.rg_rs_same]
  · simp (disch := decide) only [storeReg, State.rg_rs_apart, State.rg_rs_same]
  · simp (disch := decide) only [storeReg, State.rg_rs_apart, State.rg_rs_same, State.crcSt_rs, State.crcSt_setCrcSt]
  · refine (State.rg_rs_same ..).trans (mergedWord_eq_of_clear rfl ?_ ha)
    simp (disch := decide) only [State.rg_rs_apart, State.rg_setCrcSt, State.rg_rs_same]
    exact BitVec.zero_and

/-- Settles O32: a read's snapshot, a staged write and its load, and the write back of the three words. -/
theorem contextSwitchKeepsCrcUnit : Obligations.ContextSwitchKeepsCrcUnit := by
  refine ⟨fun s m u hu hacc => ?_, fun s u => ⟨?_, ?_⟩, fun s m u hi => ?_, fun s m u lo hi => ?_,
    fun s z m u hs hz ha w hw => writeBack_rg hs hz ha hw⟩
  · have hstands := crcVall_stands hu
    rw [readReg_allowed hstands.1 (crcVall_present s u) hacc (mbxReadCheck_other nofun) hstands.2, snapshot_crcReg rfl,
      regWord_crcReg rfl]
    rfl
  · rw [regWord_crcReg rfl]
    show ((s.setCrcSt u { s.crcSt u with snap := s.rg .crcValh u }).crcSt u).snap = _
    rw [State.crcSt_setCrcSt]
  · rw [regWord_crcReg rfl]
    rfl
  · rw [writeEffect_crcReg rfl]
    rfl
  · simp (disch := decide) only [writeEffect_crcReg, crcWrite, State.rg_rs_apart, State.rg_rs_same, State.crcSt_setCrcSt]

/-! ### Alive counters (R438) -/

theorem State.rb_when_rsb (s : State) (b : Bool) (n : RName) {k : Nat} (hk : k < 32) (l i : Nat) :
    (s.when b (fun s => s.rsb n k true i)).rb n l i = (s.rb n l i || (b && decide (l = k))) := by
  cases b
  · simp [State.when]
  · simp [State.when, State.rb_rsb_true s n hk, Bool.or_comm]

theorem State.rg_when_rsb {n m : RName} (hst : n.spec.st = m.spec.st) (hoff : n.spec.off ≠ m.spec.off) (s : State) (b : Bool)
    (k i : Nat) (c : Bool) : (s.when b (fun s => s.rsb m k c i)).rg n i = s.rg n i := by
  cases b
  · rfl
  · exact State.rg_rs_apart hst hoff ..

/-- The flags that a counter `a` sets after the last one. -/
def aliveFlags (u a last : Nat) (s : State) : State :=
  (s.when (decide (a = last)) (fun s => s.rsb .crcStat 0 true u)).when (decide (a ≠ (last + 1) % 65536))
    (fun s => s.rsb .crcStat 1 true u)

theorem rb_aliveFlags (u a last k : Nat) (s : State) : (aliveFlags u a last s).rb .crcStat k u
    = ((s.rb .crcStat k u || (decide (a = last) && decide (k = 0))) || (decide (a ≠ (last + 1) % 65536) && decide (k = 1))) := by
  rw [aliveFlags, State.rb_when_rsb _ _ _ (by decide), State.rb_when_rsb _ _ _ (by decide)]

theorem rg_aliveFlags {n : RName} (hst : n.spec.st = 0x40) (hoff : n.spec.off ≠ 0x50038) (u a last : Nat) (s : State) :
    (aliveFlags u a last s).rg n u = s.rg n u := by
  rw [aliveFlags, State.rg_when_rsb hst hoff, State.rg_when_rsb hst hoff]

theorem aliveFlags_regs (u a last : Nat) (s : State) : ∃ l, aliveFlags u a last s = { s with regs := l } := by
  rw [aliveFlags]
  cases decide (a = last) <;> cases decide (a ≠ (last + 1) % 65536) <;> exact ⟨_, rfl⟩

theorem crcAlive_eq (u : Nat) (v : Word) (s : State) : crcAlive u v s
    = ((crcFeed u (leBytes 2 (v.toNat % 2 ^ 16)) s).when (s.rb .crcAlivelast 16 u)
      (aliveFlags u (v.toNat % 2 ^ 16) (s.rf .crcAlivelast 0 16 u))).rs .crcAlivelast
        (BitVec.ofNat 32 (v.toNat % 2 ^ 16 + 2 ^ 16)) u := by
  have hlast : (crcFeed u (leBytes 2 (v.toNat % 2 ^ 16)) s).rg .crcAlivelast u = s.rg .crcAlivelast u :=
    rg_crcFeed (by decide) (by decide) (by decide) u _ s
  have hword := fld_or_bitAt (show 16 < 32 by decide) (Nat.mod_lt v.toNat (by decide : 0 < 2 ^ 16))
  simp only [crcAlive, field_eq_div_mod, pow_zero, Nat.div_one, State.rb, State.rf, hlast, hword]
  rfl

theorem crcAlive_regs (u : Nat) (v : Word) (s : State) : ∃ l, crcAlive u v s = { s with regs := l } := by
  rw [crcAlive_eq]
  cases s.rb .crcAlivelast 16 u with
  | false => exact ⟨_, rfl⟩
  | true =>
    obtain ⟨l, hl⟩ := aliveFlags_regs u (v.toNat % 2 ^ 16) (s.rf .crcAlivelast 0 16 u) (crcFeed u (leBytes 2 (v.toNat % 2 ^ 16)) s)
    show ∃ l, (aliveFlags u _ _ _).rs .crcAlivelast _ u = _
    rw [hl]
    exact ⟨_, rfl⟩

theorem leBytes_two_mod (n : Nat) : leBytes 2 (n % 2 ^ 16) = [BitVec.ofNat 8 n, BitVec.ofNat 8 (n / 2 ^ 8)] := by
  rw [leBytes_two]
  congr 1
  · exact BitVec.eq_of_toNat_eq (by simp only [BitVec.toNat_ofNat]; omega)
  · congr 1
    exact BitVec.eq_of_toNat_eq (by simp only [BitVec.toNat_ofNat]; omega)

/-- The flags leave the unit's other words. -/
theorem rg_when_aliveFlags {n : RName} (hst : n.spec.st = 0x40) (hoff : n.spec.off ≠ 0x50038) (u a last : Nat) (b : Bool)
    (s : State) : (s.when b (aliveFlags u a last)).rg n u = s.rg n u := by
  cases b
  · rfl
  · exact rg_aliveFlags hst hoff u a last s

/-- Settles O33: the fold, the flags and the stored counter, one after the other. -/
theorem aliveCounterIsCompared : Obligations.AliveCounterIsCompared := by
  refine ⟨fun s m u v x hx => ?_, fun s m u v k hk hv => ?_, fun t m u v s h => exec_write_accepted rfl h⟩
  · rw [writeEffect_crcReg rfl] at hx
    have hfeed : (crcFeed u (leBytes 2 (v.toNat % 2 ^ 16)) s).rg .crcStat u = s.rg .crcStat u :=
      rg_crcFeed (by decide) (by decide) (by decide) u _ s
    have hx : x = _ := hx.trans (crcAlive_eq u v s)
    have hstat (k : Nat) : x.rb .crcStat k u = (s.rb .crcStat k u || (s.rb .crcAlivelast 16 u
        && ((decide (v.toNat % 2 ^ 16 = s.rf .crcAlivelast 0 16 u) && decide (k = 0))
          || (decide (v.toNat % 2 ^ 16 ≠ (s.rf .crcAlivelast 0 16 u + 1) % 2 ^ 16) && decide (k = 1))))) := by
      rw [hx, State.rb, State.rg_rs_apart (by decide) (by decide), ← State.rb]
      cases s.rb .crcAlivelast 16 u with
      | false =>
        show (crcFeed u _ s).rb .crcStat k u = _
        rw [State.rb, hfeed, ← State.rb, Bool.false_and, Bool.or_false]
      | true =>
        show (aliveFlags u _ _ _).rb .crcStat k u = _
        rw [rb_aliveFlags, State.rb, hfeed, ← State.rb, Bool.true_and, Bool.or_assoc]
        rfl
    obtain ⟨l, hregs⟩ : ∃ l, x = { s with regs := l } := hx ▸ crcAlive_eq u v s ▸ crcAlive_regs u v s
    refine ⟨?_, ?_, ?_, ?_, by rw [hregs], by rw [hregs]⟩
    · rw [hx, State.crcVal, State.rg64]
      simp (disch := decide) only [State.rg_rs_apart, rg_when_aliveFlags, leBytes_two_mod]
      rfl
    · rw [hx, State.rg_rs_same]
    · simp [hstat]
    · simp [hstat]
  · rw [writeEffect_crcReg rfl]
    show (storeReg ⟨.crcStat, u, 0⟩ v s).rb .crcStat k u = false
    rw [State.rb, storeReg, State.rg_rs_same, bit, mergedWord_bit _ _ _ (by omega), hv]
    refine if_pos ?_
    show (RName.crcStat.spec.w1c.testBit k && true) = true
    interval_cases k <;> decide

end Sys2Proof.Machine
end

section
/-!
PROOFS. Packet commands: status, registers, memories, sheaves, safety and the pair.
-/
namespace Sys2Proof.Machine

/-! ### What taking a packet leaves -/

@[simp] theorem State.taken_shf (s : State) (t h op) : (s.taken t h op).shf = s.shf :=
  State.taken_of State.shf (fun _ => rfl) s t h op

@[simp] theorem State.taken_sheaf (s : State) (t h op n) : (s.taken t h op).sheaf n = s.sheaf n :=
  State.taken_of (State.sheaf · n) (fun _ => rfl) s t h op

@[simp] theorem State.taken_mem (s : State) (t h op) : (s.taken t h op).mem = s.mem :=
  State.taken_of State.mem (fun _ => rfl) s t h op

@[simp] theorem State.taken_bistHas (s : State) (t h op u) : (s.taken t h op).bistHas u = s.bistHas u :=
  State.taken_of (State.bistHas · u) (fun _ => rfl) s t h op

@[simp] theorem State.taken_now (s : State) (t h op) : (s.taken t h op).now = max s.now t :=
  State.of_body State.now (fun _ => rfl) (s.taken_body t h op)

/-! ### Status commands -/

theorem askBistResult_accepts {s : State} {mask m : Nat} (hlt : mask < 2 ^ 18) (h6 : mask.testBit 6 = false)
    (h7 : mask.testBit 7 = false) (hhas : ∀ u ∈ bistUnits mask, s.bistHas u = true) : askBistResult mask m s
      = accept s (s.word .bstDone ++ (bistUnits mask).flatMap (fun u => s.word .bstSig u ++ s.word .bstRef u ++ s.word .bstDet u)) :=
  (if_neg (by simp [h6, h7]; omega)).trans (if_neg (by simpa using hhas))

theorem readLog_accepts {first count : Nat} (hlo : 1 ≤ count) (hhi : count ≤ 255) (s : State) : readLog first count s
    = accept s (leBytes 1 (s.rf .fltLogptr 0 8) ++ [0] ++ leBytes 2 (s.rf .fltLogptr 16 16)
      ++ (List.range count).flatMap (fun k => (List.range 4).flatMap (fun j =>
        leBytes 4 (s.rg .fltLog ((first + k) % 256) j).toNat))) :=
  if_neg (by omega)

/-- The entries of the log lie below NET_STAT. -/
theorem fltLog_ne_netStat {i j : Nat} (hi : i < 256) (hj : j < 4) : regAddr .fltLog i j ≠ regAddr .netStat := by
  simp [regAddr, RName.spec, rr]
  omega

/-- The log of the state taken is the log before. -/
theorem State.taken_log (s : State) (t h op first count) : (List.range count).flatMap (fun k => (List.range 4).flatMap (fun j =>
      leBytes 4 ((s.taken t h op).rg .fltLog ((first + k) % 256) j).toNat))
    = (List.range count).flatMap (fun k => (List.range 4).flatMap (fun j => leBytes 4 (s.rg .fltLog ((first + k) % 256) j).toNat)) := by
  refine List.flatMap_congr fun k _ => List.flatMap_congr fun j hj => ?_
  rw [State.taken_rg _ _ _ _ (fltLog_ne_netStat (Nat.mod_lt _ (by decide)) (List.mem_range.mp hj))]

/-- Settles O13: each command is accepted in the state taken; PATH_RESET resets after its reply. -/
theorem statusCommandsAnswer : Obligations.StatusCommandsAnswer := by
  refine ⟨fun t h s ht => exec_taken_now rfl ht rfl fun _ => rfl, fun t h s ht => exec_taken_now rfl ht rfl fun _ => rfl,
    fun t h s ht => exec_taken_now rfl ht rfl fun _ => rfl, fun t h s mask ht => exec_taken_now rfl ht rfl fun _ => rfl,
    fun t h s ht hp => ?_, fun t h s ht hp => ?_, fun t h s ht => exec_taken_now rfl ht rfl fun _ => rfl,
    fun t h s ht => exec_taken_now rfl ht rfl fun _ => rfl, fun t h s ht => exec_taken_now rfl ht rfl fun _ => rfl,
    fun t h s mask ht hlt h6 h7 hhas => ?_, fun t h s first count ht hlo hhi => ?_⟩
  · rw [exec_taken rfl ht]
    simp only [runOp, if_neg hp, ended, accept, afterReply]
    rfl
  · rw [exec_taken rfl ht]
    simp only [runOp, if_pos hp, ended, refused, afterReply]
    rfl
  · exact exec_taken_now rfl ht (askBistResult_accepts hlt h6 h7 (by simpa using hhas)) fun _ => rfl
  · rw [exec_taken_now rfl ht (readLog_accepts hlo hhi _) fun _ => rfl, State.taken_log, State.rf, State.rf,
      State.taken_rg _ _ _ _ (by decide)]
    rfl

/-! ### Register commands -/

theorem regRead_count {n : Nat} (hlo : 1 ≤ n) (hhi : n ≤ 1023) (m addr : Nat) (s : State) : regRead m addr n s
    = match (readRegs m addr n 0 s).2.2 with
      | none => accept (readRegs m addr n 0 s).1 (readRegs m addr n 0 s).2.1
      | some (k, st) => ((readRegs m addr n 0 s).1, .now st k (readRegs m addr n 0 s).2.1) :=
  if_neg (by omega)

theorem regWrite_count {ws : List Word} (hlo : 1 ≤ ws.length) (hhi : ws.length ≤ 1022) (m addr : Nat) (s : State) :
    regWrite m addr ws s = match (writeRegs m addr ws 0 s).2 with
      | none => accept (writeRegs m addr ws 0 s).1
      | some (k, st) => refused st (writeRegs m addr ws 0 s).1 k :=
  if_neg (by rw [List.isEmpty_iff_length_eq_zero]; omega)

theorem regRmw_accepts {m addr : Nat} {mask value : Word} {s : State} (hr : (readReg m addr s).2.1 = .ok)
    (hw : (writeReg m addr (((readReg m addr s).2.2 &&& ~~~mask) ||| (value &&& mask)) (readReg m addr s).1).2 = .ok) :
    regRmw m addr mask value s
      = accept (writeReg m addr (((readReg m addr s).2.2 &&& ~~~mask) ||| (value &&& mask)) (readReg m addr s).1).1
        (leBytes 4 (readReg m addr s).2.2.toNat) :=
  (if_neg (by simpa using hr)).trans (if_pos hw)

/-- Settles O14: each command passes its own check of the count and then goes through its words. -/
theorem registerCommandsGoWordByWord : Obligations.RegisterCommandsGoWordByWord := by
  refine ⟨fun t h s addr n ht hlo hhi r hr => ?_, fun t h s addr ws ht hlo hhi r hr => ?_,
    fun t h s addr mask value ht r hr hok w hw hwok => ?_⟩
  · have hrun := regRead_count hlo hhi ((s.begin t).masterOf h.path) addr (s.taken t h 0x0100)
    rw [← hr] at hrun
    obtain ⟨y, data, fail⟩ := r
    cases fail with
    | none => exact exec_taken_now rfl ht hrun fun _ => rfl
    | some f => exact exec_taken_now rfl ht hrun fun _ => rfl
  · have hrun := regWrite_count hlo hhi ((s.begin t).masterOf h.path) addr (s.taken t h 0x0101)
    rw [← hr] at hrun
    obtain ⟨y, fail⟩ := r
    cases fail with
    | none => exact exec_taken_now rfl ht hrun fun _ => rfl
    | some f => exact exec_taken_now rfl ht hrun fun _ => rfl
  · subst hr hw
    exact exec_taken_now rfl ht (regRmw_accepts hok hwok) fun _ => rfl

/-! ### Memory commands -/

theorem memRead_range {m addr len : Nat} {s : State} {dram : Bool} {off : Nat} (hlo : 1 ≤ len) (hhi : len ≤ 4092)
    (hw : s.window m addr len = .ok (dram, off)) : memRead m addr len s
      = match (readRange dram m addr (len / 8 + 2) 0 off len s).2.2 with
        | none => accept (readRange dram m addr (len / 8 + 2) 0 off len s).1 (readRange dram m addr (len / 8 + 2) 0 off len s).2.1
        | some k => ((readRange dram m addr (len / 8 + 2) 0 off len s).1,
            .now .memUe k (readRange dram m addr (len / 8 + 2) 0 off len s).2.1) := by
  rw [memRead, if_neg (by omega), hw] <;> rfl

theorem memWrite_range {m addr : Nat} {data : List Byte} {s : State} {dram : Bool} {off : Nat} (hlo : 1 ≤ data.length)
    (hhi : data.length ≤ 4088) (hw : s.writeWindow m addr data.length = .ok (dram, off)) : memWrite m addr data s
      = match (writeRange dram m addr (data.length / 8 + 2) 0 off data s).2 with
        | none => accept (writeRange dram m addr (data.length / 8 + 2) 0 off data s).1
        | some k => refused .memUe (writeRange dram m addr (data.length / 8 + 2) 0 off data s).1 k := by
  rw [memWrite, if_neg (by rw [List.isEmpty_iff_length_eq_zero]; omega), hw] <;> rfl

theorem memFill_waits {h : Hdr} {m addr len : Nat} {pat : BitVec 64} {s : State} {dram : Bool} {off : Nat} (ha : addr % 8 = 0)
    (hl : len % 8 = 0) (hlo : 1 ≤ len) (hhi : len ≤ 2 ^ 31) (hw : s.writeWindow m addr len = .ok (dram, off)) :
    memFill h m addr len pat s = ({ s with mem := { s.mem with
      fills := s.mem.fills ++ [⟨h, (if dram then 2 ^ 40 else 0) + off, len, pat⟩] } }, .wait .fill) := by
  rw [memFill, if_neg (by omega), hw]

theorem setWord_cmd (dram : Bool) (w : Nat) (bs : List Byte) (x : Mark) (s : State) : (setWord dram w bs x s).cmd = s.cmd := by
  show ({ setWord dram w bs x s with mem := s.mem } : State).cmd = _
  rw [setWord_rest]

@[simp] theorem fillWords_cmd (dram : Bool) (pat : BitVec 64) (n w : Nat) (s : State) : (fillWords dram pat n w s).cmd = s.cmd := by
  induction n generalizing w s with
  | zero => rfl
  | succ n ih => rw [fillWords, ih, setWord_cmd]

/-- Settles O15: each command's range lies in its window; the oldest fill completes. -/
theorem memoryCommandsGoThroughTheirRange : Obligations.MemoryCommandsGoThroughTheirRange := by
  refine ⟨fun t h s addr len dram off ht hlo hhi hw r hr => ?_, fun t h s addr data dram off ht hlo hhi hw r hr => ?_,
    fun t h s addr len pat dram off ht ha hl hlo hhi hw => ?_, fun t s f rest o hf ho => ?_⟩
  · have hrun := memRead_range hlo hhi hw
    rw [← hr] at hrun
    obtain ⟨y, data, fail⟩ := r
    cases fail with
    | none => exact exec_taken_now rfl ht hrun fun _ => rfl
    | some k => exact exec_taken_now rfl ht hrun fun _ => rfl
  · have hrun := memWrite_range hlo hhi hw
    rw [← hr] at hrun
    obtain ⟨y, fail⟩ := r
    cases fail with
    | none => exact exec_taken_now rfl ht hrun fun _ => rfl
    | some k => exact exec_taken_now rfl ht hrun fun _ => rfl
  · rw [exec_taken_wait rfl ht (memFill_waits ha hl hlo hhi hw), HostOp.opcode, State.taken_mem]
  · have hpath (z : State) : (fillWords (decide (2 ^ 40 ≤ f.addr)) f.pat (f.len / 8) (f.addr % 2 ^ 40 / 8) z).path
        (pathIndex f.hdr.path) = z.path (pathIndex f.hdr.path) := by simp only [State.path, fillWords_cmd]
    show execMemFillDone t s = _
    simp only [execMemFillDone, State.begin_mem, hf, hpath]
    rw [show (State.path { s.begin t with mem := { s.mem with fills := rest } } (pathIndex f.hdr.path))
      = s.path (pathIndex f.hdr.path) from rfl, ho]

/-! ### Sheaf commands -/

theorem ownSheaf_none {n m : Nat} {s : State} (h : s.sheaf n = none) : ownSheaf n m s = .error ⟨.badParam, false⟩ := by
  simp only [ownSheaf, h]

theorem ownSheaf_own {n m : Nat} {s : State} {x : Sheaf} (h : s.sheaf n = some x) (ho : x.owner = m) : ownSheaf n m s = .ok x := by
  simp only [ownSheaf, h, if_pos ho]

theorem denyOp_badParam (op m : Nat) (s : State) : denyOp ⟨.badParam, false⟩ op m s = refused .badParam s := rfl

theorem sheafOpen_free {m n : Nat} {s : State} (h : (List.range 8).find? (fun n => (s.sheaf n).isNone) = some n) :
    sheafOpen m s = accept (s.setSheaf n ⟨m, 1, s.now, [], [], none, 0, none, 0, 0, [], [], 0⟩) (leBytes 1 n) := by
  simp only [sheafOpen, h]

theorem sheafOpen_full {m : Nat} {s : State} (h : ∀ n < 8, (s.sheaf n).isSome = true) :
    sheafOpen m s = refused .sheafLimit (s.rsb .shfEvt 3 true) := by
  have hnone : (List.range 8).find? (fun n => (s.sheaf n).isNone) = none :=
    List.find?_eq_none.mpr fun n hn => by simp [Option.isNone_iff_eq_none, ← Option.isSome_iff_ne_none, h n (List.mem_range.mp hn)]
  simp only [sheafOpen, hnone]

theorem sheafAdd_all {m n k : Nat} {es : List SheafEntry} {x y : Sheaf} {s : State} (hx : s.sheaf n = some x) (ho : x.owner = m)
    (h1 : x.state = 1) (hy : addEntries s es x 0 = (y, k, none)) : sheafAdd n m es s = (s.setSheaf n y, .now .ok k []) := by
  simp only [sheafAdd, ownSheaf_own hx ho, h1, hy, ne_eq, not_true_eq_false, if_false]

theorem sheafDiscard_open {m n : Nat} {x : Sheaf} {s : State} (hx : s.sheaf n = some x) (ho : x.owner = m) (h1 : x.state = 1) :
    sheafDiscard n m s = accept { s with shf := { s.shf with use := Tab.erase s.shf.use n } } := by
  simp only [sheafDiscard, ownSheaf_own hx ho, if_pos h1]

/-- A commit that passes checks 1 to 6. -/
theorem sheafCommit_passes {h : Hdr} {m n mode : Nat} {time : Word} {x : Sheaf} {s : State} (hx : s.sheaf n = some x)
    (ho : x.owner = m) (h1 : x.state = 1) (hmode : mode ≤ 2) (htime : mode ≠ 0 → time = 0)
    (hat : mode = 0 → atCheck n x time s = none) (hfails : s.sheafFails n x = none) : ∀ s1,
    s1 = ((({ s with shf := { s.shf with order := s.shf.order + 1 } } : State).setSheaf n
      { x with hdr := some h, how := mode, due := if mode = 0 then some (s.ticks + shortDiff time s.short) else none,
               order := s.shf.order + 1 }).when (decide (mode = 0)) (fun s => s.rs .shfStime time n)) →
    sheafCommit h n m mode time s = (if x.hasGdp then prepareSheaf n s1 else readySheaf n s1, .wait (.sheaf n)) := by
  intro s1 hs1
  have hchecks : (if mode = 0 then atCheck n x time s else none) = none := ite_eq_right_iff.mpr hat
  have hform : ¬ (2 < mode ∨ (mode ≠ 0 ∧ time ≠ 0)) := by
    rintro (h | ⟨h, hne⟩)
    · omega
    · exact hne (htime h)
  simp only [sheafCommit, ownSheaf_own hx ho, if_neg hform, h1, ne_eq, not_true_eq_false, if_false, hchecks, hfails, hs1]

/-- Settles O18: each command finds its own sheaf in the state taken and passes its checks. -/
theorem sheafCommandsTakeEffect : Obligations.SheafCommandsTakeEffect := by
  refine ⟨fun t h s n ht hfree => ?_, fun t h s ht hfull => ?_, fun t h s n es x y k ht hx ho h1 hy => ?_,
    fun t h s n mode x ht hmode hx ho h1 hf s1 hs1 => ?_, fun t h s n time x ht hx ho h1 hat hf s1 hs1 => ?_,
    fun t h s n x ht hx ho h1 => ?_⟩
  · rw [exec_taken_now rfl ht (sheafOpen_free (by simpa using hfree)) fun _ => rfl, State.taken_now]
    rfl
  · exact exec_taken_now rfl ht (sheafOpen_full (by simpa using hfull)) fun _ => rfl
  · exact exec_taken_now rfl ht (sheafAdd_all (by simpa using hx) ho h1 hy) fun _ => rfl
  · refine exec_taken_wait rfl ht (sheafCommit_passes (by simpa using hx) ho h1 (by omega) (fun _ => rfl) (by omega) hf s1 ?_)
    rw [hs1, State.taken_shf]
    simp [State.when, show mode ≠ 0 by omega]
  · refine exec_taken_wait rfl ht (sheafCommit_passes (by simpa using hx) ho h1 (by omega) (by omega) (fun _ => hat) hf s1 ?_)
    rw [hs1, State.taken_shf]
    rfl
  · rw [exec_taken_now rfl ht (sheafDiscard_open (by simpa using hx) ho h1) fun _ => rfl, HostOp.opcode, State.taken_shf]

/-- The use table without a key. -/
theorem find_erase {α : Type} (l : Tab α) (n k : Nat) : (Tab.erase l n).find? (fun p => decide (p.1 = k))
    = if k = n then none else l.find? (fun p => decide (p.1 = k)) := by
  induction l with
  | nil => simp [Tab.erase]
  | cons p r ih =>
    rw [Tab.erase]
    by_cases hp : p.1 = n <;> by_cases hk : k = n <;> grind

theorem State.sheaf_erase (s : State) (n k : Nat) :
    ({ s with shf := { s.shf with use := Tab.erase s.shf.use n } } : State).sheaf k = if k = n then none else s.sheaf k := by
  rw [State.sheaf, find_erase]
  by_cases h : k = n
  · rw [if_pos h, if_pos h]
    rfl
  · rw [if_neg h, if_neg h]
    rfl

/-- Settles O53: the time-out erases the sheaf, and a handle without a sheaf is no one's. -/
theorem openSheafTimesOut : Obligations.OpenSheafTimesOut := by
  refine ⟨fun t n s x hx h1 hlim hdue => ?_, fun t n s hlim => ?_, fun t h s n es ht hn => ?_, fun t h s n mode time ht hn => ?_,
    fun t h s n ht hn => ?_⟩
  · refine ⟨({ s.begin t with shf := { s.shf with use := Tab.erase s.shf.use n } } : State).rsb .shfEvt 4 true, ?_, ?_, ?_, ?_, ?_⟩
    · show execSheafTimeout t n s = _
      have hb : (s.begin t).sheaf n = some x := hx
      have hcond : x.state = 1 ∧ (s.begin t).rf .shfCtrl 0 8 ≠ 0 ∧ x.opened + (s.begin t).rf .shfCtrl 0 8 * 400000000 ≤ (s.begin t).now :=
        ⟨h1, hlim, hdue⟩
      simp only [execSheafTimeout, hb, if_pos hcond]
      rfl
    · exact (State.sheaf_erase (s.begin t) n n).trans (if_pos rfl)
    · intro k hk
      exact (State.sheaf_erase (s.begin t) n k).trans (if_neg hk)
    · exact State.rb_rsb_same _ _ (by decide) ..
    · rfl
  · show execSheafTimeout t n s = _
    have hb : (s.begin t).rf .shfCtrl 0 8 = 0 := hlim
    simp only [execSheafTimeout, hb, ne_eq, not_true_eq_false, false_and, and_false, if_false]
    cases (s.begin t).sheaf n <;> rfl
  · refine ⟨s.taken t h 0x0401, exec_taken_now rfl ht ?_ fun _ => rfl⟩
    simp only [runOp, sheafAdd, ownSheaf_none (s := s.taken t h _) (by simpa using hn)]
    exact denyOp_badParam ..
  · refine ⟨s.taken t h 0x0402, exec_taken_now rfl ht ?_ fun _ => rfl⟩
    simp only [runOp, sheafCommit, ownSheaf_none (s := s.taken t h _) (by simpa using hn)]
    exact denyOp_badParam ..
  · refine ⟨s.taken t h 0x0403, exec_taken_now rfl ht ?_ fun _ => rfl⟩
    simp only [runOp, sheafDiscard, ownSheaf_none (s := s.taken t h _) (by simpa using hn)]
    exact denyOp_badParam ..

/-! ### Safety and the pair -/

theorem safReset_accepts {s : State} (h : s.resetOk = true) : safReset s = accept (releaseSf1 s) := if_pos h

theorem safConfirmImage_lane {lane : Nat} (hl : lane ≤ 1) (crc : Word) (s : State) : safConfirmImage lane crc s
    = refused (safConfirm lane crc s).2 (safConfirm lane crc s).1 :=
  if_neg (Nat.not_lt.mpr hl)

theorem askClaim_accepts {s : State} (hm : s.mayClaim = true) (ha : (claimAwn s).awn = true) : askClaim s
    = accept (setMode .armed (claimAwn s).sub { claimAwn s with red := { (claimAwn s).red with sendFull := true } }) :=
  (if_neg (not_not.mpr hm)).trans (if_pos ha)

theorem askSwitchover_waits {s : State} (hm : s.mode = .armed ∨ s.mode = .precharge ∨ s.mode = .run) (ha : s.awn = true)
    (hr : s.pairReady = true) : askSwitchover s = (s, .wait .switchover) :=
  if_pos ⟨hm, ha, hr⟩

theorem askPairResync_accepts {s : State} (hc : s.rb .redCtrl 0 = true) (hm : s.mode = .standbyCold) (ha : s.awn = false) :
    askPairResync s = accept (askResync s) :=
  if_pos ⟨hc, hm, by simp [ha]⟩

/-- Settles O20: each command passes the conditions of its rule in the state taken. -/
theorem safetyAndPairCommandsTakeEffect : Obligations.SafetyAndPairCommandsTakeEffect := by
  refine ⟨fun t h s img ht r hr => ?_, fun t h s lane crc ht hl r hr => ?_, fun t h s ht hok => ?_, fun t h s ht hm c hc ha => ?_,
    fun t h s ht hm ha hr => ?_, fun t h s ht hc hm ha => ?_⟩
  · subst hr
    exact exec_taken_now rfl ht rfl fun _ => rfl
  · subst hr
    exact exec_taken_now rfl ht (safConfirmImage_lane hl crc _) fun _ => rfl
  · exact exec_taken_now rfl ht (safReset_accepts hok) fun _ => rfl
  · subst hc
    exact exec_taken_now rfl ht (askClaim_accepts hm ha) fun _ => rfl
  · exact exec_taken_wait rfl ht (askSwitchover_waits (by simpa using hm) (by simpa using ha) hr)
  · exact exec_taken_now rfl ht (askPairResync_accepts hc (by simpa using hm) (by simpa using ha)) fun _ => rfl

end Sys2Proof.Machine
end

section
/-!
PROOFS. The fault collector: words made of fields, what a report writes and what it leaves, raised faults, violations.
-/
namespace Sys2Proof.Machine

/-! ### Words made of fields -/

theorem bit_or (x y : Word) (i : Nat) : bit (x ||| y) i = (bit x i || bit y i) := BitVec.getLsbD_or

theorem field_or (x y : Word) (lo n : Nat) : field (x ||| y) lo n = field x lo n ||| field y lo n := by
  refine Nat.eq_of_testBit_eq fun k => ?_
  simp only [Nat.testBit_or, testBit_field, bit_or, Bool.and_or_distrib_left]

theorem bit_fld (lo v i : Nat) : bit (fld lo v) i = (decide (i < 32) && (decide (lo ≤ i) && v.testBit (i - lo))) := by
  rw [bit, fld, BitVec.getLsbD_ofNat, Nat.testBit_shiftLeft]

theorem bit_fld_apart {v k : Nat} (hv : v < 2 ^ k) {lo i : Nat} (h : i < lo ∨ lo + k ≤ i) : bit (fld lo v) i = false := by
  rw [bit_fld]
  rcases h with h | h
  · simp [Nat.not_le.mpr h]
  · rw [Nat.testBit_lt_two_pow (hv.trans_le (Nat.pow_le_pow_right two_pos (by omega)))]
    simp

theorem bit_bitAt {k : Nat} (hk : k < 32) (b : Bool) (i : Nat) : bit (bitAt k b) i = (b && decide (i = k)) := by
  cases b with
  | false => exact BitVec.getLsbD_zero
  | true =>
    rw [bitAt, if_pos rfl, bit, BitVec.getLsbD_ofNat, Nat.one_shiftLeft, Nat.testBit_two_pow, Bool.eq_iff_iff]
    simp only [Bool.and_eq_true, decide_eq_true_eq, Bool.true_and]
    omega

theorem field_fld {v lo n : Nat} (hv : v < 2 ^ n) (h : lo + n ≤ 32) : field (fld lo v) lo n = v := by
  refine Nat.eq_of_testBit_eq fun k => ?_
  rw [testBit_field, bit_fld]
  by_cases hk : k < n
  · simp [hk, show lo + k < 32 by omega]
  · rw [Nat.testBit_lt_two_pow (hv.trans_le (Nat.pow_le_pow_right two_pos (Nat.not_lt.mp hk))), decide_eq_false hk, Bool.false_and]

theorem field_fld_apart {v k : Nat} (hv : v < 2 ^ k) {lo l n : Nat} (h : l + n ≤ lo ∨ lo + k ≤ l) : field (fld lo v) l n = 0 := by
  refine Nat.eq_of_testBit_eq fun i => ?_
  rw [testBit_field, Nat.zero_testBit]
  by_cases hi : i < n
  · rw [bit_fld_apart hv (by omega), Bool.and_false]
  · simp [hi]

theorem field_bitAt_apart {k : Nat} (hk : k < 32) (b : Bool) {l n : Nat} (h : l + n ≤ k ∨ k < l) : field (bitAt k b) l n = 0 := by
  refine Nat.eq_of_testBit_eq fun i => ?_
  rw [testBit_field, Nat.zero_testBit, bit_bitAt hk]
  by_cases hi : i < n
  · rw [decide_eq_false (show ¬ l + i = k by omega), Bool.and_false, Bool.and_false]
  · simp [hi]

theorem levelCode_lt (l : Level) : levelCode l < 2 ^ 2 := by
  cases l <;> decide

/-! ### What a report leaves -/

/-- All but the collector's block of registers, its state and the paths: what a report leaves. -/
def State.besideFlt (s : State) : (Nat → Word) × State :=
  (fun a => if a / 65536 = 1 then 0 else Tab.get regReset s.regs a, { s with regs := [], flt := State.reset.flt, cmd := [] })

theorem State.of_besideFlt {β : Type} (q : State → β) (hq : ∀ s, q s.besideFlt.2 = q s) {x y : State}
    (h : x.besideFlt = y.besideFlt) : q x = q y := by
  rw [← hq x, h, hq]

/-- A register of another block is the same in states that differ in the collector only. -/
theorem State.rg_of_besideFlt {x y : State} {n : RName} {i j : Nat} (h : x.besideFlt = y.besideFlt)
    (hn : regAddr n i j / 65536 ≠ 1) : x.rg n i j = y.rg n i j := by
  have ha := congrFun (congrArg Prod.fst h) (regAddr n i j)
  simp only [State.besideFlt, if_neg hn] at ha
  exact ha

theorem State.rs_besideFlt (s : State) {n : RName} (v : Word) {i j : Nat} (h : regAddr n i j / 65536 = 1) :
    (s.rs n v i j).besideFlt = s.besideFlt := by
  refine Prod.ext (funext fun a => ?_) rfl
  by_cases ha : a / 65536 = 1
  · simp only [State.besideFlt, if_pos ha]
  · simp only [State.besideFlt, if_neg ha]
    refine Tab.get_set_other _ _ _ _ _ fun e => ha ?_
    rwa [e]

/-- The single registers of the collector that reports write. -/
abbrev collectorRegs : List RName := [.fltStat, .fltUnack, .fltLogptr, .fltReplace, .fltVioldrop]

@[simp] theorem State.rs_collector_besideFlt (s : State) {n : RName} (v : Word) (hn : n ∈ collectorRegs) :
    (s.rs n v).besideFlt = s.besideFlt := by
  have hblock : ∀ n ∈ collectorRegs, regAddr n 0 0 / 65536 = 1 := by decide
  exact s.rs_besideFlt v (hblock n hn)

/-- The words of the classes stand between the single registers and the log. -/
theorem regAddr_classRegs {n : RName} (hn : n ∈ classRegs) {c : Nat} (hc : c < 14) :
    0x10100 ≤ regAddr n c ∧ regAddr n c < 0x11000 := by
  have hspec : ∀ n ∈ classRegs, n.spec.st = 0x20 ∧ 0x10100 ≤ n.spec.off ∧ n.spec.off ≤ 0x10110 := by decide
  obtain ⟨hst, hlo, hhi⟩ := hspec n hn
  simp only [regAddr, hst]
  omega

theorem State.rs_class_besideFlt (s : State) {n : RName} (v : Word) {c : Nat} (hn : n ∈ classRegs) (hc : c < 14) :
    (s.rs n v c).besideFlt = s.besideFlt :=
  s.rs_besideFlt v (by have := regAddr_classRegs hn hc; omega)

theorem regAddr_fltLog (k j : Nat) : regAddr .fltLog k j = 0x11000 + k * 16 + j * 4 := rfl

@[simp] theorem State.rs_fltLog_besideFlt (s : State) (v k j) (hj : j < 4) :
    (s.rs .fltLog v (k % 256) j).besideFlt = s.besideFlt :=
  s.rs_besideFlt v (by rw [regAddr_fltLog]; omega)

@[simp] theorem State.rsf_besideFlt (s : State) (n lo len v i j) :
    (s.rsf n lo len v i j).besideFlt = (s.rs n (setField (s.rg n i j) lo len v) i j).besideFlt := rfl
@[simp] theorem State.rsb_besideFlt (s : State) (n k b i j) :
    (s.rsb n k b i j).besideFlt = (s.rsf n k 1 (if b then 1 else 0) i j).besideFlt := rfl
@[simp] theorem State.rsat_besideFlt (s : State) (n lo len a i j) :
    (s.rsat n lo len a i j).besideFlt = (s.rsf n lo len (satAdd (2 ^ len - 1) (s.rf n lo len i j) a) i j).besideFlt := rfl
@[simp] theorem State.setPath_besideFlt (s : State) (q p) : (s.setPath q p).besideFlt = s.besideFlt := rfl
@[simp] theorem State.besideFlt_update (s : State) (f) : ({ s with flt := f } : State).besideFlt = s.besideFlt := rfl

@[simp] theorem ite_besideFlt (c : Prop) [Decidable c] (a b : State) :
    (if c then a else b).besideFlt = if c then a.besideFlt else b.besideFlt := apply_ite ..

@[simp] theorem State.when_besideFlt (s : State) (b : Bool) (f : State → State) (h : ∀ s, (f s).besideFlt = s.besideFlt) :
    (s.when b f).besideFlt = s.besideFlt := by
  cases b with
  | false => rfl
  | true => exact h s

@[simp] theorem pushOn_besideFlt (q r s) : (pushOn q r s).1.besideFlt = s.besideFlt := by
  simp [pushOn]

@[simp] theorem pushAll_besideFlt (r s) : (pushAll r s).1.besideFlt = s.besideFlt :=
  foldl_keeps (fun x : State × Nat => x.1.besideFlt) (fun _ _ => pushOn_besideFlt ..) _ _

@[simp] theorem logEntry_besideFlt (f lvl esc first s) : (logEntry f lvl esc first s).besideFlt = s.besideFlt := by
  simp [logEntry]

theorem capture_besideFlt {c : Nat} (hc : c < 14) (f lvl s) : (capture c f lvl s).besideFlt = s.besideFlt := by
  simp only [capture, State.rs_class_besideFlt _ _ (n := .fltFecnt) (by decide) hc,
    State.rs_class_besideFlt _ _ (n := .fltFetimeh) (by decide) hc, State.rs_class_besideFlt _ _ (n := .fltFetimel) (by decide) hc,
    State.rs_class_besideFlt _ _ (n := .fltFeaddr) (by decide) hc, State.rs_class_besideFlt _ _ (n := .fltFecode) (by decide) hc]

theorem State.rs_fltFecnt_besideFlt {c : Nat} (hc : c < 14) (s : State) (v) : (s.rs .fltFecnt v c).besideFlt = s.besideFlt :=
  s.rs_class_besideFlt v (by decide) hc

theorem raise0_besideFlt {f : FaultArg} (hc : f.code / 256 < 14) (s) : (raise0 f s).1.besideFlt = s.besideFlt := by
  simp [raise0, State.rs_fltFecnt_besideFlt hc, capture_besideFlt hc]

@[simp] theorem overflowFaults_besideFlt (fuel n s) : (overflowFaults fuel n s).besideFlt = s.besideFlt := by
  induction fuel generalizing n s with
  | zero => simp [overflowFaults]
  | succ k ih => cases n <;> simp [overflowFaults, ih, raise0_besideFlt]

@[simp] theorem emit_besideFlt (kind ident d s x) : (emit kind ident d s x).besideFlt = s.besideFlt := by
  simp [emit]

@[simp] theorem violation_besideFlt (acc addr m st s) : (violation acc addr m st s).besideFlt = s.besideFlt := by
  simp [violation, State.rs_fltFecnt_besideFlt, capture_besideFlt]

/-! ### A log entry's words -/

@[simp] theorem pushOn_regs (q r s) : (pushOn q r s).1.regs = s.regs := by
  unfold pushOn
  dsimp only
  split
  · rfl
  · split <;> rfl

@[simp] theorem pushAll_regs (r s) : (pushAll r s).1.regs = s.regs :=
  foldl_keeps (fun x : State × Nat => x.1.regs) (fun _ _ => pushOn_regs ..) _ _

/-- The flag that the log has gone round touches FLT_STAT only. -/
theorem rg_logRound {n : RName} {i j : Nat} (h : regAddr n i j ≠ regAddr .fltStat) (s : State) (b : Bool) :
    (s.when b (fun s => s.rsb .fltStat 4 true)).rg n i j = s.rg n i j := by
  cases b with
  | false => rfl
  | true => exact State.rg_rs_other s _ h

/-- A register below the log, other than FLT_STAT and FLT_LOGPTR, is no part of an entry. -/
theorem logEntry_rg {n : RName} {i j : Nat} (hlow : regAddr n i j < 0x11000) (hstat : regAddr n i j ≠ regAddr .fltStat)
    (hptr : regAddr n i j ≠ regAddr .fltLogptr) (f lvl esc first s) :
    (logEntry f lvl esc first s).rg n i j = s.rg n i j := by
  have hlog (k l : Nat) : regAddr n i j ≠ regAddr .fltLog k l := by
    rw [regAddr_fltLog]
    omega
  rw [logEntry, State.rg_rs_other _ _ hptr]
  refine (rg_logRound hstat _ _).trans ?_
  rw [State.rg_rs_other _ _ (hlog _ _), State.rg_rs_other _ _ (hlog _ _), State.rg_rs_other _ _ (hlog _ _),
    State.rg_rs_other _ _ (hlog _ _)]

/-- Word 0 of a log entry (R447). -/
def logWord0 (f : FaultArg) (lvl : Level) (esc first : Bool) : Word :=
  fld 0 (f.code % 65536) ||| fld 16 (levelCode lvl) ||| fld 18 (levelCode f.base) ||| bitAt 20 esc
    ||| bitAt 21 first ||| bitAt 22 f.inj ||| fld 24 (f.master.getD 0 % 16) ||| fld 28 (f.acc % 8) ||| bitAt 31 f.master.isNone

/-- The four words of the entry that a report writes. -/
theorem logEntry_words (f lvl esc first) (s : State) : ∀ z k, z = logEntry f lvl esc first s → k = s.flt.logged % 256 →
    z.rg .fltLog k 0 = logWord0 f lvl esc first ∧ z.rg .fltLog k 1 = BitVec.ofNat 32 f.addr ∧ z.rg .fltLog k 2 = s.short
      ∧ z.rg .fltLog k 3 = (fld 0 (s.flt.logged % 65536) ||| fld 16 (f.index % 65536)) := by
  rintro z k rfl rfl
  have hptr (k j : Nat) : regAddr .fltLog k j ≠ regAddr .fltLogptr := by
    rw [regAddr_fltLog, show regAddr .fltLogptr = 0x1000C from rfl]
    omega
  have hstat (k j : Nat) : regAddr .fltLog k j ≠ regAddr .fltStat := by
    rw [regAddr_fltLog, show regAddr .fltStat = 0x10000 from rfl]
    omega
  have hword (k : Nat) {j l : Nat} (h : j ≠ l) : regAddr .fltLog k j ≠ regAddr .fltLog k l := by
    rw [regAddr_fltLog, regAddr_fltLog]
    omega
  refine ⟨?_, ?_, ?_, ?_⟩
  all_goals rw [logEntry, State.rg_rs_other _ _ (hptr _ _)]; refine (rg_logRound (hstat _ _) _ _).trans ?_
  · rw [State.rg_rs_other _ _ (hword _ (by decide)), State.rg_rs_other _ _ (hword _ (by decide)),
      State.rg_rs_other _ _ (hword _ (by decide)), State.rg_rs_same]
    rfl
  · rw [State.rg_rs_other _ _ (hword _ (by decide)), State.rg_rs_other _ _ (hword _ (by decide)), State.rg_rs_same]
  · rw [State.rg_rs_other _ _ (hword _ (by decide)), State.rg_rs_same]
  · rw [State.rg_rs_same]

theorem logWord0_fields {f : FaultArg} (hcode : f.code < 2 ^ 16) (lvl esc first) : ∀ w, w = logWord0 f lvl esc first →
    field w 0 16 = f.code ∧ field w 16 2 = levelCode lvl ∧ field w 18 2 = levelCode f.base ∧ bit w 20 = esc ∧ bit w 21 = first := by
  rintro w rfl
  have hc : f.code % 65536 = f.code := Nat.mod_eq_of_lt hcode
  have hl := levelCode_lt lvl
  have hb := levelCode_lt f.base
  have hm : f.master.getD 0 % 16 < 2 ^ 4 := Nat.mod_lt _ (by decide)
  have ha : f.acc % 8 < 2 ^ 3 := Nat.mod_lt _ (by decide)
  rw [logWord0, hc]
  refine ⟨?_, ?_, ?_, ?_, ?_⟩
  · simp (disch := omega) [field_or, field_fld hcode, field_fld_apart hl, field_fld_apart hb, field_fld_apart hm,
      field_fld_apart ha, field_bitAt_apart]
  · simp (disch := omega) [field_or, field_fld hl, field_fld_apart hcode, field_fld_apart hb, field_fld_apart hm,
      field_fld_apart ha, field_bitAt_apart]
  · simp (disch := omega) [field_or, field_fld hb, field_fld_apart hcode, field_fld_apart hl, field_fld_apart hm,
      field_fld_apart ha, field_bitAt_apart]
  · simp (disch := omega) [bit_or, bit_fld_apart hcode, bit_fld_apart hl, bit_fld_apart hb, bit_fld_apart hm,
      bit_fld_apart ha, bit_bitAt]
  · simp (disch := omega) [bit_or, bit_fld_apart hcode, bit_fld_apart hl, bit_fld_apart hb, bit_fld_apart hm,
      bit_fld_apart ha, bit_bitAt]

/-! ### A raised fault -/

/-- What raising a fault writes before its log entry: the capture, the counts, the class bit. -/
def noteClass (f : FaultArg) (s : State) : State :=
  let c := f.code / 256
  let lvl := if s.unack c then levelUp f.base else f.base
  let z := ((((s.when (!s.unack c) (capture c f lvl)).rsat .fltFecnt 0 16 1 c).when (s.unack c) (fun s =>
    s.rsat .fltFecnt 16 16 1 c))).rsb .fltUnack c true
  { z with flt := { z.flt with hi := Tab.set (fun _ => 0) z.flt.hi c (max (Tab.get (fun _ => 0) z.flt.hi c) (levelCode lvl)) } }

theorem raise0_rg (f : FaultArg) (s : State) (n : RName) (i j : Nat) : (raise0 f s).1.rg n i j
    = (logEntry f (raise0 f s).2.2 (s.unack (f.code / 256)) (!(s.unack (f.code / 256))) (noteClass f s)).rg n i j :=
  State.rg_of_regs (pushAll_regs ..) n i j

theorem noteClass_besideFlt {f : FaultArg} (hc : f.code / 256 < 14) (s : State) : (noteClass f s).besideFlt = s.besideFlt := by
  simp [noteClass, State.rs_fltFecnt_besideFlt hc, capture_besideFlt hc]

theorem noteClass_logged (f : FaultArg) (s : State) : (noteClass f s).flt.logged = s.flt.logged := by
  simp [noteClass]

/-- Counting a fault leaves every register but the count. -/
theorem rg_counted {n : RName} {i j c : Nat} (h : regAddr n i j ≠ regAddr .fltFecnt c) (s : State) (b : Bool) :
    ((s.rsat .fltFecnt 0 16 1 c).when b (fun s => s.rsat .fltFecnt 16 16 1 c)).rg n i j = s.rg n i j := by
  cases b with
  | false => exact State.rg_rs_other _ _ h
  | true => exact (State.rg_rs_other _ _ h).trans (State.rg_rs_other _ _ h)

/-- The words of a class other than its count are those of the capture, where it is filled. -/
theorem noteClass_rg {f : FaultArg} {n : RName} (hn : n ∈ classRegs) (hcnt : n ≠ .fltFecnt) (hc : f.code / 256 < 14) (s : State) :
    (noteClass f s).rg n (f.code / 256)
      = (s.when (!s.unack (f.code / 256)) (capture (f.code / 256) f
          (if s.unack (f.code / 256) then levelUp f.base else f.base))).rg n (f.code / 256) := by
  have hplace := regAddr_classRegs hn hc
  have hunack : regAddr n (f.code / 256) ≠ regAddr .fltUnack := by
    rw [show regAddr .fltUnack = 0x10004 from rfl]
    omega
  have hspec : ∀ n ∈ classRegs, n ≠ .fltFecnt → n.spec.st = RName.fltFecnt.spec.st ∧ n.spec.off ≠ RName.fltFecnt.spec.off := by
    decide
  obtain ⟨hst, hoff⟩ := hspec n hn hcnt
  exact (State.rg_rs_other _ _ hunack).trans (rg_counted (regAddr_ne_of_off hst hoff _) _ _)

theorem noteClass_unack {f : FaultArg} (hc : f.code / 256 < 14) (s : State) (c : Nat) :
    (noteClass f s).unack c = (s.unack c || decide (c = f.code / 256)) := by
  have hcnt : regAddr .fltUnack ≠ regAddr .fltFecnt (f.code / 256) := by
    have := regAddr_classRegs (n := .fltFecnt) (by decide) hc
    rw [show regAddr .fltUnack = 0x10004 from rfl]
    omega
  have hcap : (s.when (!s.unack (f.code / 256)) (capture (f.code / 256) f
      (if s.unack (f.code / 256) then levelUp f.base else f.base))).rg .fltUnack = s.rg .fltUnack := by
    have hne {n : RName} (hn : n ∈ classRegs) : regAddr .fltUnack ≠ regAddr n (f.code / 256) := by
      have := regAddr_classRegs hn hc
      rw [show regAddr .fltUnack = 0x10004 from rfl]
      omega
    cases s.unack (f.code / 256) with
    | true => rfl
    | false =>
      show (capture _ f _ s).rg .fltUnack = _
      rw [capture, State.rg_rs_other _ _ (hne (by decide)), State.rg_rs_other _ _ (hne (by decide)),
        State.rg_rs_other _ _ (hne (by decide)), State.rg_rs_other _ _ (hne (by decide)), State.rg_rs_other _ _ (hne (by decide))]
  refine (State.rb_rsb_true _ .fltUnack (by omega) c 0 0).trans ?_
  rw [State.rb, rg_counted hcnt, hcap, Bool.or_comm]
  rfl

/-- The words of a filled capture (R446). -/
theorem capture_words (c : Nat) (f : FaultArg) (lvl : Level) (s : State) : ∀ z, z = capture c f lvl s →
    z.rg .fltFecode c = (fld 0 (f.code % 65536) ||| fld 16 (levelCode lvl) ||| fld 18 (f.master.getD 0 % 16)
        ||| fld 22 (f.acc % 8) ||| bitAt 25 f.master.isNone ||| bitAt 26 true)
      ∧ z.rg .fltFeaddr c = BitVec.ofNat 32 f.addr ∧ z.rg .fltFetimel c = BitVec.ofNat 32 (lowBits 64 s.ticks)
      ∧ z.rg .fltFetimeh c = BitVec.ofNat 32 (lowBits 64 s.ticks / 2 ^ 32) ∧ z.rg .fltFecnt c = 0 := by
  rintro z rfl
  refine ⟨?_, ?_, ?_, ?_, ?_⟩ <;> simp (disch := decide) only [capture, State.rg_rs_apart, State.rg_rs_same]

theorem capture_fields {f : FaultArg} (hcode : f.code < 2 ^ 16) (lvl : Level) : ∀ w, w = (fld 0 (f.code % 65536)
      ||| fld 16 (levelCode lvl) ||| fld 18 (f.master.getD 0 % 16) ||| fld 22 (f.acc % 8) ||| bitAt 25 f.master.isNone
      ||| bitAt 26 true) →
    field w 0 16 = f.code ∧ field w 16 2 = levelCode lvl ∧ bit w 25 = f.master.isNone ∧ bit w 26 = true := by
  rintro w rfl
  have hl := levelCode_lt lvl
  have hm : f.master.getD 0 % 16 < 2 ^ 4 := Nat.mod_lt _ (by decide)
  have ha : f.acc % 8 < 2 ^ 3 := Nat.mod_lt _ (by decide)
  rw [show f.code % 65536 = f.code from Nat.mod_eq_of_lt hcode]
  refine ⟨?_, ?_, ?_, ?_⟩
  · simp (disch := omega) [field_or, field_fld hcode, field_fld_apart hl, field_fld_apart hm, field_fld_apart ha, field_bitAt_apart]
  · simp (disch := omega) [field_or, field_fld hl, field_fld_apart hcode, field_fld_apart hm, field_fld_apart ha, field_bitAt_apart]
  · simp (disch := omega) [bit_or, bit_fld_apart hcode, bit_fld_apart hl, bit_fld_apart hm, bit_fld_apart ha, bit_bitAt]
  · simp (disch := omega) [bit_or, bit_bitAt]

/-- The first fault of a class fills its capture and begins its count. -/
theorem raise0_first {f : FaultArg} (hc : f.code / 256 < 14) {s : State} (hun : s.unack (f.code / 256) = false) :
    ∀ z, z = (raise0 f s).1 → z.rf .fltFecode 0 16 (f.code / 256) = f.code
      ∧ z.rf .fltFecode 16 2 (f.code / 256) = levelCode f.base ∧ z.rb .fltFecode 25 (f.code / 256) = f.master.isNone
      ∧ z.rb .fltFecode 26 (f.code / 256) = true ∧ z.rg .fltFeaddr (f.code / 256) = BitVec.ofNat 32 f.addr
      ∧ z.rg64 .fltFetimel .fltFetimeh (f.code / 256) = lowBits 64 s.ticks ∧ z.rf .fltFecnt 0 16 (f.code / 256) = 1 := by
  rintro z rfl
  have hlog {n : RName} (hn : n ∈ classRegs) :
      (raise0 f s).1.rg n (f.code / 256) = (noteClass f s).rg n (f.code / 256) := by
    have hplace := regAddr_classRegs hn hc
    rw [raise0_rg, logEntry_rg hplace.2]
    · rw [show regAddr .fltStat = 0x10000 from rfl]
      omega
    · rw [show regAddr .fltLogptr = 0x1000C from rfl]
      omega
  have hcap {n : RName} (hn : n ∈ classRegs) (hcnt : n ≠ .fltFecnt) :
      (raise0 f s).1.rg n (f.code / 256) = (capture (f.code / 256) f f.base s).rg n (f.code / 256) := by
    rw [hlog hn, noteClass_rg hn hcnt hc, hun]
    rfl
  obtain ⟨hw, haddr, htl, hth, hcnt⟩ := capture_words (f.code / 256) f f.base s _ rfl
  obtain ⟨hf0, hf16, hb25, hb26⟩ := capture_fields (show f.code < 2 ^ 16 by omega) f.base _ rfl
  have ht : lowBits 64 s.ticks < 2 ^ 64 := by
    rw [lowBits]
    omega
  refine ⟨?_, ?_, ?_, ?_, ?_, ?_, ?_⟩
  · rw [State.rf, hcap (by decide) (by decide), hw, hf0]
  · rw [State.rf, hcap (by decide) (by decide), hw, hf16]
  · rw [State.rb, hcap (by decide) (by decide), hw, hb25]
  · rw [State.rb, hcap (by decide) (by decide), hw, hb26]
  · rw [hcap (by decide) (by decide), haddr]
  · rw [State.rg64, hcap (by decide) (by decide), hcap (by decide) (by decide), htl, hth, BitVec.toNat_ofNat, BitVec.toNat_ofNat]
    omega
  · have hnote : (noteClass f s).rg .fltFecnt (f.code / 256)
        = ((capture (f.code / 256) f f.base s).rsat .fltFecnt 0 16 1 (f.code / 256)).rg .fltFecnt (f.code / 256) := by
      have hunack : regAddr .fltFecnt (f.code / 256) ≠ regAddr .fltUnack := by
        have := regAddr_classRegs (n := .fltFecnt) (by decide) hc
        rw [show regAddr .fltUnack = 0x10004 from rfl]
        omega
      refine (State.rg_rs_other _ _ hunack).trans ?_
      rw [hun]
      rfl
    rw [State.rf, hlog (by decide), hnote, ← State.rf]
    refine (State.rf_rsf_same _ _ (by decide) _ _ _).trans ?_
    rw [State.rf, hcnt]
    rfl

end Sys2Proof.Machine
end

section
/-!
PROOFS. Raised faults and violations, as the collector keeps them.
-/
namespace Sys2Proof.Machine

/-! ### What a report leaves, continued -/

/-- What a step keeps, it keeps where it is taken only on a condition. -/
theorem State.when_keeps {β : Type} (q : State → β) {f : State → State} (h : ∀ s, q (f s) = q s) (s : State) (b : Bool) :
    q (s.when b f) = q s := by
  cases b with
  | false => rfl
  | true => exact h s

/-- Station time is the same in states that differ in the collector only. -/
theorem short_of_besideFlt {x y : State} (h : x.besideFlt = y.besideFlt) : x.short = y.short := by
  have hrest : x.tim = y.tim ∧ x.now = y.now ∧ x.c0 = y.c0 :=
    ⟨State.of_besideFlt State.tim (fun _ => rfl) h, State.of_besideFlt State.now (fun _ => rfl) h,
      State.of_besideFlt State.c0 (fun _ => rfl) h⟩
  have hrg {n : RName} (hn : 0x40000 ≤ n.spec.off) (d : Nat) : x.rg n d = y.rg n d :=
    State.rg_of_besideFlt h (by rw [regAddr]; omega)
  obtain ⟨htim, hnow, hc0⟩ := hrest
  simp only [State.short, State.ticks, State.st, State.stAt, State.domAt, State.rate, State.ofs, State.rg64, State.rf,
    State.deltaAt, State.cnt, htim, hnow, hc0, hrg (n := .timDRatel) (by decide), hrg (n := .timDRateh) (by decide),
    hrg (n := .timDOfsl) (by decide), hrg (n := .timDOfsh) (by decide), hrg (n := .timDOfsf) (by decide)]

@[simp] theorem logEntry_cmd (f lvl esc first s) : (logEntry f lvl esc first s).cmd = s.cmd := by
  have hround (x : State) : (x.rsb .fltStat 4 true).cmd = x.cmd := rfl
  exact State.when_keeps State.cmd hround _ _

/-! ### A raised fault -/

/-- A later fault of a class leaves what its first one filled. -/
theorem raise0_later {f : FaultArg} (hc : f.code / 256 < 14) {s : State} (hun : s.unack (f.code / 256) = true) {n : RName}
    (hn : n ∈ classRegs) (hcnt : n ≠ .fltFecnt) : (raise0 f s).1.rg n (f.code / 256) = s.rg n (f.code / 256) := by
  have hplace := regAddr_classRegs hn hc
  rw [raise0_rg, logEntry_rg hplace.2, noteClass_rg hn hcnt hc, hun]
  · rfl
  · rw [show regAddr .fltStat = 0x10000 from rfl]
    omega
  · rw [show regAddr .fltLogptr = 0x1000C from rfl]
    omega

theorem raise0_unack {f : FaultArg} (hc : f.code / 256 < 14) (s : State) (c : Nat) :
    (raise0 f s).1.unack c = (s.unack c || decide (c = f.code / 256)) := by
  rw [← noteClass_unack hc, State.unack, State.rb, raise0_rg, logEntry_rg (by decide) (by decide) (by decide)]
  rfl

/-- The entry that a raised fault writes, and the pointer after it. -/
theorem raise0_entry {f : FaultArg} (hc : f.code / 256 < 14) (s : State) : ∀ z k, z = (raise0 f s).1 → k = s.flt.logged % 256 →
    z.rg .fltLog k 0 = logWord0 f (raise0 f s).2.2 (s.unack (f.code / 256)) (!(s.unack (f.code / 256)))
      ∧ z.rg .fltLog k 1 = BitVec.ofNat 32 f.addr ∧ z.rg .fltLog k 2 = s.short
      ∧ z.rg .fltLog k 3 = (fld 0 (s.flt.logged % 65536) ||| fld 16 (f.index % 65536))
      ∧ z.rf .fltLogptr 0 8 = (s.flt.logged + 1) % 256 := by
  rintro z k rfl rfl
  have hshort : (noteClass f s).short = s.short := short_of_besideFlt (noteClass_besideFlt hc s)
  have hwords := logEntry_words f (raise0 f s).2.2 (s.unack (f.code / 256)) (!(s.unack (f.code / 256))) (noteClass f s) _ _ rfl rfl
  rw [noteClass_logged, hshort] at hwords
  obtain ⟨h0, h1, h2, h3⟩ := hwords
  refine ⟨(raise0_rg ..).trans h0, (raise0_rg ..).trans h1, (raise0_rg ..).trans h2, (raise0_rg ..).trans h3, ?_⟩
  have hptr (x : State) : (logEntry f (raise0 f s).2.2 (s.unack (f.code / 256)) (!(s.unack (f.code / 256))) x).rg .fltLogptr
      = (fld 0 ((x.flt.logged + 1) % 256) ||| fld 16 (min (x.flt.logged + 1) 65535)) := by
    rw [logEntry, State.rg_rs_same]
    simp
  have hlow : (s.flt.logged + 1) % 256 < 2 ^ 8 := Nat.mod_lt _ (by decide)
  have hhigh : min (s.flt.logged + 1) 65535 < 2 ^ 16 := by omega
  rw [State.rf, raise0_rg, hptr, noteClass_logged, field_or, field_fld hlow (by decide), field_fld_apart hhigh (by decide), Nat.or_zero]

/-- A report keeps all but the collector and the paths. -/
theorem raise0_frame {f : FaultArg} (hc : f.code / 256 < 14) (s : State) :
    { (raise0 f s).1 with regs := s.regs, flt := s.flt, cmd := s.cmd } = s :=
  congrArg (fun x : (Nat → Word) × State => ({ x.2 with regs := s.regs, flt := s.flt, cmd := s.cmd } : State)) (raise0_besideFlt hc s)

/-! ### Faults of one clock -/

theorem insertBy_pairwise {α : Type} {key : α → Nat} {x : α} {l : List α} (h : l.Pairwise (fun a b => key a ≤ key b)) :
    (insertBy (fun a b => decide (key a < key b)) x l).Pairwise (fun a b => key a ≤ key b) := by
  induction l with
  | nil => exact List.pairwise_singleton ..
  | cons y r ih =>
    obtain ⟨hy, hr⟩ := List.pairwise_cons.mp h
    rw [insertBy]
    split
    · next hlt =>
      refine List.pairwise_cons.mpr ⟨fun z hz => ?_, ih hr⟩
      rcases List.mem_cons.mp ((insertBy_perm _ x r).mem_iff.mp hz) with rfl | hz
      · exact (of_decide_eq_true hlt).le
      · exact hy z hz
    · next hge =>
      have hxy : key x ≤ key y := by simpa using hge
      refine List.pairwise_cons.mpr ⟨fun z hz => ?_, h⟩
      rcases List.mem_cons.mp hz with rfl | hz
      · exact hxy
      · exact hxy.trans (hy z hz)

theorem sortBy_pairwise {α : Type} (key : α → Nat) (l : List α) :
    (sortBy (fun a b => decide (key a < key b)) l).Pairwise (fun a b => key a ≤ key b) := by
  induction l with
  | nil => exact .nil
  | cons x r ih => exact insertBy_pairwise ih

theorem foldl_holdFault (l : List (FaultArg × Bool)) (s : State) : l.foldl (fun s x => holdFault x.1 x.2 s) s
    = { s with flt := { s.flt with same := s.flt.same ++ l } } := by
  induction l generalizing s with
  | nil => rw [List.append_nil]; rfl
  | cons x r ih =>
    rw [List.foldl_cons, ih]
    simp only [holdFault, List.append_assoc, List.cons_append, List.nil_append]

theorem raiseHeld_foldl {s : State} (hs : s.flt.same = []) (l : List (FaultArg × Bool)) :
    raiseHeld (l.foldl (fun s x => holdFault x.1 x.2 s) s) = (inOrder l).foldl (fun s x => raise x.1 s x.2) s := by
  have hback : { s with flt := { s.flt with same := [] } } = s := by
    rw [← hs]
  rw [foldl_holdFault, raiseHeld, hs, List.nil_append]
  dsimp only
  rw [hback]

/-- Settles O37: the class's words and the log entry, the frame of a report, and the order of one clock's faults. -/
theorem raisedFaultIsLogged : Obligations.RaisedFaultIsLogged := by
  refine ⟨fun f s hlo hhi r hr => ?_, fun f s hlo hhi => ⟨fun n i j hn => ?_, raise0_frame (by omega) s⟩, fun l s => ⟨?_, ?_, ?_⟩⟩
  · subst hr
    have hc : f.code / 256 < 14 := by omega
    have hcode : f.code < 2 ^ 16 := by omega
    obtain ⟨h0, h1, h2, h3, hptr⟩ := raise0_entry hc s _ _ rfl rfl
    obtain ⟨hf0, hf16, hf18, hb20, hb21⟩ := logWord0_fields hcode (raise0 f s).2.2 (s.unack (f.code / 256))
      (!(s.unack (f.code / 256))) _ rfl
    have hn : s.flt.logged % 65536 < 2 ^ 16 := Nat.mod_lt _ (by decide)
    have hi : f.index % 65536 < 2 ^ 16 := Nat.mod_lt _ (by decide)
    refine ⟨raise0_level f s, fun hun => ⟨raise0_later hc hun (by decide) (by decide), raise0_later hc hun (by decide) (by decide)⟩,
      fun hun => raise0_first hc hun _ rfl, fun c _ => raise0_unack hc s c, ?_, ?_, ?_, ?_, ?_, h1, h2, ?_, ?_, raise0_logged f s, hptr⟩
    · rw [State.rf, h0, hf0]
    · rw [State.rf, h0, hf16]
    · rw [State.rf, h0, hf18]
    · rw [State.rb, h0, hb20]
    · rw [State.rb, h0, hb21]
    · rw [State.rf, h3, field_or, field_fld hn (by decide), field_fld_apart hi (by decide), Nat.or_zero]
    · rw [State.rf, h3, field_or, field_fld hi (by decide), field_fld_apart hn (by decide), Nat.zero_or]
  · exact State.rg_of_besideFlt (raise0_besideFlt (by omega) s) (by omega)
  · exact List.pairwise_map.mpr (sortBy_pairwise (fun x : FaultArg × Bool => x.1.code) l)
  · exact sortBy_perm ..
  · exact fun hs => raiseHeld_foldl hs l

/-! ### Violations -/

/-- A queue with room takes a record without loss, and no other queue grows. -/
theorem pushOn_room {q : Nat} {r : EvRec} {s : State} (h : (s.path q).queue.length < 1024) :
    (pushOn q r s).2 = false ∧ ∀ k, k ≠ q → (pushOn q r s).1.path k = s.path k := by
  simp only [pushOn, if_pos h]
  split
  · exact ⟨rfl, fun k _ => rfl⟩
  · exact ⟨rfl, fun k hk => Tab.get_set_other _ _ _ _ _ hk⟩

/-- With room in every queue a record starts no loss. -/
theorem pushAll_room {r : EvRec} {s : State} (h : ∀ q < 4, (s.path q).queue.length < 1024) : (pushAll r s).2 = 0 := by
  obtain ⟨h0, k0⟩ := pushOn_room (r := r) (h 0 (by decide))
  have hq1 := h 1 (by decide)
  have hq2 := h 2 (by decide)
  have hq3 := h 3 (by decide)
  rw [← k0 1 (by decide)] at hq1
  rw [← k0 2 (by decide)] at hq2
  rw [← k0 3 (by decide)] at hq3
  obtain ⟨h1, k1⟩ := pushOn_room (r := r) hq1
  rw [← k1 2 (by decide)] at hq2
  rw [← k1 3 (by decide)] at hq3
  obtain ⟨h2, k2⟩ := pushOn_room (r := r) hq2
  rw [← k2 3 (by decide)] at hq3
  obtain ⟨h3, -⟩ := pushOn_room (r := r) hq3
  simp only [pushAll, List.foldl_cons, List.foldl_nil, h0, h1, h2, h3, Bool.false_eq_true, if_false]

/-- What the CMD class and the times of violations hold once a violation is noted, before its log entry. -/
def noteViolation (f : FaultArg) (recent : List Nat) (s : State) : State :=
  let s := { s with flt := { s.flt with viol := recent ++ [s.now] } }
  let free := !(s.unack 0xB) && !(s.rb .fltFecode 26 0xB)
  let s := s.when free (capture 0xB f .l0)
  s.when (s.rb .fltFecode 26 0xB) (fun s => s.rsat .fltFecnt 0 16 1 0xB)

/-- The fault of a violation. -/
def violationFault (acc addr m : Nat) (st : Status) : FaultArg :=
  { code := 0x0BC3, base := .l0, acc := acc, addr := addr, master := some m, index := statusCode st }

/-- The violations of the last second. -/
def State.recentViol (s : State) : List Nat := s.flt.viol.filter (fun t => decide (s.now < t + 400000000))

@[simp] theorem noteViolation_cmd (f recent s) : (noteViolation f recent s).cmd = s.cmd := by
  have hcap (x : State) : (capture 0xB f .l0 x).cmd = x.cmd := rfl
  have hcnt (x : State) : (x.rsat .fltFecnt 0 16 1 0xB).cmd = x.cmd := rfl
  exact (State.when_keeps State.cmd hcnt _ _).trans (State.when_keeps State.cmd hcap _ _)

theorem noteViolation_logged (f recent s) : (noteViolation f recent s).flt.logged = s.flt.logged := by
  have hcap (x : State) : (capture 0xB f .l0 x).flt.logged = x.flt.logged := rfl
  have hcnt (x : State) : (x.rsat .fltFecnt 0 16 1 0xB).flt.logged = x.flt.logged := rfl
  exact (State.when_keeps (·.flt.logged) hcnt _ _).trans (State.when_keeps (·.flt.logged) hcap _ _)

theorem noteViolation_unack (f recent s) : (noteViolation f recent s).rg .fltUnack = s.rg .fltUnack := by
  have hcap (x : State) : (capture 0xB f .l0 x).rg .fltUnack = x.rg .fltUnack := by
    simp (disch := decide) only [capture, State.rg_rs_other]
  have hcnt (x : State) : (x.rsat .fltFecnt 0 16 1 0xB).rg .fltUnack = x.rg .fltUnack := State.rg_rs_other _ _ (by decide)
  exact (State.when_keeps (·.rg .fltUnack) hcnt _ _).trans (State.when_keeps (·.rg .fltUnack) hcap _ _)

theorem violation_eq {s : State} (h : s.recentViol.length < 64) (acc addr m : Nat) (st : Status) : ∃ first r n,
    violation acc addr m st s = overflowFaults 8 n (pushAll r (logEntry (violationFault acc addr m st) .l0 false first
        (noteViolation (violationFault acc addr m st) s.recentViol s))).1
      ∧ n = (pushAll r (logEntry (violationFault acc addr m st) .l0 false first
        (noteViolation (violationFault acc addr m st) s.recentViol s))).2 :=
  ⟨_, _, _, if_neg (Nat.not_le.mpr h), rfl⟩

/-- Settles O39: a violation beyond the cap is counted; one within it is logged, and with room in every event queue that is
all. -/
theorem violationsAreCapped : Obligations.ViolationsAreCapped := by
  refine ⟨fun s acc addr m st hfull => if_pos hfull, fun s acc addr m st hroom hqueue x hx => ?_⟩
  obtain ⟨first, r, n, hv, hn⟩ := violation_eq hroom acc addr m st
  have hpath (q : Nat) : (logEntry (violationFault acc addr m st) .l0 false first
      (noteViolation (violationFault acc addr m st) s.recentViol s)).path q = s.path q := by
    simp only [State.path, logEntry_cmd, noteViolation_cmd]
  rw [pushAll_room (fun q hq => (hpath q).symm ▸ hqueue q hq)] at hn
  subst hn
  have hmode : x.mode = s.mode := by
    rw [hx]
    exact State.of_besideFlt State.mode (fun _ => rfl) (violation_besideFlt ..)
  rw [hv] at hx
  change x = (pushAll _ _).1 at hx
  have hwords := logEntry_words (violationFault acc addr m st) .l0 false first
    (noteViolation (violationFault acc addr m st) s.recentViol s) _ _ rfl rfl
  rw [noteViolation_logged] at hwords
  obtain ⟨h0, -, -, h3⟩ := hwords
  obtain ⟨hf0, -⟩ := logWord0_fields (f := violationFault acc addr m st) (show 0x0BC3 < 2 ^ 16 by decide) .l0 false first _ rfl
  have hn : s.flt.logged % 65536 < 2 ^ 16 := Nat.mod_lt _ (by decide)
  have hst : statusCode st < 2 ^ 16 := by cases st <;> decide
  have hrg (n : RName) (i j : Nat) : x.rg n i j = (logEntry (violationFault acc addr m st) .l0 false first
      (noteViolation (violationFault acc addr m st) s.recentViol s)).rg n i j := by
    rw [hx]
    exact State.rg_of_regs (pushAll_regs ..) n i j
  refine ⟨?_, ?_, ?_, ?_, hmode⟩
  · rw [hx, pushAll_flt, logEntry_logged, noteViolation_logged]
  · rw [State.rf, hrg, h0, hf0]
    rfl
  · rw [State.rf, hrg, h3, field_or, field_fld_apart hn (by decide), Nat.zero_or,
      show (violationFault acc addr m st).index % 65536 = statusCode st from Nat.mod_eq_of_lt hst, field_fld hst (by decide)]
  · rw [hrg, logEntry_rg (by decide) (by decide) (by decide), noteViolation_unack]

end Sys2Proof.Machine
end

section
/-!
PROOFS. The mailboxes: what a message's signal, an acknowledgement and a reset change of a channel, and the writes of the block.
-/
namespace Sys2Proof.Machine

/-! ### What a signal leaves -/

theorem mailSignal_rg {n : RName} {i j : Nat} (hn : regAddr n i j / 65536 ≠ 1) (ident m c : Nat) (s : State) :
    (mailSignal ident m c s).rg n i j = s.rg n i j := by
  have hemit : (emit 5 ident c s).rg n i j = s.rg n i j := State.rg_of_besideFlt (emit_besideFlt ..) hn
  unfold mailSignal
  split
  · exact hemit
  · split
    · exact hemit
    · rfl

@[simp] theorem mailSignal_mbx (ident m c s) : (mailSignal ident m c s).mbx = s.mbx := by
  have hemit : (emit 5 ident c s).mbx = s.mbx := State.of_besideFlt State.mbx (fun _ => rfl) (emit_besideFlt ..)
  unfold mailSignal
  split
  · exact hemit
  · split
    · exact hemit
    · rfl

theorem rg_setNote {n : RName} {i j : Nat} (hn : regAddr n i j / 65536 ≠ 1) (hnote : regAddr n i j ≠ regAddr .mbxNote) (c : Nat)
    (s : State) : (setNote c s).rg n i j = s.rg n i j :=
  (State.when_keeps (·.rg n i j) (fun z => mailSignal_rg hn 2 ((s.rsb .mbxNote c true).bindSrc c) c z) _ _).trans
    (State.rg_rs_other _ _ hnote)

theorem rg_mbxNote_setNote (c : Nat) (s : State) : (setNote c s).rg .mbxNote = (s.rsb .mbxNote c true).rg .mbxNote :=
  State.when_keeps (·.rg .mbxNote) (fun z => mailSignal_rg (by decide) 2 ((s.rsb .mbxNote c true).bindSrc c) c z) _ _

@[simp] theorem setNote_mbx (c s) : (setNote c s).mbx = s.mbx :=
  State.when_keeps State.mbx (fun z => mailSignal_mbx 2 ((s.rsb .mbxNote c true).bindSrc c) c z) _ _

@[simp] theorem setNote_chan (c d s) : (setNote c s).chan d = s.chan d := by
  rw [State.chan, State.chan, setNote_mbx]

/-! ### What the end of a crossing leaves -/

theorem State.chan_setChan (s : State) (c d : Nat) (x : Chan) : (s.setChan c x).chan d = if d = c then x else s.chan d := by
  by_cases h : d = c
  · rw [h, if_pos rfl]
    exact Tab.get_set_same ..
  · rw [if_neg h]
    exact Tab.get_set_other _ _ _ _ _ h

/-- A channel whose crossing has ended. -/
def uncross (c : Nat) (s : State) : State := (s.setChan c { s.chan c with cross := false }).rsb .mbxCross c false

theorem uncross_msgs (c d : Nat) (s : State) : ((uncross c s).chan d).msgs = (s.chan d).msgs := by
  show ((s.setChan c { s.chan c with cross := false }).chan d).msgs = _
  rw [State.chan_setChan]
  split
  · next h => rw [h]
  · rfl

theorem rg_uncross {n : RName} {i j : Nat} (h : regAddr n i j ≠ regAddr .mbxCross) (c : Nat) (s : State) :
    (uncross c s).rg n i j = s.rg n i j := State.rg_rs_other _ _ h

/-- What every channel's uncrossing keeps, the end of an episode keeps. -/
theorem endCross_keeps {β : Type} (q : State → β) (h : ∀ c s, q (uncross c s) = q s) (c : Nat) (s : State) :
    q (endCross c s) = q s := by
  unfold endCross
  dsimp only
  split
  · refine (foldl_keeps q (fun z d => ?_) _ _).trans (h c s)
    split
    · exact h d z
    · rfl
  · rfl

@[simp] theorem endCross_msgs (c d s) : ((endCross c s).chan d).msgs = (s.chan d).msgs :=
  endCross_keeps (fun s => (s.chan d).msgs) (fun c s => uncross_msgs c d s) c s

theorem rg_endCross {n : RName} {i j : Nat} (h : regAddr n i j ≠ regAddr .mbxCross) (c : Nat) (s : State) :
    (endCross c s).rg n i j = s.rg n i j := endCross_keeps (·.rg n i j) (fun c s => rg_uncross h c s) c s

/-! ### Bindings -/

/-- What the bindings of the channels and the clock are made of. -/
def State.bound (s : State) : (Nat → Word) × MemSt × Nat := (fun d => s.rg .mbxBind d, s.mem, s.now)

theorem bindings_of_bound {x y : State} (h : x.bound = y.bound) (c : Nat) :
    x.bindEn c = y.bindEn c ∧ x.bindSrc c = y.bindSrc c ∧ x.bindDst c = y.bindDst c ∧ x.now = y.now := by
  simp only [State.bound, Prod.mk.injEq] at h
  obtain ⟨hrg, hmem, hnow⟩ := h
  have hc := congrFun hrg c
  simp only [State.bindEn, State.bindSrc, State.bindDst, State.rb, State.rf, hc, hmem, hnow, and_self]

theorem mbxBind_ne {n : RName} (hn : n ∈ [RName.mbxDbell, .mbxNote, .mbxCross]) (d : Nat) : regAddr .mbxBind d ≠ regAddr n := by
  have hlow : ∀ n ∈ [RName.mbxDbell, .mbxNote, .mbxCross], regAddr n 0 0 < 0x20100 := by decide
  have hn := hlow n hn
  rw [show regAddr .mbxBind d = 0x20100 + d * 4 from rfl]
  omega

theorem State.rs_bound (s : State) {n : RName} (v : Word) (hn : n ∈ [RName.mbxDbell, .mbxNote, .mbxCross]) :
    (s.rs n v).bound = s.bound :=
  Prod.ext (funext fun d => State.rg_rs_other s v (mbxBind_ne hn d)) rfl

theorem regAddr_mbxBind_block (d : Nat) : regAddr .mbxBind d / 65536 ≠ 1 := by
  rw [show regAddr .mbxBind d = 0x20100 + d * 4 from rfl]
  omega

theorem setNote_bound (c : Nat) (s : State) : (setNote c s).bound = s.bound := by
  have hbody := setNote_body c s
  exact Prod.ext (funext fun d => rg_setNote (regAddr_mbxBind_block d) (mbxBind_ne (by decide) d) c s)
    (Prod.ext (State.of_body State.mem (fun _ => rfl) hbody) (State.of_body State.now (fun _ => rfl) hbody))

theorem endCross_bound (c : Nat) (s : State) : (endCross c s).bound = s.bound :=
  endCross_keeps State.bound (fun c s => State.rs_bound _ _ (by decide)) c s

/-! ### The reset of a master (R385, R386) -/

/-- What waits in channel c for a master that is reset goes, but for what was sent in this clock. -/
def dropWaiting (c : Nat) (s : State) : State :=
  let x := s.chan c
  let old := x.msgs.filter (fun g => decide (g.sent < s.now))
  let n := (old.filter (fun g => !g.orphan)).length
  let keep := x.msgs.filter (fun g => decide (s.now ≤ g.sent))
  let s := s.setChan c { x with msgs := keep, aborted := satAdd 255 x.aborted n }
  let s := s.when keep.isEmpty (fun s => s.rsb .mbxDbell c false)
  endCross c (s.when (decide (0 < n)) (setNote c))

/-- What a master that is reset has sent on channel c stays as orphans. -/
def orphanSent (c : Nat) (s : State) : State :=
  let x := s.chan c
  (s.setChan c { x with msgs := x.msgs.map (fun g => { g with orphan := true }), aborted := 0, acked := false }).rsb .mbxNote c false

theorem mailReset_eq (m : Nat) (s : State) : mailReset m s
    = (List.range 32).foldl (fun s c => if s.bindEn c ∧ s.bindSrc c = m then orphanSent c s else s)
      ((List.range 32).foldl (fun s c => if s.bindEn c ∧ s.bindDst c = m then dropWaiting c s else s) s) := rfl

/-- What of a state the reset of a master reads and changes at channel c. -/
def State.mailView (s : State) (c : Nat) : ((Nat → Word) × MemSt × Nat) × List Msg × Bool × Bool :=
  (s.bound, (s.chan c).msgs, s.rb .mbxNote c, s.rb .mbxDbell c)

/-- A bit of a register after another bit is put. -/
theorem State.rb_rsb_other (s : State) (n : RName) {k l : Nat} (hk : k < 32) (h : l ≠ k) (b : Bool) (i j : Nat) :
    (s.rsb n k b i j).rb n l i j = s.rb n l i j :=
  State.rb_rsf_outside s n (by omega) (by omega) _ i j

theorem dropWaiting_bound (c : Nat) (s : State) : (dropWaiting c s).bound = s.bound := by
  refine (endCross_bound c _).trans ((State.when_keeps State.bound (setNote_bound c) _ _).trans ?_)
  exact State.when_keeps State.bound (fun z => State.rs_bound z _ (by decide)) _ _

theorem dropWaiting_msgs (c d : Nat) (s : State) : ((dropWaiting c s).chan d).msgs
    = if d = c then (s.chan c).msgs.filter (fun g => decide (s.now ≤ g.sent)) else (s.chan d).msgs := by
  refine (endCross_msgs c d _).trans ?_
  rw [State.when_keeps (·.chan d) (fun z => setNote_chan c d z)]
  have hbell (z : State) : (z.rsb .mbxDbell c false).chan d = z.chan d := rfl
  rw [State.when_keeps (·.chan d) hbell, State.chan_setChan]
  split <;> rfl

theorem dropWaiting_note_other {c d : Nat} (hc : c < 32) (hd : d ≠ c) (s : State) :
    (dropWaiting c s).rb .mbxNote d = s.rb .mbxNote d := by
  have hnote (z : State) : (setNote c z).rb .mbxNote d = z.rb .mbxNote d := by
    rw [State.rb, rg_mbxNote_setNote, ← State.rb, State.rb_rsb_other z .mbxNote hc hd]
  have hbell (z : State) : (z.rsb .mbxDbell c false).rb .mbxNote d = z.rb .mbxNote d :=
    congrArg (bit · d) (State.rg_rs_other z _ (by decide))
  refine (congrArg (bit · d) (rg_endCross (by decide) c _)).trans ?_
  exact (State.when_keeps (·.rb .mbxNote d) hnote _ _).trans (State.when_keeps (·.rb .mbxNote d) hbell _ _)

/-- The doorbell bits after a channel's waiting messages went. -/
theorem dropWaiting_dbell (c d : Nat) (s : State) : (dropWaiting c s).rb .mbxDbell d
    = (s.when ((s.chan c).msgs.filter (fun g => decide (s.now ≤ g.sent))).isEmpty
      (fun s => s.rsb .mbxDbell c false)).rb .mbxDbell d := by
  have hnote (z : State) : (setNote c z).rg .mbxDbell = z.rg .mbxDbell := rg_setNote (by decide) (by decide) c z
  have hrg : (dropWaiting c s).rg .mbxDbell = (s.when ((s.chan c).msgs.filter (fun g => decide (s.now ≤ g.sent))).isEmpty
      (fun s => s.rsb .mbxDbell c false)).rg .mbxDbell := by
    refine (rg_endCross (by decide) c _).trans ((State.when_keeps (·.rg .mbxDbell) hnote _ _).trans ?_)
    cases ((s.chan c).msgs.filter (fun g => decide (s.now ≤ g.sent))).isEmpty
    · rfl
    · exact (State.rg_rs_same ..).trans (State.rg_rs_same ..).symm
  rw [State.rb, hrg, ← State.rb]

theorem dropWaiting_view_other {c d : Nat} (hc : c < 32) (hd : d ≠ c) (s : State) :
    (dropWaiting c s).mailView d = s.mailView d := by
  have hbell : (dropWaiting c s).rb .mbxDbell d = s.rb .mbxDbell d := by
    rw [dropWaiting_dbell]
    exact State.when_keeps (·.rb .mbxDbell d) (fun z => State.rb_rsb_other z .mbxDbell hc hd false 0 0) _ _
  rw [State.mailView, State.mailView, dropWaiting_bound, dropWaiting_msgs, if_neg hd, dropWaiting_note_other hc hd, hbell]

theorem orphanSent_bound (c : Nat) (s : State) : (orphanSent c s).bound = s.bound :=
  State.rs_bound _ _ (by decide)

theorem orphanSent_msgs (c d : Nat) (s : State) : ((orphanSent c s).chan d).msgs
    = if d = c then (s.chan c).msgs.map (fun g => { g with orphan := true }) else (s.chan d).msgs := by
  show ((s.setChan c _).chan d).msgs = _
  rw [State.chan_setChan]
  split <;> rfl

theorem orphanSent_dbell (c d : Nat) (s : State) : (orphanSent c s).rb .mbxDbell d = s.rb .mbxDbell d :=
  congrArg (bit · d) (State.rg_rs_other _ _ (by decide))

theorem orphanSent_view_other {c d : Nat} (hc : c < 32) (hd : d ≠ c) (s : State) : (orphanSent c s).mailView d = s.mailView d := by
  have hnote : (orphanSent c s).rb .mbxNote d = s.rb .mbxNote d := State.rb_rsb_other _ .mbxNote hc hd false 0 0
  rw [State.mailView, State.mailView, orphanSent_bound, orphanSent_msgs, if_neg hd, orphanSent_dbell, hnote]

/-- In a pass over all channels only channel c's own step changes what is viewed of it. -/
theorem foldl_range_view {β : Type} (view : State → β) (g : State → Nat → State) {c n : Nat} (hc : c < n)
    (hother : ∀ s d, d < n → d ≠ c → view (g s d) = view s) (s : State) :
    ∃ y, view y = view s ∧ view ((List.range n).foldl g s) = view (g y c) := by
  have hbefore (k : Nat) (hk : k ≤ c) : view ((List.range k).foldl g s) = view s := by
    induction k with
    | zero => rfl
    | succ k ih =>
      rw [List.range_succ, List.foldl_append, List.foldl_cons, List.foldl_nil, hother _ _ (by omega) (by omega), ih (by omega)]
  refine ⟨(List.range c).foldl g s, hbefore c le_rfl, ?_⟩
  induction n with
  | zero => omega
  | succ n ih =>
    rw [List.range_succ, List.foldl_append, List.foldl_cons, List.foldl_nil]
    by_cases h : c = n
    · rw [h]
    · rw [hother _ _ (Nat.lt_succ_self n) (Ne.symm h), ih (by omega) (fun s d hd hne => hother s d (by omega) hne)]

/-- What the reset of master m leaves at channel c: first what waits for it goes, then what it sent becomes orphans. -/
theorem mailReset_view {c : Nat} (hc : c < 32) (m : Nat) (s : State) : ∃ y z, y.mailView c = s.mailView c
    ∧ z.mailView c = (if y.bindEn c ∧ y.bindDst c = m then dropWaiting c y else y).mailView c
    ∧ (mailReset m s).mailView c = (if z.bindEn c ∧ z.bindSrc c = m then orphanSent c z else z).mailView c := by
  rw [mailReset_eq]
  obtain ⟨y, hy, hfirst⟩ := foldl_range_view (State.mailView · c)
    (fun s c => if s.bindEn c ∧ s.bindDst c = m then dropWaiting c s else s) hc
    (fun s d hd hne => by
      split
      · exact dropWaiting_view_other hd hne.symm s
      · rfl) s
  obtain ⟨z, hz, hsecond⟩ := foldl_range_view (State.mailView · c)
    (fun s c => if s.bindEn c ∧ s.bindSrc c = m then orphanSent c s else s) hc
    (fun s d hd hne => by
      split
      · exact orphanSent_view_other hd hne.symm s
      · rfl)
    ((List.range 32).foldl (fun s c => if s.bindEn c ∧ s.bindDst c = m then dropWaiting c s else s) s)
  exact ⟨y, z, hy, hz.trans hfirst, hsecond⟩

/-- What is viewed of a channel decides its bindings, the clock, its messages and its bits. -/
theorem of_mailView {x y : State} {c : Nat} (h : x.mailView c = y.mailView c) : x.bound = y.bound
    ∧ (x.chan c).msgs = (y.chan c).msgs ∧ x.rb .mbxNote c = y.rb .mbxNote c ∧ x.rb .mbxDbell c = y.rb .mbxDbell c := by
  simpa only [State.mailView, Prod.mk.injEq] using h

/-- A channel whose receiver is reset: what stays of its messages, its doorbell, and the bindings. -/
theorem dropWaiting_at {c : Nat} (hc : c < 32) (s : State) : (dropWaiting c s).bound = s.bound
    ∧ ((dropWaiting c s).chan c).msgs = (s.chan c).msgs.filter (fun g => decide (s.now ≤ g.sent))
    ∧ ((s.chan c).msgs.filter (fun g => decide (s.now ≤ g.sent)) = [] → (dropWaiting c s).rb .mbxDbell c = false) := by
  refine ⟨dropWaiting_bound c s, by rw [dropWaiting_msgs, if_pos rfl], fun h => ?_⟩
  rw [dropWaiting_dbell, h]
  exact State.rb_rsb_same s .mbxDbell hc false 0 0

/-- A channel whose sender is reset. -/
theorem orphanSent_at {c : Nat} (hc : c < 32) (s : State) : (orphanSent c s).bound = s.bound
    ∧ ((orphanSent c s).chan c).msgs = (s.chan c).msgs.map (fun g => { g with orphan := true })
    ∧ (orphanSent c s).rb .mbxNote c = false :=
  ⟨orphanSent_bound c s, by rw [orphanSent_msgs, if_pos rfl], State.rb_rsb_same _ .mbxNote hc false 0 0⟩

/-- The acknowledgement of an orphan. -/
theorem mailAck_orphan {s : State} {c : Nat} {g : Msg} {rest : List Msg} (h : (s.chan c).msgs = g :: rest) (ho : g.orphan = true) :
    ((mailAck c s).chan c).msgs = rest ∧ (mailAck c s).rg .mbxNote = s.rg .mbxNote := by
  simp only [mailAck, h, ho, Bool.not_true]
  constructor
  · refine (endCross_msgs c c _).trans ?_
    have hbell (z : State) : (z.rsb .mbxDbell c false).chan c = z.chan c := rfl
    rw [State.when_keeps (·.chan c) hbell, State.chan_setChan, if_pos rfl]
  · refine (rg_endCross (by decide) c _).trans ?_
    have hbell (z : State) : (z.rsb .mbxDbell c false).rg .mbxNote = z.rg .mbxNote := State.rg_rs_other z _ (by decide)
    exact State.when_keeps (·.rg .mbxNote) hbell _ _

/-- Settles O30: each channel's own steps in the two passes over the channels, and the acknowledgement of an orphan. -/
theorem masterResetLeavesOrphans : Obligations.MasterResetLeavesOrphans := by
  refine ⟨fun s m c hc hen hsrc hdst => ?_, fun s m c hc hen hdst hold => ?_, fun s m c hc hen hdst hsrc => ?_,
    fun s c g rest hg ho => ⟨(mailAck_orphan hg ho).1, (mailAck_orphan hg ho).2, ?_⟩⟩
  · obtain ⟨y, z, hy, hz, hr⟩ := mailReset_view hc m s
    obtain ⟨hyb, hym, -, -⟩ := of_mailView hy
    obtain ⟨-, -, hydst, -⟩ := bindings_of_bound hyb c
    rw [if_neg (by rw [hydst]; exact fun h => hdst h.2)] at hz
    obtain ⟨hzb, hzm, -, -⟩ := of_mailView hz
    obtain ⟨hzen, hzsrc, -, -⟩ := bindings_of_bound (hzb.trans hyb) c
    rw [if_pos ⟨hzen.trans hen, hzsrc.trans hsrc⟩] at hr
    obtain ⟨-, hrm, hrn, -⟩ := of_mailView hr
    obtain ⟨-, hom, hon⟩ := orphanSent_at hc z
    exact ⟨by rw [hrm, hom, hzm, hym], hrn.trans hon⟩
  · obtain ⟨y, z, hy, hz, hr⟩ := mailReset_view hc m s
    obtain ⟨hyb, hym, -, -⟩ := of_mailView hy
    obtain ⟨hyen, -, hydst, hynow⟩ := bindings_of_bound hyb c
    rw [if_pos ⟨hyen.trans hen, hydst.trans hdst⟩] at hz
    obtain ⟨-, hzm, -, hzd⟩ := of_mailView hz
    obtain ⟨-, hdm, hdd⟩ := dropWaiting_at hc y
    have hnone : (y.chan c).msgs.filter (fun g => decide (y.now ≤ g.sent)) = [] := by
      rw [hym, hynow, List.filter_eq_nil_iff]
      exact fun g hg => by simpa using hold g hg
    rw [hdm, hnone] at hzm
    rw [hdd hnone] at hzd
    obtain ⟨-, hrm, -, hrd⟩ := of_mailView hr
    split at hrm
    · rw [orphanSent_msgs, if_pos rfl, hzm] at hrm
      rw [if_pos ‹_›, orphanSent_dbell, hzd] at hrd
      exact ⟨hrm, hrd⟩
    · rw [if_neg ‹_›, hzd] at hrd
      exact ⟨hrm.trans hzm, hrd⟩
  · obtain ⟨y, z, hy, hz, hr⟩ := mailReset_view hc m s
    obtain ⟨hyb, hym, -, -⟩ := of_mailView hy
    obtain ⟨hyen, -, hydst, hynow⟩ := bindings_of_bound hyb c
    rw [if_pos ⟨hyen.trans hen, hydst.trans hdst⟩] at hz
    obtain ⟨hzb, hzm, -, -⟩ := of_mailView hz
    obtain ⟨hdb, hdm, -⟩ := dropWaiting_at hc y
    obtain ⟨-, hzsrc, -, -⟩ := bindings_of_bound ((hzb.trans hdb).trans hyb) c
    rw [if_neg (by rw [hzsrc]; exact fun h => hsrc h.2)] at hr
    obtain ⟨-, hrm, -, -⟩ := of_mailView hr
    rw [hrm, hzm, hdm, hym, hynow]
  · show bit (cstatWord s c) 12 = true
    simp only [cstatWord, hg, ho, bit_or, bit_bitAt (show 12 < 32 by decide)]
    simp

/-! ### Writes of the mailboxes (R381, R382, R384, R386, R389) -/

theorem testBit_packBits (bs : List Bool) : ∀ i, (bs.foldr (fun (b : Bool) acc => 2 * acc + (if b then 1 else 0)) 0).testBit i
    = bs.getD i false := by
  induction bs with
  | nil => exact fun i => Nat.zero_testBit i
  | cons b r ih =>
    intro i
    rw [List.foldr_cons]
    cases i with
    | zero => cases b <;> simp [Nat.testBit_zero, Nat.add_mod]
    | succ i =>
      have hhalf (a : Nat) : (2 * a + (if b then 1 else 0)) / 2 = a := by
        split <;> omega
      rw [Nat.testBit_succ, hhalf, ih, List.getD_cons_succ]

/-- The bits of a word, packed, are the word. -/
theorem packBits_bits (v : Word) : packBits ((List.range 32).map (fun c => bit v c)) = v := by
  refine BitVec.eq_of_getLsbD_eq fun i hi => ?_
  rw [packBits, BitVec.getLsbD_ofNat, testBit_packBits]
  simp [hi, bit]

/-- A master that names its own channels only is let all of them. -/
theorem ownedBits_all {own : Nat → Bool} {v : Word} (h : ∀ c < 32, v.getLsbD c = true → own c = true) : ownedBits own v = (v, false) := by
  have hown : ∀ c < 32, (bit v c && own c) = bit v c := fun c hc => by
    cases hv : bit v c with
    | false => rfl
    | true => rw [h c hc hv, Bool.and_self]
  have hnone : ∀ c < 32, (bit v c && !own c) = false := fun c hc => by
    cases hv : bit v c with
    | false => rfl
    | true => rw [h c hc hv]; rfl
  refine Prod.ext ?_ ?_
  · show packBits _ = v
    rw [List.map_congr_left fun c hc => hown c (List.mem_range.mp hc), packBits_bits]
  · show (List.range 32).any (fun c => bit v c && !own c) = false
    exact List.any_eq_false.mpr fun c hc => by rw [hnone c (List.mem_range.mp hc)]; exact Bool.false_ne_true

theorem writeEffect_mbxReg {n : RName} (h : n.spec.off / 65536 = 2) (m i : Nat) (v : Word) (s : State) :
    writeEffect m ⟨n, i, 0⟩ v s = (mbxWrite m ⟨n, i, 0⟩ v s, .ok) := writeEffect_mbx (Reg.unit_of h)

/-- The effect of a write of MBX_CTRL: LOCK stays set, the limit is what is written. -/
theorem mbxCtrl_write (m : Nat) (v : Word) (s : State) : ∀ x, x = mbxWrite m ⟨.mbxCtrl, 0, 0⟩ v s →
    x.rb .mbxCtrl 0 = (s.rb .mbxCtrl 0 || v.getLsbD 0) ∧ x.rf .mbxCtrl 8 8 = v.toNat / 256 % 256
      ∧ { x with regs := s.regs } = s := by
  rintro x rfl
  have hbit : ∀ k ∈ [0, 8, 9, 10, 11, 12, 13, 14, 15],
      (storeReg ⟨.mbxCtrl, 0, 0⟩ v s).rb .mbxCtrl k = v.getLsbD k := by
    have hrow : ∀ k ∈ [0, 8, 9, 10, 11, 12, 13, 14, 15], k < 32 ∧ RName.mbxCtrl.spec.w1c.testBit k = false
        ∧ (⟨.mbxCtrl, 0, 0⟩ : Reg).rwBits.testBit k = true := by decide
    intro k hk
    obtain ⟨hlt, hw1c, hrw⟩ := hrow k hk
    rw [State.rb, storeReg, State.rg_rs_same, bit, mergedWord_bit _ _ _ hlt, hw1c, hrw, Bool.false_and, if_neg Bool.false_ne_true,
      if_pos rfl]
  have hfield : (storeReg ⟨.mbxCtrl, 0, 0⟩ v s).rf .mbxCtrl 8 8 = v.toNat / 256 % 256 := by
    rw [show v.toNat / 256 % 256 = field v 8 8 from (field_eq_div_mod v 8 8).symm, State.rf]
    refine Nat.eq_of_testBit_eq fun k => ?_
    rw [testBit_field, testBit_field]
    by_cases hk : k < 8
    · rw [show bit ((storeReg ⟨.mbxCtrl, 0, 0⟩ v s).rg .mbxCtrl 0 0) (8 + k) = bit v (8 + k) from
        hbit (8 + k) (by simp only [List.mem_cons, List.not_mem_nil, or_false]; omega)]
    · simp [hk]
  have hshow : mbxWrite m ⟨.mbxCtrl, 0, 0⟩ v s
    = (storeReg ⟨.mbxCtrl, 0, 0⟩ v s).when (s.rb .mbxCtrl 0) (fun s => s.rsb .mbxCtrl 0 true) := rfl
  rw [hshow]
  cases s.rb .mbxCtrl 0 with
  | false => exact ⟨hbit 0 (by decide), hfield, rfl⟩
  | true =>
    refine ⟨State.rb_rsb_same _ .mbxCtrl (by decide) true 0 0, ?_, rfl⟩
    refine Eq.trans ?_ hfield
    refine Nat.eq_of_testBit_eq fun k => ?_
    rw [State.rf, State.rf, testBit_field, testBit_field]
    exact congrArg (decide (k < 8) && ·) (State.rb_rsb_other _ .mbxCtrl (by decide) (by omega) true 0 0)

/-- Settles O29: each write is accepted and has its register's effect; the crossing is detected by its own command. -/
theorem mailboxWritesTakeEffect : Obligations.MailboxWritesTakeEffect := by
  refine ⟨fun t m c v s b hb h => ?_, fun t m c v s b g rest hb h hv hg => ?_, fun t m v s b hb h hown => ?_,
    fun t m v s b hb h hown => ?_, fun t m v s h => ?_, fun t a b s z hz ha hb hne hea heb hsd hds hcross hold => ?_⟩
  · subst hb
    rw [exec_write_accepted rfl h, writeEffect_mbxReg rfl]
    have hn : field v 0 7 = v.toNat % 128 := (field_eq_div_mod v 0 7).trans (by norm_num)
    simp only [mbxWrite, hn]
    rfl
  · subst hb
    have hb : ((s.begin t).chan c).msgs = g :: rest := hg
    rw [exec_write_accepted rfl h, writeEffect_mbxReg rfl]
    simp only [mbxWrite, bit, hv, State.when, if_true, mailAck, hb]
  · subst hb
    have hown : ownedBits (fun c => decide ((s.begin t).bindDst c = m.toNat) && (s.begin t).bindEn c) v = (v, false) :=
      ownedBits_all fun c hc hv => by
        obtain ⟨hdst, hen⟩ := hown c hc hv
        exact Bool.and_eq_true_iff.mpr ⟨decide_eq_true hdst, hen⟩
    rw [exec_write_accepted rfl h, writeEffect_mbxReg rfl]
    simp only [mbxWrite, hown]
    rfl
  · subst hb
    have hown : ownedBits (fun c => decide ((s.begin t).bindSrc c = m.toNat) && (s.begin t).bindEn c) v = (v, false) :=
      ownedBits_all fun c hc hv => by
        obtain ⟨hsrc, hen⟩ := hown c hc hv
        exact Bool.and_eq_true_iff.mpr ⟨decide_eq_true hsrc, hen⟩
    rw [exec_write_accepted rfl h, writeEffect_mbxReg rfl]
    simp only [mbxWrite, hown]
    rfl
  · refine ⟨mbxWrite m.toNat ⟨.mbxCtrl, 0, 0⟩ v (s.begin t), ?_, mbxCtrl_write _ _ (s.begin t) _ rfl⟩
    rw [exec_write_accepted rfl h, writeEffect_mbxReg rfl]
  · subst hz
    have hfull (c : Nat) (hc : c = a ∨ c = b) : (!((s.begin t).chan c).msgs.isEmpty
        && decide (((s.begin t).chan c).since + (s.begin t).rf .mbxCtrl 8 8 * 40000 < (s.begin t).now)) = true := by
      obtain ⟨hmsgs, hsince⟩ := hold c hc
      refine Bool.and_eq_true_iff.mpr ⟨?_, decide_eq_true hsince⟩
      rw [Bool.not_eq_true', List.isEmpty_eq_false_iff]
      exact hmsgs
    have hnc : ¬ ((s.begin t).chan a).cross = true := Bool.eq_false_iff.mp hcross
    show execMbCross t a b s = _
    simp only [execMbCross]
    rw [if_pos ⟨ha, hb, hne, hea, heb, hsd, hds, hfull a (.inl rfl), hfull b (.inr rfl), hnc⟩]

end Sys2Proof.Machine
end

section
/-!
PROOFS. The upkeep of the memories, the rings of PCIe, and the resets of paths and masters.
-/
namespace Sys2Proof.Machine

/-! ### Windows (R421) -/

theorem window_sram {s : State} {off len : Nat} (m : Nat) (hlen : 1 ≤ len) (ha : off % 4 = 0) (hin : off + len ≤ 0x1800000) :
    s.window m (0x10000000 + off) len = .ok (false, off) := by
  rw [State.window, if_neg (by omega), if_pos (by omega), if_pos (by omega), Nat.add_sub_cancel_left]

theorem writeWindow_sram {s : State} {m off len : Nat} (hw : s.window m (0x10000000 + off) len = .ok (false, off)) :
    s.writeWindow m (0x10000000 + off) len
      = if s.mayWriteSram m off len then .ok (false, off) else .error ⟨.accessDenied, true⟩ := by
  simp only [State.writeWindow, hw]
  cases s.mayWriteSram m off len <;> rfl

/-- The host's masters may write inside their window, wherever it is. -/
theorem mayWriteSram_host {s : State} {m off len : Nat} (hlo : 7 ≤ m) (hhi : m ≤ 11) (hlen : 1 ≤ len) :
    s.mayWriteSram m off len = true
      ↔ s.rf .memHostwin 0 15 * 1024 ≤ off ∧ off + len ≤ s.rf .memHostwin 16 15 * 1024 := by
  simp only [State.mayWriteSram, decide_eq_true hlo, decide_eq_true hhi, Bool.and_self, Bool.not_true, Bool.false_or,
    Bool.and_eq_true, decide_eq_true_eq]
  omega

/-! ### Retirement (R432, R433) -/

/-- A retirement that can be made is begun. -/
theorem retireRequest_begins {kind idx : Nat} {s : State} (hidx : idx < if kind = 0 then 24576 else 2080768)
    (hd : kind = 1 → s.hasDram = true) (hr : s.mem.retire = none) (hn : s.isRetired kind idx = false) (hc : s.retCnt < 64)
    (hf : (s.freeSpare kind).isSome = true) : retireRequest kind idx s
      = (({ s with mem := { s.mem with retire := some (kind, idx) } } : State).rs .memRetstat 0, .ok) := by
  have hfree : ¬ (64 ≤ s.retCnt ∨ (s.freeSpare kind).isNone = true) := by
    rw [Option.isNone_iff_eq_none, ← Option.not_isSome_iff_eq_none]
    exact fun h => h.elim (Nat.not_le.mpr hc) (fun h => h hf)
  have hbusy : ¬ ((if kind = 0 then 24576 else 2080768) ≤ idx ∨ s.mem.retire.isSome = true) := by
    rw [hr]
    exact fun h => h.elim (Nat.not_le.mpr hidx) Bool.false_ne_true
  have hdram : ¬ (kind = 1 ∧ ¬ s.hasDram = true) := fun h => h.2 (hd h.1)
  simp only [retireRequest, if_neg hbusy, if_neg hdram, hn, Bool.false_eq_true, if_false, if_neg hfree]
  rfl

/-- The kind and the index that a write of MEM_RETIRE names. -/
theorem field_memRetire (v : Word) : field v 31 1 = v.toNat / 2 ^ 31 ∧ field v 0 21 = v.toNat % 2 ^ 21
    ∧ (v.getLsbD 31 = true ↔ v.toNat / 2 ^ 31 = 1) ∧ (v.getLsbD 31 = false ↔ v.toNat / 2 ^ 31 = 0) := by
  have hv := v.isLt
  have hbit : v.getLsbD 31 = decide (v.toNat / 2 ^ 31 % 2 = 1) := by
    rw [BitVec.getLsbD, Nat.testBit_eq_decide_div_mod_eq]
  refine ⟨?_, ?_, ?_, ?_⟩
  · rw [field_eq_div_mod]
    omega
  · rw [field_eq_div_mod, pow_zero, Nat.div_one]
  · rw [hbit, decide_eq_true_eq]
    omega
  · rw [hbit, decide_eq_false_iff_not]
    omega

theorem gleanMark_clean {s : State} {dram : Bool} {w : Nat} (h : (s.mark dram w).kind = 0) : gleanMark dram w s = s := by
  simp only [gleanMark, h]

/-- Settles O36: the window, then each command of the memories' upkeep in its own case. -/
theorem memoryUpkeepTakesEffect : Obligations.MemoryUpkeepTakesEffect := by
  refine ⟨fun s m off len hlo hhi hlen ha hin => ?_, fun t s hb => ?_, fun t m v s b hb h hidx hd hr hn hc hf => ?_,
    fun t s k i hr => ?_, fun t s w hon hw => ?_, fun t s w hon hd hen hw => ?_, fun dram w s h => gleanMark_clean h,
    fun t s hrun ht res z hz => ?_⟩
  · have hw := window_sram (s := s) m hlen ha hin
    refine ⟨hw, fun hfrom hto => ?_, fun hout => ?_⟩
    · rw [writeWindow_sram hw, if_pos ((mayWriteSram_host hlo hhi hlen).mpr ⟨hfrom, hto⟩)]
    · rw [writeWindow_sram hw, if_neg fun h => ?_]
      have := (mayWriteSram_host hlo hhi hlen).mp h
      omega
  · refine ⟨_, congrArg Host.Outcome.next (if_pos hb), rfl, rfl, rfl, rfl, ?_, rfl, rfl⟩
    exact State.rb_rsb_same _ .memStat (by decide) true 0 0
  · subst hb
    obtain ⟨hkind, hindex, hone, hzero⟩ := field_memRetire v
    have heff : writeEffect m.toNat ⟨.memRetire, 0, 0⟩ v (s.begin t) = retireRequest (v.toNat / 2 ^ 31) (v.toNat % 2 ^ 21) (s.begin t) := by
      rw [writeEffect_mem (Reg.unit_of rfl)]
      simp only [memRegWrite, hkind, hindex]
    have htop : v.toNat % 2 ^ 21 < if v.toNat / 2 ^ 31 = 0 then 24576 else 2080768 := by
      cases hv : v.getLsbD 31 with
      | true =>
        rw [hv, if_pos rfl] at hidx
        rwa [if_neg (by rw [hone.mp hv]; decide)]
      | false =>
        rw [hv, if_neg Bool.false_ne_true] at hidx
        rwa [if_pos (hzero.mp hv)]
    rw [exec_write_accepted rfl h, heff, retireRequest_begins (s := s.begin t) htop (fun hk => hd (hone.mpr hk)) hr hn hc hf]
    rfl
  · show execRetirementCopyDone t s = _
    have hb : (s.begin t).mem.retire = some (k, i) := hr
    simp only [execRetirementCopyDone, hb]
    rfl
  · subst hw
    exact congrArg Host.Outcome.next (if_neg hon)
  · subst hw
    refine congrArg Host.Outcome.next ((if_neg hon).trans ((if_pos rfl).trans (if_neg ?_)))
    exact fun h => h.elim (· hd) (· hen)
  · subst hz
    exact congrArg Host.Outcome.next ((if_pos hrun).trans (if_neg (Nat.not_lt.mpr ht)))

/-! ### Rings and resets (R363, R374, R385, R428) -/

theorem noteLink_rf {n : RName} (hn : regAddr n ≠ regAddr .netStat) (q : Path) (lo len : Nat) (s : State) :
    (noteLink q s).rf n lo len = s.rf n lo len := by
  obtain ⟨v, hv⟩ := noteLink_eq q s
  rw [hv, State.rf, State.rg_rs_other s v hn, State.rf]

@[simp] theorem pathReset_path (q : Nat) (s : State) : (pathReset q s).path q = PathSt.empty :=
  Tab.get_set_same (fun _ => PathSt.empty) s.cmd q PathSt.empty

/-- Settles O48: each command is unfolded on its condition. -/
theorem ringsAndResetsTakeEffect : Obligations.RingsAndResetsTakeEffect := by
  refine ⟨fun t m v slots s r z hs hr hok hz => ?_, fun t m v s b hb h => ?_, fun t s => ⟨rfl, pathReset_path ..⟩,
    fun t p s hp => ?_, fun t m s hon hm hhas => ?_, fun t m s a w b z hb hon hm hhas hw hz => ?_⟩
  · subst hr hz
    show execCqTailWrite t m v slots s = _
    simp only [execCqTailWrite, hs, hok, not_true_eq_false, if_false, ne_eq, noteLink_rf (n := .netCqtail) (by decide),
      noteLink_rf (n := .netCqsize) (by decide), noteLink_rf (n := .netCqhead) (by decide)]
  · subst hb
    show Host.Outcome.next (settle (writeAs t m (regAddr .netRqhead) v s)) = _
    rw [writeAs, writeReg_accepted h, writeEffect_net (Reg.unit_of rfl)]
    rfl
  · exact congrArg Host.Outcome.next (if_pos hp)
  · refine congrArg Host.Outcome.next (if_neg ?_)
    rintro (h | h | h)
    · exact hon h
    · omega
    · exact h hhas
  · subst hb hw hz
    refine congrArg Host.Outcome.next (if_neg ?_)
    rintro (h | h | h)
    · exact hon h
    · omega
    · exact h hhas

end Sys2Proof.Machine
end

section
/-!
PROOFS. The other traffic of the host paths: accesses through the BARs, ports, event queues, reply caches, bytes that arrive.
-/
namespace Sys2Proof.Machine

/-! ### Accesses through a BAR (R362, R420) -/

/-- A range of a memory that holds no error, as a BAR reads it. -/
theorem barRead_bytes {s : State} {dram : Bool} {off len : Nat} (h : s.cleanRange dram off len) (addr : Nat) :
    ((readRange dram 7 addr (len / 8 + 2) 0 off len s).1,
        (readRange dram 7 addr (len / 8 + 2) 0 off len s).2.1
          ++ List.replicate (len - (readRange dram 7 addr (len / 8 + 2) 0 off len s).2.1.length) 0,
        (readRange dram 7 addr (len / 8 + 2) 0 off len s).2.2.isSome)
      = (s, (List.range len).map (fun k => s.byteOf dram (off + k)), false) := by
  rw [readRange_whole h]
  simp

theorem barRead_sram {s : State} {off len : Nat} (ha : off % 4 = 0) (hin : off + len ≤ 0x1800000) (h : s.cleanRange false off len) :
    barRead 2 off len s = (s, (List.range len).map (fun k => s.byteOf false (off + k)), false) :=
  (if_neg (not_not.mpr ha)).trans ((if_pos hin).trans (barRead_bytes h _))

theorem barRead_dram {s : State} {off len : Nat} (ha : off % 4 = 0) (hd : s.hasDram = true) (hin : off + len ≤ 0x1FC000000)
    (h : s.cleanRange true off len) :
    barRead 4 off len s = (s, (List.range len).map (fun k => s.byteOf true (off + k)), false) :=
  (if_neg (not_not.mpr ha)).trans ((if_neg (not_not.mpr hd)).trans ((if_pos hin).trans (barRead_bytes h _)))

theorem barRead_word {off : Nat} (ha : off % 4 = 0) (s : State) : barRead 0 off 4 s
    = ((readReg 7 off s).1, leBytes 4 (if (readReg 7 off s).2.1 = .ok then (readReg 7 off s).2.2.toNat else 0),
      decide ((readReg 7 off s).2.1 = .memUe)) := by
  refine (if_neg (not_not.mpr ha)).trans ((if_neg (by decide)).trans ?_)
  simp [List.range_succ]

theorem barWrite_word {off : Nat} (ha : off % 4 = 0) {d : List Byte} (hd : d.length = 4) (s : State) :
    barWrite 0 off d s = (writeReg 7 off (wordAt d 0) s).1 := by
  refine (if_neg (not_not.mpr ha)).trans ((if_neg (by rw [hd]; decide)).trans ?_)
  simp [hd, List.range_succ]

theorem barWrite_sram {off : Nat} (ha : off % 4 = 0) {d : List Byte} {s : State} (hin : off + d.length ≤ 0x1800000)
    (hmay : s.mayWriteSram 7 off d.length = true) :
    barWrite 2 off d s = (writeRange false 7 (0x10000000 + off) (d.length / 8 + 2) 0 off d s).1 :=
  (if_neg (not_not.mpr ha)).trans ((if_neg (Nat.not_lt.mpr hin)).trans (if_neg (not_not.mpr hmay)))

theorem barWrite_dram {off : Nat} (ha : off % 4 = 0) {d : List Byte} {s : State} (hd : s.hasDram = true)
    (hin : off + d.length ≤ 0x1FC000000) :
    barWrite 4 off d s = (writeRange true 7 (0x40000000 + off) (d.length / 8 + 2) 0 off d s).1 :=
  (if_neg (not_not.mpr ha)).trans ((if_neg (not_not.mpr hd)).trans (if_neg (Nat.not_lt.mpr hin)))

/-! ### Commands of the paths -/

/-- PCIe is served, and the BAR is one of the three. -/
theorem bar_served {s : State} {bar : Nat} (hs : s.serves .pcie = true) (hb : bar = 0 ∨ bar = 2 ∨ bar = 4) :
    ¬ (¬ s.serves .pcie = true ∨ ¬ (bar = 0 ∨ bar = 2 ∨ bar = 4)) :=
  fun h => h.elim (· hs) (· hb)

@[simp] theorem State.begin_portOpen (s : State) (t : Nat) (q : Path) : (s.begin t).portOpen q = s.portOpen q := by
  cases q <;> rfl

/-- Events are due: 64 records, or one that is 1 ms old. -/
theorem exec_event_due {t : Nat} {q : Path} {s : State} (hq : (s.path (pathIndex q)).queue ≠ [])
    (hd : 64 ≤ (s.path (pathIndex q)).queue.length ∨ (s.path (pathIndex q)).oldest + 400000 ≤ max s.now t) :
    exec (.event t q) s = .next (sendEvents q (s.begin t)) :=
  congrArg Host.Outcome.next (if_pos ⟨by simpa [List.isEmpty_iff] using hq, hd⟩)

theorem sendEvents_port {q : Path} (hq : q ≠ .pcie) (s : State) : ∀ p more, p = s.path (pathIndex q) →
    more = decide (p.queue.drop 64 ≠ []) → sendEvents q s
      = (s.setPath (pathIndex q) { p with queue := p.queue.drop 64, lost := 0, sent := p.sent + 1
                                          overflow := p.overflow && more, oldest := s.now }).put
        (.event q p.sent p.lost (p.queue.take 64)) := by
  rintro p more rfl rfl
  exact (if_neg fun h => hq h.1).trans (if_neg hq)

/-- Settles O12: each access passes or fails its BAR's own checks, each command of a path its condition. -/
theorem hostTrafficTakesEffect : Obligations.HostTrafficTakesEffect := by
  refine ⟨⟨fun t bar off len s z r hs hz hb hr => ?_, fun t bar off d s hs hb => ?_, fun off len s ha hin h => barRead_sram ha hin h,
    fun off len s ha hd hin h => barRead_dram ha hd hin h, fun off s r ha hr => hr ▸ barRead_word ha s,
    fun off d s ha hin hmay => barWrite_sram ha hin hmay, fun off d s ha hd hin => barWrite_dram ha hd hin,
    fun off d s ha hd => barWrite_word ha hd s, fun bar off len d s ha => ⟨if_pos ha, if_pos ha⟩,
    fun off len d s ha hout hd => ⟨?_, ?_⟩, fun t p ip s hon hp => ?_, fun t p ip data s hon hp => ?_,
    fun t q s p more hq hp hne hm hd => ?_, fun t s hne hd => exec_event_due hne hd, fun t q s p hp => by subst hp; rfl,
    fun t q bytes s hs hx => ?_, fun t q bytes s x hs hx => exec_bytes hs hx⟩, fun t p ident s => rfl⟩
  · subst hz hr
    exact congrArg Host.Outcome.next (if_neg (bar_served hs hb))
  · exact congrArg Host.Outcome.next (if_neg (bar_served hs hb))
  · exact (if_neg (not_not.mpr ha)).trans (if_neg (Nat.not_le.mpr hout))
  · exact (if_neg (not_not.mpr ha)).trans (if_pos (hd.symm ▸ hout))
  · exact congrArg Host.Outcome.next (if_congr (by simp [hon, hp]) rfl rfl)
  · exact congrArg Host.Outcome.next (if_congr (by simp [hon, hp]) rfl rfl)
  · subst hp
    rw [exec_event_due hne hd, sendEvents_port hq (s.begin t) _ more rfl hm]
    rfl
  · show execUndefinedOpcode t q bytes s = _
    simp only [execUndefinedOpcode, packet, noteLink_serves, hs, hx, if_true, not_true_eq_false, if_false]

end Sys2Proof.Machine
end

section
/-!
PROOFS. The boundaries of sheaves: the missed prepare deadline, the apply, and how a sheaf's outcome is reported.
-/
namespace Sys2Proof.Machine

/-! ### The outcome of a sheaf (R354, R357) -/

theorem field_fld_mod {lo n : Nat} (h : lo + n ≤ 32) (v : Nat) : field (fld lo v) lo n = v % 2 ^ n := by
  refine Nat.eq_of_testBit_eq fun k => ?_
  rw [testBit_field, bit_fld, Nat.testBit_mod_two_pow]
  by_cases hk : k < n
  · simp [hk, show lo + k < 32 by omega]
  · simp [hk]

theorem field_fld_below {l n lo : Nat} (h : l + n ≤ lo) (v : Nat) : field (fld lo v) l n = 0 := by
  refine Nat.eq_of_testBit_eq fun i => ?_
  rw [testBit_field, bit_fld, Nat.zero_testBit]
  by_cases hi : i < n
  · simp [show ¬ lo ≤ l + i by omega]
  · simp [hi]

/-- A sheaf's end before its commit's reply. -/
def noteOutcome (n : Nat) (st : Status) (detail : Nat) (s : State) : State :=
  let s := ({ s with shf := { s.shf with use := Tab.erase s.shf.use n } } : State).rs .shfSres (fld 0 (statusCode st) ||| fld 16 detail) n
  if st = .ok then (s.rsb .shfEvt 0 true).rsat .shfCommitcnt 0 32 1
  else (s.rsb .shfEvt (if st = .sheafConflict then 2 else 1) true).rsat .shfAbortcnt 0 32 1

theorem endSheaf_eq (n : Nat) (st : Status) (detail : Nat) (data : List Byte) (s : State) :
    endSheaf n st detail data s = answerAll (fun w => decide (w = .sheaf n)) st detail data (noteOutcome n st detail s) := rfl

theorem noteOutcome_body (n : Nat) (st : Status) (detail : Nat) (s : State) :
    (noteOutcome n st detail s).body = ({ s with shf := { s.shf with use := Tab.erase s.shf.use n } } : State).body := by
  rw [noteOutcome]
  split <;> rfl

theorem endSheaf_sheaf (n : Nat) (st : Status) (detail : Nat) (data : List Byte) (s : State) :
    (endSheaf n st detail data s).sheaf n = none := by
  have hbody : (endSheaf n st detail data s).body = ({ s with shf := { s.shf with use := Tab.erase s.shf.use n } } : State).body := by
    rw [endSheaf_eq, answerAll_body, noteOutcome_body]
  rw [State.of_body (State.sheaf · n) (fun _ => rfl) hbody]
  exact (State.sheaf_erase s n n).trans (if_pos rfl)

/-- The word of an outcome stands in its sheaf's own register. -/
theorem endSheaf_shfSres {n : Nat} (hn : n < 8) (st : Status) (detail : Nat) (data : List Byte) (s : State) :
    (endSheaf n st detail data s).rg .shfSres n = (fld 0 (statusCode st) ||| fld 16 detail) := by
  have hsettings : (endSheaf n st detail data s).settings = (noteOutcome n st detail s).settings := by
    rw [endSheaf_eq, answerAll_settings]
  have hblock : regAddr .shfSres n / 65536 ∉ reportBlocks := by
    rw [regAddr_block hn (by decide)]
    decide
  have hother : ∀ m ∈ [RName.shfEvt, .shfCommitcnt, .shfAbortcnt], regAddr .shfSres n ≠ regAddr m := by
    have hlow : ∀ m ∈ [RName.shfEvt, .shfCommitcnt, .shfAbortcnt], regAddr m < RName.shfSres.spec.off := by decide
    intro m hm
    have := hlow m hm
    rw [regAddr]
    omega
  have hevt := hother .shfEvt (by decide)
  rw [State.rg_of_settings hsettings hblock, noteOutcome]
  split
  · exact (State.rg_rs_other _ _ (hother .shfCommitcnt (by decide))).trans ((State.rg_rs_other _ _ hevt).trans (State.rg_rs_same ..))
  · exact (State.rg_rs_other _ _ (hother .shfAbortcnt (by decide))).trans ((State.rg_rs_other _ _ hevt).trans (State.rg_rs_same ..))

theorem endSheaf_result {n : Nat} (hn : n < 8) (st : Status) (detail : Nat) (data : List Byte) (s : State) :
    (endSheaf n st detail data s).rf .shfSres 0 16 n = statusCode st
      ∧ (endSheaf n st detail data s).rf .shfSres 16 16 n = detail % 65536 := by
  have hst : statusCode st < 2 ^ 16 := by cases st <;> decide
  rw [State.rf, State.rf, endSheaf_shfSres hn, field_or, field_or, field_fld hst (by decide), field_fld_apart hst (by decide),
    field_fld_below (by decide), field_fld_mod (by decide), Nat.or_zero, Nat.zero_or]
  exact ⟨rfl, rfl⟩

theorem abortSheaf_sheaf (n : Nat) (st : Status) (detail : Nat) (s : State) : (abortSheaf n st detail s).sheaf n = none := by
  unfold abortSheaf
  split
  · assumption
  · exact endSheaf_sheaf ..

/-! ### The two boundaries (R354, R355) -/

theorem exec_prepareDeadline_missed {t n k : Nat} {s b : State} {x : Sheaf} (hb : b = s.begin t) (hx : s.sheaf n = some x)
    (h2 : x.state = 2) (hdue : ∀ d, x.due = some d → d - 16000 ≤ b.ticks) (hopen : x.due = none → b.openLinks x = [])
    (hk : k = 0x2000 + (b.openLinks x).headD ((x.links.map (fun p => p.1)).headD 0)) :
    exec (.prepareDeadline t n) s = .next (abortSheaf n .aborted k b) := by
  subst hb hk
  have hbx : (s.begin t).sheaf n = some x := hx
  show execPrepareDeadline t n s = _
  simp only [execPrepareDeadline, hbx]
  cases hd : x.due with
  | none => rw [if_pos ⟨h2, by simp [hopen hd]⟩]
  | some d => rw [if_pos ⟨h2, decide_eq_true (hdue d hd)⟩]

/-- A ready sheaf at its boundary, whose rules still hold. -/
theorem applySheaf_ready {n : Nat} {x : Sheaf} {d : Int} {b : State} (hx : b.sheaf n = some x) (h3 : x.state = 3)
    (hd : x.due = some d) (hle : d ≤ b.ticks) (hr : b.sheafRules n x = none) : ∀ w y z, w = x.es.foldl (applyEntry n x.owner) b →
    y = w.when (x.es.any (fun e => decide (e.kind = 2) && (regAt e.addr).any (fun r =>
        decide (r.name = .lenBank) && decide (r.i = b.len.reg.bank))) && w.running)
          (bankRewritten (fun j => b.bankNum b.len.reg.bank j)) →
    z = (applyBanks x.es y).when x.hasGdp (applySet x d) → applySheaf n b = endSheaf n .ok 0 (leBytes 4 (wordOf d).toNat) z := by
  rintro w y z rfl rfl rfl
  have hnow : ¬ (x.state ≠ 3 ∨ b.ticks < d) := fun h => h.elim (· h3) (not_lt.mpr hle)
  have hany (p q : SheafEntry → Bool) (h : ∀ e, p e = q e) : x.es.any p = x.es.any q := by rw [funext h]
  simp only [applySheaf, hx, hd, if_neg hnow, hr, State.when, Bool.and_eq_true]
  conv_lhs =>
    rw [hany _ (fun e => decide (e.kind = 2) && (regAt e.addr).any (fun r =>
      decide (r.name = .lenBank) && decide (r.i = b.len.reg.bank))) fun e => by cases regAt e.addr <;> rfl]

/-- Settles O54: the deadline, the apply with its rules held or broken, and the outcome's words. -/
theorem sheafBoundariesTakeEffect : Obligations.SheafBoundariesTakeEffect := by
  refine ⟨fun t n s x b k hb hx h2 hdue hopen hk => ⟨exec_prepareDeadline_missed hb hx h2 hdue hopen hk, abortSheaf_sheaf ..⟩,
    fun t n s x d b w y z hb hx h3 hd hle hr hw hy hz => ?_, fun t n s x d f b hb hx h3 hd hle hr => ?_,
    fun n st detail data s hn => ⟨endSheaf_sheaf .., endSheaf_result hn ..⟩⟩
  · subst hb
    exact congrArg Host.Outcome.next (applySheaf_ready hx h3 hd hle hr w y z hw hy hz)
  · subst hb
    have hnow : ¬ (x.state ≠ 3 ∨ (applyBefore n (s.begin t)).ticks < d) := fun h => h.elim (· h3) (not_lt.mpr hle)
    show Host.Outcome.next (applySheaf n _) = _
    simp only [applySheaf, hx, hd, if_neg hnow, hr]

end Sys2Proof.Machine
end

section
/-!
PROOFS. What every fault leaves whatever its level does: the safety unit, the power state and most registers; and the
log, which only grows.
-/
namespace Sys2Proof.Machine

/-! ### What lasts through a fault -/

/-- What a fault leaves whatever its level does: the registers outside the blocks of reports and of the recorder but for
the burst's length, the safety unit but for the trip's request, the power state but for the burst's times. -/
def State.lasting (s : State) : (Nat → Word) × SafSt × PwrSt :=
  (fun a => if a / 65536 = 17 ∨ a = regAddr .pwrThstat then 0 else s.settings a,
    { s.saf with modReq := false, trip4 := false }, { s.pwr with burstStart := none, burstEnd := none })

theorem State.lasting_of {x y : State} (hset : x.settings = y.settings) (hsaf : x.saf = y.saf) (hpwr : x.pwr = y.pwr) :
    x.lasting = y.lasting := by
  rw [State.lasting, hset, hsaf, hpwr, State.lasting]

theorem State.lasting_of_body {x y : State} (hset : x.settings = y.settings) (h : x.body = y.body) : x.lasting = y.lasting :=
  State.lasting_of hset (State.of_body State.saf (fun _ => rfl) h) (State.of_body State.pwr (fun _ => rfl) h)

theorem State.rg_of_lasting {x y : State} {n : RName} {i j : Nat} (h : x.lasting = y.lasting)
    (hn : regAddr n i j / 65536 ∉ 17 :: reportBlocks) (hth : regAddr n i j ≠ regAddr .pwrThstat) : x.rg n i j = y.rg n i j := by
  rw [List.mem_cons, not_or] at hn
  have ha := congrFun (congrArg Prod.fst h) (regAddr n i j)
  simp only [State.lasting, hn.1, hth, or_self, if_false, State.settings, hn.2] at ha
  exact ha

/-- `q` reads nothing of the safety unit but what lasts. -/
theorem State.saf_of_lasting {β : Type} (q : SafSt → β) (hq : ∀ u : SafSt, q { u with modReq := false, trip4 := false } = q u)
    {x y : State} (h : x.lasting = y.lasting) : q x.saf = q y.saf := by
  rw [← hq, ← hq y.saf]
  exact congrArg (fun l => q l.2.1) h

/-- `q` reads nothing of the power state but what lasts. -/
theorem State.pwr_of_lasting {β : Type} (q : PwrSt → β) (hq : ∀ p : PwrSt, q { p with burstStart := none, burstEnd := none } = q p)
    {x y : State} (h : x.lasting = y.lasting) : q x.pwr = q y.pwr := by
  rw [← hq, ← hq y.pwr]
  exact congrArg (fun l => q l.2.2) h

/-! ### Trigger units write in the recorder's block -/

theorem State.rs_rec_lasting (s : State) {n : RName} (v : Word) {i j : Nat} (h : regAddr n i j / 65536 = 17) :
    (s.rs n v i j).lasting = s.lasting := by
  refine Prod.ext (funext fun a => ?_) rfl
  by_cases ha : a / 65536 = 17 ∨ a = regAddr .pwrThstat
  · simp only [State.lasting, if_pos ha]
  · have hset : Tab.get regReset (s.rs n v i j).regs a = Tab.get regReset s.regs a :=
      Tab.get_set_other _ _ _ _ _ fun e => ha (.inl (e ▸ h))
    simp only [State.lasting, if_neg ha, State.settings, hset]

/-- The single registers of the recorder that a firing writes. -/
abbrev firingRegs : List RName := [.recEvt, .recMarklost, .recTrgctl]

@[simp] theorem State.rs_firing_lasting (s : State) {n : RName} (v : Word) (hn : n ∈ firingRegs) :
    (s.rs n v).lasting = s.lasting := by
  have hblock : ∀ n ∈ firingRegs, regAddr n 0 0 / 65536 = 17 := by decide
  exact s.rs_rec_lasting v (hblock n hn)

theorem State.rs_recTucnt_lasting (s : State) (v : Word) {u : Nat} (hu : u < 4) : (s.rs .recTucnt v u).lasting = s.lasting :=
  s.rs_rec_lasting v (regAddr_block (n := .recTucnt) hu (by decide))

@[simp] theorem State.rsf_lasting (s : State) (n lo len v i j) :
    (s.rsf n lo len v i j).lasting = (s.rs n (setField (s.rg n i j) lo len v) i j).lasting := (rfl)
@[simp] theorem State.rsb_lasting (s : State) (n k b i j) :
    (s.rsb n k b i j).lasting = (s.rsf n k 1 (if b then 1 else 0) i j).lasting := (rfl)
@[simp] theorem State.rsat_lasting (s : State) (n lo len a i j) :
    (s.rsat n lo len a i j).lasting = (s.rsf n lo len (satAdd (2 ^ len - 1) (s.rf n lo len i j) a) i j).lasting := (rfl)
@[simp] theorem State.put_lasting (s : State) (o) : (s.put o).lasting = s.lasting := (rfl)
@[simp] theorem State.setTrg_lasting (s : State) (u x) : (s.setTrg u x).lasting = s.lasting := (rfl)
@[simp] theorem State.lasting_update (s : State) (r) : ({ s with rcd := r } : State).lasting = s.lasting := (rfl)

@[simp] theorem ite_lasting (c : Prop) [Decidable c] (a b : State) :
    (if c then a else b).lasting = if c then a.lasting else b.lasting := apply_ite ..

@[simp] theorem State.when_lasting (s : State) (b : Bool) (f : State → State) (h : ∀ s, (f s).lasting = s.lasting) :
    (s.when b f).lasting = s.lasting := by
  cases b with
  | false => rfl
  | true => exact h s

@[simp] theorem placeRec_lasting (b s) : (placeRec b s).lasting = s.lasting :=
  (congrArg State.lasting (placeRec_frame b s s.rcd) :)

@[simp] theorem placeMark_lasting (b s) : (placeMark b s).lasting = s.lasting := by
  simp [placeMark]

@[simp] theorem fireOutputs_lasting (u s) : (fireOutputs u s).lasting = s.lasting := by
  simp [fireOutputs, startPulse]

theorem fireOne_lasting {m : MarkInfo} (hm : m.unit < 4) (c o s) : (fireOne c o m s).lasting = s.lasting := by
  simp [fireOne, State.rs_recTucnt_lasting _ _ hm, -State.rsat_flt, -State.rsb_flt, -ite_flt]

theorem fireUnits_lasting {ms : List MarkInfo} (hms : ∀ m ∈ ms, m.unit < 4) (s) : (fireUnits ms s).lasting = s.lasting := by
  have hfold {l : List MarkInfo} (hl : ∀ m ∈ l, m ∈ ms) (c : Bool) (o : MarkInfo → Bool) (x : State) :
      (l.foldl (fun s m => fireOne c (o m) m s) x).lasting = x.lasting := by
    refine List.foldlRecOn l _ (motive := fun z : State => z.lasting = x.lasting) rfl fun z hz m hm => ?_
    rw [fireOne_lasting (hms m (hl m hm)), hz]
  simp only [fireUnits]
  split
  · rfl
  · rw [State.when_lasting _ _ _ (by simp), hfold fun _ hm => List.mem_of_mem_filter hm]
    simp [markCoinc]

theorem faultTrigger_lasting (code lvl s) : (faultTrigger code lvl s).lasting = s.lasting := by
  refine fireUnits_lasting (fun m hm => ?_) s
  obtain ⟨u, hu, rfl⟩ := List.mem_map.mp (List.mem_of_mem_filter hm)
  exact List.mem_range.mp (List.mem_of_mem_filter hu)

/-- The state in which a fault's level acts differs in no part that lasts. -/
theorem raised_lasting {f : FaultArg} (hc : f.code / 256 < 14) (s : State) : (raised f s).lasting = s.lasting :=
  (faultTrigger_lasting ..).trans <| State.lasting_of_body
    ((overflowFaults_settings ..).trans (raise0_settings hc s)) ((overflowFaults_body ..).trans (raise0_body ..))

/-! ### What a level does -/

/-- `x` differs from `s` in no part that lasts, and its log is no shorter. -/
def State.spares (s x : State) : Prop := x.lasting = s.lasting ∧ s.flt.logged ≤ x.flt.logged

theorem State.spares.trans {x y z : State} (h : x.spares y) (g : y.spares z) : x.spares z :=
  ⟨g.1.trans h.1, h.2.trans g.2⟩

theorem State.spares_refl (s : State) : s.spares s := ⟨rfl, Nat.le_refl _⟩

theorem answerAll_spares (w st d b) (s : State) : s.spares (answerAll w st d b s) :=
  ⟨State.lasting_of_body (answerAll_settings ..) (answerAll_body ..), answerAll_logged ..⟩

@[simp] theorem setGlobal_flt (v m s) : (setGlobal v m s).flt = s.flt := by
  simp [setGlobal, logOverride]

theorem releaseTrip_logged (s) : (releaseTrip s).flt.logged = s.flt.logged := by
  unfold releaseTrip
  dsimp only
  split <;> rfl

theorem setMode_logged (m b s) : s.flt.logged ≤ (setMode m b s).flt.logged := by
  have hrelease (z : State) (c : Bool) : z.flt.logged ≤ (z.when c releaseTrip).flt.logged :=
    State.when_logged z c fun s => (releaseTrip_logged s).ge
  unfold setMode
  split
  · exact Nat.le_refl _
  · refine le_trans ?_ (emit_logged ..)
    refine le_of_eq_of_le ?_ (hrelease _ _)
    rw [State.when_flt _ _ (setGlobal 0 0) (setGlobal_flt 0 0), State.when_flt _ _ (fun s => s.rs .winFixen 0) fun _ => rfl]

theorem setMode_spares (m b) (s : State) : s.spares (setMode m b s) :=
  ⟨State.lasting_of (setMode_settings ..) (setMode_saf ..) ((State.of_body State.pwr (fun _ => rfl) (setMode_body m b s)).trans rfl),
    setMode_logged ..⟩

theorem State.when_spares (s : State) (b : Bool) {f : State → State} (h : ∀ s : State, s.spares (f s)) : s.spares (s.when b f) := by
  cases b with
  | false => exact s.spares_refl
  | true => exact h s

theorem foldl_spares {α : Type} {g : State → α → State} (h : ∀ (s : State) x, s.spares (g s x)) (l : List α) (s : State) :
    s.spares (l.foldl g s) :=
  ⟨foldl_keeps State.lasting (fun s x => (h s x).1) l s, le_foldl (fun s : State => s.flt.logged) (fun s x => (h s x).2) l s⟩

theorem orderOut_spares (l : Nat) (s : State) : s.spares (orderOut l s) := by
  unfold orderOut
  split
  · exact s.spares_refl
  · have hcut := s.when_spares (decide (s.ticks < (Tab.get (fun _ => Link.init) s.lnk l).eof)) (f := fun s => s.put (.frameCut l))
      fun _ => ⟨rfl, Nat.le_refl _⟩
    exact hcut.trans ⟨rfl, Nat.le_refl _⟩

theorem blockAll_spares (s : State) : s.spares (blockAll s) := by
  have horders := foldl_spares (fun z l => z.when_spares (s.linkUp l) (orderOut_spares l)) (List.range 128) s
  exact horders.trans ⟨rfl, Nat.le_refl _⟩

theorem blockArms_spares (s : State) : s.spares (blockArms s) :=
  foldl_spares (g := blockArm) (fun _ _ => ⟨rfl, Nat.le_refl _⟩) _ _

theorem endBurst_spares (s : State) : s.spares (endBurst s) := by
  unfold endBurst
  split
  · exact ⟨rfl, Nat.le_refl _⟩
  · refine ⟨Prod.ext (funext fun a => ?_) rfl, Nat.le_refl _⟩
    by_cases ha : a / 65536 = 17 ∨ a = regAddr .pwrThstat
    · simp only [State.lasting, if_pos ha]
    · have hset (v : Word) : Tab.get regReset (s.rs .pwrThstat v).regs a = Tab.get regReset s.regs a :=
        Tab.get_set_other _ _ _ _ _ fun e => ha (.inr e)
      simp only [State.lasting, if_neg ha, State.settings]
      exact if_congr Iff.rfl rfl (hset _)

theorem stopEngine_spares (s : State) : s.spares (stopEngine s) := by
  have hlen (l : LenSt) : s.spares (endBurst { s with len := l }) := endBurst_spares { s with len := l }
  have hwin (z : State) (w) : z.spares { z with win := w } := ⟨rfl, Nat.le_refl _⟩
  exact (hlen _).trans (hwin _ _)

theorem askSf1_spares (trip) (s : State) : s.spares (askSf1 trip s) := by
  unfold askSf1
  split <;> exact ⟨rfl, Nat.le_refl _⟩

theorem driveTrip_spares (s : State) : s.spares (driveTrip s) := by
  unfold driveTrip
  split <;> exact ⟨rfl, Nat.le_refl _⟩

theorem abortBist_spares (s : State) : s.spares (abortBist s) := by
  unfold abortBist
  dsimp only
  split
  · exact State.spares.trans (x := s) ⟨rfl, Nat.le_refl _⟩ (answerAll_spares ..)
  · exact s.spares_refl

theorem enterArmed_spares (s : State) : s.spares (enterArmed s) :=
  (blockArms_spares s).trans ((stopEngine_spares _).trans (setMode_spares ..))

theorem stopNow_spares (s : State) : s.spares (stopNow s) := by
  unfold stopNow
  split
  · split <;> exact ⟨rfl, Nat.le_refl _⟩
  · exact (blockAll_spares s).trans ((answerAll_spares ..).trans (enterArmed_spares _))
  · exact s.spares_refl

theorem tripNow_spares (blocked trip : Bool) (s : State) : s.spares (tripNow blocked trip s) := by
  refine (abortBist_spares s).trans ?_
  unfold tripNow
  generalize abortBist s = z
  have hfresh (y : State) : y.spares { y with saf := { y.saf with trip4 := false } } := ⟨rfl, Nat.le_refl _⟩
  have hnote (y : State) (r : RedSt) (t : Option Int) : y.spares { y with red := r, flt := { y.flt with tripFrame := t } } :=
    ⟨rfl, Nat.le_refl _⟩
  dsimp only
  split
  case h_6 => exact (askSf1_spares trip z).trans (driveTrip_spares _)
  case h_7 | h_8 | h_9 => exact askSf1_spares trip z
  case h_10 => exact z.spares_refl
  all_goals
    refine State.spares.trans ?_ (setMode_spares ..)
    refine State.spares.trans ?_ (hnote _ _ _)
    refine State.spares.trans ?_ (answerAll_spares ..)
    refine State.spares.trans ?_ (stopEngine_spares _)
    refine State.spares.trans ?_ (blockArms_spares _)
    refine State.spares.trans ?_ (driveTrip_spares _)
    refine State.spares.trans ?_ (askSf1_spares trip _)
    exact (z.when_spares (!blocked) blockAll_spares).trans (hfresh _)

theorem levelAction_spares (code : Nat) (lvl : Level) (blocked : Bool) (s : State) : s.spares (levelAction code lvl blocked s) := by
  cases lvl with
  | l0 => exact s.spares_refl
  | l1 => exact s.spares_refl
  | l2 => exact stopNow_spares s
  | l3 => exact tripNow_spares ..

/-! ### A raised fault -/

theorem raise_lasting {f : FaultArg} (hc : f.code / 256 < 14) (s : State) (blocked : Bool) : (raise f s blocked).lasting = s.lasting :=
  (levelAction_spares ..).1.trans (raised_lasting hc s)

/-- A raised fault is logged, and nothing that follows takes an entry back. -/
theorem raise_logged (f : FaultArg) (s : State) (blocked : Bool) : s.flt.logged < (raise f s blocked).flt.logged :=
  (raised_logged f s).trans_le (levelAction_spares ..).2

end Sys2Proof.Machine
end

section
/-!
PROOFS. The rows of the safety unit.
-/
namespace Sys2Proof.Machine

/-! ### Outputs (R400-R402) -/

/-- Putting an output leaves all but the safety unit and the outputs of the clock. -/
theorem setSo_beside (k : Nat) (y : OutSt) (s : State) (u : SafSt) (o : List Out) :
    { setSo k y s with saf := u, out := o } = { s with saf := u, out := o } := by
  unfold setSo
  dsimp only
  split <;> rfl

theorem setSo_saf (k : Nat) (y : OutSt) (s : State) :
    (setSo k y s).saf = { s.saf with outs := Tab.set (fun _ => OutSt.init) s.saf.outs k y } := by
  unfold setSo
  dsimp only
  split <;> rfl

@[simp] theorem setSo_so (k : Nat) (y : OutSt) (s : State) : (setSo k y s).so k = y := by
  rw [State.so, setSo_saf]
  exact Tab.get_set_same ..

theorem driveSo_saf (s : State) (k : Nat) : ∃ outs, (driveSo s k).saf = { s.saf with outs := outs } := by
  unfold driveSo
  dsimp only
  split
  · exact ⟨_, rfl⟩
  · split <;> exact ⟨_, setSo_saf ..⟩

/-- Driving the outputs touches nothing of the safety unit but the outputs. -/
theorem driveAll_saf (l : List Nat) (s : State) : ∃ outs, (l.foldl driveSo s).saf = { s.saf with outs := outs } := by
  induction l generalizing s with
  | nil => exact ⟨_, rfl⟩
  | cons k r ih =>
    obtain ⟨o, ho⟩ := driveSo_saf s k
    obtain ⟨outs, houts⟩ := ih (driveSo s k)
    exact ⟨outs, by rw [List.foldl_cons, houts, ho]⟩

/-! ### Safety faults (R403, R450) -/

theorem safFault_lasting {k : Nat} (hk : k < 32) (base : Level) (s : State) :
    (safFault k base s).lasting = (s.rsb .safEvt k true).lasting :=
  raise_lasting (by omega : (0x0AB0 + k) / 256 < 14) ..

/-- A safety fault leaves the safety unit but for the trip's request. -/
theorem safFault_saf {β : Type} (q : SafSt → β) (hq : ∀ u : SafSt, q { u with modReq := false, trip4 := false } = q u)
    {k : Nat} (hk : k < 32) (base : Level) (s : State) : q (safFault k base s).saf = q s.saf :=
  State.saf_of_lasting q hq (y := s.rsb .safEvt k true) (safFault_lasting hk base s)

/-- A safety fault sets its bit of SAF_EVT. -/
theorem safFault_evt {k : Nat} (hk : k < 32) (base : Level) (s : State) : (safFault k base s).rb .safEvt k = true := by
  rw [State.rb, State.rg_of_lasting (safFault_lasting hk base s) (by decide) (by decide)]
  exact State.rb_rsb_same s .safEvt hk true 0 0

/-! ### The reset input, dark tests, telegrams and losses -/

theorem exec_resetInput {t n : Nat} {s b : State} (hb : b = s.begin t) (hrun : b.lanesRun = true) (hn : 1 ≤ n)
    (hrel : (s.si (n - 1)).rel = true) (hok : (setInp (n - 1) { s.si (n - 1) with rel := false } b).resetOk = true) :
    exec (.resetInput t n) s = .next (releaseSf1 (setInp (n - 1) { s.si (n - 1) with rel := false } b)) := by
  subst hb
  refine (congrArg Host.Outcome.next (if_pos ?_)).trans (congrArg Host.Outcome.next (if_pos hok))
  simp only [hrun, Bool.true_and, Bool.and_eq_true, decide_eq_true_eq]
  exact ⟨hrel, hn⟩

/-- A dark test of an output that is on, in its slot, opens the switch under test. -/
theorem exec_darkTest {t n : Nat} {low : Bool} {s : State} (hrun : (s.begin t).lanesRun = true) (hn : 1 ≤ n) (h4 : n ≤ 4)
    (hf : (s.so (n - 1)).faulted = false) (hhi : (s.so (n - 1)).hi = true) (hlo : (s.so (n - 1)).lo = true)
    (hslot : s.saf.cycle % 240000 = darkSlot (n - 1) low) :
    ∃ load hi lo, exec (.darkTest t n low) s = .next (setSo (n - 1) { s.so (n - 1) with
      hi := low, lo := !low, load := load, test := if low then 2 else 1, testAt := max s.now t, abortHi := hi, abortLo := lo }
        (s.begin t)) := by
  refine ⟨_, _, _, (congrArg Host.Outcome.next (if_neg ?_)).trans (congrArg Host.Outcome.next (if_pos ?_))⟩
  · simp [hrun, hf, hslot]
    omega
  · simp [hhi, hlo]

theorem darkTestResult_due {t n : Nat} {low : Bool} {s : State} (hrun : (s.begin t).lanesRun = true) (hn : 1 ≤ n) (h4 : n ≤ 4)
    (htest : (s.so (n - 1)).test = if low then 2 else 1) (fell : Bool) :
    exec (.darkTestResult t n low fell) s = .next (if !fell then stuckSo (n - 1) low (s.begin t)
      else if (s.begin t).soWanted (n - 1) then setSo (n - 1) { s.so (n - 1) with hi := true, lo := true, load := true, test := 0 } (s.begin t)
      else setSo (n - 1) { s.so (n - 1) with test := 0 } (s.begin t)) := by
  refine congrArg Host.Outcome.next (if_neg ?_)
  simp [hrun, htest]
  omega

/-- An output at its current limit opens both switches before its fault is raised. -/
theorem exec_outputCurrentLimit {t n : Nat} {s : State} (hrun : (s.begin t).lanesRun = true) (hn : 1 ≤ n) (h4 : n ≤ 4)
    (hf : (s.so (n - 1)).faulted = false) : ∃ base z, exec (.outputCurrentLimit t n) s = .next (safFault 4 base z)
      ∧ z.so (n - 1) = { s.so (n - 1) with hi := false, lo := false, load := false, faulted := true, test := 0 }
      ∧ (s.soFunc (n - 1) = 1 → z.saf.sf1 = true) := by
  refine ⟨_, _, congrArg Host.Outcome.next (if_neg ?_), setSo_so .., fun hfun => ?_⟩
  · simp [hrun, hf]
    omega
  · have himg (y : OutSt) : (setSo (n - 1) y (s.begin t)).soFunc (n - 1) = s.soFunc (n - 1) := by
      rw [State.soFunc, State.img, setSo_saf]
      rfl
    simp [himg, hfun]

/-- Settles O60, row by row: what a row writes itself, and what its fault then leaves of it. -/
theorem safetyRowsTakeEffect : Obligations.SafetyRowsTakeEffect := by
  unfold Obligations.SafetyRowsTakeEffect
  refine ⟨fun t io s h => congrArg Host.Outcome.next (if_pos h), ?_, ?_, ?_, ?_, ?_, ?_, ?_, fun _ _ _ => rfl, ?_, ?_, ?_, ?_, ?_⟩
  · intro t n s b hb hrun hn hrel hok
    exact ⟨_, exec_resetInput hb hrun hn hrel hok, rfl, rfl, by subst hb; rfl⟩
  · intro t n low s hrun hn h4 hf hhi hlo hslot
    obtain ⟨load, hi, lo, h⟩ := exec_darkTest hrun hn h4 hf hhi hlo hslot
    refine ⟨_, h, ?_, ?_, ?_, ?_, setSo_beside ..⟩ <;> rw [setSo_so]
  · intro t n low s hrun hn h4 htest
    exact darkTestResult_due hrun hn h4 htest false
  · intro t n low s hrun hn h4 htest hwant
    refine ⟨_, (darkTestResult_due hrun hn h4 htest true).trans (congrArg Host.Outcome.next (if_pos hwant)), ?_, ?_, ?_, setSo_beside ..⟩
      <;> rw [setSo_so]
  · intro t s a hrun ha hdue
    simp only [exec, execAccessDelay, State.begin_saf, ha]
    refine congrArg Host.Outcome.next (if_pos ?_)
    simpa [hrun] using hdue
  · intro t s hrun him hdue
    refine congrArg Host.Outcome.next (if_pos ?_)
    simpa [hrun, him] using hdue
  · intro t p ip udp bytes s hrun hp
    refine congrArg Host.Outcome.next (if_pos ?_)
    simp [hrun, hp]
  · intro t s hrun him hto hdue
    have hexec : exec (.telegramTimeout t) s = .next (safFault 6 (if decide (s.img 49 1 = 1) then .l3 else .l1)
        { s.begin t with saf := { s.saf with timedOut := true, sf1 := s.saf.sf1 || decide (s.img 49 1 = 1) } }) := by
      refine congrArg Host.Outcome.next (if_pos ?_)
      simp only [Bool.and_eq_true, decide_eq_true_eq]
      exact ⟨⟨⟨hrun, him⟩, congrArg not hto⟩, hdue⟩
    refine ⟨_, hexec, ?_, fun hcfg => ?_, safFault_evt (by decide) ..⟩
    · rw [safFault_saf SafSt.timedOut (fun _ => rfl) (by decide)]
    · rw [safFault_saf SafSt.sf1 (fun _ => rfl) (by decide)]
      simp [hcfg]
  · intro t s im w hp hdue
    simp only [exec, execConfigTimeout, State.begin_saf, hp]
    exact congrArg Host.Outcome.next (if_pos hdue)
  · intro t s hrun hio
    have hexec : exec (.ioSupplyLoss t) s = .next (safFault 9 .l3 ((List.range 4).foldl driveSo
        { s.begin t with saf := { s.saf with ioLost := true, sf1 := true } })) :=
      congrArg Host.Outcome.next (if_pos (by simp [hrun, hio]))
    obtain ⟨outs, houts⟩ := driveAll_saf (List.range 4) { s.begin t with saf := { s.saf with ioLost := true, sf1 := true } }
    refine ⟨_, hexec, ?_, ?_, safFault_evt (by decide) ..⟩
    · rw [safFault_saf SafSt.ioLost (fun _ => rfl) (by decide), houts]
    · rw [safFault_saf SafSt.sf1 (fun _ => rfl) (by decide), houts]
  · intro t n s hrun hn h4 hf
    obtain ⟨base, z, hexec, hso, hsf⟩ := exec_outputCurrentLimit (s := s) hrun hn h4 hf
    have hkept : (safFault 4 base z).so (n - 1) = z.so (n - 1) :=
      safFault_saf (fun u => Tab.get (fun _ => OutSt.init) u.outs (n - 1)) (fun _ => rfl) (by decide) ..
    refine ⟨_, hexec, ?_, ?_, ?_, fun hfun => ?_⟩
    · rw [hkept, hso]
    · rw [hkept, hso]
    · rw [hkept, hso]
    · rw [safFault_saf SafSt.sf1 (fun _ => rfl) (by decide)]
      exact hsf hfun
  · intro t s hrun ho
    exact congrArg Host.Outcome.next (if_pos (by simp [hrun, ho]))

end Sys2Proof.Machine
end

section
/-!
PROOFS. Input legs and hold-up, temperatures, bursts.
-/
namespace Sys2Proof.Machine

/-! ### Legs (R463-R465) -/

@[simp] theorem State.setPwr_pwr (s : State) (p : PwrSt) : (s.setPwr p).pwr = p := rfl

@[simp] theorem State.rsb_pwr (s : State) (n k b i j) : (s.rsb n k b i j).pwr = s.pwr := rfl

@[simp] theorem noteVin_pwr (l mv s) : (noteVin l mv s).pwr = s.pwr := rfl

@[simp] theorem PwrSt.setLeg_same (p : PwrSt) (l : Leg) (v : Nat) : (p.setLeg l v).leg l = v := by
  cases l <;> rfl

@[simp] theorem PwrSt.setLeg_other (p : PwrSt) (l : Leg) (v : Nat) : (p.setLeg l v).leg (otherLeg l) = p.leg (otherLeg l) := by
  cases l <;> rfl

@[simp] theorem PwrSt.setLeg_good (p : PwrSt) (l : Leg) (v : Nat) : (p.setLeg l v).good = p.good := by
  cases l <;> rfl

@[simp] theorem PwrSt.setLeg_holdup (p : PwrSt) (l : Leg) (v : Nat) : (p.setLeg l v).holdup = p.holdup := by
  cases l <;> rfl

/-- The input is lost with neither leg good and one of them without voltage. -/
theorem PwrSt.lost_eq (p : PwrSt) (l : Leg) : p.lost = (decide (p.leg l ≠ 1) && decide (p.leg (otherLeg l) ≠ 1)
    && (decide (p.leg l = 0) || decide (p.leg (otherLeg l) = 0))) := by
  cases l with
  | a => rfl
  | b =>
    rw [PwrSt.lost, Bool.and_comm (decide (p.legA ≠ 1)), Bool.or_comm (decide (p.legA = 0))]
    rfl

/-! ### Faults of the power block -/

/-- `q` reads nothing of the power state that a fault's level touches. -/
theorem fault_pwr {β : Type} (q : PwrSt → β) (hq : ∀ p : PwrSt, q { p with burstStart := none, burstEnd := none } = q p)
    {code : Nat} (hc : code / 256 < 14) (base : Level) (s : State) : q (fault code base s).pwr = q s.pwr :=
  State.pwr_of_lasting q hq (raise_lasting hc ..)

/-- A fault leaves PWR_EVT. -/
theorem fault_pwrEvt {code : Nat} (hc : code / 256 < 14) (base : Level) (s : State) (k : Nat) :
    (fault code base s).rb .pwrEvt k = s.rb .pwrEvt k := by
  rw [State.rb, fault, State.rg_of_lasting (raise_lasting hc ..) (by decide) (by decide)]
  rfl

theorem fault_logged (code : Nat) (base : Level) (s : State) : s.flt.logged < (fault code base s).flt.logged :=
  raise_logged ..

@[simp] theorem replaceCause_pwr (k s) : (replaceCause k s).pwr = s.pwr := by
  unfold replaceCause
  split
  · rfl
  · exact (State.of_body State.pwr (fun _ => rfl) (emit_body ..)).trans rfl

/-! ### The replacement request (R453) -/

/-- A report leaves the request. -/
theorem raise0_fltReplace {f : FaultArg} (hc : f.code / 256 < 14) (s : State) : (raise0 f s).1.rg .fltReplace = s.rg .fltReplace := by
  have hclass {n : RName} (hn : n ∈ classRegs) : regAddr .fltReplace ≠ regAddr n (f.code / 256) := by
    have := regAddr_classRegs hn hc
    rw [show regAddr .fltReplace = 0x10010 from rfl]
    omega
  have hcap (lvl : Level) (z : State) : (capture (f.code / 256) f lvl z).rg .fltReplace = z.rg .fltReplace := by
    rw [capture, State.rg_rs_other _ _ (hclass (by decide)), State.rg_rs_other _ _ (hclass (by decide)),
      State.rg_rs_other _ _ (hclass (by decide)), State.rg_rs_other _ _ (hclass (by decide)), State.rg_rs_other _ _ (hclass (by decide))]
  rw [raise0_rg, logEntry_rg (by decide) (by decide) (by decide)]
  refine (State.rg_rs_other _ _ (by decide)).trans ((rg_counted (hclass (by decide)) _ _).trans ?_)
  exact State.when_keeps (fun s => s.rg .fltReplace) (hcap _) _ _

theorem overflowFaults_fltReplace (fuel n : Nat) (s : State) : (overflowFaults fuel n s).rg .fltReplace = s.rg .fltReplace := by
  induction fuel generalizing n s with
  | zero => rfl
  | succ k ih =>
    cases n with
    | zero => rfl
    | succ n => exact (ih _ _).trans (raise0_fltReplace (by decide) s)

theorem replaceCause_sets {k : Nat} (hk : k < 32) (s : State) : (replaceCause k s).rb .fltReplace k = true := by
  unfold replaceCause
  split
  · assumption
  · rw [State.rb, emit, overflowFaults_fltReplace, State.rg_of_regs (pushAll_regs ..)]
    exact State.rb_rsb_same s .fltReplace hk true 0 0

/-! ### A leg leaves GOOD -/

/-- A leg's new state and voltage are noted. -/
def noteLeg (l : Leg) (v mv : Nat) (s : State) : State := noteVin l mv (s.setPwr (s.pwr.setLeg l v))

@[simp] theorem noteLeg_pwr (l v mv s) : (noteLeg l v mv s).pwr = s.pwr.setLeg l v := rfl

/-- The other leg carries the module: a lost leg asks for its replacement. -/
theorem legLeaves_lost {l : Leg} {s : State} (hg : s.pwr.good = true) (hl : s.pwr.leg l = 1) (ho : s.pwr.leg (otherLeg l) = 1) (mv : Nat) :
    legLeaves l 0 mv s = replaceCause 0 (fault 0x08F0 .l1 ((noteLeg l 0 mv s).rsb .pwrEvt 0 true)) := by
  have hkept (z : State) : (fault 0x08F0 .l1 z).pwr.lost = z.pwr.lost := fault_pwr PwrSt.lost (fun _ => rfl) (by decide) ..
  simp [legLeaves, noteLeg, State.when, hg, hl, ho, hkept, PwrSt.lost_eq _ l]

/-- The other leg carries the module: an overvoltage is reported. -/
theorem legLeaves_over {l : Leg} {s : State} (hg : s.pwr.good = true) (hl : s.pwr.leg l = 1) (ho : s.pwr.leg (otherLeg l) = 1) (mv : Nat) :
    legLeaves l 2 mv s = fault 0x08F3 .l1 ((noteLeg l 2 mv s).rsb .pwrEvt 3 true) := by
  have hkept (z : State) : (fault 0x08F3 .l1 z).pwr.lost = z.pwr.lost := fault_pwr PwrSt.lost (fun _ => rfl) (by decide) ..
  simp [legLeaves, noteLeg, State.when, hg, hl, ho, hkept, PwrSt.lost_eq _ l]

/-- With the last good leg gone and one without voltage the module lives from its store. -/
theorem legLeaves_last {l : Leg} {v : Nat} {s : State} (hg : s.pwr.good = true) (hl : s.pwr.leg l = 1) (ho : s.pwr.leg (otherLeg l) ≠ 1)
    (hv : v ≠ 1) (h0 : v = 0 ∨ s.pwr.leg (otherLeg l) = 0) (mv : Nat) :
    legLeaves l v mv s = fault 0x08F1 .l2 (((noteLeg l v mv s).setPwr { s.pwr.setLeg l v with holdup := true, storeFull := false }).rsb
      .pwrEvt 1 true) := by
  simp [legLeaves, noteLeg, State.when, hg, hl, ho, hv, h0, PwrSt.lost_eq _ l]

theorem legLeaves_leg (l : Leg) (v mv : Nat) (s : State) : (legLeaves l v mv s).pwr.leg l = v := by
  have hkept {code : Nat} (hc : code / 256 < 14) (base : Level) (z : State) : (fault code base z).pwr.leg l = z.pwr.leg l :=
    fault_pwr (PwrSt.leg · l) (fun p => by cases l <;> rfl) hc base z
  have hup (p : PwrSt) (h f : Bool) : ({ p with holdup := h, storeFull := f } : PwrSt).leg l = p.leg l := by cases l <;> rfl
  have hnote := PwrSt.setLeg_same s.pwr l v
  have halone (z : State) (b c : Bool) : ((z.when b fun s => replaceCause 0 (fault 0x08F0 .l1 (s.rsb .pwrEvt 0 true))).when c
      fun s => fault 0x08F3 .l1 (s.rsb .pwrEvt 3 true)).pwr.leg l = z.pwr.leg l := by
    refine (State.when_keeps (fun s : State => s.pwr.leg l) (fun z => ?_) _ _).trans
      (State.when_keeps (fun s : State => s.pwr.leg l) (fun z => ?_) _ _)
    · exact hkept (by decide) ..
    · rw [replaceCause_pwr]
      exact hkept (by decide) ..
  unfold legLeaves
  dsimp only
  split
  · exact hnote
  · split
    · rw [hkept (by decide)]
      exact (hup ..).trans ((halone ..).trans hnote)
    · exact (halone ..).trans hnote

/-! ### Temperatures (R472) -/

/-- The junction has been below 105 °C for a minute with this sample. -/
def PwrSt.junctionBack (p : PwrSt) (junc : Int) (now : Nat) : Bool :=
  heldMinute (since (decide (junc < 1050)) p.juncOkSince now) now

/-- The inlet has been within its range for a minute with this sample. -/
def PwrSt.inletBack (p : PwrSt) (inlet : Int) (now : Nat) : Bool :=
  heldMinute (since (decide (-250 ≤ inlet) && decide (inlet ≤ 550)) p.inletOkSince now) now

/-- The faults that a sample raises: the junction at 110 °C, at 125 °C, and the inlet outside its range. -/
def PwrSt.newHigh (p : PwrSt) (junc : Int) (now : Nat) : Bool := decide (1100 ≤ junc) && !(p.juncHigh && !p.junctionBack junc now)
def PwrSt.newTrip (p : PwrSt) (junc : Int) (now : Nat) : Bool := decide (1250 ≤ junc) && !(p.juncTrip && !p.junctionBack junc now)
def PwrSt.newInlet (p : PwrSt) (inlet : Int) (now : Nat) : Bool :=
  !(decide (-250 ≤ inlet) && decide (inlet ≤ 550)) && !(p.inletBad && !p.inletBack inlet now)

/-- The power state with a sample. -/
def PwrSt.sampled (p : PwrSt) (inlet junc : Int) (now : Nat) : PwrSt :=
  { p with inlet := inlet, junc := junc
           inletBad := (p.inletBad && !p.inletBack inlet now) || p.newInlet inlet now
           inletOkSince := since (decide (-250 ≤ inlet) && decide (inlet ≤ 550)) p.inletOkSince now
           juncHigh := (p.juncHigh && !p.junctionBack junc now) || p.newHigh junc now
           juncTrip := (p.juncTrip && !p.junctionBack junc now) || p.newTrip junc now
           juncOkSince := since (decide (junc < 1050)) p.juncOkSince now }

/-- The faults of a sample are raised. -/
def reportTemps (high trip inlet : Bool) (s : State) : State :=
  ((s.when high fun s => fault 0x09F1 .l2 (s.rsb .pwrEvt 6 true)).when trip fun s => fault 0x09F2 .l3 (s.rsb .pwrEvt 6 true)).when
    inlet fun s => fault 0x09F3 .l1 (s.rsb .pwrEvt 7 true)

/-- A sample's faults leave what the sample stored. -/
theorem reportTemps_pwr {β : Type} (q : PwrSt → β) (hq : ∀ p : PwrSt, q { p with burstStart := none, burstEnd := none } = q p)
    (high trip inlet s) : q (reportTemps high trip inlet s).pwr = q s.pwr := by
  refine (State.when_keeps (fun s => q s.pwr) (fun _ => ?_) _ _).trans <| (State.when_keeps (fun s => q s.pwr) (fun _ => ?_) _ _).trans
    (State.when_keeps (fun s => q s.pwr) (fun _ => ?_) _ _)
  all_goals exact fault_pwr q hq (by decide) ..

/-- A sample's fault is logged, whichever it is. -/
theorem reportTemps_logged {high trip inlet : Bool} (h : (high || trip || inlet) = true) (s : State) :
    s.flt.logged < (reportTemps high trip inlet s).flt.logged := by
  have hmore (code : Nat) (base : Level) (k : Nat) (z : State) : z.flt.logged < (fault code base (z.rsb .pwrEvt k true)).flt.logged :=
    fault_logged code base (z.rsb .pwrEvt k true)
  have hwhen (code : Nat) (base : Level) (k : Nat) (z : State) (b : Bool) :=
    z.when_logged b fun z => (hmore code base k z).le
  simp only [Bool.or_eq_true] at h
  rcases h with (rfl | rfl) | rfl
  · exact (hmore 0x09F1 .l2 6 s).trans_le ((hwhen 0x09F2 .l3 6 _ trip).trans (hwhen 0x09F3 .l1 7 _ inlet))
  · exact (hwhen 0x09F1 .l2 6 s high).trans_lt ((hmore 0x09F2 .l3 6 _).trans_le (hwhen 0x09F3 .l1 7 _ inlet))
  · exact ((hwhen 0x09F1 .l2 6 s high).trans (hwhen 0x09F2 .l3 6 _ trip)).trans_lt (hmore 0x09F3 .l1 7 _)

theorem exec_tempSample {t : Nat} {inlet junc : Int} {s : State} (hm : s.mode ≠ .off) :
    ∃ z, exec (.tempSample t inlet junc) s = .next (reportTemps (s.pwr.newHigh junc (max s.now t)) (s.pwr.newTrip junc (max s.now t))
      (s.pwr.newInlet inlet (max s.now t)) z) ∧ z.pwr = s.pwr.sampled inlet junc (max s.now t) ∧ z.flt = s.flt :=
  ⟨_, congrArg Host.Outcome.next (if_neg hm), rfl, rfl⟩

theorem PwrSt.junctionBack_hot {p : PwrSt} {junc : Int} (h : 1050 ≤ junc) (now : Nat) : p.junctionBack junc now = false := by
  rw [PwrSt.junctionBack, since, decide_eq_false (not_lt.mpr h)]
  rfl

theorem PwrSt.junctionBack_minute {p : PwrSt} {junc : Int} (h : junc < 1050) {a now : Nat} (ha : p.juncOkSince = some a)
    (hdue : a + 24000000000 ≤ now) : p.junctionBack junc now = true := by
  rw [PwrSt.junctionBack, since, decide_eq_true h, ha]
  exact decide_eq_true hdue

theorem inletRange_outside {inlet : Int} (h : inlet < -250 ∨ 550 < inlet) : (decide (-250 ≤ inlet) && decide (inlet ≤ 550)) = false := by
  rw [Bool.and_eq_false_iff, decide_eq_false_iff_not, decide_eq_false_iff_not]
  omega

theorem PwrSt.inletBack_outside {p : PwrSt} {inlet : Int} (h : inlet < -250 ∨ 550 < inlet) (now : Nat) :
    p.inletBack inlet now = false := by
  rw [PwrSt.inletBack, since, inletRange_outside h]
  rfl

theorem PwrSt.sampled_juncHigh (p : PwrSt) (inlet : Int) {junc : Int} (h : 1100 ≤ junc) (now : Nat) :
    (p.sampled inlet junc now).juncHigh = true := by
  rw [PwrSt.sampled, PwrSt.newHigh, decide_eq_true h, Bool.true_and, Bool.or_not_self]

theorem PwrSt.sampled_juncTrip (p : PwrSt) (inlet : Int) {junc : Int} (h : 1250 ≤ junc) (now : Nat) :
    (p.sampled inlet junc now).juncTrip = true := by
  rw [PwrSt.sampled, PwrSt.newTrip, decide_eq_true h, Bool.true_and, Bool.or_not_self]

theorem PwrSt.sampled_inletBad (p : PwrSt) {inlet : Int} (h : inlet < -250 ∨ 550 < inlet) (junc : Int) (now : Nat) :
    (p.sampled inlet junc now).inletBad = true := by
  rw [PwrSt.sampled, PwrSt.newInlet, inletRange_outside h, Bool.not_false, Bool.true_and, Bool.or_not_self]

/-- What has gone back for a minute is set neither by what was nor by a junction below its limits. -/
theorem PwrSt.sampled_back {p : PwrSt} (inlet : Int) {junc : Int} (h : junc < 1050) {now : Nat} (hb : p.junctionBack junc now = true) :
    (p.sampled inlet junc now).juncHigh = false ∧ (p.sampled inlet junc now).juncTrip = false := by
  have hcool : ¬ 1100 ≤ junc ∧ ¬ 1250 ≤ junc := by omega
  simp [PwrSt.sampled, PwrSt.newHigh, PwrSt.newTrip, hb, hcool]

/-! ### Rows -/

theorem exec_legLost {t : Nat} {leg : Leg} {s : State} (hl : s.pwr.leg leg = 1) (mv : Nat) :
    exec (.legLost t leg mv) s = .next (legLeaves leg 0 mv (s.begin t)) :=
  congrArg Host.Outcome.next (if_neg (by simp [hl]))

theorem exec_legOv {t : Nat} {leg : Leg} {s : State} (hl : s.pwr.leg leg = 1) (mv : Nat) :
    exec (.legOv t leg mv) s = .next (legLeaves leg 2 mv (s.begin t)) :=
  congrArg Host.Outcome.next (if_neg (by simp [hl]))

/-- The hold-up stands in the power state and in PWR_EVT after its fault. -/
theorem legLeaves_last_holds {l : Leg} {v : Nat} {s : State} (hg : s.pwr.good = true) (hl : s.pwr.leg l = 1)
    (ho : s.pwr.leg (otherLeg l) ≠ 1) (hv : v ≠ 1) (h0 : v = 0 ∨ s.pwr.leg (otherLeg l) = 0) (mv : Nat) :
    (legLeaves l v mv s).pwr.holdup = true ∧ (legLeaves l v mv s).rb .pwrEvt 1 = true := by
  rw [legLeaves_last hg hl ho hv h0]
  refine ⟨?_, ?_⟩
  · rw [fault_pwr PwrSt.holdup (fun _ => rfl) (by decide)]
    rfl
  · rw [fault_pwrEvt (by decide)]
    exact State.rb_rsb_same _ .pwrEvt (by decide) true 0 0

theorem exec_powerGoodLost {t : Nat} {s : State} (ha : s.pwr.legA ≠ 1) (hb : s.pwr.legB ≠ 1) (hg : s.pwr.good = true) :
    exec (.powerGoodLost t) s = .next (resetModule ((s.begin t).setPwr { s.pwr with good := false, holdup := false, storeFull := false })) :=
  congrArg Host.Outcome.next (if_pos ⟨ha, hb, hg⟩)

/-- Settles O41, row by row: what a row writes itself, and what its fault then leaves of it. -/
theorem powerAndThermalRowsTakeEffect : Obligations.PowerAndThermalRowsTakeEffect := by
  unfold Obligations.PowerAndThermalRowsTakeEffect
  refine ⟨⟨?_, ?_, ?_, ?_, ?_, ?_⟩, ?_, ?_, ?_⟩
  · intro t leg mv s
    refine ⟨_, rfl, rfl, rfl, ?_, ?_, rfl⟩ <;> cases leg <;> rfl
  · intro t leg mv s hl
    refine ⟨_, exec_legLost hl mv, legLeaves_leg ..,
      fun hg ho => legLeaves_last_holds (s := s.begin t) hg hl ho (by decide) (.inl rfl) mv, fun hg ho => ?_⟩
    rw [legLeaves_lost (s := s.begin t) hg hl ho]
    refine ⟨replaceCause_sets (by decide) _, ?_⟩
    rw [replaceCause_pwr, fault_pwr PwrSt.holdup (fun _ => rfl) (by decide)]
    exact PwrSt.setLeg_holdup ..
  · intro t leg mv s hl
    refine ⟨_, exec_legOv hl mv, legLeaves_leg .., fun hg ho => ?_,
      fun hg ho => legLeaves_last_holds (s := s.begin t) hg hl (by simp [ho]) (by decide) (.inr ho) mv⟩
    rw [legLeaves_over (s := s.begin t) hg hl ho]
    refine ⟨?_, ?_⟩
    · rw [fault_pwrEvt (by decide)]
      exact State.rb_rsb_same _ .pwrEvt (by decide) true 0 0
    · rw [fault_pwr PwrSt.holdup (fun _ => rfl) (by decide)]
      exact PwrSt.setLeg_holdup ..
  · exact fun t s hh hm => congrArg Host.Outcome.next (if_pos ⟨hh, hm⟩)
  · intro t s ha hb hg
    exact ⟨_, exec_powerGoodLost ha hb hg, rfl, rfl, rfl, rfl, rfl, rfl, rfl, fun k => ⟨rfl, rfl⟩⟩
  · exact fun t s h => congrArg Host.Outcome.next (if_pos h)
  · intro t inlet junc s hm
    obtain ⟨z, hexec, hpwr, hflt⟩ := exec_tempSample (t := t) (inlet := inlet) (junc := junc) hm
    have hstored {β : Type} (q : PwrSt → β) (hq : ∀ p : PwrSt, q { p with burstStart := none, burstEnd := none } = q p) (a b c : Bool) :
        q (reportTemps a b c z).pwr = q (s.pwr.sampled inlet junc (max s.now t)) := by
      rw [reportTemps_pwr q hq, hpwr]
    have hlogged {a b c : Bool} (h : (a || b || c) = true) : (reportTemps a b c z).flt.logged ≠ s.flt.logged :=
      Nat.ne_of_gt (hflt ▸ reportTemps_logged h z)
    refine ⟨_, hexec, ?_, ?_, fun hj => ?_, fun hj => ?_, fun hi => ?_, fun hj hp => ?_, fun hj hp => ?_, fun hi hp => ?_,
      fun hj hi hh ht hb => ?_, fun a hj ha hdue => ?_⟩
    · rw [hstored PwrSt.inlet fun _ => rfl]
      rfl
    · rw [hstored PwrSt.junc fun _ => rfl]
      rfl
    · exact (hstored PwrSt.juncHigh (fun _ => rfl) ..).trans (PwrSt.sampled_juncHigh _ _ hj _)
    · exact (hstored PwrSt.juncTrip (fun _ => rfl) ..).trans (PwrSt.sampled_juncTrip _ _ hj _)
    · exact (hstored PwrSt.inletBad (fun _ => rfl) ..).trans (PwrSt.sampled_inletBad _ hi _ _)
    · exact hlogged (by simp [PwrSt.newHigh, hj, hp])
    · exact hlogged (by simp [PwrSt.newTrip, hj, hp])
    · exact hlogged (by simp [PwrSt.newInlet, inletRange_outside hi, hp])
    · have hback := PwrSt.junctionBack_hot (p := s.pwr) hj (max s.now t)
      have hback' := PwrSt.inletBack_outside (p := s.pwr) hi (max s.now t)
      have hnone : s.pwr.newHigh junc (max s.now t) = false ∧ s.pwr.newTrip junc (max s.now t) = false
          ∧ s.pwr.newInlet inlet (max s.now t) = false := by
        simp [PwrSt.newHigh, PwrSt.newTrip, PwrSt.newInlet, hback, hback', hh, ht, hb]
      rw [hnone.1, hnone.2.1, hnone.2.2]
      exact congrArg FltSt.logged hflt
    · rw [hstored PwrSt.juncHigh fun _ => rfl, hstored PwrSt.juncTrip fun _ => rfl]
      exact PwrSt.sampled_back inlet hj (PwrSt.junctionBack_minute hj ha hdue)
  · intro t s e he hdue
    simp only [exec, execBurstAvail, State.begin_pwr, he]
    exact congrArg Host.Outcome.next (if_pos hdue)
  · intro t s a ha hon hgrid hend
    simp only [exec, execBurstForcedExit, State.begin_pwr, ha]
    exact congrArg Host.Outcome.next (if_pos ⟨hon, hgrid, hend⟩)

end Sys2Proof.Machine
end
